-- ==== Sys2Proof/Word.lean ====
section
/-! DEFINITION. The machine's word and byte types and their plainest arithmetic. -/

namespace Sys2Proof

/-- A register word: every register is 32 bits wide (R8). -/
abbrev Word := BitVec 32

/-- One byte of memory. -/
abbrev Byte := BitVec 8

end Sys2Proof
end

