-- ==== Sys2Proof/Machine/Types.lean ====
section
/-! DEFINITION. Small data types of the state: access paths, outputs of the block, pending commits, actions, event records,
timestamp and capture entries, frames of the chain and the pair link. -/

namespace Sys2Proof.Machine

/-- The access paths into the register space, with the codes of CMT_LWE_ADDR.PATH (Table 12.8). -/
inductive Path where
  | host | hatch | core | frame
deriving DecidableEq, Repr

/-- The ECC outcome of a memory read (R300): corrected, or uncorrectable on the link, in the die, or in both. -/
inductive Ecc where
  | ok | corrected | link | die | both
deriving DecidableEq, Repr

/-- Is the data uncorrectable? -/
def Ecc.bad : Ecc → Bool
  | .link | .die | .both => true
  | _ => false

/-- A PCI Express configuration request the device serves (R305, R308, R321): a read of a configuration register, Bus Master
Enable, the BAR2 size as resized, the MSI-X enable and function mask, and the power state. -/
inductive CfgOp where
  | read (offset : BitVec 12)
  | busMaster (on : Bool)
  | bar2Size (log2gb : Fin 8)
  | msix (enable mask : Bool)
  | power (d3hot : Bool)
deriving DecidableEq, Repr

/-- Statistics of one lane in a window of offset calibration (Table 08.6): data ones, runs and runs of length 1, the longest run,
transitions, edge ones, and whether the comparison of the search step keeps its trial trim. -/
structure LaneStat where
  port : Fin 9
  lane : Fin 4
  ones : Nat
  runs : Nat
  runs1 : Nat
  longest : Nat
  trans : Nat
  edge : Nat
  keep : Bool
deriving DecidableEq, Repr

/-- What the block puts out at its pins and interfaces, newest last in the state's trace. -/
inductive Out where
  /-- A register read answered to its requester. -/
  | readData (path : Path) (addr : Nat) (value : Word)
  /-- An MSI-X message: vector, address and data of its table entry (R321). -/
  | msix (vec : Nat) (addr : Nat) (data : Word)
  /-- Bytes written to host or peer memory. -/
  | hostWrite (addr : Nat) (bytes : List Byte)
  /-- A read request to host or peer memory. -/
  | hostRead (addr : Nat) (len : Nat) (noSnoop relaxed : Bool)
  /-- A completion of a PCI Express request: status 0 successful, 1 Unsupported Request, 2 Configuration Request Retry. -/
  | completion (status : Nat) (bytes : List Byte)
  /-- A port block of 2,024 bytes handed to the lanes of a chain port (0 to 7) or the pair link (8). -/
  | block (port : Nat) (bytes : List Byte)
  /-- The line bits of one lane block, first sent bit lowest. -/
  | laneBits (port lane : Nat) (bits : BitVec 4096)
  /-- A transmitter's electrical idle state changes. -/
  | txIdle (port : Nat) (idle : Bool)
  /-- An Ethernet frame without its FCS, and the FCS. -/
  | eth (bytes : List Byte) (fcs : Word)
  /-- A timed output changes level (R261, R228). -/
  | timedOut (t : Nat) (level : Bool)
  /-- A symbol on the sync pair of the drive port: 1 SWAP, 2 ROW; or the pair held low (0). -/
  | sync (symbol : Nat)
  /-- A packet sent on a Hualer bus. -/
  | hualer (bus : Nat) (bytes : List Byte)
  /-- The drive pins of the buses are driven low (true) or released (false). -/
  | drivePinsLow (low : Bool)
  /-- An AVSBus transaction with its rail select: a target voltage written in mV, a voltage read, or a status read (R73). -/
  | avsWrite (rail mv : Nat)
  | avsRead (rail : Nat)
  | avsStatus (rail : Nat)
  /-- An I3C transfer: bus, dynamic address, bytes sent; a refused request is a NACK. -/
  | i3c (bus addr : Nat) (bytes : List Byte)
  /-- A private read on an I3C bus: the bytes asked for. -/
  | i3cRead (bus addr len : Nat)
  | i3cNack (bus : Nat)
  /-- A read command to flash over xSPI: address and length. -/
  | flashRead (addr len : Nat)
  /-- Bytes sent on the Hatch UART, after escaping and framing. -/
  | uart (bytes : List Byte)
  /-- The PWR_EN pin. -/
  | pwrEn (level : Bool)
  /-- The wake tone of a port starts or stops. -/
  | tone (port : Nat) (on : Bool)
  /-- A request to the memory: the refresh of a bank, the opening or closing of a row, a mode register read. -/
  | dram (chan : Nat) (op : Nat) (bank row : Nat)
deriving DecidableEq, Repr

/-- The placement cache of R83: the copied placement table and, for each entry that names one, its mesh. -/
structure PlcCache where
  table : List Byte := []
  meshes : List (Nat × List Byte) := []
deriving DecidableEq, Repr

/-- A commit that is being checked or is pending (R270, R271, R277). -/
structure Commit where
  /-- Generation on application. -/
  gen : Word
  /-- Full frame number and slot of its shutter point D. -/
  n : Nat
  slot : Nat
  /-- D as a wall-time count in units of 2^-31 ns, rounded up. -/
  due : Nat
  tag : Nat
  heavy : Bool
  sent : Bool
  catchup : Bool
  /-- The request was moved one frame (R270). -/
  late : Bool := false
  /-- The snapshot of the stage view (R269). -/
  snap : List (Nat × Word)
  cache : PlcCache
deriving DecidableEq, Repr

/-- An action of the hold or blank group (R229, R231), or a reel action (R319), with its effective boundary. -/
structure Action where
  kind : Nat
  rampM1 : Nat
  aseq : Nat
  n : Nat
  slot : Nat
  late : Bool
  /-- For a reel action: the player and the seek target. -/
  player : Nat := 0
  seek : Nat := 0
deriving DecidableEq, Repr

/-- An event record held for the chain (R205): event, seconds and nanoseconds. -/
structure EvRec where
  ev : Nat
  sec : Nat
  ns : Nat
deriving DecidableEq, Repr

/-- A timestamp queue entry (R253). -/
structure TsEntry where
  sec : Nat
  ns : Nat
  frac : Nat
  seq : Nat
  mtype : Nat
  tx : Bool
  dom : Nat
  domNum : Nat
deriving DecidableEq, Repr

/-- A capture FIFO entry (R262). -/
structure CapEntry where
  sec : Nat
  ns : Nat
  rise : Bool
deriving DecidableEq, Repr

/-- A change of the record that waits for its copy to be written (R413): kind 0 option words, 1 a whole record image, 2 an accepted
calibration, 3 the repair of R417. -/
structure RecJob where
  kind : Nat
  /-- The calibration kind of Table 19.4, and its time: seconds and nanoseconds, none where wall time is not set. -/
  cal : Nat := 0
  time : Option (Nat × Nat) := none
  /-- Bytes that replace those of the record in use, by offset. -/
  edits : List (Nat × List Byte) := []
  /-- The image of OP 2. -/
  image : List Byte := []
deriving DecidableEq, Repr

/-- A 24-bit word as a link, a latch or a local SRAM carries it: its data and its residue code (R57). -/
structure FWord where
  data : BitVec 24 := 0
  code : BitVec 2 := 0
deriving DecidableEq, Repr

/-- Where a cell primitive takes an operand (R53): a component of the token, a constant of the program, or a local SRAM word read as
its low 24 bits (`part` 0), its low half (1) or its high half (2), the halves extended with their sign or with zeros; `ecc` is 1 for a
single-bit and 2 for a double-bit error found as the word is read (R47). -/
inductive CellArg where
  | comp (i : Fin 3)
  | const (v : BitVec 24)
  | lds (addr : BitVec 12) (part : Fin 3) (signed : Bool) (ecc : Fin 3)
deriving DecidableEq, Repr

/-- The primitives of Table 03.3.  MUL and MAC leave their result in the accumulator, the others in a component of the token; RSH
takes the accumulator where it names no operand. -/
inductive CellPrim where
  | mul (a b : CellArg)
  | mac (a b : CellArg)
  | add (dst : Fin 3) (a b : CellArg)
  | sub (dst : Fin 3) (a b : CellArg)
  | rsh (dst : Fin 3) (x : Option CellArg) (s : Fin 48)
  | sat (dst : Fin 3) (x : CellArg) (lo hi : BitVec 24)
  | load (dst : Fin 3) (x : CellArg)
  | lerp (dst : Fin 3) (y0 y1 f : CellArg)
deriving DecidableEq, Repr

/-- One primitive of a cell's program as it runs on a token, with the bits that upsets invert: in its operands, in the accumulator
it reads, and in its result (none where all is well). -/
structure CellOp where
  prim : CellPrim
  flips : List (BitVec 24) := []
  flipAcc : BitVec 48 := 0
  flipOut : BitVec 48 := 0
deriving DecidableEq, Repr

/-- A token in a cell's latch (R46, R48): its three components, the tag of its run, its error bit, and whether it is a bubble. -/
structure Tok where
  comps : List FWord := []
  run : Nat := 0
  err : Bool := false
  bubble : Bool := false
deriving DecidableEq, Repr

/-- A run of tokens (R59): the frame and slot it works for, its segment (Sender) by placement entry, its index in the segment or
slot, its first pixel and its pixel count. -/
structure Run where
  n : Nat
  slot : Nat
  entry : Nat := 0
  idx : Nat
  first : Nat
  count : Nat
deriving DecidableEq, Repr

/-- A request to the frame memory as a client makes it (R291, R293): a granule's address, what a write stores, and the real-time
client of Table 13.3 that makes it (none: bulk). -/
structure DramReq where
  addr : BitVec 40
  data : Option (BitVec 512)
  client : Option (Fin 3)
deriving DecidableEq, Repr

/-- A mailbox message waiting for a core: its path and its words (R355, R356). -/
structure Msg where
  path : Nat
  words : List Word
  /-- For a message on the chain or the pair link: the TAG it came with; for a window, the window. -/
  ref : Nat
deriving DecidableEq, Repr

end Sys2Proof.Machine
end

