-- ==== Sys2Proof/Syntax.lean ====
section
/-! DEFINITION. The commands of the block: one constructor for each row of spec/opcode_table.json, with the operands the outside
supplies.

Operands of one kind bear one name: `path` is the access path of a register access, `value` the word written to the row's register;
`port` is a lane port (8 the pair link, 9 the Ethernet port); `addrM1` a chain address less 1; `pulse` says that an MRAM write pulse is
in progress (R379); `ok`, `fail`, `found`, `answered` and `err` tell how an operation outside the block ended; `tag`, `tspec` and
`payload` are fields of a frame (Table 09.1); `srcErrs` counts source pixels read with an uncorrectable error and `annBad` names the
annotated pixels of which one was (R300); `widths`, `stats`, `skew` and `recentre` come from the lanes; `ops` is what
a cell's program does. -/

namespace Sys2Proof

open Machine (Path Ecc CfgOp LaneStat CellPrim)

/-- The commands (spec/opcode_table.json). -/
inductive Instr where
  | registerWrite (path : Path) (addr : BitVec 24) (wide : Bool) (value : BitVec 64)
  | absentBlockAccess (path : Path) (addr : BitVec 24) (wide : Bool) (write : Option (BitVec 64))
  | misalignedAccess (path : Path) (addr : BitVec 24) (write : Bool)
  | rcRead (path : Path) (addr : BitVec 24) (wide : Bool)
  | counterLowRead (path : Path) (addr : BitVec 24) (wide : Bool)
  | timNowRead (path : Path) (wide : Bool)
  | msixHoldoffEnd (vector : Fin 64)
  | powerOn
  | railFail (aon pulse : Bool)
  | brownout (pulse : Bool)
  | rstNAssert (ns : Nat) (pulse : Bool)
  | perstAssert (ns : Nat) (pulse : Bool)
  | resetRequest (source : Fin 10) (coreLevel : Bool) (cores : BitVec 4) (noKeep pulse : Bool)
  | resetRelease
  | coreResetCmd (cores : BitVec 4) (pulse : Bool)
  | systemResetCmd (noKeep pulse : Bool)
  | recordLoadDone
  | coreBootDone
  | channelTrainingDone (chan : Fin 4) (ranks2 : Bool) (rowb : Fin 4) (fail : BitVec 8) (pulse : Bool)
  | imgCheck (slot : Fin 2)
  | frameBoundary
  | slotBoundary
  | shutterPoint
  | heavyCommitPrepare
  | regionReady (use : BitVec 8)
  | cellToken (cell : Fin 1024) (prims : List CellPrim) (upsetsIn : List (List (BitVec 24) × BitVec 48))
    (upsetsOut : List (BitVec 48))
  | runComplete (path : Fin 16) (srcErrs : Nat) (annBad : List Nat)
  | recomputeComplete (path : Fin 16) (srcErrs : Nat) (annBad : List Nat)
  | sramReload (cell : Fin 1024)
  | fabricDeadline (slot : Fin 8)
  | residueSecondEnd
  | ringGateEnd (track : Fin 16) (count : BitVec 16)
  | ageDayEnd
  | ageHourlySave
  | plannerFrameEnd (busy rate : Nat)
  | plannerWindowEnd
  | avsReadback (ok : Bool) (mv status : Nat)
  | avsRetry (ok : Bool) (mv status : Nat)
  | planHoldSet
  | planHoldClear
  | cprRead (path : Path) (value : Word)
  | cprReadDone
  | segmentStart (port : Fin 8)
  | fifoUnderrun (port : Fin 8)
  | transmitDeadline (slot : Fin 8)
  | receiveDeadline (slot : Fin 8)
  | driveWriteStart
  | tableBlockRead (bytes : List Byte)
  | tableLoadTimeout
  | tableLoadComplete
  | sweepStart
  | sweepEnd
  | checkpointStart
  | checkpointChunkDone
  | checkpointSkip
  | tblRead (path : Path) (value : Word)
  | tblReadDone
  | doseLampRead (path : Path) (value : Word)
  | doseLampReadDone
  | rowPeriod
  | packetReturn (bus : Fin 64) (bytes : List Byte)
  | returnMissing (bus : Fin 64)
  | busEnumeration (bus : Fin 64) (found : Option (Fin 64)) (rtph : BitVec 6)
  | assignRetry (bus : Fin 64)
  | hardBlank
  | blankRelease
  | diagNow
  | i3cEntdaa (bus : Fin 2) (pids : List (BitVec 48))
  | sensorRetry (group : Fin 4) (answered : Bool)
  | luxWindowStart
  | luxSample (group : Fin 4) (r g b : BitVec 24)
  | luxSensorReadFail (group : Fin 4)
  | luxWindowEnd
  | luxCal (path : Path) (value : Word)
  | luxCalEnd
  | laneBlockTx (port : Fin 9) (lane : Fin 4)
  | laneBlockRx (port : Fin 9) (lane : Fin 4) (bits : BitVec 4096) (skew : Nat) (recentre : Bool)
  | clockPresent (port : Fin 9) (prov : Bool)
  | clockLost (port : Fin 9)
  | eqTrainDone (port : Fin 9) (widths : List (List Nat))
  | eqAdapt (port : Fin 9) (lane : Fin 4) (now below above : BitVec 8)
  | pllLock
  | pllRevert
  | noClockTimeout
  | offsetCalStart (path : Path) (value : Word)
  | offsetCalWindowEnd (stats : List LaneStat)
  | loopEnter (port : Fin 9) (modeM1 : Fin 3)
  | loopExit (port : Fin 9)
  | testPatternSet (port : Fin 9)
  | eidleSet (port : Fin 9)
  | txonSet (port : Fin 9)
  | provSet (port : Fin 9) (on : Bool)
  | chainResetEnter (pulse : Bool)
  | replySubstitute (port : Fin 9)
  | pollTimeout (port : Fin 8)
  | seqResend (port : Fin 8) (addrM1 : Fin 96)
  | enumTimeout (port : Fin 8)
  | enumCmd (path : Path) (value : Word)
  | admitCmd (port : Fin 8) (addrM1 : Fin 96)
  | quarantineCmd (port : Fin 8) (addrM1 : Fin 96)
  | recheckCmd (port : Fin 8) (addrM1 : Fin 96)
  | catchupCmd (port : Fin 8) (addrM1 : Fin 96)
  | commitSecondCopy
  | pollHandover
  | holdReq
  | releaseReq
  | blankReq (rampM1 : Fin 16)
  | unblankReq (rampM1 : Fin 16)
  | actionSecondCopy
  | triggerEdge (output : Fin 8)
  | syncSend
  | announceSend
  | delayReqSend (port : Fin 9)
  | announceRx (port : Fin 10) (msg : List Byte)
  | ptpEthRx (frame : List Byte)
  | domainHoldover (dom : Fin 2)
  | holdmaxExpiry
  | timeSet
  | stepAccept
  | ethFrameRx (bytes : List Byte) (good : Bool)
  | ethTx
  | srefEdge (lowNs : Nat)
  | srefLost
  | outputEdge (output : Fin 8)
  | captureEdge (input : Fin 4) (rise : Bool)
  | capturePop (input : Fin 4)
  | commitRequest (path : Path) (value : Word)
  | commitCheckDone (eccBad : Bool)
  | tileCommitCheckDone
  | peek (path : Path) (value : Word)
  | peekDone
  | dumpStart
  | dumpAbort
  | dumpComplete (done : Nat) (err : Bool)
  | dportRead (path : Path)
  | refreshInterval (chan : Fin 4) (rank : Fin 2) (bank : Fin 16) (paid : Nat)
  | refreshRatePoll (chan : Fin 4) (code : Fin 32)
  | dramAccessDone (chan : Fin 4) (ns : Nat) (addrs : List (BitVec 40)) (data : List (Option (BitVec 512)))
    (clients : List (Option (Fin 3))) (ecc : Ecc)
  | rowIdleClose (chan : Fin 4) (rank : Fin 2) (bank : Fin 16)
  | scrubRead (ecc : Ecc) (overwritten : Bool)
  | rtFifoStarve (client : Fin 3)
  | linkTrained (speed : Fin 8) (width : Fin 32)
  | linkDown
  | functionLevelReset
  | bar2Access (offset : BitVec 40) (write : Option (List (Option Byte))) (len : Fin 4097) (poisoned : Bool)
  | ringRun (ring : Fin 9)
  | ringStop (ring : Fin 9)
  | descriptorFetch (ring : Fin 9) (bytes : List Byte)
  | bufferComplete (ring : Fin 9) (data : List Byte)
  | ringHalt (ring : Fin 9) (code : Fin 8) (onDesc : Bool)
  | peerDoorbell (source : Fin 8) (index : Fin 8)
  | pagingCopy (data : List Byte)
  | pagingMap
  | reelFetchDone (player : Fin 8) (data : List Byte) (failed : Option Nat)
  | reelPlay (player : Fin 8)
  | reelPause (player : Fin 8)
  | reelSeek (player : Fin 8)
  | heartbeatSend
  | heartbeatRx (payload : List Byte)
  | partnerLost
  | autopromote
  | bootwaitExpiry
  | mirrorRx (tag : BitVec 12) (payload : List Byte)
  | pairCommitRx (tag : BitVec 12) (tspec payload : List Byte)
  | snapdataRx (tag : BitVec 12) (tspec payload : List Byte)
  | pairActionRx (tag : BitVec 12) (payload : List Byte)
  | handoverRx (tag : BitVec 12) (tspec payload : List Byte)
  | pollstateRx (tag : BitVec 12) (tspec payload : List Byte)
  | relayRx (port : Fin 8) (dir : Fin 2)
  | stateRx (tag : BitVec 12) (tspec payload : List Byte)
  | resetreqRx (pulse : Bool)
  | pairResend
  | resyncTimeout
  | parTake
  | parResetPartner
  | parRestartResync
  | gooseEval (plls : Bool)
  | watchdogExpiry (core : Fin 4) (pulse : Bool)
  | mailboxSend (window : Fin 2) (core : Fin 4)
  | mailboxRack (window : Fin 2)
  | infoPing (core : Fin 4)
  | infoVersion (core : Fin 4)
  | updateOpen
  | updateWrite
  | updateVerify
  | updateActivate
  | activationComplete (pulse : Bool)
  | updateConfirm
  | updateAbort
  | updateStatus
  | updateClose
  | sessionTimeout
  | autoconfirm (core : Fin 4)
  | hatchRead (addr : Word)
  | hatchWrite (addr value : Word)
  | hatchMailbox (core : Fin 4) (words : List Word)
  | chainResetCmd (path : Path) (value : Word)
  | chainResetEnum
  | dozeReq
  | standbyReq
  | powerCancel
  | dozeRelayEnd
  | wake (source : Fin 4)
  | wakeFail
  | toneGo (path : Path) (value : Word)
  | toneEnd
  | sensorConversion (sensor : Fin 12) (raw : Option Int)
  | boardSensorRead (sensor : Fin 16) (bytes : Option (BitVec 16))
  | zoneSample (pulse : Bool)
  | stage2Start
  | bubbleStep
  | slotCapStep
  | scapWrite (path : Path) (value : Word)
  | shutdownRelease
  | maskSet (path : Path) (value : Word)
  | optionWrite (key : BitVec 16)
  | recordImageWrite (key : BitVec 16)
  | recordCopyDone (ok : Bool)
  | winDataWrite (path : Path) (value : Word)
  | rdDataRead (path : Path)
  | calmark
  | mramPulseEnd
  | ethernetLinkChange (up : Bool)
  | ethDelayReqSend
  | stepNoticeSecondCopy
  | electricalIdleEnd (port : Fin 9)
  | pairSnapshotDone
  | configurationRequest (op : CfgOp)
  | msixTableAccess (offset : BitVec 12) (write : Option Word)
  | ibiHotJoinRequest (bus : Fin 2)
  | unsupportedCommand (core : Fin 4)
  | hatchBadFrame
  | wakeToneCease
  | boundaryScanInstruction (enter : Bool)
deriving DecidableEq, Repr

end Sys2Proof
end

