-- ==== Sys2Proof/Config.lean ====
section
/-! DEFINITION. What an implementation fixes and the values the spec leaves open: constants without a body. -/

namespace Sys2Proof.Config

/-- A value the spec leaves open, as a number to be cut to the width its user needs; the argument is the count of free values the
state has taken (log entry 2). -/
opaque freeNat : Nat → Nat

/-- A word of a cell's local SRAM, from the bytes of the line store it was loaded from, the cell and the word: where the cells keep what
they hold is the Zhoand tool's (R51, log entry 17). -/
opaque sramWord : List Byte → Nat → Nat → Nat

/-- The seven check bits of a local SRAM word: the code is not given (R47, log entry 17). -/
opaque secded : Nat → Nat

/-- tFAW of the LPDDR5X standard in ns, by the data rate code of Table 13.1 (R291): the standard is not part of the spec. -/
opaque tFaw : Nat → Nat

/-- A component of the token that enters a Sender path, from the frame, slot, entry and pixel it stands for and the component: what the
first cell is given is the Zhoand tool's (R51, log entry 35). -/
opaque tokenWord : Nat → Nat → Nat → Nat → Nat → Nat

/-- The servo's proportional gain for a TIM_SERVO.BW, in units of 2^-16 per second: the spec does not say which point of the loop's response
the bandwidth is (R255, log entry 7). -/
opaque servoGain : Nat → Nat

/-- The IEEE 1588 clockIdentity the device gives itself, from its unit ID: the spec does not state it (log entry 12). -/
opaque clockIdentity : Nat → Nat

/-- The ROM values of the option words: the Vendor ID and the subsystem IDs, whose numbers the spec does not give (R416). [DESIGN CHOICE, log entry 30] -/
opaque romOption : Nat → Nat

/-- The nominal ring counts of R416, by trim index 0 to 143. [DESIGN CHOICE, log entry 30] -/
opaque nominalRing : Nat → Nat

/-- ECDSA P-384 verification under ROM key KEYID (0 to 3) of a signature over a hash: the keys are not published (R358). [DESIGN CHOICE, log entry 38] -/
opaque ecdsaVerify : Nat → List Byte → List Byte → Bool

end Sys2Proof.Config
end

