-- ==== Sys2Proof/Machine/Bits.lean ====
section
/-! DEFINITION. Byte strings, the CRCs of R29 and R128, SHA-256 and SHA-384 (FIPS 180-4), and exact integer rounding. -/

namespace Sys2Proof.Machine

/-- The little-endian bytes of `v`, `k` of them. -/
def leBytes : Nat → Nat → List Byte
  | 0, _ => []
  | k + 1, v => BitVec.ofNat 8 v :: leBytes k (v / 256)

/-- The value of a little-endian byte string. -/
def leVal : List Byte → Nat
  | [] => 0
  | b :: bs => b.toNat + 256 * leVal bs

/-- The value of a big-endian byte string. -/
def beVal (bs : List Byte) : Nat := leVal bs.reverse

/-- The big-endian bytes of `v`, `k` of them. -/
def beBytes (k v : Nat) : List Byte := (leBytes k v).reverse

/-- `n` bytes of a string from offset `o`; bytes beyond its end are absent. -/
def slice (bs : List Byte) (o n : Nat) : List Byte := (bs.drop o).take n

/-- The little-endian number of `n` bytes at offset `o`. -/
def numAt (bs : List Byte) (o n : Nat) : Nat := leVal (slice bs o n)

/-- A byte string cut or padded with zeros to `n` bytes. -/
def padTo (n : Nat) (bs : List Byte) : List Byte := bs.take n ++ List.replicate (n - bs.length) 0

/-- A list with one element replaced (nothing changes past the end). -/
def setAt {α : Type} (l : List α) (i : Nat) (f : α → α) : List α := l.modify i f

/-- Element `i` of a table, a default past its end. -/
def tabAt {α : Type} {n : Nat} (v : Vector α n) (i : Nat) (d : α) : α := v.toList.getD i d

/-- A table with element `i` changed (nothing changes past the end). -/
def tabMod {α : Type} {n : Nat} (v : Vector α n) (i : Nat) (f : α → α) : Vector α n := ⟨⟨v.toList.modify i f⟩, by simp⟩

/-- A table with every element changed. -/
def tabMap {α β : Type} {n : Nat} (v : Vector α n) (f : α → β) : Vector β n := ⟨⟨v.toList.map f⟩, by simp⟩

/-- Division rounded up. -/
def cdiv (a b : Nat) : Nat := (a + b - 1) / b

/-- A number from its two's complement form of `w` bits. -/
def sgn (w v : Nat) : Int := let v := v % 2 ^ w; if v < 2 ^ (w - 1) then (v : Int) else (v : Int) - (2 ^ w : Nat)

/-- The two's complement form of `w` bits of a number. -/
def twos (w : Nat) (x : Int) : Nat := (x % (2 ^ w : Nat)).toNat

/-- `x` clamped to `lo` to `hi` (the sat of the spec's pseudocode). -/
def sat (x lo hi : Int) : Int := if x < lo then lo else if hi < x then hi else x

/-- One bit of the CRC-16 of R128: polynomial 0x1021, most significant bit first. -/
def crc16Bit (c : BitVec 16) (b : Bool) : BitVec 16 :=
  if c.msb != b then (c <<< 1) ^^^ 0x1021 else c <<< 1

/-- One byte of the CRC-16 of R128. -/
def crc16Byte (c : BitVec 16) (b : Byte) : BitVec 16 :=
  (List.range 8).foldl (fun c i => crc16Bit c (b.getLsbD (7 - i))) c

/-- The CRC-16 of R128: preset all ones, no reflection, no final complement. -/
def crc16 (bs : List Byte) : BitVec 16 := bs.foldl crc16Byte 0xFFFF

/-- One byte of the CRC-32 of R29: reflected polynomial 0x04C11DB7. -/
def crc32Byte (c : Word) (b : Byte) : Word :=
  (List.range 8).foldl (fun c _ => if c.getLsbD 0 then (c >>> 1) ^^^ 0xEDB88320 else c >>> 1) (c ^^^ b.setWidth 32)

/-- The CRC-32 of R29: preset all ones, reflected input and output, final complement. -/
def crc32 (bs : List Byte) : Word := ~~~ bs.foldl crc32Byte 0xFFFFFFFF

/-- The greatest t below 2^bits with `p t`, for a `p` that is true up to some value and false above. -/
def greatest (p : Nat → Bool) : Nat → Nat → Nat
  | 0, t => t
  | b + 1, t => if p (t + 2 ^ b) then greatest p b (t + 2 ^ b) else greatest p b t

namespace Sha

/-- The primes below 410: the eighty from which FIPS 180-4 takes its constants. -/
def primes : List Nat := (List.range 410).filter fun p => decide (1 < p) && (List.range 21).all fun d => d < 2 || p = d || p % d ≠ 0

/-- The first w bits of the fraction of the k-th root of p. -/
def rootBits (w k p : Nat) : BitVec w := BitVec.ofNat w (greatest (fun t => decide (t ^ k ≤ p * 2 ^ (k * w))) (w + 4) 0)

/-- One member of the SHA-2 family: rounds of a block, the first prime of the initial value, and the rotations of its four mixing
functions, the third amount of the two that extend the message being a shift. -/
structure Member (w : Nat) where
  rounds : Nat
  origin : Nat
  stateA : Nat × Nat × Nat
  stateE : Nat × Nat × Nat
  wordNew : Nat × Nat × Nat
  wordOld : Nat × Nat × Nat

variable {w : Nat}

/-- The exclusive or of two rotations and a third term. -/
def mix (r : Nat × Nat × Nat) (x last : BitVec w) : BitVec w := last ^^^ (x.rotateRight r.1 ^^^ x.rotateRight r.2.1)

/-- What a block's rounds work on: the last four values of the two recurrences, newest first, and the sixteen message words to
come. -/
structure Work (w : Nat) where
  aPast : List (BitVec w)
  ePast : List (BitVec w)
  coming : List (BitVec w)

/-- One round with its constant: both recurrences advance, and the message window moves on by the word that extends it. -/
def Work.turn (m : Member w) (s : Work w) (k : BitVec w) : Work w :=
  let a := fun i => s.aPast.getD i 0
  let e := fun i => s.ePast.getD i 0
  let x := fun i => s.coming.getD i 0
  let rot := fun (r : Nat × Nat × Nat) (v : BitVec w) => mix r v (v.rotateRight r.2.2)
  let ext := fun (r : Nat × Nat × Nat) (v : BitVec w) => mix r v (v >>> r.2.2)
  let choice := e 2 ^^^ (e 0 &&& (e 1 ^^^ e 2))
  let most := (a 0 &&& (a 1 ||| a 2)) ||| (a 1 &&& a 2)
  let inward := x 0 + k + (e 3 + (choice + rot m.stateE (e 0)))
  { aPast := (inward + (most + rot m.stateA (a 0))) :: s.aPast.dropLast
    ePast := (a 3 + inward) :: s.ePast.dropLast
    coming := s.coming.tail ++ [ext m.wordNew (x 14) + x 9 + (ext m.wordOld (x 1) + x 0)] }

/-- The chaining value after `n` more blocks of message words. -/
def absorb (m : Member w) (ks : List (BitVec w)) : Nat → List (BitVec w) → List (BitVec w) → List (BitVec w)
  | 0, v, _ => v
  | n + 1, v, msg =>
    let z := ks.foldl (Work.turn m) ⟨v.take 4, v.drop 4, msg.take 16⟩
    absorb m ks n (List.zipWith (fun p q => p + q) v (z.aPast ++ z.ePast)) (msg.drop 16)

/-- The digest of a byte string: the message ends with a one bit, zeros, and its length in bits in two words; big-endian throughout. -/
def digest (m : Member w) (bs : List Byte) : List Byte :=
  let wb := w / 8
  let n := cdiv (bs.length + 1 + 2 * wb) (16 * wb)
  let text := padTo ((16 * n - 2) * wb) (bs ++ [0x80]) ++ beBytes (2 * wb) (8 * bs.length)
  let msg := (List.range (16 * n)).map fun i => BitVec.ofNat w (beVal (slice text (wb * i) wb))
  let start := ((primes.drop m.origin).take 8).map (rootBits w 2)
  (absorb m ((primes.take m.rounds).map (rootBits w 3)) n start msg).flatMap fun h => beBytes wb h.toNat

end Sha

/-- SHA-256 of a byte string: 32 bytes. -/
def sha256 (bs : List Byte) : List Byte :=
  Sha.digest (w := 32) ⟨64, 0, (2, 13, 22), (6, 11, 25), (17, 19, 10), (7, 18, 3)⟩ bs

/-- SHA-384 of a byte string: 48 bytes. -/
def sha384 (bs : List Byte) : List Byte :=
  (Sha.digest (w := 64) ⟨80, 8, (28, 34, 39), (14, 18, 41), (19, 61, 6), (1, 8, 7)⟩ bs).take 48

end Sys2Proof.Machine
end

