-- ==== Sys2Proof/Machine/Mem.lean ====
section
/-! DEFINITION. Sparse byte memories: (address, byte) pairs, addresses strictly rising, no pair holding the byte an unlisted address
reads as. -/

namespace Sys2Proof.Machine

/-- What an unlisted address of any memory reads as (the spec gives no contents after power-on; log entry 4). -/
def Mem.empty : Byte := 0

/-- The byte at an address. [DESIGN CHOICE, log entry 4] -/
def Mem.get : List Host.Cell → Nat → Byte
  | [], _ => Mem.empty
  | (b, v) :: m, a => if a = b then v else if a < b then Mem.empty else Mem.get m a

/-- The memory with one byte written. -/
def Mem.set (a : Nat) (v : Byte) : List Host.Cell → List Host.Cell
  | [] => if v = Mem.empty then [] else [(a, v)]
  | (b, w) :: m =>
    if a < b then (if v = Mem.empty then (b, w) :: m else (a, v) :: (b, w) :: m)
    else if a = b then (if v = Mem.empty then m else (a, v) :: m)
    else (b, w) :: Mem.set a v m

/-- The memory with a byte string written from an address upward. -/
def Mem.write (m : List Host.Cell) : Nat → List Byte → List Host.Cell
  | _, [] => m
  | a, v :: vs => Mem.write (Mem.set a v m) (a + 1) vs

/-- The byte string of `n` bytes from an address upward. -/
def Mem.read (m : List Host.Cell) (a n : Nat) : List Byte := (List.range n).map fun i => Mem.get m (a + i)

/-- The memory with `n` bytes from an address upward back at what an unlisted address reads as. -/
def Mem.wipe (m : List Host.Cell) (a n : Nat) : List Host.Cell := m.filter fun p => decide (p.1 < a ∨ a + n ≤ p.1)

/-- The little-endian number of `n` bytes at an address. -/
def Mem.num (m : List Host.Cell) (a n : Nat) : Nat := leVal (Mem.read m a n)

/-- The canonical form: addresses strictly rising, no byte equal to what an unlisted address reads as. -/
def Mem.wf (m : List Host.Cell) : Bool :=
  decide (m.Pairwise fun p q => p.1 < q.1) && m.all fun p => p.2 != Mem.empty

end Sys2Proof.Machine
end

