-- ==== Sys2Proof/Machine/Fields.lean ====
section
/-! DEFINITION. Names of registers (active-view addresses, Table 20.2 with the bases of Table 20.1) and of fields (address, lowest
bit, width), from the register tables of the owning chapters.  Series take their indices as arguments. -/

namespace Sys2Proof.Machine

/-- One field of a register: its active-view address, its lowest bit and its width. -/
structure Fld where
  addr : Nat
  lo : Nat
  width : Nat
deriving DecidableEq, Repr

namespace R

abbrev SYS_BLK_ID : Nat := 0x0
abbrev SYS_ID : Nat := 0x4
abbrev SYS_CAPS : Nat := 0x8
abbrev SYS_ROLE : Nat := 0xC
abbrev SYS_UNITID (i : Nat) : Nat := 0x10 + 4 * i
abbrev SYS_IMG_ACT : Nat := 0x20
abbrev SYS_IMG_SEL : Nat := 0x24
abbrev SYS_IMG_STAT (i : Nat) : Nat := 0x28 + 4 * i
abbrev SYS_IMG_ID : Nat := 0x30
abbrev SYS_IMG_TOOL : Nat := 0x34
abbrev SYS_IMG_HASH (i : Nat) : Nat := 0x40 + 4 * i
abbrev SYS_UNITEN : Nat := 0x60
abbrev SYS_IMG_CHECK : Nat := 0x64
abbrev FAB_BLK_ID : Nat := 0x80000
abbrev FAB_TRACKS : Nat := 0x80004
abbrev FAB_STATUS : Nat := 0x80008
abbrev FAB_STAGE (i : Nat) : Nat := 0x80010 + 4 * i
abbrev FAB_PLAN : Nat := 0x80020
abbrev FAB_AVS_LIM : Nat := 0x80024
abbrev FAB_PLAN_CTL : Nat := 0x80028
abbrev FAB_AVS_CFG : Nat := 0x8002C
abbrev FAB_VCORE : Nat := 0x80030
abbrev FAB_AVS_STAT : Nat := 0x80034
abbrev FAB_BUDGET : Nat := 0x80038
abbrev FAB_SLACK : Nat := 0x80040
abbrev FAB_FLOOR : Nat := 0x80044
abbrev FAB_RATE : Nat := 0x80048
abbrev FAB_AGE : Nat := 0x80050
abbrev FAB_THR : Nat := 0x80060
abbrev FAB_RES_THR : Nat := 0x80064
abbrev FAB_RING_BAD : Nat := 0x80068
abbrev FAB_RING (i : Nat) : Nat := 0x80080 + 4 * i
abbrev FAB_RES_CNT : Nat := 0x800C0
abbrev FAB_RES_CNT_H : Nat := 0x800C4
abbrev FAB_RETRY_OK : Nat := 0x800C8
abbrev FAB_SUSPECT : Nat := 0x800CC
abbrev FAB_LATE : Nat := 0x800D0
abbrev FAB_SRAM_CE : Nat := 0x800D4
abbrev FAB_SRAM_DE : Nat := 0x800D8
abbrev FAB_TRK_RES (i : Nat) : Nat := 0x80100 + 4 * i
abbrev FAB_LAST_ERR : Nat := 0x80140
abbrev FAB_LAST_FRM : Nat := 0x80144
abbrev FAB_CPR_ADDR : Nat := 0x80180
abbrev FAB_CPR_DATA0 : Nat := 0x80184
abbrev FAB_CPR_DATA1 : Nat := 0x80188
abbrev SND_BLK_ID : Nat := 0x100000
abbrev SND_STATUS : Nat := 0x100004
abbrev SND_CTL : Nat := 0x100008
abbrev SND_CANVAS : Nat := 0x100010
abbrev SND_CANVAS_SIZE : Nat := 0x100014
abbrev SND_PLC_BASE_LO : Nat := 0x100020
abbrev SND_PLC_BASE_HI : Nat := 0x100024
abbrev SND_PLC_COUNT : Nat := 0x100028
abbrev SND_ANN_BASE_LO : Nat := 0x100030
abbrev SND_ANN_BASE_HI : Nat := 0x100034
abbrev SND_ANN_STRIDE : Nat := 0x100038
abbrev SND_ANN_SLOTS : Nat := 0x10003C
abbrev SND_LOAD0 : Nat := 0x100040
abbrev SND_LOAD1 : Nat := 0x100044
abbrev SND_CHLOAD (i : Nat) : Nat := 0x100048 + 4 * i
abbrev SND_SEG_SENT : Nat := 0x100060
abbrev SND_SEG_SENT_H : Nat := 0x100064
abbrev SND_SEG_DROP : Nat := 0x100068
abbrev SND_SEG_ABANDON : Nat := 0x10006C
abbrev SND_SEG_SUSPECT : Nat := 0x100070
abbrev SND_DRAM_ERR : Nat := 0x100074
abbrev SND_LAST_DROP : Nat := 0x100078
abbrev SND_SLOT_BG_LO (s : Nat) : Nat := 0x100080 + 8 * s
abbrev SND_SLOT_BG_HI (s : Nat) : Nat := 0x100084 + 8 * s
abbrev SND_WCD_SEL : Nat := 0x1000C0
abbrev SND_WCD_VAL : Nat := 0x1000C4
abbrev SND_OFIFO_CTL (p : Nat) : Nat := 0x100100 + 16 * p
abbrev SND_OFIFO_STAT (p : Nat) : Nat := 0x100104 + 16 * p
abbrev SND_OFIFO_SIZE (p : Nat) : Nat := 0x100108 + 16 * p
abbrev SND_OFIFO_UNDER (p : Nat) : Nat := 0x10010C + 16 * p
abbrev SND_SRC_CTL (n : Nat) : Nat := 0x100200 + 32 * n
abbrev SND_SRC_SIZE (n : Nat) : Nat := 0x100204 + 32 * n
abbrev SND_SRC_STRIDE (n : Nat) : Nat := 0x100208 + 32 * n
abbrev SND_SRC_RATE (n : Nat) : Nat := 0x10020C + 32 * n
abbrev SND_SRC_CUR_LO (n : Nat) : Nat := 0x100210 + 32 * n
abbrev SND_SRC_CUR_HI (n : Nat) : Nat := 0x100214 + 32 * n
abbrev SND_SRC_TAG (n : Nat) : Nat := 0x100218 + 32 * n
abbrev SND_SRC_REPEAT (n : Nat) : Nat := 0x10021C + 32 * n
abbrev SND_LYR_CTL (s : Nat) (l : Nat) : Nat := 0x101000 + 512 * s + 32 * l
abbrev SND_LYR_SRCPOS (s : Nat) (l : Nat) : Nat := 0x101004 + 512 * s + 32 * l
abbrev SND_LYR_SRCSIZE (s : Nat) (l : Nat) : Nat := 0x101008 + 512 * s + 32 * l
abbrev SND_LYR_CANPOS (s : Nat) (l : Nat) : Nat := 0x10100C + 512 * s + 32 * l
abbrev SND_LYR_CANSIZE (s : Nat) (l : Nat) : Nat := 0x101010 + 512 * s + 32 * l
abbrev SND_LYR_KX (s : Nat) (l : Nat) : Nat := 0x101014 + 512 * s + 32 * l
abbrev SND_LYR_KY (s : Nat) (l : Nat) : Nat := 0x101018 + 512 * s + 32 * l
abbrev SND_PAL_LO (k : Nat) : Nat := 0x103000 + 8 * k
abbrev SND_PAL_HI (k : Nat) : Nat := 0x103004 + 8 * k
abbrev SND_FILT (b : Nat) (ph : Nat) (m : Nat) : Nat := 0x104000 + 1024 * b + 16 * ph + 4 * m
abbrev COR_BLK_ID : Nat := 0x180000
abbrev COR_STATUS : Nat := 0x180004
abbrev COR_CTL : Nat := 0x180008
abbrev COR_PWM : Nat := 0x18000C
abbrev COR_GWY_BASE0 : Nat := 0x180010
abbrev COR_GWY_BASE1 : Nat := 0x180014
abbrev COR_GWY_SEL : Nat := 0x180018
abbrev COR_GWY_ID : Nat := 0x18001C
abbrev COR_GWY_CALTIME (i : Nat) : Nat := 0x180020 + 4 * i
abbrev COR_LOAD_STAT : Nat := 0x18002C
abbrev COR_LOAD_BAD : Nat := 0x180030
abbrev COR_LOAD_TIME : Nat := 0x180034
abbrev COR_XSPI_CFG : Nat := 0x180038
abbrev COR_SLOT_CTL (s : Nat) : Nat := 0x180040 + 4 * s
abbrev COR_DERATE : Nat := 0x180060
abbrev COR_RAMP : Nat := 0x180064
abbrev COR_DOSE_CTL : Nat := 0x180070
abbrev COR_DOSE_K : Nat := 0x180074
abbrev COR_DOSE_CMAX : Nat := 0x180078
abbrev COR_DOSE_TDEF : Nat := 0x18007C
abbrev COR_TSEL (i : Nat) : Nat := 0x180080 + 4 * i
abbrev COR_SCALE (c : Nat) : Nat := 0x1800A0 + 4 * c
abbrev COR_AVG (c : Nat) : Nat := 0x1800B0 + 4 * c
abbrev COR_DOSE_BASE_LO : Nat := 0x180100
abbrev COR_DOSE_BASE_HI : Nat := 0x180104
abbrev COR_CPL_BASE_LO : Nat := 0x180108
abbrev COR_CPL_BASE_HI : Nat := 0x18010C
abbrev COR_DOSE_STAT : Nat := 0x180110
abbrev COR_CKPT_SEQ : Nat := 0x180114
abbrev COR_CKPT_TIME : Nat := 0x180118
abbrev COR_TBL_ADDR : Nat := 0x180140
abbrev COR_TBL_DATA : Nat := 0x180144
abbrev COR_DOSE_LAMP : Nat := 0x180148
abbrev COR_DOSE_VAL_LO : Nat := 0x18014C
abbrev COR_DOSE_VAL_HI : Nat := 0x180150
abbrev COR_DOSE_CPL : Nat := 0x180154
abbrev DRV_BLK_ID : Nat := 0x1C0000
abbrev DRV_STATUS : Nat := 0x1C0004
abbrev DRV_CTL : Nat := 0x1C0008
abbrev DRV_SCAN : Nat := 0x1C000C
abbrev DRV_TIMING : Nat := 0x1C0010
abbrev DRV_PWM : Nat := 0x1C0014
abbrev DRV_DIAG : Nat := 0x1C0018
abbrev DRV_PROBE : Nat := 0x1C001C
abbrev DRV_SYNCPH : Nat := 0x1C0020
abbrev DRV_STATPER : Nat := 0x1C0024
abbrev DRV_SAFE : Nat := 0x1C0028
abbrev DRV_DERATE : Nat := 0x1C0030
abbrev DRV_DERATE_FL : Nat := 0x1C0034
abbrev DRV_DERATE_SENS : Nat := 0x1C0038
abbrev DRV_DERATE_STAT : Nat := 0x1C003C
abbrev DRV_DERATE_TEMP : Nat := 0x1C0040
abbrev DRV_TROW : Nat := 0x1C0044
abbrev DRV_TICK : Nat := 0x1C0048
abbrev DRV_BUSEN_LO : Nat := 0x1C0050
abbrev DRV_BUSEN_HI : Nat := 0x1C0054
abbrev DRV_BUSFLT_LO : Nat := 0x1C0058
abbrev DRV_BUSFLT_HI : Nat := 0x1C005C
abbrev DRV_LAMPS_OPEN : Nat := 0x1C0060
abbrev DRV_LAMPS_SHORT : Nat := 0x1C0064
abbrev DRV_LAMPS_UNVER : Nat := 0x1C0068
abbrev DRV_PROBE_CNT : Nat := 0x1C006C
abbrev DRV_ROW_MISS : Nat := 0x1C0070
abbrev DRV_DIAG_NOW : Nat := 0x1C0074
abbrev DRV_MAP_BASE_LO : Nat := 0x1C0078
abbrev DRV_MAP_BASE_HI : Nat := 0x1C007C
abbrev DRV_DSTAT_SEL : Nat := 0x1C0080
abbrev DRV_DSTAT (i : Nat) : Nat := 0x1C0084 + 4 * i
abbrev DRV_BUS_STAT (n : Nat) : Nat := 0x1C0400 + 16 * n
abbrev DRV_BUS_CRC (n : Nat) : Nat := 0x1C0404 + 16 * n
abbrev DRV_BUS_RESEND (n : Nat) : Nat := 0x1C0408 + 16 * n
abbrev DRV_BUS_READERR (n : Nat) : Nat := 0x1C040C + 16 * n
abbrev LUX_BLK_ID : Nat := 0x1E0000
abbrev LUX_STATUS : Nat := 0x1E0004
abbrev LUX_CTL : Nat := 0x1E0008
abbrev LUX_WIN : Nat := 0x1E000C
abbrev LUX_SAMPLE : Nat := 0x1E0010
abbrev LUX_LOOP : Nat := 0x1E0014
abbrev LUX_LIMIT : Nat := 0x1E0018
abbrev LUX_CHECK0 : Nat := 0x1E001C
abbrev LUX_CHECK1 : Nat := 0x1E0020
abbrev LUX_CHECK2 : Nat := 0x1E0024
abbrev LUX_CAL : Nat := 0x1E0028
abbrev LUX_CAL_STAT : Nat := 0x1E002C
abbrev LUX_WIN_CNT : Nat := 0x1E0030
abbrev LUX_WIN_REJ : Nat := 0x1E0034
abbrev LUX_MDOSE_SEL : Nat := 0x1E0040
abbrev LUX_MDOSE_LO : Nat := 0x1E0044
abbrev LUX_MDOSE_HI : Nat := 0x1E0048
abbrev LUX_G_SNS (g : Nat) : Nat := 0x1E0100 + 64 * g
abbrev LUX_G_DARK (g : Nat) (c : Nat) : Nat := 0x1E0104 + 64 * g + 4 * c
abbrev LUX_G_SREF (g : Nat) (c : Nat) : Nat := 0x1E0110 + 64 * g + 4 * c
abbrev LUX_G_REFT (g : Nat) : Nat := 0x1E011C + 64 * g
abbrev LUX_G_DREF (g : Nat) (c : Nat) : Nat := 0x1E0120 + 64 * g + 4 * c
abbrev LUX_G_MEAS (g : Nat) (c : Nat) : Nat := 0x1E012C + 64 * g + 4 * c
abbrev LUX_G_STAT (g : Nat) : Nat := 0x1E0138 + 64 * g
abbrev LAN_BLK_ID : Nat := 0x200000
abbrev LAN_CLK : Nat := 0x200004
abbrev LAN_CLK_CTL : Nat := 0x200008
abbrev LAN_TX : Nat := 0x20000C
abbrev LAN_CAL : Nat := 0x200010
abbrev LAN_CAL_STAT : Nat := 0x200014
abbrev LAN_P_STAT (p : Nat) : Nat := 0x200200 + 128 * p
abbrev LAN_P_CTL (p : Nat) : Nat := 0x200204 + 128 * p
abbrev LAN_P_EQMODE (p : Nat) : Nat := 0x200208 + 128 * p
abbrev LAN_P_BLK (p : Nat) : Nat := 0x20020C + 128 * p
abbrev LAN_P_BLK_H (p : Nat) : Nat := 0x200210 + 128 * p
abbrev LAN_P_CRCERR (p : Nat) : Nat := 0x200214 + 128 * p
abbrev LAN_P_DFTX (p : Nat) : Nat := 0x200218 + 128 * p
abbrev LAN_P_DFRX (p : Nat) : Nat := 0x20021C + 128 * p
abbrev LAN_P_RESCR (p : Nat) : Nat := 0x200220 + 128 * p
abbrev LAN_P_LOCKLOSS (p : Nat) : Nat := 0x200224 + 128 * p
abbrev LAN_P_TPERR (p : Nat) : Nat := 0x200228 + 128 * p
abbrev LAN_P_FIFO (p : Nat) : Nat := 0x20022C + 128 * p
abbrev LAN_P_L (p : Nat) (l : Nat) : Nat := 0x200240 + 128 * p + 4 * l
abbrev CMC_BLK_ID : Nat := 0x240000
abbrev CMC_STATUS : Nat := 0x240004
abbrev CMC_ADDR : Nat := 0x240008
abbrev CMC_POLL : Nat := 0x24000C
abbrev CMC_CTL : Nat := 0x240010
abbrev CMC_ENUM : Nat := 0x240014
abbrev CMC_ADMIT : Nat := 0x240018
abbrev CMC_NEWEST : Nat := 0x24001C
abbrev CMC_EXP_FW (i : Nat) : Nat := 0x240020 + 4 * i
abbrev CMC_EXP_HASH (i : Nat) : Nat := 0x240040 + 4 * i
abbrev CMC_P_STAT (p : Nat) : Nat := 0x240100 + 64 * p
abbrev CMC_P_TXF (p : Nat) : Nat := 0x240104 + 64 * p
abbrev CMC_P_TXF_H (p : Nat) : Nat := 0x240108 + 64 * p
abbrev CMC_P_POLLS (p : Nat) : Nat := 0x24010C + 64 * p
abbrev CMC_P_MISS (p : Nat) : Nat := 0x240110 + 64 * p
abbrev CMC_P_FCS (p : Nat) : Nat := 0x240114 + 64 * p
abbrev CMC_P_HCRC (p : Nat) : Nat := 0x240118 + 64 * p
abbrev CMC_P_MALF (p : Nat) : Nat := 0x24011C + 64 * p
abbrev CMC_P_RESEND (p : Nat) : Nat := 0x240120 + 64 * p
abbrev CMC_P_UNM (p : Nat) : Nat := 0x240124 + 64 * p
abbrev CMC_S_RXF (s : Nat) : Nat := 0x240600 + 64 * s
abbrev CMC_S_RXF_H (s : Nat) : Nat := 0x240604 + 64 * s
abbrev CMC_S_FCS (s : Nat) : Nat := 0x240608 + 64 * s
abbrev CMC_S_HCRC (s : Nat) : Nat := 0x24060C + 64 * s
abbrev CMC_S_POISON (s : Nat) : Nat := 0x240610 + 64 * s
abbrev CMC_S_DUP (s : Nat) : Nat := 0x240614 + 64 * s
abbrev CMC_S_STALE (s : Nat) : Nat := 0x240618 + 64 * s
abbrev CMC_S_MALF (s : Nat) : Nat := 0x24061C + 64 * s
abbrev CMC_S_SUSPECT (s : Nat) : Nat := 0x240620 + 64 * s
abbrev CMC_SEGOK : Nat := 0x240680
abbrev CMC_SEGKEPT : Nat := 0x240684
abbrev CMC_SEGSEC : Nat := 0x240688
abbrev CMC_EVDROP : Nat := 0x24068C
abbrev CMC_T (p : Nat) (a : Nat) : Nat := 0x241000 + 512 * p + 4 * a
abbrev CMC_REC (p : Nat) (a : Nat) (i : Nat) : Nat := 0x242000 + 2048 * p + 16 * a + 4 * i
abbrev CMC_REC3 (p : Nat) (a : Nat) : Nat := 0x24200C + 2048 * p + 16 * a
abbrev CMC_FLT_A (f : Nat) : Nat := 0x246000 + 8 * f
abbrev CMC_FLT_B (f : Nat) : Nat := 0x246004 + 8 * f
abbrev CMC_RQ_BASE_LO (q : Nat) : Nat := 0x246100 + 32 * q
abbrev CMC_RQ_BASE_HI (q : Nat) : Nat := 0x246104 + 32 * q
abbrev CMC_RQ_CTL (q : Nat) : Nat := 0x246108 + 32 * q
abbrev CMC_RQ_HEAD (q : Nat) : Nat := 0x24610C + 32 * q
abbrev CMC_RQ_TAIL (q : Nat) : Nat := 0x246110 + 32 * q
abbrev CMC_RQ_DROP (q : Nat) : Nat := 0x246114 + 32 * q
abbrev CMC_WP_CTL (k : Nat) : Nat := 0x246200 + 32 * k
abbrev CMC_WP_MASK (k : Nat) (i : Nat) : Nat := 0x246204 + 32 * k + 4 * i
abbrev CMC_WP_HIT (k : Nat) : Nat := 0x246214 + 32 * k
abbrev DSP_BLK_ID : Nat := 0x380000
abbrev DSP_STATUS : Nat := 0x380004
abbrev DSP_MODE : Nat := 0x380008
abbrev DSP_PIPE0 : Nat := 0x38000C
abbrev DSP_PIPE1 : Nat := 0x380010
abbrev DSP_UPD : Nat := 0x380014
abbrev DSP_RAMP : Nat := 0x380018
abbrev DSP_NUM : Nat := 0x380020
abbrev DSP_DEN : Nat := 0x380024
abbrev DSP_TSUB : Nat := 0x380028
abbrev DSP_U : Nat := 0x38002C
abbrev DSP_FRAME : Nat := 0x380030
abbrev DSP_LASTB_NS : Nat := 0x380034
abbrev DSP_LASTB_SL : Nat := 0x380038
abbrev DSP_LASTB_SH : Nat := 0x38003C
abbrev DSP_ACT : Nat := 0x380050
abbrev DSP_ACT_NS : Nat := 0x380054
abbrev DSP_ACT_SL : Nat := 0x380058
abbrev DSP_ACT_SH : Nat := 0x38005C
abbrev DSP_ACT_STAT : Nat := 0x380060
abbrev DSP_ACT_FRM : Nat := 0x380064
abbrev DSP_LATE : Nat := 0x380068
abbrev DSP_TRIG_CTL (t : Nat) : Nat := 0x380100 + 16 * t
abbrev DSP_TRIG_OFS (t : Nat) : Nat := 0x380104 + 16 * t
abbrev DSP_TRIG_WID (t : Nat) : Nat := 0x380108 + 16 * t
abbrev TIM_BLK_ID : Nat := 0x280000
abbrev TIM_STATUS : Nat := 0x280004
abbrev TIM_SRC : Nat := 0x280008
abbrev TIM_STEP : Nat := 0x28000C
abbrev TIM_SERVO : Nat := 0x280010
abbrev TIM_CHAIN : Nat := 0x280014
abbrev TIM_HOLD : Nat := 0x280018
abbrev TIM_RATE : Nat := 0x280020
abbrev TIM_OFFSET : Nat := 0x280024
abbrev TIM_MPD : Nat := 0x280028
abbrev TIM_NOW_NS : Nat := 0x280030
abbrev TIM_NOW_SL : Nat := 0x280034
abbrev TIM_NOW_SH : Nat := 0x280038
abbrev TIM_NOW_FR : Nat := 0x28003C
abbrev TIM_SET_NS : Nat := 0x280040
abbrev TIM_SET_SL : Nat := 0x280044
abbrev TIM_SET_SH : Nat := 0x280048
abbrev TIM_CMD : Nat := 0x28004C
abbrev TIM_STEP_PEND_LO : Nat := 0x280050
abbrev TIM_STEP_PEND_HI : Nat := 0x280054
abbrev TIM_STEP_FRM : Nat := 0x280058
abbrev TIM_DOM_STAT (d : Nat) : Nat := 0x280060 + 32 * d
abbrev TIM_DOM_OFS (d : Nat) : Nat := 0x280064 + 32 * d
abbrev TIM_DOM_GMID_LO (d : Nat) : Nat := 0x280068 + 32 * d
abbrev TIM_DOM_GMID_HI (d : Nat) : Nat := 0x28006C + 32 * d
abbrev TIM_DOM_STEPS (d : Nat) : Nat := 0x280070 + 32 * d
abbrev TIM_DOM_MEAS (d : Nat) : Nat := 0x280074 + 32 * d
abbrev TIM_P_ASYM (p : Nat) : Nat := 0x280100 + 32 * p
abbrev TIM_P_TSQ (p : Nat) : Nat := 0x280104 + 32 * p
abbrev TIM_P_TSDROP (p : Nat) : Nat := 0x280108 + 32 * p
abbrev TIM_P_TSCNT (p : Nat) : Nat := 0x28010C + 32 * p
abbrev TIM_TSQ_SEL : Nat := 0x280300
abbrev TIM_TSQ_DATA (i : Nat) : Nat := 0x280304 + 4 * i
abbrev TIM_OUT_CTL (t : Nat) : Nat := 0x280400 + 32 * t
abbrev TIM_OUT_START_NS (t : Nat) : Nat := 0x280404 + 32 * t
abbrev TIM_OUT_START_SL (t : Nat) : Nat := 0x280408 + 32 * t
abbrev TIM_OUT_START_SH (t : Nat) : Nat := 0x28040C + 32 * t
abbrev TIM_OUT_PER_NS (t : Nat) : Nat := 0x280410 + 32 * t
abbrev TIM_OUT_PER_FR (t : Nat) : Nat := 0x280414 + 32 * t
abbrev TIM_OUT_WID (t : Nat) : Nat := 0x280418 + 32 * t
abbrev TIM_OUT_STAT (t : Nat) : Nat := 0x28041C + 32 * t
abbrev TIM_CAP_CTL (c : Nat) : Nat := 0x280600 + 32 * c
abbrev TIM_CAP_STAT (c : Nat) : Nat := 0x280604 + 32 * c
abbrev TIM_CAP_NS (c : Nat) : Nat := 0x280608 + 32 * c
abbrev TIM_CAP_SL (c : Nat) : Nat := 0x28060C + 32 * c
abbrev TIM_CAP_SH (c : Nat) : Nat := 0x280610 + 32 * c
abbrev TIM_CAP_POP (c : Nat) : Nat := 0x280614 + 32 * c
abbrev TIM_CAP_DROP (c : Nat) : Nat := 0x280618 + 32 * c
abbrev TIM_SREF_CTL : Nat := 0x280700
abbrev TIM_SREF_LVL : Nat := 0x280704
abbrev TIM_SREF_BROAD : Nat := 0x280708
abbrev TIM_SREF_OFS : Nat := 0x28070C
abbrev TIM_SREF_STAT : Nat := 0x280710
abbrev TIM_SREF_PHASE : Nat := 0x280714
abbrev TIM_ETH_CTL : Nat := 0x280800
abbrev TIM_ETH_MAC_LO : Nat := 0x280804
abbrev TIM_ETH_MAC_HI : Nat := 0x280808
abbrev TIM_ETH_IP : Nat := 0x28080C
abbrev TIM_ETH_STAT : Nat := 0x280810
abbrev TIM_ETH_RXF : Nat := 0x280814
abbrev TIM_ETH_RXERR : Nat := 0x280818
abbrev TIM_ETH_TXF : Nat := 0x28081C
abbrev TIM_ETX_BASE_LO : Nat := 0x280820
abbrev TIM_ETX_BASE_HI : Nat := 0x280824
abbrev TIM_ETX_CTL : Nat := 0x280828
abbrev TIM_ETX_HEAD : Nat := 0x28082C
abbrev TIM_ETX_TAIL : Nat := 0x280830
abbrev TIM_ERX_BASE_LO : Nat := 0x280840
abbrev TIM_ERX_BASE_HI : Nat := 0x280844
abbrev TIM_ERX_CTL : Nat := 0x280848
abbrev TIM_ERX_HEAD : Nat := 0x28084C
abbrev TIM_ERX_TAIL : Nat := 0x280850
abbrev TIM_ERX_DROP : Nat := 0x280854
abbrev CMT_BLK_ID : Nat := 0x50000
abbrev CMT_GEN : Nat := 0x50004
abbrev CMT_STATUS : Nat := 0x50008
abbrev CMT_REQ : Nat := 0x5000C
abbrev CMT_TGT_NS : Nat := 0x50010
abbrev CMT_TGT_SL : Nat := 0x50014
abbrev CMT_TGT_SH : Nat := 0x50018
abbrev CMT_CHECK : Nat := 0x5001C
abbrev CMT_CHECK_IDX : Nat := 0x50020
abbrev CMT_LWE_ADDR : Nat := 0x50024
abbrev CMT_LWE_CNT : Nat := 0x50028
abbrev CMT_LATE_CNT : Nat := 0x5002C
abbrev CMT_REFUSED : Nat := 0x50030
abbrev CMT_PEND_STAT (i : Nat) : Nat := 0x50040 + 32 * i
abbrev CMT_PEND_GEN (i : Nat) : Nat := 0x50044 + 32 * i
abbrev CMT_PEND_NS (i : Nat) : Nat := 0x50048 + 32 * i
abbrev CMT_PEND_SL (i : Nat) : Nat := 0x5004C + 32 * i
abbrev CMT_PEND_SH (i : Nat) : Nat := 0x50050 + 32 * i
abbrev CMT_CATCHUP : Nat := 0x500C0
abbrev CMT_PEEK_ADDR : Nat := 0x50100
abbrev CMT_PEEK_DATA : Nat := 0x50104
abbrev CMT_DUMP_CTL : Nat := 0x50140
abbrev CMT_DUMP_BASE_LO : Nat := 0x50144
abbrev CMT_DUMP_BASE_HI : Nat := 0x50148
abbrev CMT_DUMP_LEN : Nat := 0x5014C
abbrev CMT_DUMP_GO : Nat := 0x50150
abbrev CMT_DUMP_STAT : Nat := 0x50154
abbrev CMT_DUMP_BYTES : Nat := 0x50158
abbrev CMT_DPORT_ADDR : Nat := 0x50160
abbrev CMT_DPORT_DATA : Nat := 0x50164
abbrev FMC_BLK_ID : Nat := 0x2C0000
abbrev FMC_STATUS : Nat := 0x2C0004
abbrev FMC_CFG : Nat := 0x2C0008
abbrev FMC_GEOM : Nat := 0x2C000C
abbrev FMC_SIZE : Nat := 0x2C0010
abbrev FMC_CTL : Nat := 0x2C0014
abbrev FMC_SCHED : Nat := 0x2C0018
abbrev FMC_SCRUB : Nat := 0x2C001C
abbrev FMC_SCRUB_POS : Nat := 0x2C0020
abbrev FMC_SCRUB_PASS : Nat := 0x2C0024
abbrev FMC_TEMP : Nat := 0x2C0028
abbrev FMC_LAST_UE_LO : Nat := 0x2C0040
abbrev FMC_LAST_UE_HI : Nat := 0x2C0044
abbrev FMC_OOR_LO : Nat := 0x2C0048
abbrev FMC_OOR_HI : Nat := 0x2C004C
abbrev FMC_OOR_CNT : Nat := 0x2C0050
abbrev FMC_CH_STAT (c : Nat) : Nat := 0x2C0100 + 64 * c
abbrev FMC_CH_RD (c : Nat) : Nat := 0x2C0104 + 64 * c
abbrev FMC_CH_RD_H (c : Nat) : Nat := 0x2C0108 + 64 * c
abbrev FMC_CH_WR (c : Nat) : Nat := 0x2C010C + 64 * c
abbrev FMC_CH_WR_H (c : Nat) : Nat := 0x2C0110 + 64 * c
abbrev FMC_CH_ACT (c : Nat) : Nat := 0x2C0114 + 64 * c
abbrev FMC_CH_HIT (c : Nat) : Nat := 0x2C0118 + 64 * c
abbrev FMC_CH_CONF (c : Nat) : Nat := 0x2C011C + 64 * c
abbrev FMC_CH_CE (c : Nat) : Nat := 0x2C0120 + 64 * c
abbrev FMC_CH_UE (c : Nat) : Nat := 0x2C0124 + 64 * c
abbrev FMC_CH_FORCED (c : Nat) : Nat := 0x2C0128 + 64 * c
abbrev FMC_RT_STAT (k : Nat) : Nat := 0x2C0300 + 8 * k
abbrev FMC_RT_STARVE (k : Nat) : Nat := 0x2C0304 + 8 * k
abbrev HST_BLK_ID : Nat := 0x300000
abbrev HST_LINK : Nat := 0x300004
abbrev HST_LOAD : Nat := 0x300008
abbrev HST_W2_BASE_LO : Nat := 0x300010
abbrev HST_W2_BASE_HI : Nat := 0x300014
abbrev HST_W2_SIZE : Nat := 0x300018
abbrev HST_ERR : Nat := 0x300020
abbrev HST_ERRCNT : Nat := 0x300024
abbrev HST_SRC_DONE : Nat := 0x300028
abbrev HST_SRC_CTL (n : Nat) : Nat := 0x300100 + 64 * n
abbrev HST_SRC_STAT (n : Nat) : Nat := 0x300104 + 64 * n
abbrev HST_SRC_RING_LO (n : Nat) : Nat := 0x300108 + 64 * n
abbrev HST_SRC_RING_HI (n : Nat) : Nat := 0x30010C + 64 * n
abbrev HST_SRC_HEAD (n : Nat) : Nat := 0x300110 + 64 * n
abbrev HST_SRC_TAIL (n : Nat) : Nat := 0x300114 + 64 * n
abbrev HST_SRC_LBUF_LO (n : Nat) : Nat := 0x300118 + 64 * n
abbrev HST_SRC_LBUF_HI (n : Nat) : Nat := 0x30011C + 64 * n
abbrev HST_SRC_LSTEP (n : Nat) : Nat := 0x300120 + 64 * n
abbrev HST_SRC_PEERDONE (n : Nat) : Nat := 0x300124 + 64 * n
abbrev HST_SRC_PEERTAG (n : Nat) : Nat := 0x300128 + 64 * n
abbrev HST_SRCN_DONE (n : Nat) : Nat := 0x30012C + 64 * n
abbrev HST_PGR_CTL : Nat := 0x300300
abbrev HST_PGR_RING_LO : Nat := 0x300304
abbrev HST_PGR_RING_HI : Nat := 0x300308
abbrev HST_PGR_HEAD : Nat := 0x30030C
abbrev HST_PGR_TAIL : Nat := 0x300310
abbrev HST_PGR_DONE : Nat := 0x300314
abbrev REL_BLK_ID : Nat := 0x140000
abbrev REL_PT_BASE_LO : Nat := 0x140008
abbrev REL_PT_BASE_HI : Nat := 0x14000C
abbrev REL_FAULT : Nat := 0x140010
abbrev REL_FAULTS : Nat := 0x140014
abbrev REL_CMD : Nat := 0x140040
abbrev REL_SEEK : Nat := 0x140044
abbrev REL_ACT_NS : Nat := 0x140048
abbrev REL_ACT_SL : Nat := 0x14004C
abbrev REL_ACT_SH : Nat := 0x140050
abbrev REL_ACT_STAT : Nat := 0x140054
abbrev REL_P_CTL (p : Nat) : Nat := 0x140100 + 64 * p
abbrev REL_P_START_LO (p : Nat) : Nat := 0x140104 + 64 * p
abbrev REL_P_START_HI (p : Nat) : Nat := 0x140108 + 64 * p
abbrev REL_P_FSTRIDE (p : Nat) : Nat := 0x14010C + 64 * p
abbrev REL_P_FRAMES (p : Nat) : Nat := 0x140110 + 64 * p
abbrev REL_P_POS (p : Nat) : Nat := 0x140114 + 64 * p
abbrev REL_P_STAT (p : Nat) : Nat := 0x140118 + 64 * p
abbrev REL_P_ACC (p : Nat) : Nat := 0x14011C + 64 * p
abbrev REL_P_LATE (p : Nat) : Nat := 0x140120 + 64 * p
abbrev EVT_BLK_ID : Nat := 0x360000
abbrev EVT_STAT (w : Nat) : Nat := 0x360010 + 4 * w
abbrev EVT_MASK (w : Nat) : Nat := 0x360040 + 4 * w
abbrev EVT_PEND_LO : Nat := 0x360080
abbrev EVT_PEND_HI : Nat := 0x360084
abbrev EVT_LAST : Nat := 0x360090
abbrev EVT_VEC_CTL (v : Nat) : Nat := 0x360100 + 4 * v
abbrev EVT_ROUTE (n : Nat) : Nat := 0x360400 + 4 * n
abbrev PAR_BLK_ID : Nat := 0x340000
abbrev PAR_STATUS : Nat := 0x340004
abbrev PAR_CFG : Nat := 0x340008
abbrev PAR_TMO : Nat := 0x34000C
abbrev PAR_CMD : Nat := 0x340010
abbrev PAR_PGEN : Nat := 0x340014
abbrev PAR_DIGEST : Nat := 0x340018
abbrev PAR_PDIGEST : Nat := 0x34001C
abbrev PAR_SNAP : Nat := 0x340020
abbrev PAR_SNAP_TIME : Nat := 0x340024
abbrev PAR_MIRROR : Nat := 0x340028
abbrev PAR_RSYNC_MS : Nat := 0x34002C
abbrev PAR_LAST : Nat := 0x340030
abbrev PAR_MIRROR_DROP : Nat := 0x340040
abbrev PAR_TAKEOVERS : Nat := 0x340044
abbrev PAR_LOSS : Nat := 0x340048
abbrev PAR_RSYNC_FAIL : Nat := 0x34004C
abbrev PAR_RESEND : Nat := 0x340050
abbrev PAR_REFUSED : Nat := 0x340054
abbrev MGT_GSE_STAT : Nat := 0x40800
abbrev MGT_GSE_EN : Nat := 0x40804
abbrev MGT_GSE_LIM0 : Nat := 0x40808
abbrev MGT_GSE_LIM1 : Nat := 0x4080C
abbrev MGT_GSE_CHG : Nat := 0x40810
abbrev MGT_BLK_ID : Nat := 0x40000
abbrev MGT_STATUS : Nat := 0x40004
abbrev MGT_KEYS : Nat := 0x40008
abbrev MGT_CONF_CTL : Nat := 0x4000C
abbrev MGT_CORE_VER (c : Nat) : Nat := 0x40010 + 4 * c
abbrev MGT_CORE_SVN (c : Nat) : Nat := 0x40020 + 4 * c
abbrev MGT_CORE_IFACE (c : Nat) : Nat := 0x40030 + 4 * c
abbrev MGT_WD_CTL (c : Nat) : Nat := 0x40040 + 4 * c
abbrev MGT_WD_CNT (c : Nat) : Nat := 0x40050 + 4 * c
abbrev MGT_MB_STAT (c : Nat) : Nat := 0x40060 + 4 * c
abbrev MGT_MB_OVF (c : Nat) : Nat := 0x40070 + 4 * c
abbrev MGT_SESS : Nat := 0x40080
abbrev MGT_SESS_STAT : Nat := 0x40084
abbrev MGT_SESS_BYTES : Nat := 0x40088
abbrev MGT_SESS_CNT : Nat := 0x4008C
abbrev MGT_BUSY_CNT : Nat := 0x40090
abbrev MGT_MW_SEND (p : Nat) : Nat := 0x40100 + 16 * p
abbrev MGT_MW_STAT (p : Nat) : Nat := 0x40104 + 16 * p
abbrev MGT_MW_RACK (p : Nat) : Nat := 0x40108 + 16 * p
abbrev MGT_MW_BUF (p : Nat) (w : Nat) : Nat := 0x41000 + 4096 * p + 4 * w
abbrev MGT_MW_RBUF (p : Nat) (w : Nat) : Nat := 0x41800 + 4096 * p + 4 * w
abbrev HCH_BLK_ID : Nat := 0x3F0000
abbrev HCH_CTL : Nat := 0x3F0004
abbrev HCH_STAT : Nat := 0x3F0008
abbrev HCH_UERR : Nat := 0x3F000C
abbrev RPS_BLK_ID : Nat := 0x10000
abbrev RPS_CAUSE : Nat := 0x10004
abbrev RPS_LAST : Nat := 0x10008
abbrev RPS_RST : Nat := 0x1000C
abbrev RPS_CHRST : Nat := 0x10010
abbrev RPS_BOOT : Nat := 0x10014
abbrev RPS_PWR_REQ : Nat := 0x10018
abbrev RPS_PWR_NS : Nat := 0x1001C
abbrev RPS_PWR_SL : Nat := 0x10020
abbrev RPS_PWR_SH : Nat := 0x10024
abbrev RPS_PWR_STAT : Nat := 0x10028
abbrev RPS_WAKE : Nat := 0x1002C
abbrev RPS_WAKE_STAT : Nat := 0x10030
abbrev RPS_TONE_CTL : Nat := 0x10034
abbrev RPS_TONE_GO : Nat := 0x10038
abbrev RPS_DOZE : Nat := 0x1003C
abbrev RPS_AON : Nat := 0x10040
abbrev RPS_GLITCH : Nat := 0x10044
abbrev RPS_DEFER : Nat := 0x10048
abbrev RPS_MERGE : Nat := 0x1004C
abbrev THM_BLK_ID : Nat := 0x20000
abbrev THM_STATUS : Nat := 0x20004
abbrev THM_LIMD : Nat := 0x20008
abbrev THM_LIMB : Nat := 0x2000C
abbrev THM_STG : Nat := 0x20010
abbrev THM_SCAP : Nat := 0x20014
abbrev THM_SCAPREQ : Nat := 0x20018
abbrev THM_MASK : Nat := 0x2001C
abbrev THM_MASK_SET : Nat := 0x20020
abbrev THM_FAIL : Nat := 0x20024
abbrev THM_SDREC : Nat := 0x20028
abbrev THM_HOT : Nat := 0x2002C
abbrev THM_MREF : Nat := 0x20030
abbrev THM_Z (z : Nat) : Nat := 0x20040 + 4 * z
abbrev THM_D (d : Nat) : Nat := 0x20080 + 4 * d
abbrev THM_B_ID (b : Nat) : Nat := 0x20100 + 8 * b
abbrev THM_B_CFG (b : Nat) : Nat := 0x20104 + 8 * b
abbrev THM_B (b : Nat) : Nat := 0x20200 + 4 * b
abbrev NVS_BLK_ID : Nat := 0x30000
abbrev NVS_STATUS : Nat := 0x30004
abbrev NVS_SEQ : Nat := 0x30008
abbrev NVS_RESTARTS : Nat := 0x3000C
abbrev NVS_WCNT : Nat := 0x30010
abbrev NVS_OPT (n : Nat) : Nat := 0x30020 + 4 * n
abbrev NVS_OPTW (n : Nat) : Nat := 0x30040 + 4 * n
abbrev NVS_WCMD : Nat := 0x30060
abbrev NVS_WSTAT : Nat := 0x30064
abbrev NVS_WIN_ADDR : Nat := 0x30068
abbrev NVS_WIN_DATA : Nat := 0x3006C
abbrev NVS_RD_ADDR : Nat := 0x30070
abbrev NVS_RD_DATA : Nat := 0x30074
abbrev NVS_CALMARK : Nat := 0x30080
abbrev NVS_CALREJ : Nat := 0x30084
abbrev NVS_CALREC_CNT (k : Nat) : Nat := 0x30100 + 16 * k
abbrev NVS_CALREC_NS (k : Nat) : Nat := 0x30104 + 16 * k
abbrev NVS_CALREC_SL (k : Nat) : Nat := 0x30108 + 16 * k
abbrev NVS_CALREC_SH (k : Nat) : Nat := 0x3010C + 16 * k

end R

namespace F

abbrev SYS_BLK_ID_BLOCK : Fld := ⟨R.SYS_BLK_ID, 0, 16⟩
abbrev SYS_BLK_ID_REV : Fld := ⟨R.SYS_BLK_ID, 16, 8⟩
abbrev SYS_ID_PART : Fld := ⟨R.SYS_ID, 0, 16⟩
abbrev SYS_ID_STEP : Fld := ⟨R.SYS_ID, 16, 8⟩
abbrev SYS_CAPS_HOST : Fld := ⟨R.SYS_CAPS, 0, 1⟩
abbrev SYS_CAPS_REEL : Fld := ⟨R.SYS_CAPS, 1, 1⟩
abbrev SYS_CAPS_PAIR : Fld := ⟨R.SYS_CAPS, 2, 1⟩
abbrev SYS_CAPS_ETH : Fld := ⟨R.SYS_CAPS, 3, 1⟩
abbrev SYS_CAPS_SENDER : Fld := ⟨R.SYS_CAPS, 4, 1⟩
abbrev SYS_CAPS_CHAIN : Fld := ⟨R.SYS_CAPS, 8, 8⟩
abbrev SYS_CAPS_DRAM : Fld := ⟨R.SYS_CAPS, 16, 4⟩
abbrev SYS_ROLE_ROLE : Fld := ⟨R.SYS_ROLE, 0, 2⟩
abbrev SYS_UNITID_UNITID (i : Nat) : Fld := ⟨R.SYS_UNITID i, 0, 32⟩
abbrev SYS_IMG_ACT_SLOT : Fld := ⟨R.SYS_IMG_ACT, 0, 1⟩
abbrev SYS_IMG_ACT_FALLBACK : Fld := ⟨R.SYS_IMG_ACT, 1, 1⟩
abbrev SYS_IMG_SEL_SLOT : Fld := ⟨R.SYS_IMG_SEL, 0, 1⟩
abbrev SYS_IMG_STAT_STATE (i : Nat) : Fld := ⟨R.SYS_IMG_STAT i, 0, 3⟩
abbrev SYS_IMG_STAT_FAIL (i : Nat) : Fld := ⟨R.SYS_IMG_STAT i, 4, 4⟩
abbrev SYS_IMG_STAT_SECT (i : Nat) : Fld := ⟨R.SYS_IMG_STAT i, 8, 8⟩
abbrev SYS_IMG_STAT_IMG_ROLE (i : Nat) : Fld := ⟨R.SYS_IMG_STAT i, 16, 2⟩
abbrev SYS_IMG_ID_IMAGE_ID : Fld := ⟨R.SYS_IMG_ID, 0, 32⟩
abbrev SYS_IMG_TOOL_TOOL_VER : Fld := ⟨R.SYS_IMG_TOOL, 0, 32⟩
abbrev SYS_IMG_HASH_HASH (i : Nat) : Fld := ⟨R.SYS_IMG_HASH i, 0, 32⟩
abbrev SYS_UNITEN_OPT : Fld := ⟨R.SYS_UNITEN, 0, 4⟩
abbrev SYS_UNITEN_DRAM : Fld := ⟨R.SYS_UNITEN, 4, 4⟩
abbrev SYS_UNITEN_CHAIN : Fld := ⟨R.SYS_UNITEN, 8, 8⟩
abbrev SYS_UNITEN_LANE : Fld := ⟨R.SYS_UNITEN, 16, 2⟩
abbrev SYS_UNITEN_PAIRR : Fld := ⟨R.SYS_UNITEN, 18, 2⟩
abbrev SYS_UNITEN_BUSES : Fld := ⟨R.SYS_UNITEN, 20, 7⟩
abbrev SYS_IMG_CHECK_SLOT : Fld := ⟨R.SYS_IMG_CHECK, 0, 1⟩
abbrev FAB_BLK_ID_BLOCK : Fld := ⟨R.FAB_BLK_ID, 0, 16⟩
abbrev FAB_BLK_ID_REV : Fld := ⟨R.FAB_BLK_ID, 16, 8⟩
abbrev FAB_TRACKS_ACTIVE : Fld := ⟨R.FAB_TRACKS, 0, 16⟩
abbrev FAB_STATUS_PSTATE : Fld := ⟨R.FAB_STATUS, 0, 2⟩
abbrev FAB_STATUS_AVS_OK : Fld := ⟨R.FAB_STATUS, 2, 1⟩
abbrev FAB_STATUS_AT_MAX : Fld := ⟨R.FAB_STATUS, 3, 1⟩
abbrev FAB_STATUS_THROTTLED : Fld := ⟨R.FAB_STATUS, 4, 1⟩
abbrev FAB_STATUS_RES_HIGH : Fld := ⟨R.FAB_STATUS, 5, 1⟩
abbrev FAB_STAGE_CODE (i : Nat) : Fld := ⟨R.FAB_STAGE i, 0, 32⟩
abbrev FAB_PLAN_MARGIN : Fld := ⟨R.FAB_PLAN, 0, 10⟩
abbrev FAB_AVS_LIM_VMIN : Fld := ⟨R.FAB_AVS_LIM, 0, 10⟩
abbrev FAB_AVS_LIM_VMAX : Fld := ⟨R.FAB_AVS_LIM, 16, 10⟩
abbrev FAB_PLAN_CTL_HOLD : Fld := ⟨R.FAB_PLAN_CTL, 0, 1⟩
abbrev FAB_AVS_CFG_RAIL : Fld := ⟨R.FAB_AVS_CFG, 0, 4⟩
abbrev FAB_VCORE_TARGET : Fld := ⟨R.FAB_VCORE, 0, 10⟩
abbrev FAB_VCORE_READ : Fld := ⟨R.FAB_VCORE, 16, 10⟩
abbrev FAB_AVS_STAT_STATUS : Fld := ⟨R.FAB_AVS_STAT, 0, 16⟩
abbrev FAB_AVS_STAT_FAILS : Fld := ⟨R.FAB_AVS_STAT, 16, 8⟩
abbrev FAB_BUDGET_BUDGET : Fld := ⟨R.FAB_BUDGET, 0, 20⟩
abbrev FAB_SLACK_LAST : Fld := ⟨R.FAB_SLACK, 0, 16⟩
abbrev FAB_SLACK_WMIN : Fld := ⟨R.FAB_SLACK, 16, 16⟩
abbrev FAB_FLOOR_FLOOR : Fld := ⟨R.FAB_FLOOR, 0, 16⟩
abbrev FAB_RATE_SLOWEST : Fld := ⟨R.FAB_RATE, 0, 16⟩
abbrev FAB_AGE_INDEX : Fld := ⟨R.FAB_AGE, 0, 16⟩
abbrev FAB_AGE_TRACK : Fld := ⟨R.FAB_AGE, 16, 4⟩
abbrev FAB_THR_REQ : Fld := ⟨R.FAB_THR, 0, 6⟩
abbrev FAB_THR_APPLIED : Fld := ⟨R.FAB_THR, 8, 6⟩
abbrev FAB_THR_LIMIT : Fld := ⟨R.FAB_THR, 16, 6⟩
abbrev FAB_RES_THR_LIMIT : Fld := ⟨R.FAB_RES_THR, 0, 16⟩
abbrev FAB_RING_BAD_BAD : Fld := ⟨R.FAB_RING_BAD, 0, 16⟩
abbrev FAB_RING_COUNT (i : Nat) : Fld := ⟨R.FAB_RING i, 0, 16⟩
abbrev FAB_RING_EXPECT (i : Nat) : Fld := ⟨R.FAB_RING i, 16, 16⟩
abbrev FAB_RES_CNT_COUNT : Fld := ⟨R.FAB_RES_CNT, 0, 32⟩
abbrev FAB_RES_CNT_H_COUNT : Fld := ⟨R.FAB_RES_CNT_H, 0, 16⟩
abbrev FAB_RETRY_OK_COUNT : Fld := ⟨R.FAB_RETRY_OK, 0, 32⟩
abbrev FAB_SUSPECT_COUNT : Fld := ⟨R.FAB_SUSPECT, 0, 32⟩
abbrev FAB_LATE_COUNT : Fld := ⟨R.FAB_LATE, 0, 32⟩
abbrev FAB_SRAM_CE_COUNT : Fld := ⟨R.FAB_SRAM_CE, 0, 32⟩
abbrev FAB_SRAM_DE_COUNT : Fld := ⟨R.FAB_SRAM_DE, 0, 32⟩
abbrev FAB_TRK_RES_COUNT (i : Nat) : Fld := ⟨R.FAB_TRK_RES i, 0, 32⟩
abbrev FAB_LAST_ERR_CELL : Fld := ⟨R.FAB_LAST_ERR, 0, 10⟩
abbrev FAB_LAST_ERR_RUN : Fld := ⟨R.FAB_LAST_ERR, 10, 10⟩
abbrev FAB_LAST_ERR_SUSPECT : Fld := ⟨R.FAB_LAST_ERR, 20, 1⟩
abbrev FAB_LAST_FRM_FRAME : Fld := ⟨R.FAB_LAST_FRM, 0, 24⟩
abbrev FAB_LAST_FRM_SLOT : Fld := ⟨R.FAB_LAST_FRM, 24, 3⟩
abbrev FAB_CPR_ADDR_CELL : Fld := ⟨R.FAB_CPR_ADDR, 0, 10⟩
abbrev FAB_CPR_ADDR_WORD : Fld := ⟨R.FAB_CPR_ADDR, 10, 12⟩
abbrev FAB_CPR_ADDR_SPACE : Fld := ⟨R.FAB_CPR_ADDR, 24, 1⟩
abbrev FAB_CPR_ADDR_BUSY : Fld := ⟨R.FAB_CPR_ADDR, 31, 1⟩
abbrev FAB_CPR_DATA0_DATA : Fld := ⟨R.FAB_CPR_DATA0, 0, 32⟩
abbrev FAB_CPR_DATA1_DATA : Fld := ⟨R.FAB_CPR_DATA1, 0, 16⟩
abbrev SND_BLK_ID_BLOCK : Fld := ⟨R.SND_BLK_ID, 0, 16⟩
abbrev SND_BLK_ID_REV : Fld := ⟨R.SND_BLK_ID, 16, 8⟩
abbrev SND_STATUS_RUN : Fld := ⟨R.SND_STATUS, 0, 1⟩
abbrev SND_STATUS_CAPTURE : Fld := ⟨R.SND_STATUS, 1, 1⟩
abbrev SND_CTL_WCD : Fld := ⟨R.SND_CTL, 0, 1⟩
abbrev SND_CANVAS_ENC : Fld := ⟨R.SND_CANVAS, 0, 2⟩
abbrev SND_CANVAS_SIZE_WM1 : Fld := ⟨R.SND_CANVAS_SIZE, 0, 16⟩
abbrev SND_CANVAS_SIZE_HM1 : Fld := ⟨R.SND_CANVAS_SIZE, 16, 16⟩
abbrev SND_PLC_BASE_LO_BASE : Fld := ⟨R.SND_PLC_BASE_LO, 0, 32⟩
abbrev SND_PLC_BASE_HI_BASE : Fld := ⟨R.SND_PLC_BASE_HI, 0, 8⟩
abbrev SND_PLC_COUNT_COUNT : Fld := ⟨R.SND_PLC_COUNT, 0, 10⟩
abbrev SND_ANN_BASE_LO_BASE : Fld := ⟨R.SND_ANN_BASE_LO, 0, 32⟩
abbrev SND_ANN_BASE_HI_BASE : Fld := ⟨R.SND_ANN_BASE_HI, 0, 8⟩
abbrev SND_ANN_STRIDE_STRIDE : Fld := ⟨R.SND_ANN_STRIDE, 0, 24⟩
abbrev SND_ANN_SLOTS_SLOTS : Fld := ⟨R.SND_ANN_SLOTS, 0, 8⟩
abbrev SND_LOAD0_CANVAS : Fld := ⟨R.SND_LOAD0, 0, 16⟩
abbrev SND_LOAD0_INGEST_P : Fld := ⟨R.SND_LOAD0, 16, 16⟩
abbrev SND_LOAD1_INGEST_B : Fld := ⟨R.SND_LOAD1, 0, 16⟩
abbrev SND_CHLOAD_LOADA (i : Nat) : Fld := ⟨R.SND_CHLOAD i, 0, 10⟩
abbrev SND_CHLOAD_LOADB (i : Nat) : Fld := ⟨R.SND_CHLOAD i, 16, 10⟩
abbrev SND_SEG_SENT_COUNT : Fld := ⟨R.SND_SEG_SENT, 0, 32⟩
abbrev SND_SEG_SENT_H_COUNT : Fld := ⟨R.SND_SEG_SENT_H, 0, 16⟩
abbrev SND_SEG_DROP_COUNT : Fld := ⟨R.SND_SEG_DROP, 0, 32⟩
abbrev SND_SEG_ABANDON_COUNT : Fld := ⟨R.SND_SEG_ABANDON, 0, 32⟩
abbrev SND_SEG_SUSPECT_COUNT : Fld := ⟨R.SND_SEG_SUSPECT, 0, 32⟩
abbrev SND_DRAM_ERR_COUNT : Fld := ⟨R.SND_DRAM_ERR, 0, 32⟩
abbrev SND_LAST_DROP_PORT : Fld := ⟨R.SND_LAST_DROP, 0, 3⟩
abbrev SND_LAST_DROP_ADDR : Fld := ⟨R.SND_LAST_DROP, 4, 7⟩
abbrev SND_LAST_DROP_SLOT : Fld := ⟨R.SND_LAST_DROP, 12, 3⟩
abbrev SND_SLOT_BG_LO_BG (s : Nat) : Fld := ⟨R.SND_SLOT_BG_LO s, 0, 32⟩
abbrev SND_SLOT_BG_HI_BG (s : Nat) : Fld := ⟨R.SND_SLOT_BG_HI s, 0, 10⟩
abbrev SND_WCD_SEL_REGION : Fld := ⟨R.SND_WCD_SEL, 0, 8⟩
abbrev SND_WCD_VAL_DERATE : Fld := ⟨R.SND_WCD_VAL, 0, 16⟩
abbrev SND_WCD_VAL_TILES : Fld := ⟨R.SND_WCD_VAL, 16, 10⟩
abbrev SND_OFIFO_CTL_STEP (p : Nat) : Fld := ⟨R.SND_OFIFO_CTL p, 0, 3⟩
abbrev SND_OFIFO_STAT_LEVEL (p : Nat) : Fld := ⟨R.SND_OFIFO_STAT p, 0, 20⟩
abbrev SND_OFIFO_SIZE_SIZE (p : Nat) : Fld := ⟨R.SND_OFIFO_SIZE p, 0, 16⟩
abbrev SND_OFIFO_UNDER_COUNT (p : Nat) : Fld := ⟨R.SND_OFIFO_UNDER p, 0, 32⟩
abbrev SND_SRC_CTL_EN (n : Nat) : Fld := ⟨R.SND_SRC_CTL n, 0, 1⟩
abbrev SND_SRC_CTL_ORIGIN (n : Nat) : Fld := ⟨R.SND_SRC_CTL n, 1, 1⟩
abbrev SND_SRC_CTL_FMT (n : Nat) : Fld := ⟨R.SND_SRC_CTL n, 2, 3⟩
abbrev SND_SRC_CTL_ENC (n : Nat) : Fld := ⟨R.SND_SRC_CTL n, 5, 2⟩
abbrev SND_SRC_SIZE_WM1 (n : Nat) : Fld := ⟨R.SND_SRC_SIZE n, 0, 14⟩
abbrev SND_SRC_SIZE_HM1 (n : Nat) : Fld := ⟨R.SND_SRC_SIZE n, 16, 14⟩
abbrev SND_SRC_STRIDE_STRIDE (n : Nat) : Fld := ⟨R.SND_SRC_STRIDE n, 0, 24⟩
abbrev SND_SRC_RATE_RATE (n : Nat) : Fld := ⟨R.SND_SRC_RATE n, 0, 18⟩
abbrev SND_SRC_CUR_LO_ADDR (n : Nat) : Fld := ⟨R.SND_SRC_CUR_LO n, 0, 32⟩
abbrev SND_SRC_CUR_HI_ADDR (n : Nat) : Fld := ⟨R.SND_SRC_CUR_HI n, 0, 8⟩
abbrev SND_SRC_TAG_TAG (n : Nat) : Fld := ⟨R.SND_SRC_TAG n, 0, 32⟩
abbrev SND_SRC_REPEAT_COUNT (n : Nat) : Fld := ⟨R.SND_SRC_REPEAT n, 0, 32⟩
abbrev SND_LYR_CTL_EN (s : Nat) (l : Nat) : Fld := ⟨R.SND_LYR_CTL s l, 0, 1⟩
abbrev SND_LYR_CTL_SRC (s : Nat) (l : Nat) : Fld := ⟨R.SND_LYR_CTL s l, 1, 3⟩
abbrev SND_LYR_CTL_HBANK (s : Nat) (l : Nat) : Fld := ⟨R.SND_LYR_CTL s l, 4, 2⟩
abbrev SND_LYR_CTL_VBANK (s : Nat) (l : Nat) : Fld := ⟨R.SND_LYR_CTL s l, 6, 2⟩
abbrev SND_LYR_SRCPOS_SX0 (s : Nat) (l : Nat) : Fld := ⟨R.SND_LYR_SRCPOS s l, 0, 14⟩
abbrev SND_LYR_SRCPOS_SY0 (s : Nat) (l : Nat) : Fld := ⟨R.SND_LYR_SRCPOS s l, 16, 14⟩
abbrev SND_LYR_SRCSIZE_SWM1 (s : Nat) (l : Nat) : Fld := ⟨R.SND_LYR_SRCSIZE s l, 0, 14⟩
abbrev SND_LYR_SRCSIZE_SHM1 (s : Nat) (l : Nat) : Fld := ⟨R.SND_LYR_SRCSIZE s l, 16, 14⟩
abbrev SND_LYR_CANPOS_CX0 (s : Nat) (l : Nat) : Fld := ⟨R.SND_LYR_CANPOS s l, 0, 16⟩
abbrev SND_LYR_CANPOS_CY0 (s : Nat) (l : Nat) : Fld := ⟨R.SND_LYR_CANPOS s l, 16, 16⟩
abbrev SND_LYR_CANSIZE_CWM1 (s : Nat) (l : Nat) : Fld := ⟨R.SND_LYR_CANSIZE s l, 0, 16⟩
abbrev SND_LYR_CANSIZE_CHM1 (s : Nat) (l : Nat) : Fld := ⟨R.SND_LYR_CANSIZE s l, 16, 16⟩
abbrev SND_LYR_KX_KX (s : Nat) (l : Nat) : Fld := ⟨R.SND_LYR_KX s l, 0, 19⟩
abbrev SND_LYR_KY_KY (s : Nat) (l : Nat) : Fld := ⟨R.SND_LYR_KY s l, 0, 19⟩
abbrev SND_PAL_LO_COLOUR (k : Nat) : Fld := ⟨R.SND_PAL_LO k, 0, 32⟩
abbrev SND_PAL_HI_COLOUR (k : Nat) : Fld := ⟨R.SND_PAL_HI k, 0, 10⟩
abbrev SND_PAL_HI_A (k : Nat) : Fld := ⟨R.SND_PAL_HI k, 16, 8⟩
abbrev SND_FILT_TAPE (b : Nat) (ph : Nat) (m : Nat) : Fld := ⟨R.SND_FILT b ph m, 0, 16⟩
abbrev SND_FILT_TAPO (b : Nat) (ph : Nat) (m : Nat) : Fld := ⟨R.SND_FILT b ph m, 16, 16⟩
abbrev COR_BLK_ID_BLOCK : Fld := ⟨R.COR_BLK_ID, 0, 16⟩
abbrev COR_BLK_ID_REV : Fld := ⟨R.COR_BLK_ID, 16, 8⟩
abbrev COR_STATUS_RUN : Fld := ⟨R.COR_STATUS, 0, 1⟩
abbrev COR_STATUS_LOADING : Fld := ⟨R.COR_STATUS, 1, 1⟩
abbrev COR_STATUS_TABLES_OK : Fld := ⟨R.COR_STATUS, 2, 1⟩
abbrev COR_STATUS_SET : Fld := ⟨R.COR_STATUS, 3, 1⟩
abbrev COR_STATUS_SWEEP : Fld := ⟨R.COR_STATUS, 4, 1⟩
abbrev COR_STATUS_CKPT : Fld := ⟨R.COR_STATUS, 5, 1⟩
abbrev COR_CTL_ENC : Fld := ⟨R.COR_CTL, 0, 2⟩
abbrev COR_CTL_DOSE_EN : Fld := ⟨R.COR_CTL, 2, 1⟩
abbrev COR_PWM_WIDTH : Fld := ⟨R.COR_PWM, 0, 5⟩
abbrev COR_PWM_DMODE : Fld := ⟨R.COR_PWM, 8, 2⟩
abbrev COR_GWY_BASE0_BASE : Fld := ⟨R.COR_GWY_BASE0, 0, 32⟩
abbrev COR_GWY_BASE1_BASE : Fld := ⟨R.COR_GWY_BASE1, 0, 32⟩
abbrev COR_GWY_SEL_SET : Fld := ⟨R.COR_GWY_SEL, 0, 1⟩
abbrev COR_GWY_SEL_ALT_EN : Fld := ⟨R.COR_GWY_SEL, 1, 1⟩
abbrev COR_GWY_ID_TABLE_ID : Fld := ⟨R.COR_GWY_ID, 0, 32⟩
abbrev COR_GWY_CALTIME_CALTIME (i : Nat) : Fld := ⟨R.COR_GWY_CALTIME i, 0, 32⟩
abbrev COR_LOAD_STAT_RESULT : Fld := ⟨R.COR_LOAD_STAT, 0, 4⟩
abbrev COR_LOAD_STAT_UID_MISM : Fld := ⟨R.COR_LOAD_STAT, 4, 1⟩
abbrev COR_LOAD_STAT_ALT_USED : Fld := ⟨R.COR_LOAD_STAT, 5, 1⟩
abbrev COR_LOAD_STAT_FIRSTBAD : Fld := ⟨R.COR_LOAD_STAT, 16, 12⟩
abbrev COR_LOAD_BAD_COUNT : Fld := ⟨R.COR_LOAD_BAD, 0, 32⟩
abbrev COR_LOAD_TIME_MS : Fld := ⟨R.COR_LOAD_TIME, 0, 16⟩
abbrev COR_XSPI_CFG_DUMMY : Fld := ⟨R.COR_XSPI_CFG, 0, 5⟩
abbrev COR_XSPI_CFG_CLK : Fld := ⟨R.COR_XSPI_CFG, 5, 2⟩
abbrev COR_XSPI_CFG_SIZE : Fld := ⟨R.COR_XSPI_CFG, 8, 3⟩
abbrev COR_SLOT_CTL_MBANK (s : Nat) : Fld := ⟨R.COR_SLOT_CTL s, 0, 2⟩
abbrev COR_SLOT_CTL_BRIGHT (s : Nat) : Fld := ⟨R.COR_SLOT_CTL s, 16, 15⟩
abbrev COR_DERATE_DRL : Fld := ⟨R.COR_DERATE, 0, 15⟩
abbrev COR_DERATE_DRR : Fld := ⟨R.COR_DERATE, 16, 15⟩
abbrev COR_RAMP_RAMP : Fld := ⟨R.COR_RAMP, 0, 15⟩
abbrev COR_DOSE_CTL_DECIMM1 : Fld := ⟨R.COR_DOSE_CTL, 0, 4⟩
abbrev COR_DOSE_CTL_CPER : Fld := ⟨R.COR_DOSE_CTL, 8, 8⟩
abbrev COR_DOSE_CTL_IREF : Fld := ⟨R.COR_DOSE_CTL, 16, 16⟩
abbrev COR_DOSE_K_KQ : Fld := ⟨R.COR_DOSE_K, 0, 24⟩
abbrev COR_DOSE_K_SHIFT : Fld := ⟨R.COR_DOSE_K, 24, 6⟩
abbrev COR_DOSE_CMAX_CMAX : Fld := ⟨R.COR_DOSE_CMAX, 0, 15⟩
abbrev COR_DOSE_TDEF_TDEF : Fld := ⟨R.COR_DOSE_TDEF, 0, 11⟩
abbrev COR_TSEL_SENSOR (i : Nat) : Fld := ⟨R.COR_TSEL i, 0, 32⟩
abbrev COR_SCALE_SCALE (c : Nat) : Fld := ⟨R.COR_SCALE c, 0, 15⟩
abbrev COR_AVG_MEAN (c : Nat) : Fld := ⟨R.COR_AVG c, 0, 24⟩
abbrev COR_DOSE_BASE_LO_BASE : Fld := ⟨R.COR_DOSE_BASE_LO, 0, 32⟩
abbrev COR_DOSE_BASE_HI_BASE : Fld := ⟨R.COR_DOSE_BASE_HI, 0, 8⟩
abbrev COR_CPL_BASE_LO_BASE : Fld := ⟨R.COR_CPL_BASE_LO, 0, 32⟩
abbrev COR_CPL_BASE_HI_BASE : Fld := ⟨R.COR_CPL_BASE_HI, 0, 8⟩
abbrev COR_DOSE_STAT_LOST : Fld := ⟨R.COR_DOSE_STAT, 0, 7⟩
abbrev COR_DOSE_STAT_RESTORED : Fld := ⟨R.COR_DOSE_STAT, 7, 1⟩
abbrev COR_DOSE_STAT_SKIPPED : Fld := ⟨R.COR_DOSE_STAT, 8, 8⟩
abbrev COR_DOSE_STAT_WARM : Fld := ⟨R.COR_DOSE_STAT, 16, 1⟩
abbrev COR_CKPT_SEQ_SEQ : Fld := ⟨R.COR_CKPT_SEQ, 0, 32⟩
abbrev COR_CKPT_TIME_SEC : Fld := ⟨R.COR_CKPT_TIME, 0, 32⟩
abbrev COR_TBL_ADDR_OFFSET : Fld := ⟨R.COR_TBL_ADDR, 0, 25⟩
abbrev COR_TBL_ADDR_SPACE : Fld := ⟨R.COR_TBL_ADDR, 30, 1⟩
abbrev COR_TBL_ADDR_BUSY : Fld := ⟨R.COR_TBL_ADDR, 31, 1⟩
abbrev COR_TBL_DATA_DATA : Fld := ⟨R.COR_TBL_DATA, 0, 32⟩
abbrev COR_DOSE_LAMP_LAMP : Fld := ⟨R.COR_DOSE_LAMP, 0, 22⟩
abbrev COR_DOSE_LAMP_BUSY : Fld := ⟨R.COR_DOSE_LAMP, 31, 1⟩
abbrev COR_DOSE_VAL_LO_DOSE : Fld := ⟨R.COR_DOSE_VAL_LO, 0, 32⟩
abbrev COR_DOSE_VAL_HI_DOSE : Fld := ⟨R.COR_DOSE_VAL_HI, 0, 32⟩
abbrev COR_DOSE_CPL_CPL : Fld := ⟨R.COR_DOSE_CPL, 0, 15⟩
abbrev DRV_BLK_ID_BLOCK : Fld := ⟨R.DRV_BLK_ID, 0, 16⟩
abbrev DRV_BLK_ID_REV : Fld := ⟨R.DRV_BLK_ID, 16, 8⟩
abbrev DRV_STATUS_RUN : Fld := ⟨R.DRV_STATUS, 0, 1⟩
abbrev DRV_STATUS_HBLANK : Fld := ⟨R.DRV_STATUS, 1, 1⟩
abbrev DRV_STATUS_BUSFAULT : Fld := ⟨R.DRV_STATUS, 2, 1⟩
abbrev DRV_CTL_BLANK : Fld := ⟨R.DRV_CTL, 0, 1⟩
abbrev DRV_CTL_DIAG_EN : Fld := ⟨R.DRV_CTL, 1, 1⟩
abbrev DRV_CTL_AUTOMASK : Fld := ⟨R.DRV_CTL, 2, 1⟩
abbrev DRV_SCAN_NM1 : Fld := ⟨R.DRV_SCAN, 0, 5⟩
abbrev DRV_SCAN_PM1 : Fld := ⟨R.DRV_SCAN, 8, 4⟩
abbrev DRV_SCAN_TDIV : Fld := ⟨R.DRV_SCAN, 16, 10⟩
abbrev DRV_TIMING_DEAD : Fld := ⟨R.DRV_TIMING, 0, 12⟩
abbrev DRV_TIMING_TAIL : Fld := ⟨R.DRV_TIMING, 16, 12⟩
abbrev DRV_PWM_WIDTH : Fld := ⟨R.DRV_PWM, 0, 5⟩
abbrev DRV_PWM_IOUT : Fld := ⟨R.DRV_PWM, 8, 8⟩
abbrev DRV_DIAG_MINW : Fld := ⟨R.DRV_DIAG, 0, 11⟩
abbrev DRV_DIAG_OPEN_TH : Fld := ⟨R.DRV_DIAG, 16, 8⟩
abbrev DRV_DIAG_SHORT_TH : Fld := ⟨R.DRV_DIAG, 24, 8⟩
abbrev DRV_PROBE_PROBES : Fld := ⟨R.DRV_PROBE, 0, 13⟩
abbrev DRV_PROBE_PHASE : Fld := ⟨R.DRV_PROBE, 16, 8⟩
abbrev DRV_SYNCPH_PHASE : Fld := ⟨R.DRV_SYNCPH, 0, 12⟩
abbrev DRV_STATPER_FRAMES : Fld := ⟨R.DRV_STATPER, 0, 8⟩
abbrev DRV_SAFE_GREY : Fld := ⟨R.DRV_SAFE, 0, 6⟩
abbrev DRV_DERATE_KNEE : Fld := ⟨R.DRV_DERATE, 0, 12⟩
abbrev DRV_DERATE_SLOPE : Fld := ⟨R.DRV_DERATE, 16, 7⟩
abbrev DRV_DERATE_SLEW : Fld := ⟨R.DRV_DERATE, 24, 8⟩
abbrev DRV_DERATE_FL_FLOOR : Fld := ⟨R.DRV_DERATE_FL, 0, 15⟩
abbrev DRV_DERATE_SENS_MASK : Fld := ⟨R.DRV_DERATE_SENS, 0, 16⟩
abbrev DRV_DERATE_STAT_DRL : Fld := ⟨R.DRV_DERATE_STAT, 0, 15⟩
abbrev DRV_DERATE_STAT_NOSENS : Fld := ⟨R.DRV_DERATE_STAT, 15, 1⟩
abbrev DRV_DERATE_STAT_TARGET : Fld := ⟨R.DRV_DERATE_STAT, 16, 15⟩
abbrev DRV_DERATE_TEMP_T16 : Fld := ⟨R.DRV_DERATE_TEMP, 0, 16⟩
abbrev DRV_TROW_TROW : Fld := ⟨R.DRV_TROW, 0, 20⟩
abbrev DRV_TICK_MINWT : Fld := ⟨R.DRV_TICK, 0, 16⟩
abbrev DRV_BUSEN_LO_EN : Fld := ⟨R.DRV_BUSEN_LO, 0, 32⟩
abbrev DRV_BUSEN_HI_EN : Fld := ⟨R.DRV_BUSEN_HI, 0, 32⟩
abbrev DRV_BUSFLT_LO_FLT : Fld := ⟨R.DRV_BUSFLT_LO, 0, 32⟩
abbrev DRV_BUSFLT_HI_FLT : Fld := ⟨R.DRV_BUSFLT_HI, 0, 32⟩
abbrev DRV_LAMPS_OPEN_COUNT : Fld := ⟨R.DRV_LAMPS_OPEN, 0, 22⟩
abbrev DRV_LAMPS_SHORT_COUNT : Fld := ⟨R.DRV_LAMPS_SHORT, 0, 22⟩
abbrev DRV_LAMPS_UNVER_COUNT : Fld := ⟨R.DRV_LAMPS_UNVER, 0, 22⟩
abbrev DRV_PROBE_CNT_COUNT : Fld := ⟨R.DRV_PROBE_CNT, 0, 32⟩
abbrev DRV_ROW_MISS_COUNT : Fld := ⟨R.DRV_ROW_MISS, 0, 32⟩
abbrev DRV_DIAG_NOW_GO : Fld := ⟨R.DRV_DIAG_NOW, 0, 1⟩
abbrev DRV_MAP_BASE_LO_BASE : Fld := ⟨R.DRV_MAP_BASE_LO, 0, 32⟩
abbrev DRV_MAP_BASE_HI_BASE : Fld := ⟨R.DRV_MAP_BASE_HI, 0, 8⟩
abbrev DRV_DSTAT_SEL_BUS : Fld := ⟨R.DRV_DSTAT_SEL, 0, 6⟩
abbrev DRV_DSTAT_SEL_DRIVER : Fld := ⟨R.DRV_DSTAT_SEL, 8, 5⟩
abbrev DRV_DSTAT_SLOT (i : Nat) : Fld := ⟨R.DRV_DSTAT i, 0, 32⟩
abbrev DRV_BUS_STAT_STATE (n : Nat) : Fld := ⟨R.DRV_BUS_STAT n, 0, 3⟩
abbrev DRV_BUS_STAT_FOUND (n : Nat) : Fld := ⟨R.DRV_BUS_STAT n, 8, 6⟩
abbrev DRV_BUS_STAT_EXPECT (n : Nat) : Fld := ⟨R.DRV_BUS_STAT n, 16, 6⟩
abbrev DRV_BUS_STAT_RTPH (n : Nat) : Fld := ⟨R.DRV_BUS_STAT n, 24, 6⟩
abbrev DRV_BUS_CRC_COUNT (n : Nat) : Fld := ⟨R.DRV_BUS_CRC n, 0, 32⟩
abbrev DRV_BUS_RESEND_COUNT (n : Nat) : Fld := ⟨R.DRV_BUS_RESEND n, 0, 32⟩
abbrev DRV_BUS_READERR_COUNT (n : Nat) : Fld := ⟨R.DRV_BUS_READERR n, 0, 32⟩
abbrev LUX_BLK_ID_BLOCK : Fld := ⟨R.LUX_BLK_ID, 0, 16⟩
abbrev LUX_BLK_ID_REV : Fld := ⟨R.LUX_BLK_ID, 16, 8⟩
abbrev LUX_STATUS_WINDOW : Fld := ⟨R.LUX_STATUS, 0, 1⟩
abbrev LUX_STATUS_FROZEN : Fld := ⟨R.LUX_STATUS, 1, 1⟩
abbrev LUX_STATUS_OKMASK : Fld := ⟨R.LUX_STATUS, 2, 4⟩
abbrev LUX_CTL_LOOP_EN : Fld := ⟨R.LUX_CTL, 0, 1⟩
abbrev LUX_CTL_WIN_EN : Fld := ⟨R.LUX_CTL, 1, 1⟩
abbrev LUX_WIN_PH : Fld := ⟨R.LUX_WIN, 0, 4⟩
abbrev LUX_WIN_LPER : Fld := ⟨R.LUX_WIN, 4, 4⟩
abbrev LUX_WIN_REF : Fld := ⟨R.LUX_WIN, 8, 10⟩
abbrev LUX_SAMPLE_SPER : Fld := ⟨R.LUX_SAMPLE, 0, 16⟩
abbrev LUX_SAMPLE_SETTLE : Fld := ⟨R.LUX_SAMPLE, 16, 16⟩
abbrev LUX_LOOP_GAIN : Fld := ⟨R.LUX_LOOP, 0, 16⟩
abbrev LUX_LOOP_STEPMAX : Fld := ⟨R.LUX_LOOP, 16, 9⟩
abbrev LUX_LIMIT_SMIN : Fld := ⟨R.LUX_LIMIT, 0, 15⟩
abbrev LUX_LIMIT_SMAX : Fld := ⟨R.LUX_LIMIT, 16, 15⟩
abbrev LUX_CHECK0_DTOL : Fld := ⟨R.LUX_CHECK0, 0, 16⟩
abbrev LUX_CHECK0_SMINSIG : Fld := ⟨R.LUX_CHECK0, 16, 16⟩
abbrev LUX_CHECK1_DVAR : Fld := ⟨R.LUX_CHECK1, 0, 24⟩
abbrev LUX_CHECK1_LVK : Fld := ⟨R.LUX_CHECK1, 24, 4⟩
abbrev LUX_CHECK2_TWIN : Fld := ⟨R.LUX_CHECK2, 0, 8⟩
abbrev LUX_CHECK2_FREEZE : Fld := ⟨R.LUX_CHECK2, 8, 8⟩
abbrev LUX_CHECK2_CTMIN : Fld := ⟨R.LUX_CHECK2, 16, 16⟩
abbrev LUX_CAL_KIND : Fld := ⟨R.LUX_CAL, 0, 2⟩
abbrev LUX_CAL_GROUPS : Fld := ⟨R.LUX_CAL, 4, 4⟩
abbrev LUX_CAL_FRAMES : Fld := ⟨R.LUX_CAL, 8, 8⟩
abbrev LUX_CAL_STAT_BUSY : Fld := ⟨R.LUX_CAL_STAT, 0, 1⟩
abbrev LUX_CAL_STAT_CODE : Fld := ⟨R.LUX_CAL_STAT, 1, 4⟩
abbrev LUX_CAL_STAT_GROUP : Fld := ⟨R.LUX_CAL_STAT, 5, 2⟩
abbrev LUX_CAL_STAT_COMP : Fld := ⟨R.LUX_CAL_STAT, 7, 2⟩
abbrev LUX_WIN_CNT_COUNT : Fld := ⟨R.LUX_WIN_CNT, 0, 32⟩
abbrev LUX_WIN_REJ_COUNT : Fld := ⟨R.LUX_WIN_REJ, 0, 32⟩
abbrev LUX_MDOSE_SEL_GROUP : Fld := ⟨R.LUX_MDOSE_SEL, 0, 2⟩
abbrev LUX_MDOSE_SEL_COMP : Fld := ⟨R.LUX_MDOSE_SEL, 4, 2⟩
abbrev LUX_MDOSE_LO_DOSE : Fld := ⟨R.LUX_MDOSE_LO, 0, 32⟩
abbrev LUX_MDOSE_HI_DOSE : Fld := ⟨R.LUX_MDOSE_HI, 0, 32⟩
abbrev LUX_G_SNS_DADDR (g : Nat) : Fld := ⟨R.LUX_G_SNS g, 0, 7⟩
abbrev LUX_G_SNS_STATE (g : Nat) : Fld := ⟨R.LUX_G_SNS g, 7, 2⟩
abbrev LUX_G_DARK_DARK (g : Nat) (c : Nat) : Fld := ⟨R.LUX_G_DARK g c, 0, 24⟩
abbrev LUX_G_SREF_SREF (g : Nat) (c : Nat) : Fld := ⟨R.LUX_G_SREF g c, 0, 24⟩
abbrev LUX_G_REFT_TREF (g : Nat) : Fld := ⟨R.LUX_G_REFT g, 0, 16⟩
abbrev LUX_G_DREF_DREF (g : Nat) (c : Nat) : Fld := ⟨R.LUX_G_DREF g c, 0, 16⟩
abbrev LUX_G_MEAS_FM (g : Nat) (c : Nat) : Fld := ⟨R.LUX_G_MEAS g c, 0, 16⟩
abbrev LUX_G_MEAS_FP (g : Nat) (c : Nat) : Fld := ⟨R.LUX_G_MEAS g c, 16, 16⟩
abbrev LUX_G_STAT_LAST (g : Nat) : Fld := ⟨R.LUX_G_STAT g, 0, 4⟩
abbrev LUX_G_STAT_FAILS (g : Nat) : Fld := ⟨R.LUX_G_STAT g, 8, 8⟩
abbrev LAN_BLK_ID_BLOCK : Fld := ⟨R.LAN_BLK_ID, 0, 16⟩
abbrev LAN_BLK_ID_REV : Fld := ⟨R.LAN_BLK_ID, 16, 8⟩
abbrev LAN_CLK_REFSRC : Fld := ⟨R.LAN_CLK, 0, 2⟩
abbrev LAN_CLK_LOCK : Fld := ⟨R.LAN_CLK, 2, 1⟩
abbrev LAN_CLK_HOLD : Fld := ⟨R.LAN_CLK, 3, 1⟩
abbrev LAN_CLK_PROVR : Fld := ⟨R.LAN_CLK, 4, 1⟩
abbrev LAN_CLK_CTL_BW : Fld := ⟨R.LAN_CLK_CTL, 0, 2⟩
abbrev LAN_CLK_CTL_REVERT : Fld := ⟨R.LAN_CLK_CTL, 2, 1⟩
abbrev LAN_TX_SWING : Fld := ⟨R.LAN_TX, 0, 5⟩
abbrev LAN_TX_DEEMPH : Fld := ⟨R.LAN_TX, 8, 4⟩
abbrev LAN_CAL_PORTS : Fld := ⟨R.LAN_CAL, 0, 9⟩
abbrev LAN_CAL_STAT_BUSY : Fld := ⟨R.LAN_CAL_STAT, 0, 1⟩
abbrev LAN_CAL_STAT_CODE : Fld := ⟨R.LAN_CAL_STAT, 1, 4⟩
abbrev LAN_CAL_STAT_PORT : Fld := ⟨R.LAN_CAL_STAT, 5, 4⟩
abbrev LAN_CAL_STAT_LANE : Fld := ⟨R.LAN_CAL_STAT, 9, 2⟩
abbrev LAN_P_STAT_RXST (p : Nat) : Fld := ⟨R.LAN_P_STAT p, 0, 3⟩
abbrev LAN_P_STAT_CLKDET (p : Nat) : Fld := ⟨R.LAN_P_STAT p, 3, 1⟩
abbrev LAN_P_STAT_SKEW (p : Nat) : Fld := ⟨R.LAN_P_STAT p, 4, 8⟩
abbrev LAN_P_STAT_ORDER (p : Nat) : Fld := ⟨R.LAN_P_STAT p, 12, 8⟩
abbrev LAN_P_CTL_LOOP (p : Nat) : Fld := ⟨R.LAN_P_CTL p, 0, 2⟩
abbrev LAN_P_CTL_TPAT (p : Nat) : Fld := ⟨R.LAN_P_CTL p, 2, 1⟩
abbrev LAN_P_CTL_EIDLE (p : Nat) : Fld := ⟨R.LAN_P_CTL p, 3, 1⟩
abbrev LAN_P_CTL_TXON (p : Nat) : Fld := ⟨R.LAN_P_CTL p, 4, 1⟩
abbrev LAN_P_CTL_PROV (p : Nat) : Fld := ⟨R.LAN_P_CTL p, 5, 1⟩
abbrev LAN_P_EQMODE_MODE (p : Nat) : Fld := ⟨R.LAN_P_EQMODE p, 0, 2⟩
abbrev LAN_P_BLK_COUNT (p : Nat) : Fld := ⟨R.LAN_P_BLK p, 0, 32⟩
abbrev LAN_P_BLK_H_COUNT (p : Nat) : Fld := ⟨R.LAN_P_BLK_H p, 0, 16⟩
abbrev LAN_P_CRCERR_COUNT (p : Nat) : Fld := ⟨R.LAN_P_CRCERR p, 0, 32⟩
abbrev LAN_P_DFTX_COUNT (p : Nat) : Fld := ⟨R.LAN_P_DFTX p, 0, 32⟩
abbrev LAN_P_DFRX_COUNT (p : Nat) : Fld := ⟨R.LAN_P_DFRX p, 0, 32⟩
abbrev LAN_P_RESCR_COUNT (p : Nat) : Fld := ⟨R.LAN_P_RESCR p, 0, 32⟩
abbrev LAN_P_LOCKLOSS_COUNT (p : Nat) : Fld := ⟨R.LAN_P_LOCKLOSS p, 0, 32⟩
abbrev LAN_P_TPERR_COUNT (p : Nat) : Fld := ⟨R.LAN_P_TPERR p, 0, 32⟩
abbrev LAN_P_FIFO_COUNT (p : Nat) : Fld := ⟨R.LAN_P_FIFO p, 0, 32⟩
abbrev LAN_P_L_EQ (p : Nat) (l : Nat) : Fld := ⟨R.LAN_P_L p l, 0, 6⟩
abbrev LAN_P_L_EQFIX (p : Nat) (l : Nat) : Fld := ⟨R.LAN_P_L p l, 8, 6⟩
abbrev LAN_P_L_OFFS (p : Nat) (l : Nat) : Fld := ⟨R.LAN_P_L p l, 16, 6⟩
abbrev LAN_P_L_EYE (p : Nat) (l : Nat) : Fld := ⟨R.LAN_P_L p l, 24, 6⟩
abbrev CMC_BLK_ID_BLOCK : Fld := ⟨R.CMC_BLK_ID, 0, 16⟩
abbrev CMC_BLK_ID_REV : Fld := ⟨R.CMC_BLK_ID, 16, 8⟩
abbrev CMC_STATUS_MASTER : Fld := ⟨R.CMC_STATUS, 0, 1⟩
abbrev CMC_STATUS_ADMITTED : Fld := ⟨R.CMC_STATUS, 1, 1⟩
abbrev CMC_STATUS_MSTSIDE : Fld := ⟨R.CMC_STATUS, 2, 1⟩
abbrev CMC_STATUS_ADDRV : Fld := ⟨R.CMC_STATUS, 3, 1⟩
abbrev CMC_ADDR_ADDR : Fld := ⟨R.CMC_ADDR, 0, 7⟩
abbrev CMC_ADDR_COUNT : Fld := ⟨R.CMC_ADDR, 8, 7⟩
abbrev CMC_POLL_CYCLEM1 : Fld := ⟨R.CMC_POLL, 0, 4⟩
abbrev CMC_POLL_MISS : Fld := ⟨R.CMC_POLL, 4, 4⟩
abbrev CMC_POLL_OUTM1 : Fld := ⟨R.CMC_POLL, 8, 2⟩
abbrev CMC_POLL_TMO : Fld := ⟨R.CMC_POLL, 16, 14⟩
abbrev CMC_CTL_AUTOADMIT : Fld := ⟨R.CMC_CTL, 0, 1⟩
abbrev CMC_ENUM_PORTS : Fld := ⟨R.CMC_ENUM, 0, 8⟩
abbrev CMC_ADMIT_PORT : Fld := ⟨R.CMC_ADMIT, 0, 3⟩
abbrev CMC_ADMIT_ADDR : Fld := ⟨R.CMC_ADMIT, 8, 7⟩
abbrev CMC_ADMIT_ACTION : Fld := ⟨R.CMC_ADMIT, 16, 2⟩
abbrev CMC_NEWEST_FRAME : Fld := ⟨R.CMC_NEWEST, 0, 24⟩
abbrev CMC_EXP_FW_VER (i : Nat) : Fld := ⟨R.CMC_EXP_FW i, 0, 32⟩
abbrev CMC_EXP_HASH_HASH (i : Nat) : Fld := ⟨R.CMC_EXP_HASH i, 0, 32⟩
abbrev CMC_P_STAT_COUNT (p : Nat) : Fld := ⟨R.CMC_P_STAT p, 0, 7⟩
abbrev CMC_P_STAT_PARTNER (p : Nat) : Fld := ⟨R.CMC_P_STAT p, 7, 1⟩
abbrev CMC_P_STAT_ESTATE (p : Nat) : Fld := ⟨R.CMC_P_STAT p, 8, 2⟩
abbrev CMC_P_TXF_COUNT (p : Nat) : Fld := ⟨R.CMC_P_TXF p, 0, 32⟩
abbrev CMC_P_TXF_H_COUNT (p : Nat) : Fld := ⟨R.CMC_P_TXF_H p, 0, 16⟩
abbrev CMC_P_POLLS_COUNT (p : Nat) : Fld := ⟨R.CMC_P_POLLS p, 0, 32⟩
abbrev CMC_P_MISS_COUNT (p : Nat) : Fld := ⟨R.CMC_P_MISS p, 0, 32⟩
abbrev CMC_P_FCS_COUNT (p : Nat) : Fld := ⟨R.CMC_P_FCS p, 0, 32⟩
abbrev CMC_P_HCRC_COUNT (p : Nat) : Fld := ⟨R.CMC_P_HCRC p, 0, 32⟩
abbrev CMC_P_MALF_COUNT (p : Nat) : Fld := ⟨R.CMC_P_MALF p, 0, 32⟩
abbrev CMC_P_RESEND_COUNT (p : Nat) : Fld := ⟨R.CMC_P_RESEND p, 0, 32⟩
abbrev CMC_P_UNM_COUNT (p : Nat) : Fld := ⟨R.CMC_P_UNM p, 0, 32⟩
abbrev CMC_S_RXF_COUNT (s : Nat) : Fld := ⟨R.CMC_S_RXF s, 0, 32⟩
abbrev CMC_S_RXF_H_COUNT (s : Nat) : Fld := ⟨R.CMC_S_RXF_H s, 0, 16⟩
abbrev CMC_S_FCS_COUNT (s : Nat) : Fld := ⟨R.CMC_S_FCS s, 0, 32⟩
abbrev CMC_S_HCRC_COUNT (s : Nat) : Fld := ⟨R.CMC_S_HCRC s, 0, 32⟩
abbrev CMC_S_POISON_COUNT (s : Nat) : Fld := ⟨R.CMC_S_POISON s, 0, 32⟩
abbrev CMC_S_DUP_COUNT (s : Nat) : Fld := ⟨R.CMC_S_DUP s, 0, 32⟩
abbrev CMC_S_STALE_COUNT (s : Nat) : Fld := ⟨R.CMC_S_STALE s, 0, 32⟩
abbrev CMC_S_MALF_COUNT (s : Nat) : Fld := ⟨R.CMC_S_MALF s, 0, 32⟩
abbrev CMC_S_SUSPECT_COUNT (s : Nat) : Fld := ⟨R.CMC_S_SUSPECT s, 0, 32⟩
abbrev CMC_SEGOK_COUNT : Fld := ⟨R.CMC_SEGOK, 0, 32⟩
abbrev CMC_SEGKEPT_COUNT : Fld := ⟨R.CMC_SEGKEPT, 0, 32⟩
abbrev CMC_SEGSEC_COUNT : Fld := ⟨R.CMC_SEGSEC, 0, 32⟩
abbrev CMC_EVDROP_COUNT : Fld := ⟨R.CMC_EVDROP, 0, 32⟩
abbrev CMC_T_TSTATE (p : Nat) (a : Nat) : Fld := ⟨R.CMC_T p a, 0, 3⟩
abbrev CMC_T_QMASK (p : Nat) (a : Nat) : Fld := ⟨R.CMC_T p a, 4, 5⟩
abbrev CMC_T_REASON (p : Nat) (a : Nat) : Fld := ⟨R.CMC_T p a, 9, 3⟩
abbrev CMC_T_MISSES (p : Nat) (a : Nat) : Fld := ⟨R.CMC_T p a, 16, 8⟩
abbrev CMC_REC_UNITID (p : Nat) (a : Nat) (i : Nat) : Fld := ⟨R.CMC_REC p a i, 0, 32⟩
abbrev CMC_REC3_VALID (p : Nat) (a : Nat) : Fld := ⟨R.CMC_REC3 p a, 0, 1⟩
abbrev CMC_FLT_A_TYPE (f : Nat) : Fld := ⟨R.CMC_FLT_A f, 0, 8⟩
abbrev CMC_FLT_A_TMASK (f : Nat) : Fld := ⟨R.CMC_FLT_A f, 8, 8⟩
abbrev CMC_FLT_A_QUEUE (f : Nat) : Fld := ⟨R.CMC_FLT_A f, 16, 3⟩
abbrev CMC_FLT_A_EN (f : Nat) : Fld := ⟨R.CMC_FLT_A f, 19, 1⟩
abbrev CMC_FLT_A_PORTS (f : Nat) : Fld := ⟨R.CMC_FLT_A f, 20, 9⟩
abbrev CMC_FLT_B_TAG (f : Nat) : Fld := ⟨R.CMC_FLT_B f, 0, 12⟩
abbrev CMC_FLT_B_TGMASK (f : Nat) : Fld := ⟨R.CMC_FLT_B f, 16, 12⟩
abbrev CMC_RQ_BASE_LO_BASE (q : Nat) : Fld := ⟨R.CMC_RQ_BASE_LO q, 0, 32⟩
abbrev CMC_RQ_BASE_HI_BASE (q : Nat) : Fld := ⟨R.CMC_RQ_BASE_HI q, 0, 8⟩
abbrev CMC_RQ_CTL_LOG2 (q : Nat) : Fld := ⟨R.CMC_RQ_CTL q, 0, 4⟩
abbrev CMC_RQ_CTL_EN (q : Nat) : Fld := ⟨R.CMC_RQ_CTL q, 4, 1⟩
abbrev CMC_RQ_HEAD_HEAD (q : Nat) : Fld := ⟨R.CMC_RQ_HEAD q, 0, 12⟩
abbrev CMC_RQ_TAIL_TAIL (q : Nat) : Fld := ⟨R.CMC_RQ_TAIL q, 0, 12⟩
abbrev CMC_RQ_DROP_COUNT (q : Nat) : Fld := ⟨R.CMC_RQ_DROP q, 0, 32⟩
abbrev CMC_WP_CTL_EN (k : Nat) : Fld := ⟨R.CMC_WP_CTL k, 0, 1⟩
abbrev CMC_WP_CTL_USER (k : Nat) : Fld := ⟨R.CMC_WP_CTL k, 1, 1⟩
abbrev CMC_WP_CTL_CHECK (k : Nat) : Fld := ⟨R.CMC_WP_CTL k, 16, 16⟩
abbrev CMC_WP_MASK_MASK (k : Nat) (i : Nat) : Fld := ⟨R.CMC_WP_MASK k i, 0, 32⟩
abbrev CMC_WP_HIT_COUNT (k : Nat) : Fld := ⟨R.CMC_WP_HIT k, 0, 32⟩
abbrev DSP_BLK_ID_BLOCK : Fld := ⟨R.DSP_BLK_ID, 0, 16⟩
abbrev DSP_BLK_ID_REV : Fld := ⟨R.DSP_BLK_ID, 16, 8⟩
abbrev DSP_STATUS_RUN : Fld := ⟨R.DSP_STATUS, 0, 1⟩
abbrev DSP_STATUS_HOLD : Fld := ⟨R.DSP_STATUS, 1, 1⟩
abbrev DSP_STATUS_BLANK : Fld := ⟨R.DSP_STATUS, 2, 2⟩
abbrev DSP_STATUS_JOIN : Fld := ⟨R.DSP_STATUS, 4, 1⟩
abbrev DSP_STATUS_SACT : Fld := ⟨R.DSP_STATUS, 8, 4⟩
abbrev DSP_MODE_INDEX : Fld := ⟨R.DSP_MODE, 0, 8⟩
abbrev DSP_MODE_SLOTS : Fld := ⟨R.DSP_MODE, 8, 4⟩
abbrev DSP_PIPE0_TAILPM : Fld := ⟨R.DSP_PIPE0, 0, 10⟩
abbrev DSP_PIPE0_HOP : Fld := ⟨R.DSP_PIPE0, 16, 9⟩
abbrev DSP_PIPE1_CORW : Fld := ⟨R.DSP_PIPE1, 0, 13⟩
abbrev DSP_UPD_UDIVM1 : Fld := ⟨R.DSP_UPD, 0, 4⟩
abbrev DSP_RAMP_RAMP : Fld := ⟨R.DSP_RAMP, 0, 15⟩
abbrev DSP_RAMP_STEP : Fld := ⟨R.DSP_RAMP, 16, 15⟩
abbrev DSP_NUM_NUM : Fld := ⟨R.DSP_NUM, 0, 18⟩
abbrev DSP_DEN_DEN : Fld := ⟨R.DSP_DEN, 0, 11⟩
abbrev DSP_TSUB_TSUB : Fld := ⟨R.DSP_TSUB, 0, 26⟩
abbrev DSP_U_U : Fld := ⟨R.DSP_U, 0, 26⟩
abbrev DSP_FRAME_FRAME : Fld := ⟨R.DSP_FRAME, 0, 24⟩
abbrev DSP_FRAME_SLOT : Fld := ⟨R.DSP_FRAME, 24, 3⟩
abbrev DSP_LASTB_NS_NS : Fld := ⟨R.DSP_LASTB_NS, 0, 30⟩
abbrev DSP_LASTB_SL_SEC : Fld := ⟨R.DSP_LASTB_SL, 0, 32⟩
abbrev DSP_LASTB_SH_SEC : Fld := ⟨R.DSP_LASTB_SH, 0, 16⟩
abbrev DSP_ACT_KIND : Fld := ⟨R.DSP_ACT, 0, 3⟩
abbrev DSP_ACT_RAMPM1 : Fld := ⟨R.DSP_ACT, 4, 4⟩
abbrev DSP_ACT_NS_NS : Fld := ⟨R.DSP_ACT_NS, 0, 30⟩
abbrev DSP_ACT_SL_SEC : Fld := ⟨R.DSP_ACT_SL, 0, 32⟩
abbrev DSP_ACT_SH_SEC : Fld := ⟨R.DSP_ACT_SH, 0, 16⟩
abbrev DSP_ACT_STAT_RESULT : Fld := ⟨R.DSP_ACT_STAT, 0, 2⟩
abbrev DSP_ACT_STAT_LATE : Fld := ⟨R.DSP_ACT_STAT, 2, 1⟩
abbrev DSP_ACT_STAT_SLOT : Fld := ⟨R.DSP_ACT_STAT, 4, 3⟩
abbrev DSP_ACT_STAT_ASEQ : Fld := ⟨R.DSP_ACT_STAT, 16, 16⟩
abbrev DSP_ACT_FRM_FRAME : Fld := ⟨R.DSP_ACT_FRM, 0, 24⟩
abbrev DSP_LATE_COUNT : Fld := ⟨R.DSP_LATE, 0, 32⟩
abbrev DSP_TRIG_CTL_EN (t : Nat) : Fld := ⟨R.DSP_TRIG_CTL t, 0, 1⟩
abbrev DSP_TRIG_CTL_POL (t : Nat) : Fld := ⟨R.DSP_TRIG_CTL t, 1, 1⟩
abbrev DSP_TRIG_CTL_SLOT (t : Nat) : Fld := ⟨R.DSP_TRIG_CTL t, 2, 3⟩
abbrev DSP_TRIG_CTL_DIVM1 (t : Nat) : Fld := ⟨R.DSP_TRIG_CTL t, 8, 4⟩
abbrev DSP_TRIG_CTL_PHASE (t : Nat) : Fld := ⟨R.DSP_TRIG_CTL t, 12, 4⟩
abbrev DSP_TRIG_OFS_OFFSET (t : Nat) : Fld := ⟨R.DSP_TRIG_OFS t, 0, 32⟩
abbrev DSP_TRIG_WID_WIDTH (t : Nat) : Fld := ⟨R.DSP_TRIG_WID t, 0, 26⟩
abbrev TIM_BLK_ID_BLOCK : Fld := ⟨R.TIM_BLK_ID, 0, 16⟩
abbrev TIM_BLK_ID_REV : Fld := ⟨R.TIM_BLK_ID, 16, 8⟩
abbrev TIM_STATUS_TSTATE : Fld := ⟨R.TIM_STATUS, 0, 3⟩
abbrev TIM_STATUS_ACTD : Fld := ⟨R.TIM_STATUS, 3, 1⟩
abbrev TIM_STATUS_STEPPEND : Fld := ⟨R.TIM_STATUS, 4, 1⟩
abbrev TIM_STATUS_SREF_OK : Fld := ⟨R.TIM_STATUS, 5, 1⟩
abbrev TIM_STATUS_ETH_UP : Fld := ⟨R.TIM_STATUS, 6, 1⟩
abbrev TIM_STATUS_SBY : Fld := ⟨R.TIM_STATUS, 7, 1⟩
abbrev TIM_SRC_SRC : Fld := ⟨R.TIM_SRC, 0, 3⟩
abbrev TIM_SRC_EN_B : Fld := ⟨R.TIM_SRC, 3, 1⟩
abbrev TIM_SRC_POLICY : Fld := ⟨R.TIM_SRC, 4, 2⟩
abbrev TIM_SRC_DOMA : Fld := ⟨R.TIM_SRC, 8, 8⟩
abbrev TIM_SRC_DOMB : Fld := ⟨R.TIM_SRC, 16, 8⟩
abbrev TIM_SRC_PROFILE : Fld := ⟨R.TIM_SRC, 24, 1⟩
abbrev TIM_SRC_DELAYM : Fld := ⟨R.TIM_SRC, 25, 1⟩
abbrev TIM_SRC_TWOSTEP : Fld := ⟨R.TIM_SRC, 26, 1⟩
abbrev TIM_SRC_TRANSPORT : Fld := ⟨R.TIM_SRC, 27, 1⟩
abbrev TIM_STEP_THR : Fld := ⟨R.TIM_STEP, 0, 20⟩
abbrev TIM_STEP_LOCKTH : Fld := ⟨R.TIM_STEP, 20, 12⟩
abbrev TIM_SERVO_SLEWMAX : Fld := ⟨R.TIM_SERVO, 0, 17⟩
abbrev TIM_SERVO_BW : Fld := ⟨R.TIM_SERVO, 24, 8⟩
abbrev TIM_CHAIN_LOGSYNC : Fld := ⟨R.TIM_CHAIN, 0, 4⟩
abbrev TIM_CHAIN_LOGDELAY : Fld := ⟨R.TIM_CHAIN, 4, 4⟩
abbrev TIM_HOLD_HOLDMAX : Fld := ⟨R.TIM_HOLD, 0, 16⟩
abbrev TIM_RATE_RATE : Fld := ⟨R.TIM_RATE, 0, 32⟩
abbrev TIM_OFFSET_OFS : Fld := ⟨R.TIM_OFFSET, 0, 32⟩
abbrev TIM_MPD_MPD : Fld := ⟨R.TIM_MPD, 0, 32⟩
abbrev TIM_NOW_NS_NS : Fld := ⟨R.TIM_NOW_NS, 0, 30⟩
abbrev TIM_NOW_SL_SEC : Fld := ⟨R.TIM_NOW_SL, 0, 32⟩
abbrev TIM_NOW_SH_SEC : Fld := ⟨R.TIM_NOW_SH, 0, 16⟩
abbrev TIM_NOW_FR_FR : Fld := ⟨R.TIM_NOW_FR, 0, 16⟩
abbrev TIM_SET_NS_NS : Fld := ⟨R.TIM_SET_NS, 0, 30⟩
abbrev TIM_SET_SL_SEC : Fld := ⟨R.TIM_SET_SL, 0, 32⟩
abbrev TIM_SET_SH_SEC : Fld := ⟨R.TIM_SET_SH, 0, 16⟩
abbrev TIM_CMD_CMD : Fld := ⟨R.TIM_CMD, 0, 2⟩
abbrev TIM_STEP_PEND_LO_STEP : Fld := ⟨R.TIM_STEP_PEND_LO, 0, 32⟩
abbrev TIM_STEP_PEND_HI_STEP : Fld := ⟨R.TIM_STEP_PEND_HI, 0, 32⟩
abbrev TIM_STEP_FRM_FRAME : Fld := ⟨R.TIM_STEP_FRM, 0, 24⟩
abbrev TIM_DOM_STAT_DSTATE (d : Nat) : Fld := ⟨R.TIM_DOM_STAT d, 0, 3⟩
abbrev TIM_DOM_STAT_LOCKCNT (d : Nat) : Fld := ⟨R.TIM_DOM_STAT d, 8, 8⟩
abbrev TIM_DOM_OFS_OFS (d : Nat) : Fld := ⟨R.TIM_DOM_OFS d, 0, 32⟩
abbrev TIM_DOM_GMID_LO_ID (d : Nat) : Fld := ⟨R.TIM_DOM_GMID_LO d, 0, 32⟩
abbrev TIM_DOM_GMID_HI_ID (d : Nat) : Fld := ⟨R.TIM_DOM_GMID_HI d, 0, 32⟩
abbrev TIM_DOM_STEPS_COUNT (d : Nat) : Fld := ⟨R.TIM_DOM_STEPS d, 0, 32⟩
abbrev TIM_DOM_MEAS_COUNT (d : Nat) : Fld := ⟨R.TIM_DOM_MEAS d, 0, 32⟩
abbrev TIM_P_ASYM_ASYM (p : Nat) : Fld := ⟨R.TIM_P_ASYM p, 0, 32⟩
abbrev TIM_P_TSQ_LEVEL (p : Nat) : Fld := ⟨R.TIM_P_TSQ p, 0, 7⟩
abbrev TIM_P_TSQ_OVF (p : Nat) : Fld := ⟨R.TIM_P_TSQ p, 7, 1⟩
abbrev TIM_P_TSDROP_COUNT (p : Nat) : Fld := ⟨R.TIM_P_TSDROP p, 0, 32⟩
abbrev TIM_P_TSCNT_COUNT (p : Nat) : Fld := ⟨R.TIM_P_TSCNT p, 0, 32⟩
abbrev TIM_TSQ_SEL_PORT : Fld := ⟨R.TIM_TSQ_SEL, 0, 4⟩
abbrev TIM_TSQ_SEL_INDEX : Fld := ⟨R.TIM_TSQ_SEL, 4, 6⟩
abbrev TIM_TSQ_DATA_DATA (i : Nat) : Fld := ⟨R.TIM_TSQ_DATA i, 0, 32⟩
abbrev TIM_OUT_CTL_MODE (t : Nat) : Fld := ⟨R.TIM_OUT_CTL t, 0, 2⟩
abbrev TIM_OUT_CTL_POL (t : Nat) : Fld := ⟨R.TIM_OUT_CTL t, 2, 1⟩
abbrev TIM_OUT_START_NS_NS (t : Nat) : Fld := ⟨R.TIM_OUT_START_NS t, 0, 30⟩
abbrev TIM_OUT_START_SL_SEC (t : Nat) : Fld := ⟨R.TIM_OUT_START_SL t, 0, 32⟩
abbrev TIM_OUT_START_SH_SEC (t : Nat) : Fld := ⟨R.TIM_OUT_START_SH t, 0, 16⟩
abbrev TIM_OUT_PER_NS_NS (t : Nat) : Fld := ⟨R.TIM_OUT_PER_NS t, 0, 32⟩
abbrev TIM_OUT_PER_FR_FR (t : Nat) : Fld := ⟨R.TIM_OUT_PER_FR t, 0, 16⟩
abbrev TIM_OUT_WID_WID (t : Nat) : Fld := ⟨R.TIM_OUT_WID t, 0, 26⟩
abbrev TIM_OUT_STAT_LEVEL (t : Nat) : Fld := ⟨R.TIM_OUT_STAT t, 0, 1⟩
abbrev TIM_OUT_STAT_OWNER (t : Nat) : Fld := ⟨R.TIM_OUT_STAT t, 1, 1⟩
abbrev TIM_OUT_STAT_MISSED (t : Nat) : Fld := ⟨R.TIM_OUT_STAT t, 2, 1⟩
abbrev TIM_CAP_CTL_EDGE (c : Nat) : Fld := ⟨R.TIM_CAP_CTL c, 0, 2⟩
abbrev TIM_CAP_CTL_EVT (c : Nat) : Fld := ⟨R.TIM_CAP_CTL c, 2, 1⟩
abbrev TIM_CAP_STAT_LEVEL (c : Nat) : Fld := ⟨R.TIM_CAP_STAT c, 0, 5⟩
abbrev TIM_CAP_STAT_OVF (c : Nat) : Fld := ⟨R.TIM_CAP_STAT c, 5, 1⟩
abbrev TIM_CAP_NS_NS (c : Nat) : Fld := ⟨R.TIM_CAP_NS c, 0, 30⟩
abbrev TIM_CAP_NS_RISE (c : Nat) : Fld := ⟨R.TIM_CAP_NS c, 30, 1⟩
abbrev TIM_CAP_SL_SEC (c : Nat) : Fld := ⟨R.TIM_CAP_SL c, 0, 32⟩
abbrev TIM_CAP_SH_SEC (c : Nat) : Fld := ⟨R.TIM_CAP_SH c, 0, 16⟩
abbrev TIM_CAP_POP_POP (c : Nat) : Fld := ⟨R.TIM_CAP_POP c, 0, 1⟩
abbrev TIM_CAP_DROP_COUNT (c : Nat) : Fld := ⟨R.TIM_CAP_DROP c, 0, 32⟩
abbrev TIM_SREF_CTL_EN : Fld := ⟨R.TIM_SREF_CTL, 0, 1⟩
abbrev TIM_SREF_CTL_TRI : Fld := ⟨R.TIM_SREF_CTL, 1, 1⟩
abbrev TIM_SREF_CTL_FIELDS2 : Fld := ⟨R.TIM_SREF_CTL, 2, 1⟩
abbrev TIM_SREF_CTL_INDEX : Fld := ⟨R.TIM_SREF_CTL, 8, 8⟩
abbrev TIM_SREF_CTL_LINES : Fld := ⟨R.TIM_SREF_CTL, 16, 12⟩
abbrev TIM_SREF_LVL_QTH : Fld := ⟨R.TIM_SREF_LVL, 0, 10⟩
abbrev TIM_SREF_LVL_TTH : Fld := ⟨R.TIM_SREF_LVL, 16, 10⟩
abbrev TIM_SREF_BROAD_BROADTH : Fld := ⟨R.TIM_SREF_BROAD, 0, 16⟩
abbrev TIM_SREF_OFS_OFFS : Fld := ⟨R.TIM_SREF_OFS, 0, 32⟩
abbrev TIM_SREF_STAT_PRESENT : Fld := ⟨R.TIM_SREF_STAT, 0, 1⟩
abbrev TIM_SREF_STAT_FLOCK : Fld := ⟨R.TIM_SREF_STAT, 1, 1⟩
abbrev TIM_SREF_PHASE_ERR : Fld := ⟨R.TIM_SREF_PHASE, 0, 32⟩
abbrev TIM_ETH_CTL_RATE : Fld := ⟨R.TIM_ETH_CTL, 0, 1⟩
abbrev TIM_ETH_CTL_VLAN : Fld := ⟨R.TIM_ETH_CTL, 1, 1⟩
abbrev TIM_ETH_CTL_VID : Fld := ⟨R.TIM_ETH_CTL, 16, 12⟩
abbrev TIM_ETH_MAC_LO_MAC : Fld := ⟨R.TIM_ETH_MAC_LO, 0, 32⟩
abbrev TIM_ETH_MAC_HI_MAC : Fld := ⟨R.TIM_ETH_MAC_HI, 0, 16⟩
abbrev TIM_ETH_IP_IP : Fld := ⟨R.TIM_ETH_IP, 0, 32⟩
abbrev TIM_ETH_STAT_LINK : Fld := ⟨R.TIM_ETH_STAT, 0, 1⟩
abbrev TIM_ETH_RXF_COUNT : Fld := ⟨R.TIM_ETH_RXF, 0, 32⟩
abbrev TIM_ETH_RXERR_COUNT : Fld := ⟨R.TIM_ETH_RXERR, 0, 32⟩
abbrev TIM_ETH_TXF_COUNT : Fld := ⟨R.TIM_ETH_TXF, 0, 32⟩
abbrev TIM_ETX_BASE_LO_BASE : Fld := ⟨R.TIM_ETX_BASE_LO, 0, 32⟩
abbrev TIM_ETX_BASE_HI_BASE : Fld := ⟨R.TIM_ETX_BASE_HI, 0, 8⟩
abbrev TIM_ETX_CTL_LOG2 : Fld := ⟨R.TIM_ETX_CTL, 0, 4⟩
abbrev TIM_ETX_CTL_EN : Fld := ⟨R.TIM_ETX_CTL, 4, 1⟩
abbrev TIM_ETX_HEAD_HEAD : Fld := ⟨R.TIM_ETX_HEAD, 0, 12⟩
abbrev TIM_ETX_TAIL_TAIL : Fld := ⟨R.TIM_ETX_TAIL, 0, 12⟩
abbrev TIM_ERX_BASE_LO_BASE : Fld := ⟨R.TIM_ERX_BASE_LO, 0, 32⟩
abbrev TIM_ERX_BASE_HI_BASE : Fld := ⟨R.TIM_ERX_BASE_HI, 0, 8⟩
abbrev TIM_ERX_CTL_LOG2 : Fld := ⟨R.TIM_ERX_CTL, 0, 4⟩
abbrev TIM_ERX_CTL_EN : Fld := ⟨R.TIM_ERX_CTL, 4, 1⟩
abbrev TIM_ERX_HEAD_HEAD : Fld := ⟨R.TIM_ERX_HEAD, 0, 12⟩
abbrev TIM_ERX_TAIL_TAIL : Fld := ⟨R.TIM_ERX_TAIL, 0, 12⟩
abbrev TIM_ERX_DROP_COUNT : Fld := ⟨R.TIM_ERX_DROP, 0, 32⟩
abbrev CMT_BLK_ID_BLOCK : Fld := ⟨R.CMT_BLK_ID, 0, 16⟩
abbrev CMT_BLK_ID_REV : Fld := ⟨R.CMT_BLK_ID, 16, 8⟩
abbrev CMT_GEN_GEN : Fld := ⟨R.CMT_GEN, 0, 32⟩
abbrev CMT_STATUS_LIVE_WR_ERR : Fld := ⟨R.CMT_STATUS, 0, 1⟩
abbrev CMT_STATUS_LATE : Fld := ⟨R.CMT_STATUS, 1, 1⟩
abbrev CMT_STATUS_TREF : Fld := ⟨R.CMT_STATUS, 2, 1⟩
abbrev CMT_STATUS_CHECKING : Fld := ⟨R.CMT_STATUS, 3, 1⟩
abbrev CMT_STATUS_PEND : Fld := ⟨R.CMT_STATUS, 4, 3⟩
abbrev CMT_STATUS_HEAVYPEND : Fld := ⟨R.CMT_STATUS, 7, 1⟩
abbrev CMT_STATUS_RESULT : Fld := ⟨R.CMT_STATUS, 8, 3⟩
abbrev CMT_STATUS_LASTTAG : Fld := ⟨R.CMT_STATUS, 16, 16⟩
abbrev CMT_REQ_WHEN : Fld := ⟨R.CMT_REQ, 0, 1⟩
abbrev CMT_REQ_SLOT : Fld := ⟨R.CMT_REQ, 1, 3⟩
abbrev CMT_REQ_REQTAG : Fld := ⟨R.CMT_REQ, 16, 16⟩
abbrev CMT_TGT_NS_NS : Fld := ⟨R.CMT_TGT_NS, 0, 30⟩
abbrev CMT_TGT_SL_SEC : Fld := ⟨R.CMT_TGT_SL, 0, 32⟩
abbrev CMT_TGT_SH_SEC : Fld := ⟨R.CMT_TGT_SH, 0, 16⟩
abbrev CMT_CHECK_CODE : Fld := ⟨R.CMT_CHECK, 0, 8⟩
abbrev CMT_CHECK_FAIL : Fld := ⟨R.CMT_CHECK, 8, 4⟩
abbrev CMT_CHECK_TAG : Fld := ⟨R.CMT_CHECK, 16, 16⟩
abbrev CMT_CHECK_IDX_INDEX : Fld := ⟨R.CMT_CHECK_IDX, 0, 16⟩
abbrev CMT_LWE_ADDR_ADDR : Fld := ⟨R.CMT_LWE_ADDR, 0, 24⟩
abbrev CMT_LWE_ADDR_PATH : Fld := ⟨R.CMT_LWE_ADDR, 24, 3⟩
abbrev CMT_LWE_CNT_COUNT : Fld := ⟨R.CMT_LWE_CNT, 0, 32⟩
abbrev CMT_LATE_CNT_COUNT : Fld := ⟨R.CMT_LATE_CNT, 0, 32⟩
abbrev CMT_REFUSED_COUNT : Fld := ⟨R.CMT_REFUSED, 0, 32⟩
abbrev CMT_PEND_STAT_VALID (i : Nat) : Fld := ⟨R.CMT_PEND_STAT i, 0, 1⟩
abbrev CMT_PEND_STAT_HEAVY (i : Nat) : Fld := ⟨R.CMT_PEND_STAT i, 1, 1⟩
abbrev CMT_PEND_STAT_SENT (i : Nat) : Fld := ⟨R.CMT_PEND_STAT i, 2, 1⟩
abbrev CMT_PEND_STAT_CATCHUP (i : Nat) : Fld := ⟨R.CMT_PEND_STAT i, 3, 1⟩
abbrev CMT_PEND_STAT_SLOT (i : Nat) : Fld := ⟨R.CMT_PEND_STAT i, 4, 3⟩
abbrev CMT_PEND_STAT_FRAME (i : Nat) : Fld := ⟨R.CMT_PEND_STAT i, 8, 24⟩
abbrev CMT_PEND_GEN_GEN (i : Nat) : Fld := ⟨R.CMT_PEND_GEN i, 0, 32⟩
abbrev CMT_PEND_NS_NS (i : Nat) : Fld := ⟨R.CMT_PEND_NS i, 0, 30⟩
abbrev CMT_PEND_SL_SEC (i : Nat) : Fld := ⟨R.CMT_PEND_SL i, 0, 32⟩
abbrev CMT_PEND_SH_SEC (i : Nat) : Fld := ⟨R.CMT_PEND_SH i, 0, 16⟩
abbrev CMT_PEND_SH_TAG (i : Nat) : Fld := ⟨R.CMT_PEND_SH i, 16, 16⟩
abbrev CMT_CATCHUP_PORT : Fld := ⟨R.CMT_CATCHUP, 0, 3⟩
abbrev CMT_CATCHUP_ADDR : Fld := ⟨R.CMT_CATCHUP, 8, 7⟩
abbrev CMT_PEEK_ADDR_ADDR : Fld := ⟨R.CMT_PEEK_ADDR, 0, 24⟩
abbrev CMT_PEEK_ADDR_BUSY : Fld := ⟨R.CMT_PEEK_ADDR, 31, 1⟩
abbrev CMT_PEEK_DATA_DATA : Fld := ⟨R.CMT_PEEK_DATA, 0, 32⟩
abbrev CMT_DUMP_CTL_SEL : Fld := ⟨R.CMT_DUMP_CTL, 0, 10⟩
abbrev CMT_DUMP_CTL_TARGET : Fld := ⟨R.CMT_DUMP_CTL, 16, 1⟩
abbrev CMT_DUMP_BASE_LO_BASE : Fld := ⟨R.CMT_DUMP_BASE_LO, 0, 32⟩
abbrev CMT_DUMP_BASE_HI_BASE : Fld := ⟨R.CMT_DUMP_BASE_HI, 0, 32⟩
abbrev CMT_DUMP_LEN_LEN : Fld := ⟨R.CMT_DUMP_LEN, 0, 32⟩
abbrev CMT_DUMP_GO_START : Fld := ⟨R.CMT_DUMP_GO, 0, 1⟩
abbrev CMT_DUMP_GO_ABORT : Fld := ⟨R.CMT_DUMP_GO, 1, 1⟩
abbrev CMT_DUMP_STAT_STATE : Fld := ⟨R.CMT_DUMP_STAT, 0, 2⟩
abbrev CMT_DUMP_STAT_TORN : Fld := ⟨R.CMT_DUMP_STAT, 2, 1⟩
abbrev CMT_DUMP_STAT_TRUNC : Fld := ⟨R.CMT_DUMP_STAT, 3, 1⟩
abbrev CMT_DUMP_STAT_SUSP : Fld := ⟨R.CMT_DUMP_STAT, 4, 1⟩
abbrev CMT_DUMP_STAT_ERR : Fld := ⟨R.CMT_DUMP_STAT, 5, 1⟩
abbrev CMT_DUMP_BYTES_BYTES : Fld := ⟨R.CMT_DUMP_BYTES, 0, 32⟩
abbrev CMT_DPORT_ADDR_OFFSET : Fld := ⟨R.CMT_DPORT_ADDR, 0, 32⟩
abbrev CMT_DPORT_DATA_DATA : Fld := ⟨R.CMT_DPORT_DATA, 0, 32⟩
abbrev FMC_BLK_ID_BLOCK : Fld := ⟨R.FMC_BLK_ID, 0, 16⟩
abbrev FMC_BLK_ID_REV : Fld := ⟨R.FMC_BLK_ID, 16, 8⟩
abbrev FMC_STATUS_READY : Fld := ⟨R.FMC_STATUS, 0, 4⟩
abbrev FMC_STATUS_FAILED : Fld := ⟨R.FMC_STATUS, 4, 4⟩
abbrev FMC_STATUS_SR : Fld := ⟨R.FMC_STATUS, 8, 1⟩
abbrev FMC_STATUS_KEPT : Fld := ⟨R.FMC_STATUS, 9, 1⟩
abbrev FMC_STATUS_SCRUB : Fld := ⟨R.FMC_STATUS, 10, 1⟩
abbrev FMC_STATUS_LAYOUT_RST : Fld := ⟨R.FMC_STATUS, 11, 1⟩
abbrev FMC_CFG_ORDER : Fld := ⟨R.FMC_CFG, 0, 2⟩
abbrev FMC_CFG_RATE : Fld := ⟨R.FMC_CFG, 4, 3⟩
abbrev FMC_CFG_MASK : Fld := ⟨R.FMC_CFG, 8, 4⟩
abbrev FMC_GEOM_RANKS2 : Fld := ⟨R.FMC_GEOM, 0, 1⟩
abbrev FMC_GEOM_ROWB : Fld := ⟨R.FMC_GEOM, 1, 3⟩
abbrev FMC_GEOM_CHGB : Fld := ⟨R.FMC_GEOM, 8, 6⟩
abbrev FMC_SIZE_MB : Fld := ⟨R.FMC_SIZE, 0, 18⟩
abbrev FMC_CTL_KEEP : Fld := ⟨R.FMC_CTL, 0, 1⟩
abbrev FMC_CTL_PRED_EN : Fld := ⟨R.FMC_CTL, 1, 1⟩
abbrev FMC_CTL_SCRUB_EN : Fld := ⟨R.FMC_CTL, 2, 1⟩
abbrev FMC_SCHED_AGEMAX : Fld := ⟨R.FMC_SCHED, 0, 12⟩
abbrev FMC_SCHED_IDLE : Fld := ⟨R.FMC_SCHED, 16, 12⟩
abbrev FMC_SCRUB_PERIOD : Fld := ⟨R.FMC_SCRUB, 0, 8⟩
abbrev FMC_SCRUB_POS_POS : Fld := ⟨R.FMC_SCRUB_POS, 0, 32⟩
abbrev FMC_SCRUB_PASS_COUNT : Fld := ⟨R.FMC_SCRUB_PASS, 0, 32⟩
abbrev FMC_TEMP_RR0 : Fld := ⟨R.FMC_TEMP, 0, 5⟩
abbrev FMC_TEMP_RR1 : Fld := ⟨R.FMC_TEMP, 8, 5⟩
abbrev FMC_TEMP_RR2 : Fld := ⟨R.FMC_TEMP, 16, 5⟩
abbrev FMC_TEMP_RR3 : Fld := ⟨R.FMC_TEMP, 24, 5⟩
abbrev FMC_LAST_UE_LO_ADDR : Fld := ⟨R.FMC_LAST_UE_LO, 0, 32⟩
abbrev FMC_LAST_UE_HI_ADDR : Fld := ⟨R.FMC_LAST_UE_HI, 0, 8⟩
abbrev FMC_LAST_UE_HI_SRC : Fld := ⟨R.FMC_LAST_UE_HI, 8, 2⟩
abbrev FMC_LAST_UE_HI_SCRUB : Fld := ⟨R.FMC_LAST_UE_HI, 10, 1⟩
abbrev FMC_OOR_LO_ADDR : Fld := ⟨R.FMC_OOR_LO, 0, 32⟩
abbrev FMC_OOR_HI_ADDR : Fld := ⟨R.FMC_OOR_HI, 0, 8⟩
abbrev FMC_OOR_HI_WRITE : Fld := ⟨R.FMC_OOR_HI, 8, 1⟩
abbrev FMC_OOR_CNT_COUNT : Fld := ⟨R.FMC_OOR_CNT, 0, 32⟩
abbrev FMC_CH_STAT_STATE (c : Nat) : Fld := ⟨R.FMC_CH_STAT c, 0, 3⟩
abbrev FMC_CH_STAT_TFAIL (c : Nat) : Fld := ⟨R.FMC_CH_STAT c, 4, 4⟩
abbrev FMC_CH_STAT_DEBTMAX (c : Nat) : Fld := ⟨R.FMC_CH_STAT c, 8, 8⟩
abbrev FMC_CH_RD_COUNT (c : Nat) : Fld := ⟨R.FMC_CH_RD c, 0, 32⟩
abbrev FMC_CH_RD_H_COUNT (c : Nat) : Fld := ⟨R.FMC_CH_RD_H c, 0, 16⟩
abbrev FMC_CH_WR_COUNT (c : Nat) : Fld := ⟨R.FMC_CH_WR c, 0, 32⟩
abbrev FMC_CH_WR_H_COUNT (c : Nat) : Fld := ⟨R.FMC_CH_WR_H c, 0, 16⟩
abbrev FMC_CH_ACT_COUNT (c : Nat) : Fld := ⟨R.FMC_CH_ACT c, 0, 32⟩
abbrev FMC_CH_HIT_COUNT (c : Nat) : Fld := ⟨R.FMC_CH_HIT c, 0, 32⟩
abbrev FMC_CH_CONF_COUNT (c : Nat) : Fld := ⟨R.FMC_CH_CONF c, 0, 32⟩
abbrev FMC_CH_CE_COUNT (c : Nat) : Fld := ⟨R.FMC_CH_CE c, 0, 32⟩
abbrev FMC_CH_UE_COUNT (c : Nat) : Fld := ⟨R.FMC_CH_UE c, 0, 32⟩
abbrev FMC_CH_FORCED_COUNT (c : Nat) : Fld := ⟨R.FMC_CH_FORCED c, 0, 32⟩
abbrev FMC_RT_STAT_MAXWAIT (k : Nat) : Fld := ⟨R.FMC_RT_STAT k, 0, 16⟩
abbrev FMC_RT_STAT_SIZE (k : Nat) : Fld := ⟨R.FMC_RT_STAT k, 16, 16⟩
abbrev FMC_RT_STARVE_COUNT (k : Nat) : Fld := ⟨R.FMC_RT_STARVE k, 0, 32⟩
abbrev HST_BLK_ID_BLOCK : Fld := ⟨R.HST_BLK_ID, 0, 16⟩
abbrev HST_BLK_ID_REV : Fld := ⟨R.HST_BLK_ID, 16, 8⟩
abbrev HST_LINK_SPEED : Fld := ⟨R.HST_LINK, 0, 3⟩
abbrev HST_LINK_WIDTH : Fld := ⟨R.HST_LINK, 4, 5⟩
abbrev HST_LINK_UP : Fld := ⟨R.HST_LINK, 9, 1⟩
abbrev HST_LINK_BME : Fld := ⟨R.HST_LINK, 10, 1⟩
abbrev HST_LINK_CAPY : Fld := ⟨R.HST_LINK, 16, 16⟩
abbrev HST_LOAD_LOAD : Fld := ⟨R.HST_LOAD, 0, 16⟩
abbrev HST_W2_BASE_LO_BASE : Fld := ⟨R.HST_W2_BASE_LO, 0, 32⟩
abbrev HST_W2_BASE_HI_BASE : Fld := ⟨R.HST_W2_BASE_HI, 0, 8⟩
abbrev HST_W2_SIZE_SIZE : Fld := ⟨R.HST_W2_SIZE, 0, 3⟩
abbrev HST_ERR_CODE : Fld := ⟨R.HST_ERR, 0, 4⟩
abbrev HST_ERR_RING : Fld := ⟨R.HST_ERR, 4, 4⟩
abbrev HST_ERRCNT_COUNT : Fld := ⟨R.HST_ERRCNT, 0, 32⟩
abbrev HST_SRC_DONE_DONE : Fld := ⟨R.HST_SRC_DONE, 0, 8⟩
abbrev HST_SRC_CTL_RUN (n : Nat) : Fld := ⟨R.HST_SRC_CTL n, 0, 1⟩
abbrev HST_SRC_CTL_MODE (n : Nat) : Fld := ⟨R.HST_SRC_CTL n, 1, 1⟩
abbrev HST_SRC_CTL_LOG2 (n : Nat) : Fld := ⟨R.HST_SRC_CTL n, 2, 4⟩
abbrev HST_SRC_CTL_NLBUF (n : Nat) : Fld := ⟨R.HST_SRC_CTL n, 6, 4⟩
abbrev HST_SRC_STAT_STATE (n : Nat) : Fld := ⟨R.HST_SRC_STAT n, 0, 2⟩
abbrev HST_SRC_STAT_NEXT (n : Nat) : Fld := ⟨R.HST_SRC_STAT n, 4, 3⟩
abbrev HST_SRC_STAT_LATCHED (n : Nat) : Fld := ⟨R.HST_SRC_STAT n, 8, 3⟩
abbrev HST_SRC_STAT_NEWEST (n : Nat) : Fld := ⟨R.HST_SRC_STAT n, 12, 3⟩
abbrev HST_SRC_STAT_NEWV (n : Nat) : Fld := ⟨R.HST_SRC_STAT n, 15, 1⟩
abbrev HST_SRC_RING_LO_BASE (n : Nat) : Fld := ⟨R.HST_SRC_RING_LO n, 0, 32⟩
abbrev HST_SRC_RING_HI_BASE (n : Nat) : Fld := ⟨R.HST_SRC_RING_HI n, 0, 32⟩
abbrev HST_SRC_HEAD_HEAD (n : Nat) : Fld := ⟨R.HST_SRC_HEAD n, 0, 12⟩
abbrev HST_SRC_TAIL_TAIL (n : Nat) : Fld := ⟨R.HST_SRC_TAIL n, 0, 12⟩
abbrev HST_SRC_LBUF_LO_BASE (n : Nat) : Fld := ⟨R.HST_SRC_LBUF_LO n, 0, 32⟩
abbrev HST_SRC_LBUF_HI_BASE (n : Nat) : Fld := ⟨R.HST_SRC_LBUF_HI n, 0, 8⟩
abbrev HST_SRC_LSTEP_STEP (n : Nat) : Fld := ⟨R.HST_SRC_LSTEP n, 0, 32⟩
abbrev HST_SRC_PEERDONE_INDEX (n : Nat) : Fld := ⟨R.HST_SRC_PEERDONE n, 0, 3⟩
abbrev HST_SRC_PEERTAG_TAG (n : Nat) : Fld := ⟨R.HST_SRC_PEERTAG n, 0, 32⟩
abbrev HST_SRCN_DONE_COUNT (n : Nat) : Fld := ⟨R.HST_SRCN_DONE n, 0, 32⟩
abbrev HST_PGR_CTL_RUN : Fld := ⟨R.HST_PGR_CTL, 0, 1⟩
abbrev HST_PGR_CTL_LOG2 : Fld := ⟨R.HST_PGR_CTL, 2, 4⟩
abbrev HST_PGR_CTL_STATE : Fld := ⟨R.HST_PGR_CTL, 6, 2⟩
abbrev HST_PGR_RING_LO_BASE : Fld := ⟨R.HST_PGR_RING_LO, 0, 32⟩
abbrev HST_PGR_RING_HI_BASE : Fld := ⟨R.HST_PGR_RING_HI, 0, 32⟩
abbrev HST_PGR_HEAD_HEAD : Fld := ⟨R.HST_PGR_HEAD, 0, 12⟩
abbrev HST_PGR_TAIL_TAIL : Fld := ⟨R.HST_PGR_TAIL, 0, 12⟩
abbrev HST_PGR_DONE_COUNT : Fld := ⟨R.HST_PGR_DONE, 0, 32⟩
abbrev REL_BLK_ID_BLOCK : Fld := ⟨R.REL_BLK_ID, 0, 16⟩
abbrev REL_BLK_ID_REV : Fld := ⟨R.REL_BLK_ID, 16, 8⟩
abbrev REL_PT_BASE_LO_BASE : Fld := ⟨R.REL_PT_BASE_LO, 0, 32⟩
abbrev REL_PT_BASE_HI_BASE : Fld := ⟨R.REL_PT_BASE_HI, 0, 8⟩
abbrev REL_FAULT_PAGE : Fld := ⟨R.REL_FAULT, 0, 21⟩
abbrev REL_FAULT_CAUSE : Fld := ⟨R.REL_FAULT, 22, 2⟩
abbrev REL_FAULT_PLAYER : Fld := ⟨R.REL_FAULT, 24, 3⟩
abbrev REL_FAULTS_COUNT : Fld := ⟨R.REL_FAULTS, 0, 32⟩
abbrev REL_CMD_PLAYER : Fld := ⟨R.REL_CMD, 0, 3⟩
abbrev REL_CMD_KIND : Fld := ⟨R.REL_CMD, 4, 2⟩
abbrev REL_SEEK_FRAME : Fld := ⟨R.REL_SEEK, 0, 24⟩
abbrev REL_ACT_NS_NS : Fld := ⟨R.REL_ACT_NS, 0, 30⟩
abbrev REL_ACT_SL_SEC : Fld := ⟨R.REL_ACT_SL, 0, 32⟩
abbrev REL_ACT_SH_SEC : Fld := ⟨R.REL_ACT_SH, 0, 16⟩
abbrev REL_ACT_STAT_RESULT : Fld := ⟨R.REL_ACT_STAT, 0, 2⟩
abbrev REL_ACT_STAT_LATE : Fld := ⟨R.REL_ACT_STAT, 2, 1⟩
abbrev REL_ACT_STAT_SLOT : Fld := ⟨R.REL_ACT_STAT, 4, 3⟩
abbrev REL_ACT_STAT_FRAME : Fld := ⟨R.REL_ACT_STAT, 8, 24⟩
abbrev REL_P_CTL_EN (p : Nat) : Fld := ⟨R.REL_P_CTL p, 0, 1⟩
abbrev REL_P_CTL_SRC (p : Nat) : Fld := ⟨R.REL_P_CTL p, 1, 3⟩
abbrev REL_P_CTL_PREFETCH (p : Nat) : Fld := ⟨R.REL_P_CTL p, 4, 3⟩
abbrev REL_P_CTL_LOOP (p : Nat) : Fld := ⟨R.REL_P_CTL p, 7, 1⟩
abbrev REL_P_START_LO_START (p : Nat) : Fld := ⟨R.REL_P_START_LO p, 0, 32⟩
abbrev REL_P_START_HI_START (p : Nat) : Fld := ⟨R.REL_P_START_HI p, 0, 10⟩
abbrev REL_P_FSTRIDE_FSTRIDE (p : Nat) : Fld := ⟨R.REL_P_FSTRIDE p, 0, 32⟩
abbrev REL_P_FRAMES_FRAMES (p : Nat) : Fld := ⟨R.REL_P_FRAMES p, 0, 24⟩
abbrev REL_P_POS_POS (p : Nat) : Fld := ⟨R.REL_P_POS p, 0, 24⟩
abbrev REL_P_STAT_STATE (p : Nat) : Fld := ⟨R.REL_P_STAT p, 0, 2⟩
abbrev REL_P_STAT_READY (p : Nat) : Fld := ⟨R.REL_P_STAT p, 4, 3⟩
abbrev REL_P_ACC_ACC (p : Nat) : Fld := ⟨R.REL_P_ACC p, 0, 32⟩
abbrev REL_P_LATE_COUNT (p : Nat) : Fld := ⟨R.REL_P_LATE p, 0, 32⟩
abbrev EVT_BLK_ID_BLOCK : Fld := ⟨R.EVT_BLK_ID, 0, 16⟩
abbrev EVT_BLK_ID_REV : Fld := ⟨R.EVT_BLK_ID, 16, 8⟩
abbrev EVT_STAT_STAT (w : Nat) : Fld := ⟨R.EVT_STAT w, 0, 32⟩
abbrev EVT_MASK_MASK (w : Nat) : Fld := ⟨R.EVT_MASK w, 0, 32⟩
abbrev EVT_PEND_LO_PEND : Fld := ⟨R.EVT_PEND_LO, 0, 32⟩
abbrev EVT_PEND_HI_PEND : Fld := ⟨R.EVT_PEND_HI, 0, 32⟩
abbrev EVT_LAST_EVENT : Fld := ⟨R.EVT_LAST, 0, 9⟩
abbrev EVT_VEC_CTL_HOLDOFF (v : Nat) : Fld := ⟨R.EVT_VEC_CTL v, 0, 10⟩
abbrev EVT_ROUTE_VECTOR (n : Nat) : Fld := ⟨R.EVT_ROUTE n, 0, 6⟩
abbrev EVT_ROUTE_CHAIN (n : Nat) : Fld := ⟨R.EVT_ROUTE n, 7, 1⟩
abbrev PAR_BLK_ID_BLOCK : Fld := ⟨R.PAR_BLK_ID, 0, 16⟩
abbrev PAR_BLK_ID_REV : Fld := ⟨R.PAR_BLK_ID, 16, 8⟩
abbrev PAR_STATUS_PSTATE : Fld := ⟨R.PAR_STATUS, 0, 3⟩
abbrev PAR_STATUS_ABD : Fld := ⟨R.PAR_STATUS, 3, 1⟩
abbrev PAR_STATUS_LINK : Fld := ⟨R.PAR_STATUS, 4, 1⟩
abbrev PAR_STATUS_HB : Fld := ⟨R.PAR_STATUS, 5, 1⟩
abbrev PAR_STATUS_HASHERR : Fld := ⟨R.PAR_STATUS, 6, 1⟩
abbrev PAR_STATUS_ENDERR : Fld := ⟨R.PAR_STATUS, 7, 1⟩
abbrev PAR_STATUS_PPSTATE : Fld := ⟨R.PAR_STATUS, 8, 3⟩
abbrev PAR_STATUS_PVERD : Fld := ⟨R.PAR_STATUS, 11, 2⟩
abbrev PAR_STATUS_RSTEP : Fld := ⟨R.PAR_STATUS, 13, 3⟩
abbrev PAR_CFG_END : Fld := ⟨R.PAR_CFG, 0, 1⟩
abbrev PAR_CFG_PREF : Fld := ⟨R.PAR_CFG, 1, 1⟩
abbrev PAR_CFG_AUTOPROMOTE : Fld := ⟨R.PAR_CFG, 2, 1⟩
abbrev PAR_TMO_HBTMO : Fld := ⟨R.PAR_TMO, 0, 8⟩
abbrev PAR_TMO_LOSSTMO : Fld := ⟨R.PAR_TMO, 8, 8⟩
abbrev PAR_TMO_BOOTWAIT : Fld := ⟨R.PAR_TMO, 16, 16⟩
abbrev PAR_CMD_KIND : Fld := ⟨R.PAR_CMD, 0, 2⟩
abbrev PAR_PGEN_GEN : Fld := ⟨R.PAR_PGEN, 0, 32⟩
abbrev PAR_DIGEST_DIGEST : Fld := ⟨R.PAR_DIGEST, 0, 32⟩
abbrev PAR_PDIGEST_DIGEST : Fld := ⟨R.PAR_PDIGEST, 0, 32⟩
abbrev PAR_SNAP_GEN : Fld := ⟨R.PAR_SNAP, 0, 32⟩
abbrev PAR_SNAP_TIME_SEC : Fld := ⟨R.PAR_SNAP_TIME, 0, 32⟩
abbrev PAR_MIRROR_SENT : Fld := ⟨R.PAR_MIRROR, 0, 12⟩
abbrev PAR_MIRROR_ACKED : Fld := ⟨R.PAR_MIRROR, 16, 12⟩
abbrev PAR_RSYNC_MS_MS : Fld := ⟨R.PAR_RSYNC_MS, 0, 16⟩
abbrev PAR_LAST_FRAME : Fld := ⟨R.PAR_LAST, 0, 24⟩
abbrev PAR_LAST_CAUSE : Fld := ⟨R.PAR_LAST, 24, 4⟩
abbrev PAR_MIRROR_DROP_COUNT : Fld := ⟨R.PAR_MIRROR_DROP, 0, 32⟩
abbrev PAR_TAKEOVERS_COUNT : Fld := ⟨R.PAR_TAKEOVERS, 0, 32⟩
abbrev PAR_LOSS_COUNT : Fld := ⟨R.PAR_LOSS, 0, 32⟩
abbrev PAR_RSYNC_FAIL_COUNT : Fld := ⟨R.PAR_RSYNC_FAIL, 0, 32⟩
abbrev PAR_RESEND_COUNT : Fld := ⟨R.PAR_RESEND, 0, 32⟩
abbrev PAR_REFUSED_COUNT : Fld := ⟨R.PAR_REFUSED, 0, 32⟩
abbrev MGT_GSE_STAT_VERDICT : Fld := ⟨R.MGT_GSE_STAT, 0, 2⟩
abbrev MGT_GSE_STAT_WDFORCE : Fld := ⟨R.MGT_GSE_STAT, 2, 1⟩
abbrev MGT_GSE_STAT_DCAUSE : Fld := ⟨R.MGT_GSE_STAT, 8, 7⟩
abbrev MGT_GSE_STAT_ACAUSE : Fld := ⟨R.MGT_GSE_STAT, 16, 7⟩
abbrev MGT_GSE_EN_EN : Fld := ⟨R.MGT_GSE_EN, 0, 7⟩
abbrev MGT_GSE_LIM0_SUSPMAX : Fld := ⟨R.MGT_GSE_LIM0, 0, 8⟩
abbrev MGT_GSE_LIM0_UEMAX : Fld := ⟨R.MGT_GSE_LIM0, 8, 8⟩
abbrev MGT_GSE_LIM0_TLOST : Fld := ⟨R.MGT_GSE_LIM0, 16, 8⟩
abbrev MGT_GSE_LIM1_CEMAX : Fld := ⟨R.MGT_GSE_LIM1, 0, 16⟩
abbrev MGT_GSE_LIM1_LANEMAX : Fld := ⟨R.MGT_GSE_LIM1, 16, 16⟩
abbrev MGT_GSE_CHG_COUNT : Fld := ⟨R.MGT_GSE_CHG, 0, 32⟩
abbrev MGT_BLK_ID_BLOCK : Fld := ⟨R.MGT_BLK_ID, 0, 16⟩
abbrev MGT_BLK_ID_REV : Fld := ⟨R.MGT_BLK_ID, 16, 8⟩
abbrev MGT_STATUS_RUNNING : Fld := ⟨R.MGT_STATUS, 0, 4⟩
abbrev MGT_STATUS_NEEDIMG : Fld := ⟨R.MGT_STATUS, 4, 4⟩
abbrev MGT_STATUS_UNCONF : Fld := ⟨R.MGT_STATUS, 8, 4⟩
abbrev MGT_KEYS_REVOKED : Fld := ⟨R.MGT_KEYS, 0, 4⟩
abbrev MGT_CONF_CTL_AUTOCONF : Fld := ⟨R.MGT_CONF_CTL, 0, 1⟩
abbrev MGT_CORE_VER_VERSION (c : Nat) : Fld := ⟨R.MGT_CORE_VER c, 0, 32⟩
abbrev MGT_CORE_SVN_SVN (c : Nat) : Fld := ⟨R.MGT_CORE_SVN c, 0, 16⟩
abbrev MGT_CORE_SVN_CNT (c : Nat) : Fld := ⟨R.MGT_CORE_SVN c, 16, 16⟩
abbrev MGT_CORE_IFACE_IFACE (c : Nat) : Fld := ⟨R.MGT_CORE_IFACE c, 0, 16⟩
abbrev MGT_CORE_IFACE_HOFMT (c : Nat) : Fld := ⟨R.MGT_CORE_IFACE c, 16, 16⟩
abbrev MGT_WD_CTL_PERIOD (c : Nat) : Fld := ⟨R.MGT_WD_CTL c, 0, 16⟩
abbrev MGT_WD_CNT_COUNT (c : Nat) : Fld := ⟨R.MGT_WD_CNT c, 0, 32⟩
abbrev MGT_MB_STAT_LEVEL (c : Nat) : Fld := ⟨R.MGT_MB_STAT c, 0, 4⟩
abbrev MGT_MB_OVF_COUNT (c : Nat) : Fld := ⟨R.MGT_MB_OVF c, 0, 32⟩
abbrev MGT_SESS_STATE : Fld := ⟨R.MGT_SESS, 0, 3⟩
abbrev MGT_SESS_HELD : Fld := ⟨R.MGT_SESS, 3, 1⟩
abbrev MGT_SESS_PATH : Fld := ⟨R.MGT_SESS, 4, 2⟩
abbrev MGT_SESS_TARGET : Fld := ⟨R.MGT_SESS, 6, 3⟩
abbrev MGT_SESS_COLD : Fld := ⟨R.MGT_SESS, 9, 1⟩
abbrev MGT_SESS_SESSTAG : Fld := ⟨R.MGT_SESS, 16, 16⟩
abbrev MGT_SESS_STAT_STATUS : Fld := ⟨R.MGT_SESS_STAT, 0, 8⟩
abbrev MGT_SESS_STAT_DETAIL : Fld := ⟨R.MGT_SESS_STAT, 8, 8⟩
abbrev MGT_SESS_BYTES_BYTES : Fld := ⟨R.MGT_SESS_BYTES, 0, 32⟩
abbrev MGT_SESS_CNT_COUNT : Fld := ⟨R.MGT_SESS_CNT, 0, 32⟩
abbrev MGT_BUSY_CNT_COUNT : Fld := ⟨R.MGT_BUSY_CNT, 0, 32⟩
abbrev MGT_MW_SEND_CORE (p : Nat) : Fld := ⟨R.MGT_MW_SEND p, 0, 2⟩
abbrev MGT_MW_STAT_SST (p : Nat) : Fld := ⟨R.MGT_MW_STAT p, 0, 2⟩
abbrev MGT_MW_STAT_RLENW (p : Nat) : Fld := ⟨R.MGT_MW_STAT p, 16, 10⟩
abbrev MGT_MW_RACK_ACK (p : Nat) : Fld := ⟨R.MGT_MW_RACK p, 0, 1⟩
abbrev MGT_MW_BUF_WORD (p : Nat) (w : Nat) : Fld := ⟨R.MGT_MW_BUF p w, 0, 32⟩
abbrev MGT_MW_RBUF_WORD (p : Nat) (w : Nat) : Fld := ⟨R.MGT_MW_RBUF p w, 0, 32⟩
abbrev HCH_BLK_ID_BLOCK : Fld := ⟨R.HCH_BLK_ID, 0, 16⟩
abbrev HCH_BLK_ID_REV : Fld := ⟨R.HCH_BLK_ID, 16, 8⟩
abbrev HCH_CTL_BAUD : Fld := ⟨R.HCH_CTL, 0, 2⟩
abbrev HCH_CTL_LOCK : Fld := ⟨R.HCH_CTL, 2, 1⟩
abbrev HCH_STAT_TCKACT : Fld := ⟨R.HCH_STAT, 0, 1⟩
abbrev HCH_UERR_COUNT : Fld := ⟨R.HCH_UERR, 0, 32⟩
abbrev RPS_BLK_ID_BLOCK : Fld := ⟨R.RPS_BLK_ID, 0, 16⟩
abbrev RPS_BLK_ID_REV : Fld := ⟨R.RPS_BLK_ID, 16, 8⟩
abbrev RPS_CAUSE_CAUSE : Fld := ⟨R.RPS_CAUSE, 0, 10⟩
abbrev RPS_LAST_LEVEL : Fld := ⟨R.RPS_LAST, 0, 2⟩
abbrev RPS_LAST_SOURCE : Fld := ⟨R.RPS_LAST, 4, 4⟩
abbrev RPS_LAST_CORES : Fld := ⟨R.RPS_LAST, 8, 4⟩
abbrev RPS_LAST_KEPT : Fld := ⟨R.RPS_LAST, 12, 1⟩
abbrev RPS_LAST_MERGED : Fld := ⟨R.RPS_LAST, 13, 1⟩
abbrev RPS_RST_LEVEL : Fld := ⟨R.RPS_RST, 0, 2⟩
abbrev RPS_RST_CORES : Fld := ⟨R.RPS_RST, 4, 4⟩
abbrev RPS_RST_NOKEEP : Fld := ⟨R.RPS_RST, 8, 1⟩
abbrev RPS_RST_KEY : Fld := ⟨R.RPS_RST, 16, 16⟩
abbrev RPS_CHRST_PORTS : Fld := ⟨R.RPS_CHRST, 0, 8⟩
abbrev RPS_CHRST_ADDR : Fld := ⟨R.RPS_CHRST, 8, 7⟩
abbrev RPS_BOOT_STAGE : Fld := ⟨R.RPS_BOOT, 0, 3⟩
abbrev RPS_BOOT_MS : Fld := ⟨R.RPS_BOOT, 16, 16⟩
abbrev RPS_PWR_REQ_REQ : Fld := ⟨R.RPS_PWR_REQ, 0, 2⟩
abbrev RPS_PWR_NS_NS : Fld := ⟨R.RPS_PWR_NS, 0, 30⟩
abbrev RPS_PWR_SL_SEC : Fld := ⟨R.RPS_PWR_SL, 0, 32⟩
abbrev RPS_PWR_SH_SEC : Fld := ⟨R.RPS_PWR_SH, 0, 16⟩
abbrev RPS_PWR_STAT_STATE : Fld := ⟨R.RPS_PWR_STAT, 0, 2⟩
abbrev RPS_PWR_STAT_RESULT : Fld := ⟨R.RPS_PWR_STAT, 2, 2⟩
abbrev RPS_PWR_STAT_CODE : Fld := ⟨R.RPS_PWR_STAT, 4, 3⟩
abbrev RPS_WAKE_EN : Fld := ⟨R.RPS_WAKE, 0, 4⟩
abbrev RPS_WAKE_STAT_SRC : Fld := ⟨R.RPS_WAKE_STAT, 0, 4⟩
abbrev RPS_TONE_CTL_MS : Fld := ⟨R.RPS_TONE_CTL, 0, 8⟩
abbrev RPS_TONE_GO_PORTS : Fld := ⟨R.RPS_TONE_GO, 0, 8⟩
abbrev RPS_DOZE_RELAY : Fld := ⟨R.RPS_DOZE, 0, 8⟩
abbrev RPS_DOZE_PORTS : Fld := ⟨R.RPS_DOZE, 8, 8⟩
abbrev RPS_AON_BROWNOUT : Fld := ⟨R.RPS_AON, 0, 1⟩
abbrev RPS_AON_VIN_OK : Fld := ⟨R.RPS_AON, 1, 1⟩
abbrev RPS_AON_WAKEN : Fld := ⟨R.RPS_AON, 2, 1⟩
abbrev RPS_AON_SREF : Fld := ⟨R.RPS_AON, 3, 1⟩
abbrev RPS_AON_TONE : Fld := ⟨R.RPS_AON, 4, 1⟩
abbrev RPS_AON_PGCORE : Fld := ⟨R.RPS_AON, 5, 1⟩
abbrev RPS_GLITCH_COUNT : Fld := ⟨R.RPS_GLITCH, 0, 32⟩
abbrev RPS_DEFER_COUNT : Fld := ⟨R.RPS_DEFER, 0, 32⟩
abbrev RPS_MERGE_COUNT : Fld := ⟨R.RPS_MERGE, 0, 32⟩
abbrev THM_BLK_ID_BLOCK : Fld := ⟨R.THM_BLK_ID, 0, 16⟩
abbrev THM_BLK_ID_REV : Fld := ⟨R.THM_BLK_ID, 16, 8⟩
abbrev THM_STATUS_STAGE : Fld := ⟨R.THM_STATUS, 0, 2⟩
abbrev THM_STATUS_MCOMP : Fld := ⟨R.THM_STATUS, 2, 1⟩
abbrev THM_STATUS_CAP : Fld := ⟨R.THM_STATUS, 4, 4⟩
abbrev THM_STATUS_WARN : Fld := ⟨R.THM_STATUS, 8, 8⟩
abbrev THM_STATUS_THROT : Fld := ⟨R.THM_STATUS, 16, 8⟩
abbrev THM_LIMD_WARN : Fld := ⟨R.THM_LIMD, 0, 8⟩
abbrev THM_LIMD_THROT : Fld := ⟨R.THM_LIMD, 8, 8⟩
abbrev THM_LIMD_SHUT : Fld := ⟨R.THM_LIMD, 16, 8⟩
abbrev THM_LIMB_WARN : Fld := ⟨R.THM_LIMB, 0, 8⟩
abbrev THM_LIMB_THROT : Fld := ⟨R.THM_LIMB, 8, 8⟩
abbrev THM_LIMB_SHUT : Fld := ⟨R.THM_LIMB, 16, 8⟩
abbrev THM_STG_S2DLY : Fld := ⟨R.THM_STG, 0, 14⟩
abbrev THM_SCAP_CAP : Fld := ⟨R.THM_SCAP, 0, 4⟩
abbrev THM_SCAP_FRAME : Fld := ⟨R.THM_SCAP, 8, 24⟩
abbrev THM_SCAPREQ_REQ : Fld := ⟨R.THM_SCAPREQ, 0, 4⟩
abbrev THM_MASK_DIE : Fld := ⟨R.THM_MASK, 0, 12⟩
abbrev THM_MASK_BOARD : Fld := ⟨R.THM_MASK, 16, 16⟩
abbrev THM_MASK_SET_SENSOR : Fld := ⟨R.THM_MASK_SET, 0, 5⟩
abbrev THM_MASK_SET_VALUE : Fld := ⟨R.THM_MASK_SET, 8, 1⟩
abbrev THM_MASK_SET_KEY : Fld := ⟨R.THM_MASK_SET, 16, 16⟩
abbrev THM_FAIL_DIE : Fld := ⟨R.THM_FAIL, 0, 12⟩
abbrev THM_FAIL_BOARD : Fld := ⟨R.THM_FAIL, 16, 16⟩
abbrev THM_SDREC_COUNT : Fld := ⟨R.THM_SDREC, 0, 8⟩
abbrev THM_SDREC_ZONE : Fld := ⟨R.THM_SDREC, 8, 3⟩
abbrev THM_SDREC_SENSOR : Fld := ⟨R.THM_SDREC, 11, 5⟩
abbrev THM_SDREC_T16 : Fld := ⟨R.THM_SDREC, 16, 16⟩
abbrev THM_HOT_DIE : Fld := ⟨R.THM_HOT, 0, 16⟩
abbrev THM_HOT_BOARD : Fld := ⟨R.THM_HOT, 16, 16⟩
abbrev THM_MREF_COUNT : Fld := ⟨R.THM_MREF, 0, 32⟩
abbrev THM_Z_VAL (z : Nat) : Fld := ⟨R.THM_Z z, 0, 16⟩
abbrev THM_Z_OVER (z : Nat) : Fld := ⟨R.THM_Z z, 16, 3⟩
abbrev THM_Z_NVALID (z : Nat) : Fld := ⟨R.THM_Z z, 19, 5⟩
abbrev THM_D_T16 (d : Nat) : Fld := ⟨R.THM_D d, 0, 16⟩
abbrev THM_D_STATE (d : Nat) : Fld := ⟨R.THM_D d, 16, 2⟩
abbrev THM_B_ID_PIDL (b : Nat) : Fld := ⟨R.THM_B_ID b, 0, 32⟩
abbrev THM_B_CFG_PIDH (b : Nat) : Fld := ⟨R.THM_B_CFG b, 0, 16⟩
abbrev THM_B_CFG_EN (b : Nat) : Fld := ⟨R.THM_B_CFG b, 16, 1⟩
abbrev THM_B_CFG_BUS (b : Nat) : Fld := ⟨R.THM_B_CFG b, 17, 1⟩
abbrev THM_B_CFG_ZONE (b : Nat) : Fld := ⟨R.THM_B_CFG b, 20, 3⟩
abbrev THM_B_CFG_FMT (b : Nat) : Fld := ⟨R.THM_B_CFG b, 23, 1⟩
abbrev THM_B_CFG_REGIDX (b : Nat) : Fld := ⟨R.THM_B_CFG b, 24, 8⟩
abbrev THM_B_T16 (b : Nat) : Fld := ⟨R.THM_B b, 0, 16⟩
abbrev THM_B_STATE (b : Nat) : Fld := ⟨R.THM_B b, 16, 2⟩
abbrev THM_B_DADDR (b : Nat) : Fld := ⟨R.THM_B b, 18, 7⟩
abbrev NVS_BLK_ID_BLOCK : Fld := ⟨R.NVS_BLK_ID, 0, 16⟩
abbrev NVS_BLK_ID_REV : Fld := ⟨R.NVS_BLK_ID, 16, 8⟩
abbrev NVS_STATUS_LOADED : Fld := ⟨R.NVS_STATUS, 0, 1⟩
abbrev NVS_STATUS_COPY : Fld := ⟨R.NVS_STATUS, 1, 1⟩
abbrev NVS_STATUS_FALLBACK : Fld := ⟨R.NVS_STATUS, 2, 1⟩
abbrev NVS_STATUS_TRIM_INVALID : Fld := ⟨R.NVS_STATUS, 3, 1⟩
abbrev NVS_STATUS_WBUSY : Fld := ⟨R.NVS_STATUS, 4, 1⟩
abbrev NVS_STATUS_REPAIR : Fld := ⟨R.NVS_STATUS, 5, 1⟩
abbrev NVS_STATUS_FAILA : Fld := ⟨R.NVS_STATUS, 8, 2⟩
abbrev NVS_STATUS_FAILB : Fld := ⟨R.NVS_STATUS, 10, 2⟩
abbrev NVS_SEQ_SEQ : Fld := ⟨R.NVS_SEQ, 0, 32⟩
abbrev NVS_RESTARTS_COUNT : Fld := ⟨R.NVS_RESTARTS, 0, 32⟩
abbrev NVS_WCNT_COUNT : Fld := ⟨R.NVS_WCNT, 0, 32⟩
abbrev NVS_OPT_OPT (n : Nat) : Fld := ⟨R.NVS_OPT n, 0, 32⟩
abbrev NVS_OPTW_OPT (n : Nat) : Fld := ⟨R.NVS_OPTW n, 0, 32⟩
abbrev NVS_WCMD_OP : Fld := ⟨R.NVS_WCMD, 0, 2⟩
abbrev NVS_WCMD_KEY : Fld := ⟨R.NVS_WCMD, 16, 16⟩
abbrev NVS_WSTAT_STATE : Fld := ⟨R.NVS_WSTAT, 0, 2⟩
abbrev NVS_WSTAT_CODE : Fld := ⟨R.NVS_WSTAT, 4, 3⟩
abbrev NVS_WIN_ADDR_OFFSET : Fld := ⟨R.NVS_WIN_ADDR, 0, 16⟩
abbrev NVS_WIN_DATA_DATA : Fld := ⟨R.NVS_WIN_DATA, 0, 32⟩
abbrev NVS_RD_ADDR_OFFSET : Fld := ⟨R.NVS_RD_ADDR, 0, 16⟩
abbrev NVS_RD_DATA_DATA : Fld := ⟨R.NVS_RD_DATA, 0, 32⟩
abbrev NVS_CALMARK_KIND : Fld := ⟨R.NVS_CALMARK, 0, 2⟩
abbrev NVS_CALREJ_KIND : Fld := ⟨R.NVS_CALREJ, 0, 2⟩
abbrev NVS_CALREJ_CODE : Fld := ⟨R.NVS_CALREJ, 4, 3⟩
abbrev NVS_CALREC_CNT_COUNT (k : Nat) : Fld := ⟨R.NVS_CALREC_CNT k, 0, 32⟩
abbrev NVS_CALREC_NS_NS (k : Nat) : Fld := ⟨R.NVS_CALREC_NS k, 0, 30⟩
abbrev NVS_CALREC_SL_SEC (k : Nat) : Fld := ⟨R.NVS_CALREC_SL k, 0, 32⟩
abbrev NVS_CALREC_SH_SEC (k : Nat) : Fld := ⟨R.NVS_CALREC_SH k, 0, 16⟩
abbrev NVS_CALREC_SH_UNSET (k : Nat) : Fld := ⟨R.NVS_CALREC_SH k, 16, 1⟩

end F

end Sys2Proof.Machine
end

