-- ==== Sys2Proof/Machine/RegSpec.lean ====
section
/-! DEFINITION. The shape of one row of a register table: access codes (Table 00.4), fields and series of registers. -/

namespace Sys2Proof.Machine

/-- The access codes of Table 00.4 that a field of a register table carries (RSV bits have no field row). -/
inductive Acc where
  | rw | ro | rc | w1c | wo | st
deriving DecidableEq, Repr

/-- One field: lowest bit, width, access code, reset value (unshifted) and where an img value comes from: 0 the field is not
img, 1 it is set from REGINIT, 2 it takes its value from another part of the image or from the role (R36). -/
structure FieldRow where
  lo : Nat
  width : Nat
  acc : Acc
  reset : Nat
  img : Nat
deriving DecidableEq, Repr

/-- One register, or a series of registers: name, offset in its block, the (step, count) pairs of its indices, whether it is
the low (1) or the high (2) word of a wide counter of R14, and its fields. -/
structure RegRow where
  name : String
  off : Nat
  dims : List (Nat × Nat)
  wide : Nat
  fields : List FieldRow
deriving DecidableEq, Repr

end Sys2Proof.Machine
end

