-- ==== Sys2Proof/Machine/RegTable.lean ====
section
/-! DEFINITION. The register tables of the spec (Tables 02.10, 03.10, 04.9, 05.6, 06.10, 07.4, 08.8, 09.11, 10.7, 11.6, 12.8,
13.8, 14.8-14.10, 15.9, 15.10, 16.10, 16.11, 17.8, 18.6, 19.9): one row per register or series, with the access code and the
reset value of every field.  A reset entry that is no number (img, fuse, trim, record ...) stands here as 0; the operation that
loads it writes it. -/

namespace Sys2Proof.Machine.RegTable
open Sys2Proof.Machine

/-- Block SYS, registers from offset 0x0. -/
def sys0 : List RegRow := [
  ⟨"SYS_BLK_ID", 0x0, [], 0, [⟨0, 16, .ro, 1, 0⟩, ⟨16, 8, .ro, 1, 0⟩]⟩,
  ⟨"SYS_ID", 0x4, [], 0, [⟨0, 16, .ro, 0, 0⟩, ⟨16, 8, .ro, 176, 0⟩]⟩,
  ⟨"SYS_CAPS", 0x8, [], 0, [⟨0, 1, .ro, 0, 0⟩, ⟨1, 1, .ro, 0, 0⟩, ⟨2, 1, .ro, 0, 0⟩, ⟨3, 1, .ro, 0, 0⟩, ⟨4, 1, .ro, 0, 0⟩, ⟨8, 8, .ro, 0, 0⟩, ⟨16, 4, .ro, 0, 0⟩]⟩,
  ⟨"SYS_ROLE", 0xC, [], 0, [⟨0, 2, .ro, 0, 2⟩]⟩,
  ⟨"SYS_UNITID", 0x10, [(4, 3)], 0, [⟨0, 32, .ro, 0, 0⟩]⟩,
  ⟨"SYS_IMG_ACT", 0x20, [], 0, [⟨0, 1, .ro, 0, 2⟩, ⟨1, 1, .ro, 0, 0⟩]⟩,
  ⟨"SYS_IMG_SEL", 0x24, [], 0, [⟨0, 1, .st, 0, 0⟩]⟩,
  ⟨"SYS_IMG_STAT", 0x28, [(4, 2)], 0, [⟨0, 3, .ro, 0, 0⟩, ⟨4, 4, .ro, 0, 0⟩, ⟨8, 8, .ro, 255, 0⟩, ⟨16, 2, .ro, 0, 0⟩]⟩,
  ⟨"SYS_IMG_ID", 0x30, [], 0, [⟨0, 32, .ro, 0, 2⟩]⟩,
  ⟨"SYS_IMG_TOOL", 0x34, [], 0, [⟨0, 32, .ro, 0, 2⟩]⟩,
  ⟨"SYS_IMG_HASH", 0x40, [(4, 8)], 0, [⟨0, 32, .ro, 0, 2⟩]⟩,
  ⟨"SYS_UNITEN", 0x60, [], 0, [⟨0, 4, .ro, 0, 2⟩, ⟨4, 4, .ro, 0, 2⟩, ⟨8, 8, .ro, 0, 2⟩, ⟨16, 2, .ro, 0, 2⟩, ⟨18, 2, .ro, 0, 2⟩, ⟨20, 7, .ro, 0, 2⟩]⟩]

/-- Block SYS, registers from offset 0x64. -/
def sys1 : List RegRow := [
  ⟨"SYS_IMG_CHECK", 0x64, [], 0, [⟨0, 1, .wo, 0, 0⟩]⟩]

/-- All register rows of block SYS. -/
def sysRows : List RegRow := sys0 ++ sys1

/-- Block RPS, registers from offset 0x0. -/
def rps0 : List RegRow := [
  ⟨"RPS_BLK_ID", 0x0, [], 0, [⟨0, 16, .ro, 257, 0⟩, ⟨16, 8, .ro, 1, 0⟩]⟩,
  ⟨"RPS_CAUSE", 0x4, [], 0, [⟨0, 10, .w1c, 1, 0⟩]⟩,
  ⟨"RPS_LAST", 0x8, [], 0, [⟨0, 2, .ro, 3, 0⟩, ⟨4, 4, .ro, 0, 0⟩, ⟨8, 4, .ro, 0, 0⟩, ⟨12, 1, .ro, 0, 0⟩, ⟨13, 1, .ro, 0, 0⟩]⟩,
  ⟨"RPS_RST", 0xC, [], 0, [⟨0, 2, .wo, 0, 0⟩, ⟨4, 4, .wo, 0, 0⟩, ⟨8, 1, .wo, 0, 0⟩, ⟨16, 16, .wo, 0, 0⟩]⟩,
  ⟨"RPS_CHRST", 0x10, [], 0, [⟨0, 8, .wo, 0, 0⟩, ⟨8, 7, .wo, 0, 0⟩]⟩,
  ⟨"RPS_BOOT", 0x14, [], 0, [⟨0, 3, .ro, 0, 0⟩, ⟨16, 16, .ro, 0, 0⟩]⟩,
  ⟨"RPS_PWR_REQ", 0x18, [], 0, [⟨0, 2, .wo, 0, 0⟩]⟩,
  ⟨"RPS_PWR_NS", 0x1C, [], 0, [⟨0, 30, .rw, 0, 0⟩]⟩,
  ⟨"RPS_PWR_SL", 0x20, [], 0, [⟨0, 32, .rw, 0, 0⟩]⟩,
  ⟨"RPS_PWR_SH", 0x24, [], 0, [⟨0, 16, .rw, 0, 0⟩]⟩,
  ⟨"RPS_PWR_STAT", 0x28, [], 0, [⟨0, 2, .ro, 0, 0⟩, ⟨2, 2, .ro, 0, 0⟩, ⟨4, 3, .ro, 0, 0⟩]⟩,
  ⟨"RPS_WAKE", 0x2C, [], 0, [⟨0, 4, .rw, 3, 0⟩]⟩]

/-- Block RPS, registers from offset 0x30. -/
def rps1 : List RegRow := [
  ⟨"RPS_WAKE_STAT", 0x30, [], 0, [⟨0, 4, .ro, 0, 0⟩]⟩,
  ⟨"RPS_TONE_CTL", 0x34, [], 0, [⟨0, 8, .rw, 20, 0⟩]⟩,
  ⟨"RPS_TONE_GO", 0x38, [], 0, [⟨0, 8, .wo, 0, 0⟩]⟩,
  ⟨"RPS_DOZE", 0x3C, [], 0, [⟨0, 8, .rw, 30, 0⟩, ⟨8, 8, .rw, 0, 0⟩]⟩,
  ⟨"RPS_AON", 0x40, [], 0, [⟨0, 1, .w1c, 0, 0⟩, ⟨1, 1, .ro, 0, 0⟩, ⟨2, 1, .ro, 0, 0⟩, ⟨3, 1, .ro, 0, 0⟩, ⟨4, 1, .ro, 0, 0⟩, ⟨5, 1, .ro, 0, 0⟩]⟩,
  ⟨"RPS_GLITCH", 0x44, [], 0, [⟨0, 32, .rc, 0, 0⟩]⟩,
  ⟨"RPS_DEFER", 0x48, [], 0, [⟨0, 32, .rc, 0, 0⟩]⟩,
  ⟨"RPS_MERGE", 0x4C, [], 0, [⟨0, 32, .rc, 0, 0⟩]⟩]

/-- All register rows of block RPS. -/
def rpsRows : List RegRow := rps0 ++ rps1

/-- Block THM, registers from offset 0x0. -/
def thm0 : List RegRow := [
  ⟨"THM_BLK_ID", 0x0, [], 0, [⟨0, 16, .ro, 2, 0⟩, ⟨16, 8, .ro, 1, 0⟩]⟩,
  ⟨"THM_STATUS", 0x4, [], 0, [⟨0, 2, .ro, 0, 0⟩, ⟨2, 1, .ro, 0, 0⟩, ⟨4, 4, .ro, 0, 0⟩, ⟨8, 8, .ro, 0, 0⟩, ⟨16, 8, .ro, 0, 0⟩]⟩,
  ⟨"THM_LIMD", 0x8, [], 0, [⟨0, 8, .ro, 95, 0⟩, ⟨8, 8, .ro, 105, 0⟩, ⟨16, 8, .ro, 118, 0⟩]⟩,
  ⟨"THM_LIMB", 0xC, [], 0, [⟨0, 8, .st, 80, 0⟩, ⟨8, 8, .st, 90, 0⟩, ⟨16, 8, .st, 100, 0⟩]⟩,
  ⟨"THM_STG", 0x10, [], 0, [⟨0, 14, .st, 1000, 0⟩]⟩,
  ⟨"THM_SCAP", 0x14, [], 0, [⟨0, 4, .rw, 0, 0⟩, ⟨8, 24, .rw, 0, 0⟩]⟩,
  ⟨"THM_SCAPREQ", 0x18, [], 0, [⟨0, 4, .ro, 0, 0⟩]⟩,
  ⟨"THM_MASK", 0x1C, [], 0, [⟨0, 12, .ro, 0, 0⟩, ⟨16, 16, .ro, 0, 0⟩]⟩,
  ⟨"THM_MASK_SET", 0x20, [], 0, [⟨0, 5, .wo, 0, 0⟩, ⟨8, 1, .wo, 0, 0⟩, ⟨16, 16, .wo, 0, 0⟩]⟩,
  ⟨"THM_FAIL", 0x24, [], 0, [⟨0, 12, .ro, 0, 0⟩, ⟨16, 16, .ro, 0, 0⟩]⟩,
  ⟨"THM_SDREC", 0x28, [], 0, [⟨0, 8, .ro, 0, 0⟩, ⟨8, 3, .ro, 0, 0⟩, ⟨11, 5, .ro, 0, 0⟩, ⟨16, 16, .ro, 0, 0⟩]⟩,
  ⟨"THM_HOT", 0x2C, [], 0, [⟨0, 16, .ro, 0, 0⟩, ⟨16, 16, .ro, 0, 0⟩]⟩]

/-- Block THM, registers from offset 0x30. -/
def thm1 : List RegRow := [
  ⟨"THM_MREF", 0x30, [], 0, [⟨0, 32, .rc, 0, 0⟩]⟩,
  ⟨"THM_Z", 0x40, [(4, 8)], 0, [⟨0, 16, .ro, 0, 0⟩, ⟨16, 3, .ro, 0, 0⟩, ⟨19, 5, .ro, 0, 0⟩]⟩,
  ⟨"THM_D", 0x80, [(4, 12)], 0, [⟨0, 16, .ro, 0, 0⟩, ⟨16, 2, .ro, 0, 0⟩]⟩,
  ⟨"THM_B_ID", 0x100, [(8, 16)], 0, [⟨0, 32, .st, 0, 0⟩]⟩,
  ⟨"THM_B_CFG", 0x104, [(8, 16)], 0, [⟨0, 16, .st, 0, 0⟩, ⟨16, 1, .st, 0, 0⟩, ⟨17, 1, .st, 0, 0⟩, ⟨20, 3, .st, 4, 0⟩, ⟨23, 1, .st, 0, 0⟩, ⟨24, 8, .st, 0, 0⟩]⟩,
  ⟨"THM_B", 0x200, [(4, 16)], 0, [⟨0, 16, .ro, 0, 0⟩, ⟨16, 2, .ro, 0, 0⟩, ⟨18, 7, .ro, 0, 0⟩]⟩]

/-- All register rows of block THM. -/
def thmRows : List RegRow := thm0 ++ thm1

/-- Block NVS, registers from offset 0x0. -/
def nvs0 : List RegRow := [
  ⟨"NVS_BLK_ID", 0x0, [], 0, [⟨0, 16, .ro, 3, 0⟩, ⟨16, 8, .ro, 1, 0⟩]⟩,
  ⟨"NVS_STATUS", 0x4, [], 0, [⟨0, 1, .ro, 0, 0⟩, ⟨1, 1, .ro, 0, 0⟩, ⟨2, 1, .ro, 0, 0⟩, ⟨3, 1, .ro, 0, 0⟩, ⟨4, 1, .ro, 0, 0⟩, ⟨5, 1, .ro, 0, 0⟩, ⟨8, 2, .ro, 0, 0⟩, ⟨10, 2, .ro, 0, 0⟩]⟩,
  ⟨"NVS_SEQ", 0x8, [], 0, [⟨0, 32, .ro, 0, 0⟩]⟩,
  ⟨"NVS_RESTARTS", 0xC, [], 0, [⟨0, 32, .rc, 0, 0⟩]⟩,
  ⟨"NVS_WCNT", 0x10, [], 0, [⟨0, 32, .rc, 0, 0⟩]⟩,
  ⟨"NVS_OPT", 0x20, [(4, 8)], 0, [⟨0, 32, .ro, 0, 0⟩]⟩,
  ⟨"NVS_OPTW", 0x40, [(4, 8)], 0, [⟨0, 32, .rw, 0, 0⟩]⟩,
  ⟨"NVS_WCMD", 0x60, [], 0, [⟨0, 2, .wo, 0, 0⟩, ⟨16, 16, .wo, 0, 0⟩]⟩,
  ⟨"NVS_WSTAT", 0x64, [], 0, [⟨0, 2, .ro, 0, 0⟩, ⟨4, 3, .ro, 0, 0⟩]⟩,
  ⟨"NVS_WIN_ADDR", 0x68, [], 0, [⟨0, 16, .rw, 0, 0⟩]⟩,
  ⟨"NVS_WIN_DATA", 0x6C, [], 0, [⟨0, 32, .wo, 0, 0⟩]⟩,
  ⟨"NVS_RD_ADDR", 0x70, [], 0, [⟨0, 16, .rw, 0, 0⟩]⟩]

/-- Block NVS, registers from offset 0x74. -/
def nvs1 : List RegRow := [
  ⟨"NVS_RD_DATA", 0x74, [], 0, [⟨0, 32, .ro, 0, 0⟩]⟩,
  ⟨"NVS_CALMARK", 0x80, [], 0, [⟨0, 2, .wo, 0, 0⟩]⟩,
  ⟨"NVS_CALREJ", 0x84, [], 0, [⟨0, 2, .ro, 0, 0⟩, ⟨4, 3, .ro, 0, 0⟩]⟩,
  ⟨"NVS_CALREC_CNT", 0x100, [(16, 4)], 0, [⟨0, 32, .ro, 0, 0⟩]⟩,
  ⟨"NVS_CALREC_NS", 0x104, [(16, 4)], 0, [⟨0, 30, .ro, 0, 0⟩]⟩,
  ⟨"NVS_CALREC_SL", 0x108, [(16, 4)], 0, [⟨0, 32, .ro, 0, 0⟩]⟩,
  ⟨"NVS_CALREC_SH", 0x10C, [(16, 4)], 0, [⟨0, 16, .ro, 0, 0⟩, ⟨16, 1, .ro, 0, 0⟩]⟩]

/-- All register rows of block NVS. -/
def nvsRows : List RegRow := nvs0 ++ nvs1

/-- Block MGT, registers from offset 0x0. -/
def mgt0 : List RegRow := [
  ⟨"MGT_BLK_ID", 0x0, [], 0, [⟨0, 16, .ro, 4, 0⟩, ⟨16, 8, .ro, 1, 0⟩]⟩,
  ⟨"MGT_STATUS", 0x4, [], 0, [⟨0, 4, .ro, 0, 0⟩, ⟨4, 4, .ro, 0, 0⟩, ⟨8, 4, .ro, 0, 0⟩]⟩,
  ⟨"MGT_KEYS", 0x8, [], 0, [⟨0, 4, .ro, 0, 0⟩]⟩,
  ⟨"MGT_CONF_CTL", 0xC, [], 0, [⟨0, 1, .rw, 1, 0⟩]⟩,
  ⟨"MGT_CORE_VER", 0x10, [(4, 4)], 0, [⟨0, 32, .ro, 0, 0⟩]⟩,
  ⟨"MGT_CORE_SVN", 0x20, [(4, 4)], 0, [⟨0, 16, .ro, 0, 0⟩, ⟨16, 16, .ro, 0, 0⟩]⟩,
  ⟨"MGT_CORE_IFACE", 0x30, [(4, 4)], 0, [⟨0, 16, .ro, 0, 0⟩, ⟨16, 16, .ro, 0, 0⟩]⟩,
  ⟨"MGT_WD_CTL", 0x40, [(4, 4)], 0, [⟨0, 16, .rw, 0, 0⟩]⟩,
  ⟨"MGT_WD_CNT", 0x50, [(4, 4)], 0, [⟨0, 32, .rc, 0, 0⟩]⟩,
  ⟨"MGT_MB_STAT", 0x60, [(4, 4)], 0, [⟨0, 4, .ro, 0, 0⟩]⟩,
  ⟨"MGT_MB_OVF", 0x70, [(4, 4)], 0, [⟨0, 32, .rc, 0, 0⟩]⟩,
  ⟨"MGT_SESS", 0x80, [], 0, [⟨0, 3, .ro, 0, 0⟩, ⟨3, 1, .ro, 0, 0⟩, ⟨4, 2, .ro, 0, 0⟩, ⟨6, 3, .ro, 0, 0⟩, ⟨9, 1, .ro, 0, 0⟩, ⟨16, 16, .ro, 0, 0⟩]⟩]

/-- Block MGT, registers from offset 0x84. -/
def mgt1 : List RegRow := [
  ⟨"MGT_SESS_STAT", 0x84, [], 0, [⟨0, 8, .ro, 0, 0⟩, ⟨8, 8, .ro, 0, 0⟩]⟩,
  ⟨"MGT_SESS_BYTES", 0x88, [], 0, [⟨0, 32, .ro, 0, 0⟩]⟩,
  ⟨"MGT_SESS_CNT", 0x8C, [], 0, [⟨0, 32, .rc, 0, 0⟩]⟩,
  ⟨"MGT_BUSY_CNT", 0x90, [], 0, [⟨0, 32, .rc, 0, 0⟩]⟩,
  ⟨"MGT_MW_SEND", 0x100, [(16, 2)], 0, [⟨0, 2, .wo, 0, 0⟩]⟩,
  ⟨"MGT_MW_STAT", 0x104, [(16, 2)], 0, [⟨0, 2, .ro, 0, 0⟩, ⟨16, 10, .ro, 0, 0⟩]⟩,
  ⟨"MGT_MW_RACK", 0x108, [(16, 2)], 0, [⟨0, 1, .wo, 0, 0⟩]⟩,
  ⟨"MGT_GSE_STAT", 0x800, [], 0, [⟨0, 2, .ro, 0, 0⟩, ⟨2, 1, .ro, 0, 0⟩, ⟨8, 7, .ro, 0, 0⟩, ⟨16, 7, .ro, 0, 0⟩]⟩,
  ⟨"MGT_GSE_EN", 0x804, [], 0, [⟨0, 7, .rw, 127, 0⟩]⟩,
  ⟨"MGT_GSE_LIM0", 0x808, [], 0, [⟨0, 8, .rw, 8, 0⟩, ⟨8, 8, .rw, 4, 0⟩, ⟨16, 8, .rw, 10, 0⟩]⟩,
  ⟨"MGT_GSE_LIM1", 0x80C, [], 0, [⟨0, 16, .rw, 1000, 0⟩, ⟨16, 16, .rw, 100, 0⟩]⟩,
  ⟨"MGT_GSE_CHG", 0x810, [], 0, [⟨0, 32, .rc, 0, 0⟩]⟩]

/-- Block MGT, registers from offset 0x1000. -/
def mgt2 : List RegRow := [
  ⟨"MGT_MW_BUF", 0x1000, [(4096, 2), (4, 500)], 0, [⟨0, 32, .rw, 0, 0⟩]⟩,
  ⟨"MGT_MW_RBUF", 0x1800, [(4096, 2), (4, 500)], 0, [⟨0, 32, .ro, 0, 0⟩]⟩]

/-- All register rows of block MGT. -/
def mgtRows : List RegRow := mgt0 ++ mgt1 ++ mgt2

/-- Block CMT, registers from offset 0x0. -/
def cmt0 : List RegRow := [
  ⟨"CMT_BLK_ID", 0x0, [], 0, [⟨0, 16, .ro, 5, 0⟩, ⟨16, 8, .ro, 1, 0⟩]⟩,
  ⟨"CMT_GEN", 0x4, [], 0, [⟨0, 32, .ro, 0, 0⟩]⟩,
  ⟨"CMT_STATUS", 0x8, [], 0, [⟨0, 1, .w1c, 0, 0⟩, ⟨1, 1, .w1c, 0, 0⟩, ⟨2, 1, .w1c, 0, 0⟩, ⟨3, 1, .ro, 0, 0⟩, ⟨4, 3, .ro, 0, 0⟩, ⟨7, 1, .ro, 0, 0⟩, ⟨8, 3, .ro, 0, 0⟩, ⟨16, 16, .ro, 0, 0⟩]⟩,
  ⟨"CMT_REQ", 0xC, [], 0, [⟨0, 1, .wo, 0, 0⟩, ⟨1, 3, .wo, 0, 0⟩, ⟨16, 16, .wo, 0, 0⟩]⟩,
  ⟨"CMT_TGT_NS", 0x10, [], 0, [⟨0, 30, .rw, 0, 0⟩]⟩,
  ⟨"CMT_TGT_SL", 0x14, [], 0, [⟨0, 32, .rw, 0, 0⟩]⟩,
  ⟨"CMT_TGT_SH", 0x18, [], 0, [⟨0, 16, .rw, 0, 0⟩]⟩,
  ⟨"CMT_CHECK", 0x1C, [], 0, [⟨0, 8, .ro, 0, 0⟩, ⟨8, 4, .ro, 0, 0⟩, ⟨16, 16, .ro, 0, 0⟩]⟩,
  ⟨"CMT_CHECK_IDX", 0x20, [], 0, [⟨0, 16, .ro, 0, 0⟩]⟩,
  ⟨"CMT_LWE_ADDR", 0x24, [], 0, [⟨0, 24, .ro, 0, 0⟩, ⟨24, 3, .ro, 0, 0⟩]⟩,
  ⟨"CMT_LWE_CNT", 0x28, [], 0, [⟨0, 32, .rc, 0, 0⟩]⟩,
  ⟨"CMT_LATE_CNT", 0x2C, [], 0, [⟨0, 32, .rc, 0, 0⟩]⟩]

/-- Block CMT, registers from offset 0x30. -/
def cmt1 : List RegRow := [
  ⟨"CMT_REFUSED", 0x30, [], 0, [⟨0, 32, .rc, 0, 0⟩]⟩,
  ⟨"CMT_PEND_STAT", 0x40, [(32, 4)], 0, [⟨0, 1, .ro, 0, 0⟩, ⟨1, 1, .ro, 0, 0⟩, ⟨2, 1, .ro, 0, 0⟩, ⟨3, 1, .ro, 0, 0⟩, ⟨4, 3, .ro, 0, 0⟩, ⟨8, 24, .ro, 0, 0⟩]⟩,
  ⟨"CMT_PEND_GEN", 0x44, [(32, 4)], 0, [⟨0, 32, .ro, 0, 0⟩]⟩,
  ⟨"CMT_PEND_NS", 0x48, [(32, 4)], 0, [⟨0, 30, .ro, 0, 0⟩]⟩,
  ⟨"CMT_PEND_SL", 0x4C, [(32, 4)], 0, [⟨0, 32, .ro, 0, 0⟩]⟩,
  ⟨"CMT_PEND_SH", 0x50, [(32, 4)], 0, [⟨0, 16, .ro, 0, 0⟩, ⟨16, 16, .ro, 0, 0⟩]⟩,
  ⟨"CMT_CATCHUP", 0xC0, [], 0, [⟨0, 3, .wo, 0, 0⟩, ⟨8, 7, .wo, 0, 0⟩]⟩,
  ⟨"CMT_PEEK_ADDR", 0x100, [], 0, [⟨0, 24, .rw, 0, 0⟩, ⟨31, 1, .ro, 0, 0⟩]⟩,
  ⟨"CMT_PEEK_DATA", 0x104, [], 0, [⟨0, 32, .ro, 0, 0⟩]⟩,
  ⟨"CMT_DUMP_CTL", 0x140, [], 0, [⟨0, 10, .rw, 1, 0⟩, ⟨16, 1, .rw, 0, 0⟩]⟩,
  ⟨"CMT_DUMP_BASE_LO", 0x144, [], 0, [⟨0, 32, .rw, 0, 0⟩]⟩,
  ⟨"CMT_DUMP_BASE_HI", 0x148, [], 0, [⟨0, 32, .rw, 0, 0⟩]⟩]

/-- Block CMT, registers from offset 0x14C. -/
def cmt2 : List RegRow := [
  ⟨"CMT_DUMP_LEN", 0x14C, [], 0, [⟨0, 32, .rw, 0, 0⟩]⟩,
  ⟨"CMT_DUMP_GO", 0x150, [], 0, [⟨0, 1, .wo, 0, 0⟩, ⟨1, 1, .wo, 0, 0⟩]⟩,
  ⟨"CMT_DUMP_STAT", 0x154, [], 0, [⟨0, 2, .ro, 0, 0⟩, ⟨2, 1, .ro, 0, 0⟩, ⟨3, 1, .ro, 0, 0⟩, ⟨4, 1, .ro, 0, 0⟩, ⟨5, 1, .ro, 0, 0⟩]⟩,
  ⟨"CMT_DUMP_BYTES", 0x158, [], 0, [⟨0, 32, .ro, 0, 0⟩]⟩,
  ⟨"CMT_DPORT_ADDR", 0x160, [], 0, [⟨0, 32, .rw, 0, 0⟩]⟩,
  ⟨"CMT_DPORT_DATA", 0x164, [], 0, [⟨0, 32, .ro, 0, 0⟩]⟩]

/-- All register rows of block CMT. -/
def cmtRows : List RegRow := cmt0 ++ cmt1 ++ cmt2

/-- Block FAB, registers from offset 0x0. -/
def fab0 : List RegRow := [
  ⟨"FAB_BLK_ID", 0x0, [], 0, [⟨0, 16, .ro, 8, 0⟩, ⟨16, 8, .ro, 1, 0⟩]⟩,
  ⟨"FAB_TRACKS", 0x4, [], 0, [⟨0, 16, .ro, 0, 2⟩]⟩,
  ⟨"FAB_STATUS", 0x8, [], 0, [⟨0, 2, .ro, 0, 0⟩, ⟨2, 1, .ro, 0, 0⟩, ⟨3, 1, .ro, 0, 0⟩, ⟨4, 1, .ro, 0, 0⟩, ⟨5, 1, .ro, 0, 0⟩]⟩,
  ⟨"FAB_STAGE", 0x10, [(4, 4)], 0, [⟨0, 32, .ro, 0, 2⟩]⟩,
  ⟨"FAB_PLAN", 0x20, [], 0, [⟨0, 10, .st, 150, 0⟩]⟩,
  ⟨"FAB_AVS_LIM", 0x24, [], 0, [⟨0, 10, .st, 600, 0⟩, ⟨16, 10, .st, 850, 0⟩]⟩,
  ⟨"FAB_PLAN_CTL", 0x28, [], 0, [⟨0, 1, .rw, 0, 0⟩]⟩,
  ⟨"FAB_AVS_CFG", 0x2C, [], 0, [⟨0, 4, .rw, 0, 0⟩]⟩,
  ⟨"FAB_VCORE", 0x30, [], 0, [⟨0, 10, .ro, 0, 0⟩, ⟨16, 10, .ro, 0, 0⟩]⟩,
  ⟨"FAB_AVS_STAT", 0x34, [], 0, [⟨0, 16, .ro, 0, 0⟩, ⟨16, 8, .ro, 0, 0⟩]⟩,
  ⟨"FAB_BUDGET", 0x38, [], 0, [⟨0, 20, .ro, 0, 0⟩]⟩,
  ⟨"FAB_SLACK", 0x40, [], 0, [⟨0, 16, .ro, 0, 0⟩, ⟨16, 16, .ro, 0, 0⟩]⟩]

/-- Block FAB, registers from offset 0x44. -/
def fab1 : List RegRow := [
  ⟨"FAB_FLOOR", 0x44, [], 0, [⟨0, 16, .ro, 0, 0⟩]⟩,
  ⟨"FAB_RATE", 0x48, [], 0, [⟨0, 16, .ro, 0, 0⟩]⟩,
  ⟨"FAB_AGE", 0x50, [], 0, [⟨0, 16, .ro, 0, 0⟩, ⟨16, 4, .ro, 0, 0⟩]⟩,
  ⟨"FAB_THR", 0x60, [], 0, [⟨0, 6, .ro, 0, 0⟩, ⟨8, 6, .ro, 0, 0⟩, ⟨16, 6, .ro, 0, 0⟩]⟩,
  ⟨"FAB_RES_THR", 0x64, [], 0, [⟨0, 16, .rw, 16, 0⟩]⟩,
  ⟨"FAB_RING_BAD", 0x68, [], 0, [⟨0, 16, .ro, 0, 0⟩]⟩,
  ⟨"FAB_RING", 0x80, [(4, 16)], 0, [⟨0, 16, .ro, 0, 0⟩, ⟨16, 16, .ro, 0, 0⟩]⟩,
  ⟨"FAB_RES_CNT", 0xC0, [], 1, [⟨0, 32, .rc, 0, 0⟩]⟩,
  ⟨"FAB_RES_CNT_H", 0xC4, [], 2, [⟨0, 16, .rc, 0, 0⟩]⟩,
  ⟨"FAB_RETRY_OK", 0xC8, [], 0, [⟨0, 32, .rc, 0, 0⟩]⟩,
  ⟨"FAB_SUSPECT", 0xCC, [], 0, [⟨0, 32, .rc, 0, 0⟩]⟩,
  ⟨"FAB_LATE", 0xD0, [], 0, [⟨0, 32, .rc, 0, 0⟩]⟩]

/-- Block FAB, registers from offset 0xD4. -/
def fab2 : List RegRow := [
  ⟨"FAB_SRAM_CE", 0xD4, [], 0, [⟨0, 32, .rc, 0, 0⟩]⟩,
  ⟨"FAB_SRAM_DE", 0xD8, [], 0, [⟨0, 32, .rc, 0, 0⟩]⟩,
  ⟨"FAB_TRK_RES", 0x100, [(4, 16)], 0, [⟨0, 32, .rc, 0, 0⟩]⟩,
  ⟨"FAB_LAST_ERR", 0x140, [], 0, [⟨0, 10, .ro, 0, 0⟩, ⟨10, 10, .ro, 0, 0⟩, ⟨20, 1, .ro, 0, 0⟩]⟩,
  ⟨"FAB_LAST_FRM", 0x144, [], 0, [⟨0, 24, .ro, 0, 0⟩, ⟨24, 3, .ro, 0, 0⟩]⟩,
  ⟨"FAB_CPR_ADDR", 0x180, [], 0, [⟨0, 10, .rw, 0, 0⟩, ⟨10, 12, .rw, 0, 0⟩, ⟨24, 1, .rw, 0, 0⟩, ⟨31, 1, .ro, 0, 0⟩]⟩,
  ⟨"FAB_CPR_DATA0", 0x184, [], 0, [⟨0, 32, .ro, 0, 0⟩]⟩,
  ⟨"FAB_CPR_DATA1", 0x188, [], 0, [⟨0, 16, .ro, 0, 0⟩]⟩]

/-- All register rows of block FAB. -/
def fabRows : List RegRow := fab0 ++ fab1 ++ fab2

/-- Block SND, registers from offset 0x0. -/
def snd0 : List RegRow := [
  ⟨"SND_BLK_ID", 0x0, [], 0, [⟨0, 16, .ro, 16, 0⟩, ⟨16, 8, .ro, 1, 0⟩]⟩,
  ⟨"SND_STATUS", 0x4, [], 0, [⟨0, 1, .ro, 0, 0⟩, ⟨1, 1, .ro, 0, 0⟩]⟩,
  ⟨"SND_CTL", 0x8, [], 0, [⟨0, 1, .st, 0, 0⟩]⟩,
  ⟨"SND_CANVAS", 0x10, [], 0, [⟨0, 2, .st, 0, 1⟩]⟩,
  ⟨"SND_CANVAS_SIZE", 0x14, [], 0, [⟨0, 16, .st, 0, 1⟩, ⟨16, 16, .st, 0, 1⟩]⟩,
  ⟨"SND_PLC_BASE_LO", 0x20, [], 0, [⟨0, 32, .st, 0, 1⟩]⟩,
  ⟨"SND_PLC_BASE_HI", 0x24, [], 0, [⟨0, 8, .st, 0, 1⟩]⟩,
  ⟨"SND_PLC_COUNT", 0x28, [], 0, [⟨0, 10, .st, 0, 0⟩]⟩,
  ⟨"SND_ANN_BASE_LO", 0x30, [], 0, [⟨0, 32, .st, 0, 0⟩]⟩,
  ⟨"SND_ANN_BASE_HI", 0x34, [], 0, [⟨0, 8, .st, 0, 0⟩]⟩,
  ⟨"SND_ANN_STRIDE", 0x38, [], 0, [⟨0, 24, .st, 0, 0⟩]⟩,
  ⟨"SND_ANN_SLOTS", 0x3C, [], 0, [⟨0, 8, .st, 0, 0⟩]⟩]

/-- Block SND, registers from offset 0x40. -/
def snd1 : List RegRow := [
  ⟨"SND_LOAD0", 0x40, [], 0, [⟨0, 16, .ro, 0, 0⟩, ⟨16, 16, .ro, 0, 0⟩]⟩,
  ⟨"SND_LOAD1", 0x44, [], 0, [⟨0, 16, .ro, 0, 0⟩]⟩,
  ⟨"SND_CHLOAD", 0x48, [(4, 4)], 0, [⟨0, 10, .ro, 0, 0⟩, ⟨16, 10, .ro, 0, 0⟩]⟩,
  ⟨"SND_SEG_SENT", 0x60, [], 1, [⟨0, 32, .rc, 0, 0⟩]⟩,
  ⟨"SND_SEG_SENT_H", 0x64, [], 2, [⟨0, 16, .rc, 0, 0⟩]⟩,
  ⟨"SND_SEG_DROP", 0x68, [], 0, [⟨0, 32, .rc, 0, 0⟩]⟩,
  ⟨"SND_SEG_ABANDON", 0x6C, [], 0, [⟨0, 32, .rc, 0, 0⟩]⟩,
  ⟨"SND_SEG_SUSPECT", 0x70, [], 0, [⟨0, 32, .rc, 0, 0⟩]⟩,
  ⟨"SND_DRAM_ERR", 0x74, [], 0, [⟨0, 32, .rc, 0, 0⟩]⟩,
  ⟨"SND_LAST_DROP", 0x78, [], 0, [⟨0, 3, .ro, 0, 0⟩, ⟨4, 7, .ro, 0, 0⟩, ⟨12, 3, .ro, 0, 0⟩]⟩,
  ⟨"SND_SLOT_BG_LO", 0x80, [(8, 8)], 0, [⟨0, 32, .st, 0, 0⟩]⟩,
  ⟨"SND_SLOT_BG_HI", 0x84, [(8, 8)], 0, [⟨0, 10, .st, 0, 0⟩]⟩]

/-- Block SND, registers from offset 0xC0. -/
def snd2 : List RegRow := [
  ⟨"SND_WCD_SEL", 0xC0, [], 0, [⟨0, 8, .rw, 0, 0⟩]⟩,
  ⟨"SND_WCD_VAL", 0xC4, [], 0, [⟨0, 16, .ro, 0, 0⟩, ⟨16, 10, .ro, 0, 0⟩]⟩,
  ⟨"SND_OFIFO_CTL", 0x100, [(16, 8)], 0, [⟨0, 3, .rw, 2, 0⟩]⟩,
  ⟨"SND_OFIFO_STAT", 0x104, [(16, 8)], 0, [⟨0, 20, .ro, 0, 0⟩]⟩,
  ⟨"SND_OFIFO_SIZE", 0x108, [(16, 8)], 0, [⟨0, 16, .ro, 0, 2⟩]⟩,
  ⟨"SND_OFIFO_UNDER", 0x10C, [(16, 8)], 0, [⟨0, 32, .rc, 0, 0⟩]⟩,
  ⟨"SND_SRC_CTL", 0x200, [(32, 8)], 0, [⟨0, 1, .st, 0, 0⟩, ⟨1, 1, .st, 0, 0⟩, ⟨2, 3, .st, 0, 0⟩, ⟨5, 2, .st, 0, 0⟩]⟩,
  ⟨"SND_SRC_SIZE", 0x204, [(32, 8)], 0, [⟨0, 14, .st, 0, 0⟩, ⟨16, 14, .st, 0, 0⟩]⟩,
  ⟨"SND_SRC_STRIDE", 0x208, [(32, 8)], 0, [⟨0, 24, .st, 0, 0⟩]⟩,
  ⟨"SND_SRC_RATE", 0x20C, [(32, 8)], 0, [⟨0, 18, .st, 0, 0⟩]⟩,
  ⟨"SND_SRC_CUR_LO", 0x210, [(32, 8)], 0, [⟨0, 32, .ro, 0, 0⟩]⟩,
  ⟨"SND_SRC_CUR_HI", 0x214, [(32, 8)], 0, [⟨0, 8, .ro, 0, 0⟩]⟩]

/-- Block SND, registers from offset 0x218. -/
def snd3 : List RegRow := [
  ⟨"SND_SRC_TAG", 0x218, [(32, 8)], 0, [⟨0, 32, .ro, 0, 0⟩]⟩,
  ⟨"SND_SRC_REPEAT", 0x21C, [(32, 8)], 0, [⟨0, 32, .rc, 0, 0⟩]⟩,
  ⟨"SND_LYR_CTL", 0x1000, [(512, 8), (32, 16)], 0, [⟨0, 1, .st, 0, 0⟩, ⟨1, 3, .st, 0, 0⟩, ⟨4, 2, .st, 0, 0⟩, ⟨6, 2, .st, 0, 0⟩]⟩,
  ⟨"SND_LYR_SRCPOS", 0x1004, [(512, 8), (32, 16)], 0, [⟨0, 14, .st, 0, 0⟩, ⟨16, 14, .st, 0, 0⟩]⟩,
  ⟨"SND_LYR_SRCSIZE", 0x1008, [(512, 8), (32, 16)], 0, [⟨0, 14, .st, 0, 0⟩, ⟨16, 14, .st, 0, 0⟩]⟩,
  ⟨"SND_LYR_CANPOS", 0x100C, [(512, 8), (32, 16)], 0, [⟨0, 16, .st, 0, 0⟩, ⟨16, 16, .st, 0, 0⟩]⟩,
  ⟨"SND_LYR_CANSIZE", 0x1010, [(512, 8), (32, 16)], 0, [⟨0, 16, .st, 0, 0⟩, ⟨16, 16, .st, 0, 0⟩]⟩,
  ⟨"SND_LYR_KX", 0x1014, [(512, 8), (32, 16)], 0, [⟨0, 19, .ro, 0, 0⟩]⟩,
  ⟨"SND_LYR_KY", 0x1018, [(512, 8), (32, 16)], 0, [⟨0, 19, .ro, 0, 0⟩]⟩,
  ⟨"SND_PAL_LO", 0x3000, [(8, 256)], 0, [⟨0, 32, .st, 0, 0⟩]⟩,
  ⟨"SND_PAL_HI", 0x3004, [(8, 256)], 0, [⟨0, 10, .st, 0, 0⟩, ⟨16, 8, .st, 0, 0⟩]⟩,
  ⟨"SND_FILT", 0x4000, [(1024, 4), (16, 64), (4, 4)], 0, [⟨0, 16, .st, 0, 0⟩, ⟨16, 16, .st, 0, 0⟩]⟩]

/-- All register rows of block SND. -/
def sndRows : List RegRow := snd0 ++ snd1 ++ snd2 ++ snd3

/-- Block REL, registers from offset 0x0. -/
def rel0 : List RegRow := [
  ⟨"REL_BLK_ID", 0x0, [], 0, [⟨0, 16, .ro, 20, 0⟩, ⟨16, 8, .ro, 1, 0⟩]⟩,
  ⟨"REL_PT_BASE_LO", 0x8, [], 0, [⟨0, 32, .st, 0, 0⟩]⟩,
  ⟨"REL_PT_BASE_HI", 0xC, [], 0, [⟨0, 8, .st, 0, 0⟩]⟩,
  ⟨"REL_FAULT", 0x10, [], 0, [⟨0, 21, .ro, 0, 0⟩, ⟨22, 2, .ro, 0, 0⟩, ⟨24, 3, .ro, 0, 0⟩]⟩,
  ⟨"REL_FAULTS", 0x14, [], 0, [⟨0, 32, .rc, 0, 0⟩]⟩,
  ⟨"REL_CMD", 0x40, [], 0, [⟨0, 3, .wo, 0, 0⟩, ⟨4, 2, .wo, 0, 0⟩]⟩,
  ⟨"REL_SEEK", 0x44, [], 0, [⟨0, 24, .rw, 0, 0⟩]⟩,
  ⟨"REL_ACT_NS", 0x48, [], 0, [⟨0, 30, .rw, 0, 0⟩]⟩,
  ⟨"REL_ACT_SL", 0x4C, [], 0, [⟨0, 32, .rw, 0, 0⟩]⟩,
  ⟨"REL_ACT_SH", 0x50, [], 0, [⟨0, 16, .rw, 0, 0⟩]⟩,
  ⟨"REL_ACT_STAT", 0x54, [], 0, [⟨0, 2, .ro, 0, 0⟩, ⟨2, 1, .ro, 0, 0⟩, ⟨4, 3, .ro, 0, 0⟩, ⟨8, 24, .ro, 0, 0⟩]⟩,
  ⟨"REL_P_CTL", 0x100, [(64, 8)], 0, [⟨0, 1, .st, 0, 0⟩, ⟨1, 3, .st, 0, 0⟩, ⟨4, 3, .st, 2, 0⟩, ⟨7, 1, .st, 0, 0⟩]⟩]

/-- Block REL, registers from offset 0x104. -/
def rel1 : List RegRow := [
  ⟨"REL_P_START_LO", 0x104, [(64, 8)], 0, [⟨0, 32, .st, 0, 0⟩]⟩,
  ⟨"REL_P_START_HI", 0x108, [(64, 8)], 0, [⟨0, 10, .st, 0, 0⟩]⟩,
  ⟨"REL_P_FSTRIDE", 0x10C, [(64, 8)], 0, [⟨0, 32, .st, 0, 0⟩]⟩,
  ⟨"REL_P_FRAMES", 0x110, [(64, 8)], 0, [⟨0, 24, .st, 0, 0⟩]⟩,
  ⟨"REL_P_POS", 0x114, [(64, 8)], 0, [⟨0, 24, .ro, 0, 0⟩]⟩,
  ⟨"REL_P_STAT", 0x118, [(64, 8)], 0, [⟨0, 2, .ro, 0, 0⟩, ⟨4, 3, .ro, 0, 0⟩]⟩,
  ⟨"REL_P_ACC", 0x11C, [(64, 8)], 0, [⟨0, 32, .ro, 0, 0⟩]⟩,
  ⟨"REL_P_LATE", 0x120, [(64, 8)], 0, [⟨0, 32, .rc, 0, 0⟩]⟩]

/-- All register rows of block REL. -/
def relRows : List RegRow := rel0 ++ rel1

/-- Block COR, registers from offset 0x0. -/
def cor0 : List RegRow := [
  ⟨"COR_BLK_ID", 0x0, [], 0, [⟨0, 16, .ro, 24, 0⟩, ⟨16, 8, .ro, 1, 0⟩]⟩,
  ⟨"COR_STATUS", 0x4, [], 0, [⟨0, 1, .ro, 0, 0⟩, ⟨1, 1, .ro, 0, 0⟩, ⟨2, 1, .ro, 0, 0⟩, ⟨3, 1, .ro, 0, 0⟩, ⟨4, 1, .ro, 0, 0⟩, ⟨5, 1, .ro, 0, 0⟩]⟩,
  ⟨"COR_CTL", 0x8, [], 0, [⟨0, 2, .st, 0, 1⟩, ⟨2, 1, .st, 0, 1⟩]⟩,
  ⟨"COR_PWM", 0xC, [], 0, [⟨0, 5, .st, 16, 0⟩, ⟨8, 2, .st, 2, 0⟩]⟩,
  ⟨"COR_GWY_BASE0", 0x10, [], 0, [⟨0, 32, .st, 0, 0⟩]⟩,
  ⟨"COR_GWY_BASE1", 0x14, [], 0, [⟨0, 32, .st, 33554432, 0⟩]⟩,
  ⟨"COR_GWY_SEL", 0x18, [], 0, [⟨0, 1, .st, 0, 0⟩, ⟨1, 1, .st, 1, 0⟩]⟩,
  ⟨"COR_GWY_ID", 0x1C, [], 0, [⟨0, 32, .ro, 0, 0⟩]⟩,
  ⟨"COR_GWY_CALTIME", 0x20, [(4, 3)], 0, [⟨0, 32, .ro, 0, 0⟩]⟩,
  ⟨"COR_LOAD_STAT", 0x2C, [], 0, [⟨0, 4, .ro, 0, 0⟩, ⟨4, 1, .ro, 0, 0⟩, ⟨5, 1, .ro, 0, 0⟩, ⟨16, 12, .ro, 0, 0⟩]⟩,
  ⟨"COR_LOAD_BAD", 0x30, [], 0, [⟨0, 32, .rc, 0, 0⟩]⟩,
  ⟨"COR_LOAD_TIME", 0x34, [], 0, [⟨0, 16, .ro, 0, 0⟩]⟩]

/-- Block COR, registers from offset 0x38. -/
def cor1 : List RegRow := [
  ⟨"COR_XSPI_CFG", 0x38, [], 0, [⟨0, 5, .st, 20, 0⟩, ⟨5, 2, .st, 2, 0⟩, ⟨8, 3, .st, 0, 0⟩]⟩,
  ⟨"COR_SLOT_CTL", 0x40, [(4, 8)], 0, [⟨0, 2, .st, 0, 0⟩, ⟨16, 15, .st, 16384, 0⟩]⟩,
  ⟨"COR_DERATE", 0x60, [], 0, [⟨0, 15, .ro, 16384, 0⟩, ⟨16, 15, .ro, 16384, 0⟩]⟩,
  ⟨"COR_RAMP", 0x64, [], 0, [⟨0, 15, .ro, 16384, 0⟩]⟩,
  ⟨"COR_DOSE_CTL", 0x70, [], 0, [⟨0, 4, .st, 3, 0⟩, ⟨8, 8, .st, 10, 0⟩, ⟨16, 16, .st, 16384, 0⟩]⟩,
  ⟨"COR_DOSE_K", 0x74, [], 0, [⟨0, 24, .ro, 0, 0⟩, ⟨24, 6, .ro, 0, 0⟩]⟩,
  ⟨"COR_DOSE_CMAX", 0x78, [], 0, [⟨0, 15, .st, 24576, 0⟩]⟩,
  ⟨"COR_DOSE_TDEF", 0x7C, [], 0, [⟨0, 11, .rw, 960, 0⟩]⟩,
  ⟨"COR_TSEL", 0x80, [(4, 8)], 0, [⟨0, 32, .st, 0, 0⟩]⟩,
  ⟨"COR_SCALE", 0xA0, [(4, 3)], 0, [⟨0, 15, .ro, 16384, 0⟩]⟩,
  ⟨"COR_AVG", 0xB0, [(4, 3)], 0, [⟨0, 24, .ro, 0, 0⟩]⟩,
  ⟨"COR_DOSE_BASE_LO", 0x100, [], 0, [⟨0, 32, .ro, 0, 2⟩]⟩]

/-- Block COR, registers from offset 0x104. -/
def cor2 : List RegRow := [
  ⟨"COR_DOSE_BASE_HI", 0x104, [], 0, [⟨0, 8, .ro, 0, 2⟩]⟩,
  ⟨"COR_CPL_BASE_LO", 0x108, [], 0, [⟨0, 32, .ro, 0, 2⟩]⟩,
  ⟨"COR_CPL_BASE_HI", 0x10C, [], 0, [⟨0, 8, .ro, 0, 2⟩]⟩,
  ⟨"COR_DOSE_STAT", 0x110, [], 0, [⟨0, 7, .ro, 0, 0⟩, ⟨7, 1, .ro, 0, 0⟩, ⟨8, 8, .ro, 0, 0⟩, ⟨16, 1, .ro, 0, 0⟩]⟩,
  ⟨"COR_CKPT_SEQ", 0x114, [], 0, [⟨0, 32, .ro, 0, 0⟩]⟩,
  ⟨"COR_CKPT_TIME", 0x118, [], 0, [⟨0, 32, .ro, 0, 0⟩]⟩,
  ⟨"COR_TBL_ADDR", 0x140, [], 0, [⟨0, 25, .rw, 0, 0⟩, ⟨30, 1, .rw, 0, 0⟩, ⟨31, 1, .ro, 0, 0⟩]⟩,
  ⟨"COR_TBL_DATA", 0x144, [], 0, [⟨0, 32, .ro, 0, 0⟩]⟩,
  ⟨"COR_DOSE_LAMP", 0x148, [], 0, [⟨0, 22, .rw, 0, 0⟩, ⟨31, 1, .ro, 0, 0⟩]⟩,
  ⟨"COR_DOSE_VAL_LO", 0x14C, [], 0, [⟨0, 32, .ro, 0, 0⟩]⟩,
  ⟨"COR_DOSE_VAL_HI", 0x150, [], 0, [⟨0, 32, .ro, 0, 0⟩]⟩,
  ⟨"COR_DOSE_CPL", 0x154, [], 0, [⟨0, 15, .ro, 0, 0⟩]⟩]

/-- All register rows of block COR. -/
def corRows : List RegRow := cor0 ++ cor1 ++ cor2

/-- Block DRV, registers from offset 0x0. -/
def drv0 : List RegRow := [
  ⟨"DRV_BLK_ID", 0x0, [], 0, [⟨0, 16, .ro, 28, 0⟩, ⟨16, 8, .ro, 1, 0⟩]⟩,
  ⟨"DRV_STATUS", 0x4, [], 0, [⟨0, 1, .ro, 0, 0⟩, ⟨1, 1, .ro, 1, 0⟩, ⟨2, 1, .ro, 0, 0⟩]⟩,
  ⟨"DRV_CTL", 0x8, [], 0, [⟨0, 1, .rw, 0, 0⟩, ⟨1, 1, .st, 0, 1⟩, ⟨2, 1, .st, 0, 0⟩]⟩,
  ⟨"DRV_SCAN", 0xC, [], 0, [⟨0, 5, .ro, 0, 2⟩, ⟨8, 4, .st, 0, 1⟩, ⟨16, 10, .st, 0, 1⟩]⟩,
  ⟨"DRV_TIMING", 0x10, [], 0, [⟨0, 12, .st, 100, 0⟩, ⟨16, 12, .st, 2000, 0⟩]⟩,
  ⟨"DRV_PWM", 0x14, [], 0, [⟨0, 5, .st, 16, 0⟩, ⟨8, 8, .st, 0, 1⟩]⟩,
  ⟨"DRV_DIAG", 0x18, [], 0, [⟨0, 11, .st, 160, 0⟩, ⟨16, 8, .st, 0, 1⟩, ⟨24, 8, .st, 0, 1⟩]⟩,
  ⟨"DRV_PROBE", 0x1C, [], 0, [⟨0, 13, .st, 4096, 0⟩, ⟨16, 8, .st, 0, 0⟩]⟩,
  ⟨"DRV_SYNCPH", 0x20, [], 0, [⟨0, 12, .st, 0, 0⟩]⟩,
  ⟨"DRV_STATPER", 0x24, [], 0, [⟨0, 8, .rw, 16, 0⟩]⟩,
  ⟨"DRV_SAFE", 0x28, [], 0, [⟨0, 6, .st, 0, 0⟩]⟩,
  ⟨"DRV_DERATE", 0x30, [], 0, [⟨0, 12, .st, 960, 0⟩, ⟨16, 7, .st, 25, 0⟩, ⟨24, 8, .st, 16, 0⟩]⟩]

/-- Block DRV, registers from offset 0x34. -/
def drv1 : List RegRow := [
  ⟨"DRV_DERATE_FL", 0x34, [], 0, [⟨0, 15, .st, 6554, 0⟩]⟩,
  ⟨"DRV_DERATE_SENS", 0x38, [], 0, [⟨0, 16, .rw, 65535, 0⟩]⟩,
  ⟨"DRV_DERATE_STAT", 0x3C, [], 0, [⟨0, 15, .ro, 16384, 0⟩, ⟨15, 1, .ro, 0, 0⟩, ⟨16, 15, .ro, 16384, 0⟩]⟩,
  ⟨"DRV_DERATE_TEMP", 0x40, [], 0, [⟨0, 16, .ro, 0, 0⟩]⟩,
  ⟨"DRV_TROW", 0x44, [], 0, [⟨0, 20, .ro, 0, 0⟩]⟩,
  ⟨"DRV_TICK", 0x48, [], 0, [⟨0, 16, .ro, 0, 0⟩]⟩,
  ⟨"DRV_BUSEN_LO", 0x50, [], 0, [⟨0, 32, .ro, 0, 2⟩]⟩,
  ⟨"DRV_BUSEN_HI", 0x54, [], 0, [⟨0, 32, .ro, 0, 2⟩]⟩,
  ⟨"DRV_BUSFLT_LO", 0x58, [], 0, [⟨0, 32, .ro, 0, 0⟩]⟩,
  ⟨"DRV_BUSFLT_HI", 0x5C, [], 0, [⟨0, 32, .ro, 0, 0⟩]⟩,
  ⟨"DRV_LAMPS_OPEN", 0x60, [], 0, [⟨0, 22, .ro, 0, 0⟩]⟩,
  ⟨"DRV_LAMPS_SHORT", 0x64, [], 0, [⟨0, 22, .ro, 0, 0⟩]⟩]

/-- Block DRV, registers from offset 0x68. -/
def drv2 : List RegRow := [
  ⟨"DRV_LAMPS_UNVER", 0x68, [], 0, [⟨0, 22, .ro, 0, 0⟩]⟩,
  ⟨"DRV_PROBE_CNT", 0x6C, [], 0, [⟨0, 32, .rc, 0, 0⟩]⟩,
  ⟨"DRV_ROW_MISS", 0x70, [], 0, [⟨0, 32, .rc, 0, 0⟩]⟩,
  ⟨"DRV_DIAG_NOW", 0x74, [], 0, [⟨0, 1, .wo, 0, 0⟩]⟩,
  ⟨"DRV_MAP_BASE_LO", 0x78, [], 0, [⟨0, 32, .ro, 0, 2⟩]⟩,
  ⟨"DRV_MAP_BASE_HI", 0x7C, [], 0, [⟨0, 8, .ro, 0, 2⟩]⟩,
  ⟨"DRV_DSTAT_SEL", 0x80, [], 0, [⟨0, 6, .rw, 0, 0⟩, ⟨8, 5, .rw, 0, 0⟩]⟩,
  ⟨"DRV_DSTAT", 0x84, [(4, 4)], 0, [⟨0, 32, .ro, 0, 0⟩]⟩,
  ⟨"DRV_BUS_STAT", 0x400, [(16, 64)], 0, [⟨0, 3, .ro, 0, 0⟩, ⟨8, 6, .ro, 0, 0⟩, ⟨16, 6, .ro, 0, 2⟩, ⟨24, 6, .ro, 0, 0⟩]⟩,
  ⟨"DRV_BUS_CRC", 0x404, [(16, 64)], 0, [⟨0, 32, .rc, 0, 0⟩]⟩,
  ⟨"DRV_BUS_RESEND", 0x408, [(16, 64)], 0, [⟨0, 32, .rc, 0, 0⟩]⟩,
  ⟨"DRV_BUS_READERR", 0x40C, [(16, 64)], 0, [⟨0, 32, .rc, 0, 0⟩]⟩]

/-- All register rows of block DRV. -/
def drvRows : List RegRow := drv0 ++ drv1 ++ drv2

/-- Block LUX, registers from offset 0x0. -/
def lux0 : List RegRow := [
  ⟨"LUX_BLK_ID", 0x0, [], 0, [⟨0, 16, .ro, 30, 0⟩, ⟨16, 8, .ro, 1, 0⟩]⟩,
  ⟨"LUX_STATUS", 0x4, [], 0, [⟨0, 1, .ro, 0, 0⟩, ⟨1, 1, .ro, 0, 0⟩, ⟨2, 4, .ro, 0, 0⟩]⟩,
  ⟨"LUX_CTL", 0x8, [], 0, [⟨0, 1, .st, 0, 1⟩, ⟨1, 1, .st, 0, 1⟩]⟩,
  ⟨"LUX_WIN", 0xC, [], 0, [⟨0, 4, .st, 2, 0⟩, ⟨4, 4, .st, 1, 0⟩, ⟨8, 10, .st, 500, 0⟩]⟩,
  ⟨"LUX_SAMPLE", 0x10, [], 0, [⟨0, 16, .st, 1000, 0⟩, ⟨16, 16, .st, 2000, 0⟩]⟩,
  ⟨"LUX_LOOP", 0x14, [], 0, [⟨0, 16, .ro, 17668, 0⟩, ⟨16, 9, .st, 16, 0⟩]⟩,
  ⟨"LUX_LIMIT", 0x18, [], 0, [⟨0, 15, .st, 8192, 0⟩, ⟨16, 15, .st, 24576, 0⟩]⟩,
  ⟨"LUX_CHECK0", 0x1C, [], 0, [⟨0, 16, .st, 64, 0⟩, ⟨16, 16, .st, 1024, 0⟩]⟩,
  ⟨"LUX_CHECK1", 0x20, [], 0, [⟨0, 24, .st, 256, 0⟩, ⟨24, 4, .st, 4, 0⟩]⟩,
  ⟨"LUX_CHECK2", 0x24, [], 0, [⟨0, 8, .st, 80, 0⟩, ⟨8, 8, .st, 30, 0⟩, ⟨16, 16, .st, 164, 0⟩]⟩,
  ⟨"LUX_CAL", 0x28, [], 0, [⟨0, 2, .wo, 0, 0⟩, ⟨4, 4, .wo, 0, 0⟩, ⟨8, 8, .wo, 0, 0⟩]⟩,
  ⟨"LUX_CAL_STAT", 0x2C, [], 0, [⟨0, 1, .ro, 0, 0⟩, ⟨1, 4, .ro, 0, 0⟩, ⟨5, 2, .ro, 0, 0⟩, ⟨7, 2, .ro, 0, 0⟩]⟩]

/-- Block LUX, registers from offset 0x30. -/
def lux1 : List RegRow := [
  ⟨"LUX_WIN_CNT", 0x30, [], 0, [⟨0, 32, .rc, 0, 0⟩]⟩,
  ⟨"LUX_WIN_REJ", 0x34, [], 0, [⟨0, 32, .rc, 0, 0⟩]⟩,
  ⟨"LUX_MDOSE_SEL", 0x40, [], 0, [⟨0, 2, .rw, 0, 0⟩, ⟨4, 2, .rw, 0, 0⟩]⟩,
  ⟨"LUX_MDOSE_LO", 0x44, [], 0, [⟨0, 32, .ro, 0, 0⟩]⟩,
  ⟨"LUX_MDOSE_HI", 0x48, [], 0, [⟨0, 32, .ro, 0, 0⟩]⟩,
  ⟨"LUX_G_SNS", 0x100, [(64, 4)], 0, [⟨0, 7, .ro, 0, 0⟩, ⟨7, 2, .ro, 0, 0⟩]⟩,
  ⟨"LUX_G_DARK", 0x104, [(64, 4), (4, 3)], 0, [⟨0, 24, .ro, 0, 0⟩]⟩,
  ⟨"LUX_G_SREF", 0x110, [(64, 4), (4, 3)], 0, [⟨0, 24, .ro, 0, 0⟩]⟩,
  ⟨"LUX_G_REFT", 0x11C, [(64, 4)], 0, [⟨0, 16, .ro, 0, 0⟩]⟩,
  ⟨"LUX_G_DREF", 0x120, [(64, 4), (4, 3)], 0, [⟨0, 16, .ro, 0, 0⟩]⟩,
  ⟨"LUX_G_MEAS", 0x12C, [(64, 4), (4, 3)], 0, [⟨0, 16, .ro, 0, 0⟩, ⟨16, 16, .ro, 0, 0⟩]⟩,
  ⟨"LUX_G_STAT", 0x138, [(64, 4)], 0, [⟨0, 4, .ro, 0, 0⟩, ⟨8, 8, .ro, 0, 0⟩]⟩]

/-- All register rows of block LUX. -/
def luxRows : List RegRow := lux0 ++ lux1

/-- Block LAN, registers from offset 0x0. -/
def lan0 : List RegRow := [
  ⟨"LAN_BLK_ID", 0x0, [], 0, [⟨0, 16, .ro, 32, 0⟩, ⟨16, 8, .ro, 1, 0⟩]⟩,
  ⟨"LAN_CLK", 0x4, [], 0, [⟨0, 2, .ro, 0, 0⟩, ⟨2, 1, .ro, 0, 0⟩, ⟨3, 1, .ro, 0, 0⟩, ⟨4, 1, .ro, 0, 0⟩]⟩,
  ⟨"LAN_CLK_CTL", 0x8, [], 0, [⟨0, 2, .rw, 1, 0⟩, ⟨2, 1, .rw, 1, 0⟩]⟩,
  ⟨"LAN_TX", 0xC, [], 0, [⟨0, 5, .rw, 8, 0⟩, ⟨8, 4, .rw, 3, 0⟩]⟩,
  ⟨"LAN_CAL", 0x10, [], 0, [⟨0, 9, .wo, 0, 0⟩]⟩,
  ⟨"LAN_CAL_STAT", 0x14, [], 0, [⟨0, 1, .ro, 0, 0⟩, ⟨1, 4, .ro, 0, 0⟩, ⟨5, 4, .ro, 0, 0⟩, ⟨9, 2, .ro, 0, 0⟩]⟩,
  ⟨"LAN_P_STAT", 0x200, [(128, 9)], 0, [⟨0, 3, .ro, 0, 0⟩, ⟨3, 1, .ro, 0, 0⟩, ⟨4, 8, .ro, 0, 0⟩, ⟨12, 8, .ro, 0, 0⟩]⟩,
  ⟨"LAN_P_CTL", 0x204, [(128, 9)], 0, [⟨0, 2, .rw, 0, 0⟩, ⟨2, 1, .rw, 0, 0⟩, ⟨3, 1, .rw, 0, 0⟩, ⟨4, 1, .rw, 0, 0⟩, ⟨5, 1, .rw, 0, 0⟩]⟩,
  ⟨"LAN_P_EQMODE", 0x208, [(128, 9)], 0, [⟨0, 2, .rw, 2, 0⟩]⟩,
  ⟨"LAN_P_BLK", 0x20C, [(128, 9)], 1, [⟨0, 32, .rc, 0, 0⟩]⟩,
  ⟨"LAN_P_BLK_H", 0x210, [(128, 9)], 2, [⟨0, 16, .rc, 0, 0⟩]⟩,
  ⟨"LAN_P_CRCERR", 0x214, [(128, 9)], 0, [⟨0, 32, .rc, 0, 0⟩]⟩]

/-- Block LAN, registers from offset 0x218. -/
def lan1 : List RegRow := [
  ⟨"LAN_P_DFTX", 0x218, [(128, 9)], 0, [⟨0, 32, .rc, 0, 0⟩]⟩,
  ⟨"LAN_P_DFRX", 0x21C, [(128, 9)], 0, [⟨0, 32, .rc, 0, 0⟩]⟩,
  ⟨"LAN_P_RESCR", 0x220, [(128, 9)], 0, [⟨0, 32, .rc, 0, 0⟩]⟩,
  ⟨"LAN_P_LOCKLOSS", 0x224, [(128, 9)], 0, [⟨0, 32, .rc, 0, 0⟩]⟩,
  ⟨"LAN_P_TPERR", 0x228, [(128, 9)], 0, [⟨0, 32, .rc, 0, 0⟩]⟩,
  ⟨"LAN_P_FIFO", 0x22C, [(128, 9)], 0, [⟨0, 32, .rc, 0, 0⟩]⟩,
  ⟨"LAN_P_L", 0x240, [(128, 9), (4, 4)], 0, [⟨0, 6, .ro, 0, 0⟩, ⟨8, 6, .rw, 12, 0⟩, ⟨16, 6, .ro, 0, 0⟩, ⟨24, 6, .ro, 0, 0⟩]⟩]

/-- All register rows of block LAN. -/
def lanRows : List RegRow := lan0 ++ lan1

/-- Block CMC, registers from offset 0x0. -/
def cmc0 : List RegRow := [
  ⟨"CMC_BLK_ID", 0x0, [], 0, [⟨0, 16, .ro, 36, 0⟩, ⟨16, 8, .ro, 1, 0⟩]⟩,
  ⟨"CMC_STATUS", 0x4, [], 0, [⟨0, 1, .ro, 0, 0⟩, ⟨1, 1, .ro, 0, 0⟩, ⟨2, 1, .ro, 0, 0⟩, ⟨3, 1, .ro, 0, 0⟩]⟩,
  ⟨"CMC_ADDR", 0x8, [], 0, [⟨0, 7, .ro, 126, 0⟩, ⟨8, 7, .ro, 0, 0⟩]⟩,
  ⟨"CMC_POLL", 0xC, [], 0, [⟨0, 4, .st, 0, 0⟩, ⟨4, 4, .st, 3, 0⟩, ⟨8, 2, .st, 3, 0⟩, ⟨16, 14, .st, 1000, 0⟩]⟩,
  ⟨"CMC_CTL", 0x10, [], 0, [⟨0, 1, .rw, 1, 0⟩]⟩,
  ⟨"CMC_ENUM", 0x14, [], 0, [⟨0, 8, .wo, 0, 0⟩]⟩,
  ⟨"CMC_ADMIT", 0x18, [], 0, [⟨0, 3, .wo, 0, 0⟩, ⟨8, 7, .wo, 0, 0⟩, ⟨16, 2, .wo, 0, 0⟩]⟩,
  ⟨"CMC_NEWEST", 0x1C, [], 0, [⟨0, 24, .ro, 0, 0⟩]⟩,
  ⟨"CMC_EXP_FW", 0x20, [(4, 4)], 0, [⟨0, 32, .st, 0, 0⟩]⟩,
  ⟨"CMC_EXP_HASH", 0x40, [(4, 8)], 0, [⟨0, 32, .st, 0, 0⟩]⟩,
  ⟨"CMC_P_STAT", 0x100, [(64, 8)], 0, [⟨0, 7, .ro, 0, 0⟩, ⟨7, 1, .ro, 0, 0⟩, ⟨8, 2, .ro, 0, 0⟩]⟩,
  ⟨"CMC_P_TXF", 0x104, [(64, 8)], 1, [⟨0, 32, .rc, 0, 0⟩]⟩]

/-- Block CMC, registers from offset 0x108. -/
def cmc1 : List RegRow := [
  ⟨"CMC_P_TXF_H", 0x108, [(64, 8)], 2, [⟨0, 16, .rc, 0, 0⟩]⟩,
  ⟨"CMC_P_POLLS", 0x10C, [(64, 8)], 0, [⟨0, 32, .rc, 0, 0⟩]⟩,
  ⟨"CMC_P_MISS", 0x110, [(64, 8)], 0, [⟨0, 32, .rc, 0, 0⟩]⟩,
  ⟨"CMC_P_FCS", 0x114, [(64, 8)], 0, [⟨0, 32, .rc, 0, 0⟩]⟩,
  ⟨"CMC_P_HCRC", 0x118, [(64, 8)], 0, [⟨0, 32, .rc, 0, 0⟩]⟩,
  ⟨"CMC_P_MALF", 0x11C, [(64, 8)], 0, [⟨0, 32, .rc, 0, 0⟩]⟩,
  ⟨"CMC_P_RESEND", 0x120, [(64, 8)], 0, [⟨0, 32, .rc, 0, 0⟩]⟩,
  ⟨"CMC_P_UNM", 0x124, [(64, 8)], 0, [⟨0, 32, .rc, 0, 0⟩]⟩,
  ⟨"CMC_S_RXF", 0x600, [(64, 2)], 1, [⟨0, 32, .rc, 0, 0⟩]⟩,
  ⟨"CMC_S_RXF_H", 0x604, [(64, 2)], 2, [⟨0, 16, .rc, 0, 0⟩]⟩,
  ⟨"CMC_S_FCS", 0x608, [(64, 2)], 0, [⟨0, 32, .rc, 0, 0⟩]⟩,
  ⟨"CMC_S_HCRC", 0x60C, [(64, 2)], 0, [⟨0, 32, .rc, 0, 0⟩]⟩]

/-- Block CMC, registers from offset 0x610. -/
def cmc2 : List RegRow := [
  ⟨"CMC_S_POISON", 0x610, [(64, 2)], 0, [⟨0, 32, .rc, 0, 0⟩]⟩,
  ⟨"CMC_S_DUP", 0x614, [(64, 2)], 0, [⟨0, 32, .rc, 0, 0⟩]⟩,
  ⟨"CMC_S_STALE", 0x618, [(64, 2)], 0, [⟨0, 32, .rc, 0, 0⟩]⟩,
  ⟨"CMC_S_MALF", 0x61C, [(64, 2)], 0, [⟨0, 32, .rc, 0, 0⟩]⟩,
  ⟨"CMC_S_SUSPECT", 0x620, [(64, 2)], 0, [⟨0, 32, .rc, 0, 0⟩]⟩,
  ⟨"CMC_SEGOK", 0x680, [], 0, [⟨0, 32, .rc, 0, 0⟩]⟩,
  ⟨"CMC_SEGKEPT", 0x684, [], 0, [⟨0, 32, .rc, 0, 0⟩]⟩,
  ⟨"CMC_SEGSEC", 0x688, [], 0, [⟨0, 32, .rc, 0, 0⟩]⟩,
  ⟨"CMC_EVDROP", 0x68C, [], 0, [⟨0, 32, .rc, 0, 0⟩]⟩,
  ⟨"CMC_T", 0x1004, [(512, 8), (4, 96)], 0, [⟨0, 3, .ro, 0, 0⟩, ⟨4, 5, .ro, 0, 0⟩, ⟨9, 3, .ro, 0, 0⟩, ⟨16, 8, .ro, 0, 0⟩]⟩,
  ⟨"CMC_REC", 0x2010, [(2048, 8), (16, 96), (4, 3)], 0, [⟨0, 32, .st, 0, 0⟩]⟩,
  ⟨"CMC_REC3", 0x201C, [(2048, 8), (16, 96)], 0, [⟨0, 1, .st, 0, 0⟩]⟩]

/-- Block CMC, registers from offset 0x6000. -/
def cmc3 : List RegRow := [
  ⟨"CMC_FLT_A", 0x6000, [(8, 16)], 0, [⟨0, 8, .st, 0, 0⟩, ⟨8, 8, .st, 0, 0⟩, ⟨16, 3, .st, 0, 0⟩, ⟨19, 1, .st, 0, 0⟩, ⟨20, 9, .st, 0, 0⟩]⟩,
  ⟨"CMC_FLT_B", 0x6004, [(8, 16)], 0, [⟨0, 12, .st, 0, 0⟩, ⟨16, 12, .st, 0, 0⟩]⟩,
  ⟨"CMC_RQ_BASE_LO", 0x6100, [(32, 8)], 0, [⟨0, 32, .st, 0, 0⟩]⟩,
  ⟨"CMC_RQ_BASE_HI", 0x6104, [(32, 8)], 0, [⟨0, 8, .st, 0, 0⟩]⟩,
  ⟨"CMC_RQ_CTL", 0x6108, [(32, 8)], 0, [⟨0, 4, .st, 4, 0⟩, ⟨4, 1, .st, 0, 0⟩]⟩,
  ⟨"CMC_RQ_HEAD", 0x610C, [(32, 8)], 0, [⟨0, 12, .ro, 0, 0⟩]⟩,
  ⟨"CMC_RQ_TAIL", 0x6110, [(32, 8)], 0, [⟨0, 12, .rw, 0, 0⟩]⟩,
  ⟨"CMC_RQ_DROP", 0x6114, [(32, 8)], 0, [⟨0, 32, .rc, 0, 0⟩]⟩,
  ⟨"CMC_WP_CTL", 0x6200, [(32, 8)], 0, [⟨0, 1, .st, 0, 0⟩, ⟨1, 1, .st, 0, 0⟩, ⟨16, 16, .st, 0, 0⟩]⟩,
  ⟨"CMC_WP_MASK", 0x6204, [(32, 8), (4, 4)], 0, [⟨0, 32, .st, 0, 0⟩]⟩,
  ⟨"CMC_WP_HIT", 0x6214, [(32, 8)], 0, [⟨0, 32, .rc, 0, 0⟩]⟩]

/-- All register rows of block CMC. -/
def cmcRows : List RegRow := cmc0 ++ cmc1 ++ cmc2 ++ cmc3

/-- Block TIM, registers from offset 0x0. -/
def tim0 : List RegRow := [
  ⟨"TIM_BLK_ID", 0x0, [], 0, [⟨0, 16, .ro, 40, 0⟩, ⟨16, 8, .ro, 1, 0⟩]⟩,
  ⟨"TIM_STATUS", 0x4, [], 0, [⟨0, 3, .ro, 0, 0⟩, ⟨3, 1, .ro, 0, 0⟩, ⟨4, 1, .ro, 0, 0⟩, ⟨5, 1, .ro, 0, 0⟩, ⟨6, 1, .ro, 0, 0⟩, ⟨7, 1, .ro, 0, 0⟩]⟩,
  ⟨"TIM_SRC", 0x8, [], 0, [⟨0, 3, .st, 0, 1⟩, ⟨3, 1, .st, 0, 0⟩, ⟨4, 2, .st, 2, 0⟩, ⟨8, 8, .st, 127, 0⟩, ⟨16, 8, .st, 0, 0⟩, ⟨24, 1, .st, 1, 0⟩, ⟨25, 1, .st, 0, 0⟩, ⟨26, 1, .st, 0, 0⟩, ⟨27, 1, .st, 0, 0⟩]⟩,
  ⟨"TIM_STEP", 0xC, [], 0, [⟨0, 20, .st, 1000, 0⟩, ⟨20, 12, .st, 100, 0⟩]⟩,
  ⟨"TIM_SERVO", 0x10, [], 0, [⟨0, 17, .st, 1000, 0⟩, ⟨24, 8, .st, 100, 0⟩]⟩,
  ⟨"TIM_CHAIN", 0x14, [], 0, [⟨0, 4, .st, 12, 0⟩, ⟨4, 4, .st, 0, 0⟩]⟩,
  ⟨"TIM_HOLD", 0x18, [], 0, [⟨0, 16, .rw, 3600, 0⟩]⟩,
  ⟨"TIM_RATE", 0x20, [], 0, [⟨0, 32, .ro, 0, 0⟩]⟩,
  ⟨"TIM_OFFSET", 0x24, [], 0, [⟨0, 32, .ro, 0, 0⟩]⟩,
  ⟨"TIM_MPD", 0x28, [], 0, [⟨0, 32, .ro, 0, 0⟩]⟩,
  ⟨"TIM_NOW_NS", 0x30, [], 0, [⟨0, 30, .ro, 0, 0⟩]⟩,
  ⟨"TIM_NOW_SL", 0x34, [], 0, [⟨0, 32, .ro, 0, 0⟩]⟩]

/-- Block TIM, registers from offset 0x38. -/
def tim1 : List RegRow := [
  ⟨"TIM_NOW_SH", 0x38, [], 0, [⟨0, 16, .ro, 0, 0⟩]⟩,
  ⟨"TIM_NOW_FR", 0x3C, [], 0, [⟨0, 16, .ro, 0, 0⟩]⟩,
  ⟨"TIM_SET_NS", 0x40, [], 0, [⟨0, 30, .rw, 0, 0⟩]⟩,
  ⟨"TIM_SET_SL", 0x44, [], 0, [⟨0, 32, .rw, 0, 0⟩]⟩,
  ⟨"TIM_SET_SH", 0x48, [], 0, [⟨0, 16, .rw, 0, 0⟩]⟩,
  ⟨"TIM_CMD", 0x4C, [], 0, [⟨0, 2, .wo, 0, 0⟩]⟩,
  ⟨"TIM_STEP_PEND_LO", 0x50, [], 0, [⟨0, 32, .ro, 0, 0⟩]⟩,
  ⟨"TIM_STEP_PEND_HI", 0x54, [], 0, [⟨0, 32, .ro, 0, 0⟩]⟩,
  ⟨"TIM_STEP_FRM", 0x58, [], 0, [⟨0, 24, .ro, 0, 0⟩]⟩,
  ⟨"TIM_DOM_STAT", 0x60, [(32, 2)], 0, [⟨0, 3, .ro, 0, 0⟩, ⟨8, 8, .ro, 0, 0⟩]⟩,
  ⟨"TIM_DOM_OFS", 0x64, [(32, 2)], 0, [⟨0, 32, .ro, 0, 0⟩]⟩,
  ⟨"TIM_DOM_GMID_LO", 0x68, [(32, 2)], 0, [⟨0, 32, .ro, 0, 0⟩]⟩]

/-- Block TIM, registers from offset 0x6C. -/
def tim2 : List RegRow := [
  ⟨"TIM_DOM_GMID_HI", 0x6C, [(32, 2)], 0, [⟨0, 32, .ro, 0, 0⟩]⟩,
  ⟨"TIM_DOM_STEPS", 0x70, [(32, 2)], 0, [⟨0, 32, .rc, 0, 0⟩]⟩,
  ⟨"TIM_DOM_MEAS", 0x74, [(32, 2)], 0, [⟨0, 32, .rc, 0, 0⟩]⟩,
  ⟨"TIM_P_ASYM", 0x100, [(32, 10)], 0, [⟨0, 32, .rw, 0, 0⟩]⟩,
  ⟨"TIM_P_TSQ", 0x104, [(32, 10)], 0, [⟨0, 7, .ro, 0, 0⟩, ⟨7, 1, .w1c, 0, 0⟩]⟩,
  ⟨"TIM_P_TSDROP", 0x108, [(32, 10)], 0, [⟨0, 32, .rc, 0, 0⟩]⟩,
  ⟨"TIM_P_TSCNT", 0x10C, [(32, 10)], 0, [⟨0, 32, .rc, 0, 0⟩]⟩,
  ⟨"TIM_TSQ_SEL", 0x300, [], 0, [⟨0, 4, .rw, 0, 0⟩, ⟨4, 6, .rw, 0, 0⟩]⟩,
  ⟨"TIM_TSQ_DATA", 0x304, [(4, 4)], 0, [⟨0, 32, .ro, 0, 0⟩]⟩,
  ⟨"TIM_OUT_CTL", 0x400, [(32, 8)], 0, [⟨0, 2, .st, 0, 0⟩, ⟨2, 1, .st, 0, 0⟩]⟩,
  ⟨"TIM_OUT_START_NS", 0x404, [(32, 8)], 0, [⟨0, 30, .st, 0, 0⟩]⟩,
  ⟨"TIM_OUT_START_SL", 0x408, [(32, 8)], 0, [⟨0, 32, .st, 0, 0⟩]⟩]

/-- Block TIM, registers from offset 0x40C. -/
def tim3 : List RegRow := [
  ⟨"TIM_OUT_START_SH", 0x40C, [(32, 8)], 0, [⟨0, 16, .st, 0, 0⟩]⟩,
  ⟨"TIM_OUT_PER_NS", 0x410, [(32, 8)], 0, [⟨0, 32, .st, 0, 0⟩]⟩,
  ⟨"TIM_OUT_PER_FR", 0x414, [(32, 8)], 0, [⟨0, 16, .st, 0, 0⟩]⟩,
  ⟨"TIM_OUT_WID", 0x418, [(32, 8)], 0, [⟨0, 26, .st, 1000, 0⟩]⟩,
  ⟨"TIM_OUT_STAT", 0x41C, [(32, 8)], 0, [⟨0, 1, .ro, 0, 0⟩, ⟨1, 1, .ro, 0, 0⟩, ⟨2, 1, .w1c, 0, 0⟩]⟩,
  ⟨"TIM_CAP_CTL", 0x600, [(32, 4)], 0, [⟨0, 2, .rw, 0, 0⟩, ⟨2, 1, .rw, 0, 0⟩]⟩,
  ⟨"TIM_CAP_STAT", 0x604, [(32, 4)], 0, [⟨0, 5, .ro, 0, 0⟩, ⟨5, 1, .w1c, 0, 0⟩]⟩,
  ⟨"TIM_CAP_NS", 0x608, [(32, 4)], 0, [⟨0, 30, .ro, 0, 0⟩, ⟨30, 1, .ro, 0, 0⟩]⟩,
  ⟨"TIM_CAP_SL", 0x60C, [(32, 4)], 0, [⟨0, 32, .ro, 0, 0⟩]⟩,
  ⟨"TIM_CAP_SH", 0x610, [(32, 4)], 0, [⟨0, 16, .ro, 0, 0⟩]⟩,
  ⟨"TIM_CAP_POP", 0x614, [(32, 4)], 0, [⟨0, 1, .wo, 0, 0⟩]⟩,
  ⟨"TIM_CAP_DROP", 0x618, [(32, 4)], 0, [⟨0, 32, .rc, 0, 0⟩]⟩]

/-- Block TIM, registers from offset 0x700. -/
def tim4 : List RegRow := [
  ⟨"TIM_SREF_CTL", 0x700, [], 0, [⟨0, 1, .st, 0, 0⟩, ⟨1, 1, .st, 0, 0⟩, ⟨2, 1, .st, 0, 0⟩, ⟨8, 8, .st, 0, 0⟩, ⟨16, 12, .st, 0, 0⟩]⟩,
  ⟨"TIM_SREF_LVL", 0x704, [], 0, [⟨0, 10, .st, 924, 0⟩, ⟨16, 10, .st, 874, 0⟩]⟩,
  ⟨"TIM_SREF_BROAD", 0x708, [], 0, [⟨0, 16, .st, 20000, 0⟩]⟩,
  ⟨"TIM_SREF_OFS", 0x70C, [], 0, [⟨0, 32, .st, 0, 0⟩]⟩,
  ⟨"TIM_SREF_STAT", 0x710, [], 0, [⟨0, 1, .ro, 0, 0⟩, ⟨1, 1, .ro, 0, 0⟩]⟩,
  ⟨"TIM_SREF_PHASE", 0x714, [], 0, [⟨0, 32, .ro, 0, 0⟩]⟩,
  ⟨"TIM_ETH_CTL", 0x800, [], 0, [⟨0, 1, .st, 0, 1⟩, ⟨1, 1, .st, 0, 0⟩, ⟨16, 12, .st, 0, 0⟩]⟩,
  ⟨"TIM_ETH_MAC_LO", 0x804, [], 0, [⟨0, 32, .st, 0, 0⟩]⟩,
  ⟨"TIM_ETH_MAC_HI", 0x808, [], 0, [⟨0, 16, .st, 0, 0⟩]⟩,
  ⟨"TIM_ETH_IP", 0x80C, [], 0, [⟨0, 32, .st, 0, 0⟩]⟩,
  ⟨"TIM_ETH_STAT", 0x810, [], 0, [⟨0, 1, .ro, 0, 0⟩]⟩,
  ⟨"TIM_ETH_RXF", 0x814, [], 0, [⟨0, 32, .rc, 0, 0⟩]⟩]

/-- Block TIM, registers from offset 0x818. -/
def tim5 : List RegRow := [
  ⟨"TIM_ETH_RXERR", 0x818, [], 0, [⟨0, 32, .rc, 0, 0⟩]⟩,
  ⟨"TIM_ETH_TXF", 0x81C, [], 0, [⟨0, 32, .rc, 0, 0⟩]⟩,
  ⟨"TIM_ETX_BASE_LO", 0x820, [], 0, [⟨0, 32, .st, 0, 0⟩]⟩,
  ⟨"TIM_ETX_BASE_HI", 0x824, [], 0, [⟨0, 8, .st, 0, 0⟩]⟩,
  ⟨"TIM_ETX_CTL", 0x828, [], 0, [⟨0, 4, .st, 4, 0⟩, ⟨4, 1, .st, 0, 0⟩]⟩,
  ⟨"TIM_ETX_HEAD", 0x82C, [], 0, [⟨0, 12, .rw, 0, 0⟩]⟩,
  ⟨"TIM_ETX_TAIL", 0x830, [], 0, [⟨0, 12, .ro, 0, 0⟩]⟩,
  ⟨"TIM_ERX_BASE_LO", 0x840, [], 0, [⟨0, 32, .st, 0, 0⟩]⟩,
  ⟨"TIM_ERX_BASE_HI", 0x844, [], 0, [⟨0, 8, .st, 0, 0⟩]⟩,
  ⟨"TIM_ERX_CTL", 0x848, [], 0, [⟨0, 4, .st, 4, 0⟩, ⟨4, 1, .st, 0, 0⟩]⟩,
  ⟨"TIM_ERX_HEAD", 0x84C, [], 0, [⟨0, 12, .ro, 0, 0⟩]⟩,
  ⟨"TIM_ERX_TAIL", 0x850, [], 0, [⟨0, 12, .rw, 0, 0⟩]⟩]

/-- Block TIM, registers from offset 0x854. -/
def tim6 : List RegRow := [
  ⟨"TIM_ERX_DROP", 0x854, [], 0, [⟨0, 32, .rc, 0, 0⟩]⟩]

/-- All register rows of block TIM. -/
def timRows : List RegRow := tim0 ++ tim1 ++ tim2 ++ tim3 ++ tim4 ++ tim5 ++ tim6

/-- Block FMC, registers from offset 0x0. -/
def fmc0 : List RegRow := [
  ⟨"FMC_BLK_ID", 0x0, [], 0, [⟨0, 16, .ro, 44, 0⟩, ⟨16, 8, .ro, 1, 0⟩]⟩,
  ⟨"FMC_STATUS", 0x4, [], 0, [⟨0, 4, .ro, 0, 0⟩, ⟨4, 4, .ro, 0, 0⟩, ⟨8, 1, .ro, 0, 0⟩, ⟨9, 1, .ro, 0, 0⟩, ⟨10, 1, .ro, 0, 0⟩, ⟨11, 1, .ro, 0, 0⟩]⟩,
  ⟨"FMC_CFG", 0x8, [], 0, [⟨0, 2, .ro, 0, 2⟩, ⟨4, 3, .ro, 0, 2⟩, ⟨8, 4, .ro, 0, 2⟩]⟩,
  ⟨"FMC_GEOM", 0xC, [], 0, [⟨0, 1, .ro, 0, 0⟩, ⟨1, 3, .ro, 0, 0⟩, ⟨8, 6, .ro, 0, 0⟩]⟩,
  ⟨"FMC_SIZE", 0x10, [], 0, [⟨0, 18, .ro, 0, 0⟩]⟩,
  ⟨"FMC_CTL", 0x14, [], 0, [⟨0, 1, .rw, 1, 0⟩, ⟨1, 1, .rw, 1, 0⟩, ⟨2, 1, .rw, 1, 0⟩]⟩,
  ⟨"FMC_SCHED", 0x18, [], 0, [⟨0, 12, .rw, 2000, 0⟩, ⟨16, 12, .rw, 1000, 0⟩]⟩,
  ⟨"FMC_SCRUB", 0x1C, [], 0, [⟨0, 8, .rw, 24, 0⟩]⟩,
  ⟨"FMC_SCRUB_POS", 0x20, [], 0, [⟨0, 32, .ro, 0, 0⟩]⟩,
  ⟨"FMC_SCRUB_PASS", 0x24, [], 0, [⟨0, 32, .rc, 0, 0⟩]⟩,
  ⟨"FMC_TEMP", 0x28, [], 0, [⟨0, 5, .ro, 0, 0⟩, ⟨8, 5, .ro, 0, 0⟩, ⟨16, 5, .ro, 0, 0⟩, ⟨24, 5, .ro, 0, 0⟩]⟩,
  ⟨"FMC_LAST_UE_LO", 0x40, [], 0, [⟨0, 32, .ro, 0, 0⟩]⟩]

/-- Block FMC, registers from offset 0x44. -/
def fmc1 : List RegRow := [
  ⟨"FMC_LAST_UE_HI", 0x44, [], 0, [⟨0, 8, .ro, 0, 0⟩, ⟨8, 2, .ro, 0, 0⟩, ⟨10, 1, .ro, 0, 0⟩]⟩,
  ⟨"FMC_OOR_LO", 0x48, [], 0, [⟨0, 32, .ro, 0, 0⟩]⟩,
  ⟨"FMC_OOR_HI", 0x4C, [], 0, [⟨0, 8, .ro, 0, 0⟩, ⟨8, 1, .ro, 0, 0⟩]⟩,
  ⟨"FMC_OOR_CNT", 0x50, [], 0, [⟨0, 32, .rc, 0, 0⟩]⟩,
  ⟨"FMC_CH_STAT", 0x100, [(64, 4)], 0, [⟨0, 3, .ro, 0, 0⟩, ⟨4, 4, .ro, 0, 0⟩, ⟨8, 8, .rc, 0, 0⟩]⟩,
  ⟨"FMC_CH_RD", 0x104, [(64, 4)], 1, [⟨0, 32, .rc, 0, 0⟩]⟩,
  ⟨"FMC_CH_RD_H", 0x108, [(64, 4)], 2, [⟨0, 16, .rc, 0, 0⟩]⟩,
  ⟨"FMC_CH_WR", 0x10C, [(64, 4)], 1, [⟨0, 32, .rc, 0, 0⟩]⟩,
  ⟨"FMC_CH_WR_H", 0x110, [(64, 4)], 2, [⟨0, 16, .rc, 0, 0⟩]⟩,
  ⟨"FMC_CH_ACT", 0x114, [(64, 4)], 0, [⟨0, 32, .rc, 0, 0⟩]⟩,
  ⟨"FMC_CH_HIT", 0x118, [(64, 4)], 0, [⟨0, 32, .rc, 0, 0⟩]⟩,
  ⟨"FMC_CH_CONF", 0x11C, [(64, 4)], 0, [⟨0, 32, .rc, 0, 0⟩]⟩]

/-- Block FMC, registers from offset 0x120. -/
def fmc2 : List RegRow := [
  ⟨"FMC_CH_CE", 0x120, [(64, 4)], 0, [⟨0, 32, .rc, 0, 0⟩]⟩,
  ⟨"FMC_CH_UE", 0x124, [(64, 4)], 0, [⟨0, 32, .rc, 0, 0⟩]⟩,
  ⟨"FMC_CH_FORCED", 0x128, [(64, 4)], 0, [⟨0, 32, .rc, 0, 0⟩]⟩,
  ⟨"FMC_RT_STAT", 0x300, [(8, 3)], 0, [⟨0, 16, .rc, 0, 0⟩, ⟨16, 16, .ro, 0, 2⟩]⟩,
  ⟨"FMC_RT_STARVE", 0x304, [(8, 3)], 0, [⟨0, 32, .rc, 0, 0⟩]⟩]

/-- All register rows of block FMC. -/
def fmcRows : List RegRow := fmc0 ++ fmc1 ++ fmc2

/-- Block HST, registers from offset 0x0. -/
def hst0 : List RegRow := [
  ⟨"HST_BLK_ID", 0x0, [], 0, [⟨0, 16, .ro, 48, 0⟩, ⟨16, 8, .ro, 1, 0⟩]⟩,
  ⟨"HST_LINK", 0x4, [], 0, [⟨0, 3, .ro, 0, 0⟩, ⟨4, 5, .ro, 0, 0⟩, ⟨9, 1, .ro, 0, 0⟩, ⟨10, 1, .ro, 0, 0⟩, ⟨16, 16, .ro, 0, 0⟩]⟩,
  ⟨"HST_LOAD", 0x8, [], 0, [⟨0, 16, .ro, 0, 0⟩]⟩,
  ⟨"HST_W2_BASE_LO", 0x10, [], 0, [⟨0, 32, .st, 0, 0⟩]⟩,
  ⟨"HST_W2_BASE_HI", 0x14, [], 0, [⟨0, 8, .st, 0, 0⟩]⟩,
  ⟨"HST_W2_SIZE", 0x18, [], 0, [⟨0, 3, .ro, 0, 0⟩]⟩,
  ⟨"HST_ERR", 0x20, [], 0, [⟨0, 4, .ro, 0, 0⟩, ⟨4, 4, .ro, 0, 0⟩]⟩,
  ⟨"HST_ERRCNT", 0x24, [], 0, [⟨0, 32, .rc, 0, 0⟩]⟩,
  ⟨"HST_SRC_DONE", 0x28, [], 0, [⟨0, 8, .w1c, 0, 0⟩]⟩,
  ⟨"HST_SRC_CTL", 0x100, [(64, 8)], 0, [⟨0, 1, .rw, 0, 0⟩, ⟨1, 1, .st, 0, 0⟩, ⟨2, 4, .st, 4, 0⟩, ⟨6, 4, .st, 3, 0⟩]⟩,
  ⟨"HST_SRC_STAT", 0x104, [(64, 8)], 0, [⟨0, 2, .ro, 0, 0⟩, ⟨4, 3, .ro, 0, 0⟩, ⟨8, 3, .ro, 0, 0⟩, ⟨12, 3, .ro, 0, 0⟩, ⟨15, 1, .ro, 0, 0⟩]⟩,
  ⟨"HST_SRC_RING_LO", 0x108, [(64, 8)], 0, [⟨0, 32, .st, 0, 0⟩]⟩]

/-- Block HST, registers from offset 0x10C. -/
def hst1 : List RegRow := [
  ⟨"HST_SRC_RING_HI", 0x10C, [(64, 8)], 0, [⟨0, 32, .st, 0, 0⟩]⟩,
  ⟨"HST_SRC_HEAD", 0x110, [(64, 8)], 0, [⟨0, 12, .rw, 0, 0⟩]⟩,
  ⟨"HST_SRC_TAIL", 0x114, [(64, 8)], 0, [⟨0, 12, .ro, 0, 0⟩]⟩,
  ⟨"HST_SRC_LBUF_LO", 0x118, [(64, 8)], 0, [⟨0, 32, .st, 0, 0⟩]⟩,
  ⟨"HST_SRC_LBUF_HI", 0x11C, [(64, 8)], 0, [⟨0, 8, .st, 0, 0⟩]⟩,
  ⟨"HST_SRC_LSTEP", 0x120, [(64, 8)], 0, [⟨0, 32, .st, 0, 0⟩]⟩,
  ⟨"HST_SRC_PEERDONE", 0x124, [(64, 8)], 0, [⟨0, 3, .wo, 0, 0⟩]⟩,
  ⟨"HST_SRC_PEERTAG", 0x128, [(64, 8)], 0, [⟨0, 32, .rw, 0, 0⟩]⟩,
  ⟨"HST_SRCN_DONE", 0x12C, [(64, 8)], 0, [⟨0, 32, .rc, 0, 0⟩]⟩,
  ⟨"HST_PGR_CTL", 0x300, [], 0, [⟨0, 1, .rw, 0, 0⟩, ⟨2, 4, .st, 4, 0⟩, ⟨6, 2, .ro, 0, 0⟩]⟩,
  ⟨"HST_PGR_RING_LO", 0x304, [], 0, [⟨0, 32, .st, 0, 0⟩]⟩,
  ⟨"HST_PGR_RING_HI", 0x308, [], 0, [⟨0, 32, .st, 0, 0⟩]⟩]

/-- Block HST, registers from offset 0x30C. -/
def hst2 : List RegRow := [
  ⟨"HST_PGR_HEAD", 0x30C, [], 0, [⟨0, 12, .rw, 0, 0⟩]⟩,
  ⟨"HST_PGR_TAIL", 0x310, [], 0, [⟨0, 12, .ro, 0, 0⟩]⟩,
  ⟨"HST_PGR_DONE", 0x314, [], 0, [⟨0, 32, .rc, 0, 0⟩]⟩]

/-- All register rows of block HST. -/
def hstRows : List RegRow := hst0 ++ hst1 ++ hst2

/-- Block PAR, registers from offset 0x0. -/
def par0 : List RegRow := [
  ⟨"PAR_BLK_ID", 0x0, [], 0, [⟨0, 16, .ro, 52, 0⟩, ⟨16, 8, .ro, 1, 0⟩]⟩,
  ⟨"PAR_STATUS", 0x4, [], 0, [⟨0, 3, .ro, 0, 0⟩, ⟨3, 1, .ro, 0, 0⟩, ⟨4, 1, .ro, 0, 0⟩, ⟨5, 1, .ro, 0, 0⟩, ⟨6, 1, .ro, 0, 0⟩, ⟨7, 1, .ro, 0, 0⟩, ⟨8, 3, .ro, 0, 0⟩, ⟨11, 2, .ro, 0, 0⟩, ⟨13, 3, .ro, 0, 0⟩]⟩,
  ⟨"PAR_CFG", 0x8, [], 0, [⟨0, 1, .st, 0, 1⟩, ⟨1, 1, .st, 0, 1⟩, ⟨2, 1, .st, 1, 0⟩]⟩,
  ⟨"PAR_TMO", 0xC, [], 0, [⟨0, 8, .st, 3, 0⟩, ⟨8, 8, .st, 5, 0⟩, ⟨16, 16, .st, 2000, 0⟩]⟩,
  ⟨"PAR_CMD", 0x10, [], 0, [⟨0, 2, .wo, 0, 0⟩]⟩,
  ⟨"PAR_PGEN", 0x14, [], 0, [⟨0, 32, .ro, 0, 0⟩]⟩,
  ⟨"PAR_DIGEST", 0x18, [], 0, [⟨0, 32, .ro, 0, 0⟩]⟩,
  ⟨"PAR_PDIGEST", 0x1C, [], 0, [⟨0, 32, .ro, 0, 0⟩]⟩,
  ⟨"PAR_SNAP", 0x20, [], 0, [⟨0, 32, .ro, 0, 0⟩]⟩,
  ⟨"PAR_SNAP_TIME", 0x24, [], 0, [⟨0, 32, .ro, 0, 0⟩]⟩,
  ⟨"PAR_MIRROR", 0x28, [], 0, [⟨0, 12, .ro, 0, 0⟩, ⟨16, 12, .ro, 0, 0⟩]⟩,
  ⟨"PAR_RSYNC_MS", 0x2C, [], 0, [⟨0, 16, .ro, 0, 0⟩]⟩]

/-- Block PAR, registers from offset 0x30. -/
def par1 : List RegRow := [
  ⟨"PAR_LAST", 0x30, [], 0, [⟨0, 24, .ro, 0, 0⟩, ⟨24, 4, .ro, 0, 0⟩]⟩,
  ⟨"PAR_MIRROR_DROP", 0x40, [], 0, [⟨0, 32, .rc, 0, 0⟩]⟩,
  ⟨"PAR_TAKEOVERS", 0x44, [], 0, [⟨0, 32, .rc, 0, 0⟩]⟩,
  ⟨"PAR_LOSS", 0x48, [], 0, [⟨0, 32, .rc, 0, 0⟩]⟩,
  ⟨"PAR_RSYNC_FAIL", 0x4C, [], 0, [⟨0, 32, .rc, 0, 0⟩]⟩,
  ⟨"PAR_RESEND", 0x50, [], 0, [⟨0, 32, .rc, 0, 0⟩]⟩,
  ⟨"PAR_REFUSED", 0x54, [], 0, [⟨0, 32, .rc, 0, 0⟩]⟩]

/-- All register rows of block PAR. -/
def parRows : List RegRow := par0 ++ par1

/-- Block EVT, registers from offset 0x0. -/
def evt0 : List RegRow := [
  ⟨"EVT_BLK_ID", 0x0, [], 0, [⟨0, 16, .ro, 54, 0⟩, ⟨16, 8, .ro, 1, 0⟩]⟩,
  ⟨"EVT_STAT", 0x10, [(4, 10)], 0, [⟨0, 32, .w1c, 0, 0⟩]⟩,
  ⟨"EVT_MASK", 0x40, [(4, 10)], 0, [⟨0, 32, .rw, 4294967295, 0⟩]⟩,
  ⟨"EVT_PEND_LO", 0x80, [], 0, [⟨0, 32, .ro, 0, 0⟩]⟩,
  ⟨"EVT_PEND_HI", 0x84, [], 0, [⟨0, 32, .ro, 0, 0⟩]⟩,
  ⟨"EVT_LAST", 0x90, [], 0, [⟨0, 9, .ro, 0, 0⟩]⟩,
  ⟨"EVT_VEC_CTL", 0x100, [(4, 64)], 0, [⟨0, 10, .rw, 0, 0⟩]⟩,
  ⟨"EVT_ROUTE", 0x400, [(4, 320)], 0, [⟨0, 6, .rw, 0, 0⟩, ⟨7, 1, .rw, 1, 0⟩]⟩]

/-- All register rows of block EVT. -/
def evtRows : List RegRow := evt0

/-- Block DSP, registers from offset 0x0. -/
def dsp0 : List RegRow := [
  ⟨"DSP_BLK_ID", 0x0, [], 0, [⟨0, 16, .ro, 56, 0⟩, ⟨16, 8, .ro, 1, 0⟩]⟩,
  ⟨"DSP_STATUS", 0x4, [], 0, [⟨0, 1, .ro, 0, 0⟩, ⟨1, 1, .ro, 0, 0⟩, ⟨2, 2, .ro, 0, 0⟩, ⟨4, 1, .ro, 0, 0⟩, ⟨8, 4, .ro, 0, 2⟩]⟩,
  ⟨"DSP_MODE", 0x8, [], 0, [⟨0, 8, .st, 0, 2⟩, ⟨8, 4, .st, 0, 2⟩]⟩,
  ⟨"DSP_PIPE0", 0xC, [], 0, [⟨0, 10, .st, 40, 0⟩, ⟨16, 9, .st, 50, 0⟩]⟩,
  ⟨"DSP_PIPE1", 0x10, [], 0, [⟨0, 13, .st, 80, 0⟩]⟩,
  ⟨"DSP_UPD", 0x14, [], 0, [⟨0, 4, .st, 0, 0⟩]⟩,
  ⟨"DSP_RAMP", 0x18, [], 0, [⟨0, 15, .ro, 16384, 0⟩, ⟨16, 15, .ro, 0, 0⟩]⟩,
  ⟨"DSP_NUM", 0x20, [], 0, [⟨0, 18, .ro, 0, 2⟩]⟩,
  ⟨"DSP_DEN", 0x24, [], 0, [⟨0, 11, .ro, 0, 2⟩]⟩,
  ⟨"DSP_TSUB", 0x28, [], 0, [⟨0, 26, .ro, 0, 0⟩]⟩,
  ⟨"DSP_U", 0x2C, [], 0, [⟨0, 26, .ro, 0, 0⟩]⟩,
  ⟨"DSP_FRAME", 0x30, [], 0, [⟨0, 24, .ro, 0, 0⟩, ⟨24, 3, .ro, 0, 0⟩]⟩]

/-- Block DSP, registers from offset 0x34. -/
def dsp1 : List RegRow := [
  ⟨"DSP_LASTB_NS", 0x34, [], 0, [⟨0, 30, .ro, 0, 0⟩]⟩,
  ⟨"DSP_LASTB_SL", 0x38, [], 0, [⟨0, 32, .ro, 0, 0⟩]⟩,
  ⟨"DSP_LASTB_SH", 0x3C, [], 0, [⟨0, 16, .ro, 0, 0⟩]⟩,
  ⟨"DSP_ACT", 0x50, [], 0, [⟨0, 3, .wo, 0, 0⟩, ⟨4, 4, .wo, 0, 0⟩]⟩,
  ⟨"DSP_ACT_NS", 0x54, [], 0, [⟨0, 30, .rw, 0, 0⟩]⟩,
  ⟨"DSP_ACT_SL", 0x58, [], 0, [⟨0, 32, .rw, 0, 0⟩]⟩,
  ⟨"DSP_ACT_SH", 0x5C, [], 0, [⟨0, 16, .rw, 0, 0⟩]⟩,
  ⟨"DSP_ACT_STAT", 0x60, [], 0, [⟨0, 2, .ro, 0, 0⟩, ⟨2, 1, .ro, 0, 0⟩, ⟨4, 3, .ro, 0, 0⟩, ⟨16, 16, .ro, 0, 0⟩]⟩,
  ⟨"DSP_ACT_FRM", 0x64, [], 0, [⟨0, 24, .ro, 0, 0⟩]⟩,
  ⟨"DSP_LATE", 0x68, [], 0, [⟨0, 32, .rc, 0, 0⟩]⟩,
  ⟨"DSP_TRIG_CTL", 0x100, [(16, 8)], 0, [⟨0, 1, .st, 0, 0⟩, ⟨1, 1, .st, 0, 0⟩, ⟨2, 3, .st, 0, 0⟩, ⟨8, 4, .st, 0, 0⟩, ⟨12, 4, .st, 0, 0⟩]⟩,
  ⟨"DSP_TRIG_OFS", 0x104, [(16, 8)], 0, [⟨0, 32, .st, 0, 0⟩]⟩]

/-- Block DSP, registers from offset 0x108. -/
def dsp2 : List RegRow := [
  ⟨"DSP_TRIG_WID", 0x108, [(16, 8)], 0, [⟨0, 26, .st, 1000, 0⟩]⟩]

/-- All register rows of block DSP. -/
def dspRows : List RegRow := dsp0 ++ dsp1 ++ dsp2

/-- Block HCH, registers from offset 0x0. -/
def hch0 : List RegRow := [
  ⟨"HCH_BLK_ID", 0x0, [], 0, [⟨0, 16, .ro, 63, 0⟩, ⟨16, 8, .ro, 1, 0⟩]⟩,
  ⟨"HCH_CTL", 0x4, [], 0, [⟨0, 2, .rw, 0, 0⟩, ⟨2, 1, .ro, 0, 0⟩]⟩,
  ⟨"HCH_STAT", 0x8, [], 0, [⟨0, 1, .ro, 0, 0⟩]⟩,
  ⟨"HCH_UERR", 0xC, [], 0, [⟨0, 32, .rc, 0, 0⟩]⟩]

/-- All register rows of block HCH. -/
def hchRows : List RegRow := hch0

end Sys2Proof.Machine.RegTable
end

