-- ==== Sys2Proof/Machine/Rom.lean ====
section
/-! DEFINITION. The ROM tables the spec gives by formula: the ST 2084 decode table of R81, the ST 2084 encode table of R90 and the
Lanczos filter banks of R89.  Each list element packs 32 entries, the first in the lowest bits.  The numbers were computed from
the spec's formulas to 60 digits and rounded half away from zero. -/

namespace Sys2Proof.Machine.Rom

def pqT0 : List Nat := [
  0x1000001000001000000000000000000000000000000000000000000000000000000000000000000000000000000000000000000000000000000000000000000000000000000000000000000000000000000000000000000000000000000,
  0x2000002000002000002000002000002000002000002000002000002000002000002000001000001000001000001000001000001000001000001000001000001000001000001000001000001000001000001000001000001000001000001,
  0x5000005000005000005000004000004000004000004000004000004000004000004000004000004000004000003000003000003000003000003000003000003000003000003000003000003000003000003000002000002000002000002,
  0x9000009000009000008000008000008000008000008000008000008000007000007000007000007000007000007000007000007000006000006000006000006000006000006000006000006000006000005000005000005000005000005,
  0xe00000e00000e00000e00000e00000d00000d00000d00000d00000d00000c00000c00000c00000c00000c00000c00000b00000b00000b00000b00000b00000b00000a00000a00000a00000a00000a00000a000009000009000009000009,
  0x1600001500001500001500001500001400001400001400001400001300001300001300001300001200001200001200001200001100001100001100001100001100001000001000001000001000001000000f00000f00000f00000f00000f,
  0x1f00001e00001e00001e00001d00001d00001d00001c00001c00001c00001c00001b00001b00001b00001a00001a00001a00001a000019000019000019000018000018000018000018000017000017000017000017000016000016000016,
  0x2a00002900002900002900002800002800002800002700002700002600002600002600002500002500002500002400002400002400002300002300002300002200002200002200002100002100002100002000002000002000001f00001f]

def pqT1 : List Nat := [
  0x3700003700003700003600003600003500003500003400003400003300003300003200003200003200003100003100003000003000002f00002f00002f00002e00002e00002d00002d00002d00002c00002c00002b00002b00002b00002a,
  0x4800004700004700004600004600004500004500004400004400004300004200004200004100004100004000004000003f00003f00003e00003e00003d00003d00003c00003c00003b00003b00003a00003a000039000039000038000038,
  0x5b00005b00005a00005900005900005800005700005700005600005600005500005400005400005300005200005200005100005100005000004f00004f00004e00004e00004d00004c00004c00004b00004b00004a00004a000049000048,
  0x7200007100007100007000006f00006e00006e00006d00006c00006b00006b00006a00006900006900006800006700006600006600006500006400006400006300006200006100006100006000005f00005f00005e00005d00005d00005c,
  0x8d00008c00008b00008a00008900008800008800008700008600008500008400008300008200008200008100008000007f00007e00007d00007d00007c00007b00007a000079000079000078000077000076000075000075000074000073,
  0xac0000ab0000aa0000a90000a80000a70000a60000a50000a40000a30000a20000a10000a000009f00009e00009d00009c00009b00009a00009900009800009700009600009500009400009300009200009100009100009000008f00008e,
  0xcf0000ce0000cd0000cc0000ca0000c90000c80000c70000c60000c50000c40000c20000c10000c00000bf0000be0000bd0000bc0000bb0000ba0000b80000b70000b60000b50000b40000b30000b20000b10000b00000af0000ae0000ad,
  0xf80000f60000f50000f40000f20000f10000f00000ee0000ed0000ec0000ea0000e90000e80000e70000e50000e40000e30000e20000e00000df0000de0000dd0000db0000da0000d90000d80000d60000d50000d40000d30000d20000d0]

def pqT2 : List Nat := [
  0x12600012400012300012100012000011e00011d00011b00011a00011800011700011500011400011200011100011000010e00010d00010b00010a0001080001070001060001040001030001010001000000ff0000fd0000fc0000fa0000f9,
  0x15a00015800015700015500015300015200015000014e00014c00014b00014900014700014600014400014300014100013f00013e00013c00013a00013900013700013600013400013200013100012f00012e00012c00012b000129000127,
  0x19500019300019100018f00018d00018c00018a00018800018600018400018200018000017e00017c00017b00017900017700017500017300017100016f00016e00016c00016a00016800016600016500016300016100015f00015e00015c,
  0x1d80001d50001d30001d10001cf0001cd0001cb0001c80001c60001c40001c20001c00001be0001bc0001ba0001b80001b50001b30001b10001af0001ad0001ab0001a90001a70001a50001a30001a100019f00019d00019b000199000197,
  0x22200022000021d00021b00021800021600021300021100020f00020c00020a0002080002050002030002000001fe0001fc0001f90001f70001f50001f30001f00001ee0001ec0001e90001e70001e50001e30001e00001de0001dc0001da,
  0x27500027300027000026d00026a00026800026500026200026000025d00025a00025800025500025200025000024d00024b00024800024500024300024000023e00023b00023900023600023400023100022e00022c000229000227000225,
  0x2d20002cf0002cc0002c90002c60002c30002c00002bd0002ba0002b70002b40002b10002ae0002ab0002a80002a50002a30002a000029d00029a00029700029400029100028e00028c00028900028600028300028000027e00027b000278,
  0x33a00033600033300032f00032c00032900032500032200031f00031b00031800031500031100030e00030b0003080003050003010002fe0002fb0002f80002f40002f10002ee0002eb0002e80002e50002e20002df0002db0002d80002d5]

def pqT3 : List Nat := [
  0x3ac0003a80003a50003a100039d00039a00039600039200038e00038b00038700038300038000037c00037900037500037100036e00036a00036700036300036000035c00035900035500035200034e00034b00034700034400034000033d,
  0x42b00042700042300041f00041b00041700041200040e00040a0004060004020003fe0003fa0003f60003f20003ee0003ea0003e60003e20003de0003da0003d60003d30003cf0003cb0003c70003c30003bf0003bb0003b80003b40003b0,
  0x4b80004b30004af0004aa0004a50004a100049c00049800049300048f00048a00048600048100047d00047900047400047000046b00046700046300045e00045a00045600045100044d00044900044500044000043c00043800043400042f,
  0x55300054e00054900054400053f00053a00053500053000052b00052600052100051c00051700051200050d0005080005030004ff0004fa0004f50004f00004eb0004e70004e20004dd0004d80004d40004cf0004ca0004c60004c10004bc,
  0x5fe0005f80005f20005ed0005e70005e20005dc0005d70005d10005cc0005c60005c10005bc0005b60005b10005ab0005a60005a100059b00059600059100058c00058600058100057c00057700057200056c00056700056200055d000558,
  0x6b90006b30006ad0006a70006a100069b00069500068f00068900068300067d00067700067100066b00066500065f00065900065300064e00064800064200063c00063600063100062b00062500061f00061a00061400060e000609000603,
  0x78800078100077a00077400076d00076600076000075900075300074c00074500073f00073800073200072b00072500071e00071800071100070b0007050006fe0006f80006f20006eb0006e50006df0006d80006d20006cc0006c60006c0,
  0x86a00086300085c00085400084d00084600083e00083700083000082900082100081a00081300080c0008050007fe0007f70007ef0007e80007e10007da0007d30007cc0007c60007bf0007b80007b10007aa0007a300079c00079500078f]

def pqT4 : List Nat := [
  0x96300095a00095200094a00094200093a00093200092a00092200091a00091300090b0009030008fb0008f30008eb0008e40008dc0008d40008cc0008c50008bd0008b60008ae0008a600089f000897000890000888000881000879000872,
  0xa72000a69000a60000a58000a4f000a46000a3d000a35000a2c000a23000a1b000a12000a09000a010009f80009f00009e70009df0009d60009ce0009c60009bd0009b50009ac0009a400099c00099400098b00098300097b00097300096b,
  0xb9b000b91000b88000b7e000b74000b6b000b61000b58000b4e000b45000b3b000b32000b28000b1f000b16000b0c000b03000afa000af1000ae7000ade000ad5000acc000ac3000aba000ab1000aa8000a9f000a96000a8d000a84000a7b,
  0xcdf000cd4000cca000cbf000cb5000caa000ca0000c96000c8b000c81000c77000c6c000c62000c58000c4e000c44000c39000c2f000c25000c1b000c11000c07000bfd000bf3000be9000bdf000bd5000bcc000bc2000bb8000bae000ba5,
  0xe40000e35000e29000e1e000e13000e07000dfc000df1000de5000dda000dcf000dc4000db8000dad000da2000d97000d8c000d81000d76000d6b000d60000d55000d4a000d3f000d35000d2a000d1f000d14000d0a000cff000cf4000cea,
  0xfc2000fb5000fa9000f9c000f90000f83000f77000f6b000f5e000f52000f46000f3a000f2d000f21000f15000f09000efd000ef1000ee5000ed9000ecd000ec1000eb5000eaa000e9e000e92000e86000e7b000e6f000e63000e58000e4c,
  0x116500115800114a00113c00112f0011210011140011060010f90010ec0010de0010d10010c40010b70010a900109c00108f00108200107500106800105b00104e00104100103400102700101b00100e001001000ff4000fe8000fdb000fce,
  0x132e00131f0013100013010012f20012e40012d50012c70012b80012a900129b00128c00127e00127000126100125300124500123600122800121a00120c0011fe0011f00011e20011d40011c60011b80011aa00119c00118e001181001173]

def pqT5 : List Nat := [
  0x151e00150e0014fe0014ed0014dd0014cd0014be0014ae00149e00148e00147e00146f00145f00144f0014400014300014210014110014020013f20013e30013d40013c40013b50013a600139700138800137800136900135a00134b00133d,
  0x17390017270017160017040016f30016e10016d00016bf0016ae00169d00168b00167a0016690016580016470016360016260016150016040015f30015e30015d20015c10015b10015a000159000157f00156f00155f00154e00153e00152e,
  0x198100196e00195b0019490019360019230019100018fd0018eb0018d80018c60018b30018a100188e00187c00186900185700184500183300182000180e0017fc0017ea0017d80017c60017b40017a300179100177f00176d00175c00174a,
  0x1bfc001be7001bd3001bbe001baa001b95001b81001b6d001b58001b44001b30001b1c001b08001af4001ae0001acc001ab8001aa4001a91001a7d001a69001a56001a42001a2f001a1b001a080019f50019e10019ce0019bb0019a8001995,
  0x1eac001e95001e7f001e69001e53001e3c001e26001e10001dfa001de5001dcf001db9001da3001d8e001d78001d62001d4d001d37001d22001d0d001cf7001ce2001ccd001cb8001ca3001c8e001c79001c64001c4f001c3a001c25001c11,
  0x219500217c00216400214c00213400211c0021040020ec0020d50020bd0020a500208e00207600205f002047002030002019002001001fea001fd3001fbc001fa5001f8e001f77001f60001f49001f33001f1c001f05001eef001ed8001ec2,
  0x24bb0024a100248700246d00245300243900241f0024050023eb0023d20023b800239f00238500236c0023520023390023200023070022ee0022d40022bc0022a300228a00227100225800224000222700220e0021f60021dd0021c50021ad,
  0x28240028070027eb0027cf0027b300279700277b00275f00274300272700270c0026f00026d40026b900269e00268200266700264c0026300026150025fa0025df0025c40025aa00258f00257400255a00253f00252400250a0024f00024d5]

def pqT6 : List Nat := [
  0x2bd4002bb5002b97002b78002b5a002b3b002b1d002aff002ae1002ac3002aa5002a87002a69002a4b002a2e002a100029f30029d50029b800299a00297d0029600029430029260029090028ec0028cf0028b200289600287900285d002840,
  0x2fd0002faf002f8e002f6d002f4c002f2b002f0b002eea002ec9002ea9002e89002e68002e48002e28002e08002de8002dc8002da8002d88002d69002d49002d2a002d0a002ceb002ccb002cac002c8d002c6e002c4f002c30002c11002bf2,
  0x341e0033fb0033d70033b300339000336c0033490033260033030032e00032bd00329a00327700325400323200320f0031ed0031ca0031a800318600316300314100311f0030fe0030dc0030ba003098003077003055003034003012002ff1,
  0x38c500389e00387800385100382b0038050037df0037b900379300376d0037470037210036fc0036d60036b100368b00366600364100361c0035f70035d20035ad00358900356400354000351b0034f70034d20034ae00348a003466003442,
  0x3dca003da0003d77003d4d003d24003cfb003cd2003ca9003c80003c57003c2e003c05003bdd003bb4003b8c003b63003b3b003b13003aeb003ac3003a9b003a74003a4c003a250039fd0039d60039ae0039870039600039390039120038ec,
  0x43350043080042db0042ae0042820042550042290041fc0041d00041a400417800414c0041200040f50040c900409e00407200404700401c003ff1003fc6003f9b003f70003f46003f1b003ef1003ec6003e9c003e72003e48003e1e003df4,
  0x490d0048dc0048ac00487c00484c00481c0047ec0047bc00478c00475d00472d0046fe0046cf00469f0046700046410046130045e40045b500458700455900452a0044fc0044ce0044a00044730044450044170043ea0043bc00438f004362,
  0x4f5a004f25004ef1004ebd004e89004e56004e22004dee004dbb004d88004d55004d21004cef004cbc004c89004c56004c24004bf2004bbf004b8d004b5b004b2a004af8004ac6004a95004a63004a32004a010049d000499f00496e00493d]

def pqT7 : List Nat := [
  0x56240055ec0055b400557c00554400550c0054d400549d00546500542e0053f70053c000538900535200531b0052e50052af00527800524200520c0051d60051a100516b0051350051000050cb00509600506100502c004ff7004fc2004f8e,
  0x5d75005d39005cfc005cc0005c83005c47005c0b005bd0005b94005b58005b1d005ae2005aa6005a6b005a310059f60059bb00598100594600590c0058d200589800585f0058250057eb0057b20057790057400057070056ce00569500565d,
  0x65570065160064d50064940064530064120063d10063910063510063100062d00062910062510062110061d20061930061540061150060d600609700605900601a005fdc005f9e005f60005f22005ee4005ea7005e69005e2c005def005db2,
  0x6dd4006d8e006d47006d01006cbc006c76006c30006beb006ba6006b61006b1c006ad7006a92006a4e006a0a0069c500698100693e0068fa0068b70068730068300067ed0067aa0067670067250066e20066a000665e00661c0065da006599,
  0x76f70076ac0076600076150075c900757e0075330074e900749e00745400740a0073c000737600732c0072e30072990072500072070071be00717600712d0070e500709d00705500700d006fc5006f7e006f36006eef006ea8006e61006e1b,
  0x80cd00807b00802a007fd9007f88007f37007ee7007e96007e46007df6007da6007d57007d07007cb8007c69007c1a007bcb007b7c007b2e007ae0007a92007a440079f60079a900795b00790e0078c10078750078280077dc00778f007743,
  0x8b62008b0a008ab3008a5b008a040089ad0089570089000088aa0088540087fe0087a80087530086fd0086a80086530085ff0085aa0085560085020084ae00845a0084060083b300836000830d0082ba0082670082150081c300817000811f,
  0x96c40096660096080095aa00954c0094ef0094910094340093d800937b00931f0092c200926600920b0091af0091540090f800909e009043008fe8008f8e008f34008eda008e80008e27008dcd008d74008d1b008cc3008c6a008c12008bba]

def pqT8 : List Nat := [
  0xa30200a29d00a23800a1d300a16e00a10a00a0a500a041009fdd009f7a009f16009eb3009e50009dee009d8b009d29009cc7009c65009c03009ba2009b41009ae0009a7f009a1f0099be00995e0098ff00989f0098400097e0009781009723,
  0xb02d00afc000af5300aee600ae7a00ae0e00ada200ad3600accb00ac6000abf500ab8a00ab2000aab600aa4c00a9e200a97900a91000a8a700a83e00a7d600a76d00a70500a69e00a63600a5cf00a56800a50100a49a00a43400a3ce00a368,
  0xbe5400bddf00bd6a00bcf500bc8100bc0c00bb9800bb2500bab100ba3e00b9cb00b95900b8e600b87400b80200b79100b72000b6ae00b63e00b5cd00b55d00b4ed00b47d00b40d00b39e00b32f00b2c000b25200b1e300b17500b10700b09a,
  0xcd8a00cd0c00cc8f00cc1100cb9400cb1700ca9b00ca1e00c9a200c92700c8ab00c83000c7b500c73a00c6c000c64600c5cc00c55300c4d900c46000c3e800c36f00c2f700c27f00c20700c19000c11900c0a200c02b00bfb500bf3f00bec9,
  0xdde400dd5d00dcd500dc4f00dbc800db4200dabc00da3600d9b100d92c00d8a700d82300d79f00d71b00d69800d61400d59200d50f00d48d00d40b00d38900d30700d28600d20500d18500d10400d08400d00500cf8500cf0600ce8700ce09,
  0xef7500eee400ee5300edc200ed3100eca100ec1100eb8200eaf300ea6400e9d500e94700e8b900e82b00e79e00e71100e68400e5f800e56c00e4e000e45500e3ca00e33f00e2b400e22a00e1a000e11700e08e00e00500df7c00def400de6c,
  0x102550101b901011d01008100ffe600ff4b00feb100fe1600fd7d00fce300fc4a00fbb100fb1900fa8000f9e900f95100f8ba00f82300f78d00f6f700f66100f5cb00f53600f4a100f40d00f37900f2e500f25200f1bf00f12c00f09900f007,
  0x1169c0115f401154c0114a50113fe0113580112b201120c0111670110c201101e010f79010ed6010e32010d8f010cec010c4a010ba8010b06010a650109c40109240108830107e40107440106a50106060105680104ca01042c01038f0102f2]

def pqT9 : List Nat := [
  0x12c63012bae012afa012a470129940128e101282f01277d0126cb01261a0125690124b901240901235a0122ab0121fc01214d01209f011ff2011f45011e98011deb011d3f011c94011be8011b3d011a930119e901193f0118960117ed011744,
  0x143c60143040142430141820140c2014002013f43013e84013dc5013d07013c49013b8b013acf013a1201395601389a0137df01372401366a0135b00134f601343d0133840132cc01321401315c0130a5012fee012f38012e82012dcc012d17,
  0x15ce3015c14015b44015a750159a70158d801580b01573e0156710155a50154d901540d0153430152780151ae0150e501501b014f53014e8b014dc3014cfc014c35014b6e014aa80149e301491e0148590147950146d101460d01454b014488,
  0x177db0176fc01761d01753f0174610173840172a70171cb0170ef017014016f39016e5e016d85016cab016bd2016afa016a2201694a01687301679d0166c70165f101651c0164480163740162a00161cd0160fa016028015f56015e85015db4,
  0x194cf0193e00192f0019202019114019026018f39018e4d018d61018c75018b8a018aa00189b60188cc0187e40186fb01861301852c01844501835f0182790181940180af017fcb017ee7017e04017d21017c3f017b5d017a7c01799b0178bb,
  0x1b3e501b2e301b1e301b0e201afe301aee401ade501ace701abea01aaed01a9f101a8f501a7fa01a70001a60601a50c01a41301a31b01a22301a12c01a035019f3f019e4a019d54019c60019b6c019a790199860198930197a10196b00195bf,
  0x1d54301d42f01d31b01d20801d0f601cfe401ced301cdc201ccb201cba301ca9401c98601c87801c76b01c65f01c55301c44801c33e01c23401c12a01c02101bf1901be1101bd0a01bc0401bafe01b9f901b8f401b7f001b6ec01b5e901b4e7,
  0x1f91501f7ec01f6c401f59d01f47701f35101f22c01f10701efe301eec001ed9d01ec7b01eb5a01ea3901e91901e7f901e6db01e5bc01e49f01e38201e26601e14a01e02f01df1501ddfb01dce201dbc901dab101d99a01d88301d76d01d658]

def pqT10 : List Nat := [
  0x21f87021e49021d0c021bcf021a9302195702181c0216e20215a90214700213380212010210ca020f95020e5f020d2b020bf7020ac402099102085f02072e0205fe0204ce02039f02027002014302001501fee901fdbd01fc9201fb6801fa3e,
  0x248cc0247760246220244cd02437a0242280240d6023f85023e34023ce5023b96023a480238fa0237ae0236620235170233cc023282023139022ff1022eaa022d63022c1d022ad702299302284f02270c0225c90224870223460222060220c6,
  0x275170273a802723b0270ce026f61026df6026c8b026b220269b90268500266e902658202641d0262b8026153025ff0025e8d025d2b025bca025a6a02590a0257ac02564e0254f00253940252380250dd024f83024e2a024cd1024b79024a22,
  0x2a4a102a31802a18f02a007029e80029cfa029b750299f102986d0296eb0295690293e80292680290e9028f6b028ded028c71028af502897a02880002868602850e02839602821f0280a9027f34027dc0027c4c027ada0279680277f7027686,
  0x2d7a702d60102d45b02d2b702d11302cf7102cdcf02cc2e02ca8f02c8f002c75202c5b502c41802c27d02c0e302bf4902bdb102bc1902ba8202b8ec02b75802b5c302b43002b29e02b10d02af7c02adec02ac5e02aad002a94302a7b702a62c,
  0x30e6a030ca5030ae103091d03075b03059a0303da03021a03005c02fe9f02fce202fb2702f96d02f7b302f5fb02f44302f28d02f0d702ef2302ed6f02ebbc02ea0b02e85a02e6aa02e4fc02e34e02e1a102dff502de4a02dca002daf702d94e,
  0x3493003474a03456403438003419d033fbb033dda033bf9033a1a03383c0336600334840332a90330cf032ef7032d1f032b4803297303279e0325cb0323f8032227032056031e87031cb9031aeb03191f0317540315890313c00311f8031030,
  0x3884503863b03843203822a038024037e1e037c1a037a16037814037613037413037215037017036e1b036c1f036a2503682c03663403643d036247036053035e5f035c6d035a7b03588b03569c0354ae0352c10350d5034eea034d01034b18]

def pqT11 : List Nat := [
  0x3cbfa03c9c903c79a03c56c03c34003c11403beea03bcc103ba9903b87203b64d03b42903b20603afe403adc403aba403a98603a76903a54e03a33303a11a039f01039ceb039ad50398c00396ad03949a039289039079038e6b038c5d038a50,
  0x414a604124c040ff4040d9d040b470408f30406a004044f0401fe03ffaf03fd6203fb1503f8ca03f68103f43803f1f103efab03ed6603eb2303e8e103e6a003e46103e22303dfe603ddaa03db7003d93603d6ff03d4c803d29303d05e03ce2b,
  0x462a6046021045d9c045b1904589804561804539a04511c044ea1044c260449ad0447360444c004424b043fd8043d66043af50438860436180433ac043141042ed7042c6f042a080427a204253e0422db042079041e19041bba04195d041700,
  0x4b66104b3ac04b0f804ae4604ab9604a8e704a63904a38d04a0e3049e3a049b930498ed0496480493a5049104048e64048bc604892904868d0483f304815b047ec4047c2e04799a0477070474760471e6046f58046ccb046a400467b604652d,
  0x51042050d5a050a7405078f0504ac0501cb04feeb04fc0d04f93004f65504f37c04f0a404edce04eaf904e82704e55504e28604dfb704dceb04da2004d75704d48f04d1c904cf0404cc4104c98004c6c004c40104c14504be8904bbd004b917,
  0x570bf056da1056a8405676905644f056137055e21055b0d0557fb0554ea0551db054ece054bc20548b90545b10542aa053fa6053ca30539a20536a20533a40530a8052dae052ab50527be0524c90521d5051ee3051bf305190405161705132c,
  0x5d85705d4fd05d1a505ce5005cafc05c7aa05c45a05c10c05bdbf05ba7505b72c05b3e505b0a105ad5e05aa1c05a6dd05a3a005a064059d2a0599f20596bc059388059055058d250589f60586c905839d058074057d4c057a260577020573e0,
  0x647900643f7064060063ccc0639390635a806321a062e8d062b0206277a0623f306206f061cec06196c0615ed061271060ef6060b7d06080706049206011f05fdaf05fa4005f6d305f36805efff05ec9805e93305e5d005e26f05df1005dbb2]

def pqT12 : List Nat := [
  0x6befd06bb2006b74606b36d06af9706abc306a7f106a42206a054069c890698c00694f9069134068d710689b10685f3068236067e7c067ac406770e06735a066fa9066bf906684c0664a00660f7065d500659aa065607065266064ec7064b2b,
  0x73f3c073b160736f30732d2072eb3072a9707267d072265071e50071a3d07162c07121d070e11070a080706000701fb06fdf806f9f706f5f906f1fd06ee0306ea0c06e61606e22306de3306da4406d65806d26e06ce8606caa006c6bd06c2dc,
  0x7c8f707c48307c01107bba207b73507b2cb07ae6307a9fe07a59b07a13b079cdd079882079429078fd3078b7f07872e0782df077e93077a490776010771bc076d7a07693a0764fc0760c0075c8807585107541d074feb074bbc07478f074364,
  0x85ce608581d085357084e940849d3084515084059083ba10836eb083238082d870828d908242e081f86081ae008163d08119c080cfe0808630803cb07ff3507faa107f61007f18207ecf707e86e07e3e707df6407dae307d66407d1e807cd6e,
  0x8fbce08f6aa08f18908ec6b08e75008e23808dd2308d81108d30108cdf508c8eb08c3e408bee108b9e008b4e208afe608aaee08a5f808a106089c1608972908923e088d57088872088391087eb20879d50874fc087025086b510866800861b2,
  0x9a68509a0ff099b7c0995fd099081098b0809859209801f097aaf097543096fd9096a73096510095faf095a520954f8094fa1094a4e0944fd093faf093a6409351c092fd8092a9609255809201c091ae30915ae09107b090b4b09061e0900f5,
  0xa5df00a58010a52160a4c2d0a46480a40670a3a890a34ae0a2ed70a29030a23320a1d650a179b0a11d50a0c110a06510a009509fadb09f52509ef7209e9c309e41609de6d09d8c809d32509cd8609c7ea09c25109bcbb09b72909b19909ac0d,
  0xb230a0b1ca90b164c0b0ff30b099e0b034c0afcfe0af6b30af06d0aea290ae3ea0addae0ad7750ad1400acb0f0ac4e10abeb70ab8900ab26d0aac4d0aa6310aa0190a9a040a93f20a8de40a87d90a81d20a7bcf0a75cf0a6fd20a69d80a63e3]

def pqT13 : List Nat := [
  0xbf6dd0bf0030be92c0be25a0bdb8b0bd4c00bcdf90bc7360bc0770bb9bc0bb3050bac520ba5a20b9ef70b984f0b91ab0b8b0b0b846e0b7dd60b77410b70b00b6a230b639a0b5d140b56920b50140b499a0b43230b3cb00b36410b2fd50b296e,
  0xcda8e0cd3300ccbd60cc4800cbd2f0cb5e20cae990ca7550ca0140c98d80c91a00c8a6c0c833c0c7c110c74e90c6dc60c66a70c5f8c0c58750c51620c4a530c43490c3c420c353f0c2e410c27460c20500c195e0c126f0c0b850c049e0bfdbc,
  0xdcf540dc7680dbf810db79f0dafc10da7e70da0120d98420d90760d88af0d80ec0d792e0d71740d69bf0d620e0d5a620d52ba0d4b160d43770d3bdc0d34460d2cb40d25260d1d9d0d16180d0e980d071c0cffa40cf8310cf0c10ce9570ce1f0,
  0xed6840ecdff0ec5800ebd050eb4900eac1f0ea3b30e9b4c0e92ea0e8a8d0e82350e79e10e71930e69490e61040e58c40e50880e48520e40200e37f30e2fca0e27a70e1f880e176e0e0f580e07470dff3b0df7340def310de7330ddf390dd744,
  0xff18b0fe8620fdf3e0fd6200fcd070fc3f30fbae40fb1db0fa8d70f9fd90f96df0f8deb0f84fc0f7c120f732e0f6a4e0f61740f589f0f4fcf0f47040f3e3e0f357e0f2cc20f240c0f1b5a0f12ae0f0a060f01640ef8c70ef02e0ee79b0edf0d,
  0x1121f611181b110e4611047810faae10f0eb10e72d10dd7510d3c310ca1610c06f10b6cd10ad3110a39b109a0a10907f1086fa107d791073ff106a8a10611b1057b1104e4c1044ed103b941032401028f1101fa8101664100d261003ec0ffab9,
  0x126972125ed81254441249b7123f301234af122a34121fbf121550120ae812008511f62911ebd211e18211d73811ccf411c2b511b87d11ae4b11a41e1199f8118fd71185bd117ba8117199116791115d8e115390114999113fa71135bc112bd6,
  0x13c9cf13be6713b30613a7ab139c561391091385c2137a82136f481364151358e8134dc21342a313378a132c7713216b131666130b6713006e12f57c12ea9012dfab12d4cc12c9f312bf2112b45512a98f129ed0129417128964127eb8127412]

def pqT14 : List Nat := [
  0x1545051538be152c7e1520461514141507ea14fbc714efab14e39614d78914cb8214bf8314b38a14a799149bae148fcb1483ee147819146c4a1460831454c2144908143d551431a9142604141a66140ece14033d13f7b313ec3013e0b413d53e,
  0x16dd3416cffd16c2cd16b5a516a885169b6d168e5c168153167452166758165a66164d7c1640991633be1626ea161a1e160d5a16009d15f3e815e73a15da9315cdf415c15c15b4cc15a843159bc2158f481582d515766a156a06155da9155154,
  0x1894ab18867018783d186a13185bf1184dd7183fc61831bd1823bd1815c41807d417f9ec17ec0d17de3517d06617c29f17b4e017a72917997b178bd4177e3517709f17631017558a17480b173a95172d26171fbf17126117050a16f7bb16ea74,
  0x1a6de91a5e961a4f4b1a400a1a30d21a21a21a127c1a035f19f44a19e53f19d63c19c74319b85219a96a199a8b198bb5197ce7196e23195f671950b41942091933671924ce19163e1907b618f93718eac018dc5218cdec18bf8f18b13b18a2ef,
  0x1c6ba51c5b231c4aaa1c3a3b1c29d61c197a1c09291bf8e11be8a31bd86e1bc8431bb8221ba80a1b97fc1b87f71b77fc1b680a1b58221b48431b386e1b28a21b18e01b09271af9771ae9d01ada331aca9f1abb151aab931a9c1b1a8cac1a7d46,
  0x1e90d01e7f061e6d471e5b921e49e71e38481e26b31e15281e03a81df2321de0c61dcf651dbe0f1dacc21d9b801d8a491d791b1d67f81d56df1d45d11d34cc1d23d21d12e11d01fb1cf11f1ce04d1ccf851cbec71cae131c9d681c8cc81c7c32,
  0x20e09b20cd6f20ba4e20a73920942f208131206e3e205b5620487a2035a92022e32010291ffd791fead51fd83c1fc5af1fb32c1fa0b41f8e481f7be61f698f1f57441f45031f32cd1f20a21f0e821efc6d1eea631ed8631ec66e1eb4841ea2a5,
  0x235e7e2349d32335342320a2230c1c22f7a222e33522ced422ba7f22a6372291fb227dcb2269a722558f224183222d8322198f2205a721f1cb21ddfb21ca3721b67f21a2d3218f32217b9d216814215497214125212dbf211a6521071620f3d3]

def pqT15 : List Nat := [
  0x260e3c25f7f325e1b725cb8925b568259f5425894d257354255d6825478a2531b8251bf425063c24f09224daf524c56524afe2249a6c248503246fa7245a57244514242fdf241ab624059923f08a23db8723c69123b1a7239cca2387f9237335,
  0x28f3ef28dbe528c3ea28abfd28941f287c4f28648e284cdb283537281da028061827ee9f27d73327bfd627a886279145277a122762ed274bd62734cd271dd22706e426f00526d93326c26f26abb9269511267e762667e9265169263af8262493,
  0x2c14082bfa192be03a2bc66a2bacaa2b92fa2b79592b5fc82b46462b2cd42b13712afa1e2ae0da2ac7a62aae802a956a2a7c642a636c2a4a842a31aa2a18e02a002529e77829cedb29b64d299dcd29855d296cfb2954a8293c6429242e290c07,
  0x2f73602f57632f3b772f1f9d2f03d32ee81a2ecc722eb0db2e95542e79df2e5e7a2e43262e27e32e0cb02df18e2dd67c2dbb7b2da08a2d85aa2d6ada2d501a2d356b2d1acb2d003c2ce5be2ccb4f2cb0f02c96a22c7c632c62352c48162c2e07,
  0x33173b32f90432dae032bccf329ecf3280e332630832454032278a3209e631ec5431ced531b16731940b3176c231598a313c64311f5031024e30e55d30c87f30abb1308ef630724c3055b330392c301cb73000522fe3ff2fc7be2fab8d2f8f6e,
  0x37055536e4b536c42936a3b136834d3662fd3642c136229836028335e28235c29535a2bb3582f53563433543a335241835049f34e53a34c5e834a6aa34877e346866344961342a6f340b8f33ecc333ce0a33af633390cf33724e3353e0333584,
  0x3b43ee3b20b03afd883ada763ab77a3a94933a71c13a4f053a2c5f3a09ce39e75239c4ec39a29a39805e395e37393c25391a2838f84038d66d38b4af389305387170384ff0382e85380d2e37ebeb37cabe37a9a437889f3767ae3746d2372609,
  0x3fd9d43fb3c03f8dc43f67df3f42123f1c5c3ef6be3ed1363eabc63e866e3e612c3e3c013e16ee3df1f13dcd0b3da83d3d83843d5ee33d3a583d15e43cf1873ccd403ca90f3c84f53c60f13c3d033c192c3bf56a3bd1bf3bae2a3b8aab3b6741]

def pqT16 : List Nat := [
  0x400000]

/-- ENC 1 of R81: T[i] for i from 0 to 4,096, 24 bits an entry. -/
def pqTAll : List Nat := pqT0 ++ pqT1 ++ pqT2 ++ pqT3 ++ pqT4 ++ pqT5 ++ pqT6 ++ pqT7 ++ pqT8 ++ pqT9 ++ pqT10 ++ pqT11 ++ pqT12 ++ pqT13 ++ pqT14 ++ pqT15 ++ pqT16

def pqE0 : List Nat := [
  0xe043750da035a0d3433f0cc43220c4c3040bd02e40b4c2c10abc29c0a24275098024908c821907fc1e307141a4060015804a40f1029c000,
  0x12e44b112a44a11264491122448011e046f119845d115044b110843910bc426107041210203fe0fcc3e90f783d30f203bd0ec83a60e6838e,
  0x164858c161858015e857315b4567158455b155054e151c54114e853414b4526147c519144850b14104fd13d44ee139c4df13604d013244c1,
  0x18ec63718c862d18a06231878619185060f182860518005fb17d45f017ac5e617805db17545d017285c516fc5ba16d05af16a45a31674597,
  0x1b246c51b046bd1ae46b41ac06ac1aa06a41a7c69b1a5c6921a3868a1a1468119f067819cc66f19a8666198465c1960653193864a1914640,
  0x1d107401cf07391cd47311cb872a1c987231c7c71b1c607141c4070c1c207051c046fd1be46f51bc46ed1ba46e51b846dd1b646d51b446cd,
  0x1ec07ad1ea47a61e8c7a01e707991e587931e3c78c1e247851e0877f1dec7781dd07711db876a1d9c7631d8075c1d647551d4874e1d2c747,
  0x204480e202c808201480320007fd1fe87f71fd07f11fb87eb1fa07e51f887df1f707d91f547d21f3c7cc1f247c61f0c7c01ef47b91ed87b3]

def pqE1 : List Nat := [
  0x21a88672190862217c85c21688572150852213c84c2124847211084120f883c20e483620cc83020b882b20a08252088820207481a205c814,
  0x22ec8b922d88b422c48af22b48aa22a08a5228c8a0227489b2260896224c891223888c2224887221088121fc87c21e887721d087221bc86c,
  0x241c905240890023f88fb23e48f723d48f223c08ee23ac8e9239c8e423888df23748db23608d623508d1233c8cc23288c723148c323008be,
  0x253494b25249472514943250493e24f093a24e093624d093124bc92d24ac92924989242488920247491b24649172454912244090e242c909,
  0x264098e263098a26209862610982260097d25ec97925dc97525cc97125bc96d25ac969259c965258c961257895c256895825589542548950,
  0x27389cc27289c8271c9c5270c9c126fc9bd26ec9b926dc9b526cc9b126bc9ad26ac9a926a09a626909a2268099e267099a26609962650992,
  0x2824a072818a042808a0027f89fd27ec9f927dc9f527cc9f227c09ee27b09ea27a09e727949e327849df27749db27649d827589d427489d0,
  0x2904a4028f8a3c28e8a3928dca3528d0a3228c0a2e28b4a2b28a4a272898a242888a20287ca1d286ca192860a162850a122840a0f2834a0b]

def pqE2 : List Nat := [
  0x2aa0aa52a88a9f2a70a992a54a922a3ca8c2a24a852a08a7f29f0a7829d4a7229bca6b29a0a652984a5e296ca572950a512934a4a2918a43,
  0x2c20b052c0cb002bf4afa2bdcaf42bc4aee2bacae82b94ae22b7cadc2b64ad62b4cad02b34aca2b1cac42b04abe2aecab82ad4ab22abcaab,
  0x2d84b5e2d70b592d58b542d44b4e2d30b492d18b432d04b3e2cecb382cd8b332cc0b2d2ca8b282c94b222c7cb1c2c68b172c50b112c38b0b,
  0x2ed0bb12ebcbac2ea8ba72e94ba22e80b9d2e6cb982e54b932e40b8e2e2cb892e18b832e04b7e2df0b792dd8b742dc4b6e2db0b692d98b64,
  0x3004bff2ff0bfa2fe0bf52fccbf12fb8bec2fa4be72f94be22f80bdd2f6cbd92f58bd42f44bcf2f30bca2f20bc52f0cbc02ef8bbb2ee4bb6,
  0x3128c483114c433104c3f30f0c3a30e0c3630d0c3130bcc2d30acc283098c243084c1f3074c1b3060c163050c11303cc0d3028c083018c03,
  0x323cc8c3228c883218c843208c8031f8c7c31e4c7731d4c7331c4c6f31b4c6a31a0c663190c623180c5e316cc59315cc55314cc503138c4c,
  0x3340cce3330cca3320cc63310cc23300cbe32f0cba32e0cb632d0cb232c0cad32acca9329cca5328cca1327cc9d326cc99325cc95324cc91]

def pqE3 : List Nat := [
  0x351cd433500d3c34e0d3534c4d2d34a8d263488d1f346cd17344cd103430d083410d0033f4cf933d4cf133b4ce93394ce13374cda3358cd2,
  0x36d8db236bcdac36a0da53688d9e366cd973650d913634d8a3618d8335fcd7c35e4d7535c8d6e35acd673590d603570d593554d523538d4b,
  0x3870e193858e13383ce0c3824e06380ce0037f4dfa37d8df337c0ded37a8de7378cde03774dda3758dd33740dcd3724dc6370cdc036f0db9,
  0x39ece7839d4e7239bce6c39a4e663990e613978e5b3960e553948e4f3930e493918e433900e3d38e8e3738d0e3138b8e2b38a0e253888e1f,
  0x3b4ced13b38ecb3b20ec63b0cec03af8ebb3ae0eb53acceb03ab4eaa3aa0ea53a88e9f3a74e9a3a5ce943a44e8f3a30e893a18e833a00e7e,
  0x3c98f243c84f1f3c70f1a3c5cf153c48f0f3c34f0a3c20f053c0cf003bf4efb3be0ef63bccef03bb8eeb3ba0ee63b8cee13b78edb3b64ed6,
  0x3dd4f723dc0f6e3dacf693d98f643d88f5f3d74f5a3d60f553d4cf513d38f4c3d24f473d10f423cfcf3d3ce8f383cd4f333cc0f2e3cacf29,
  0x3efcfbd3ee8fb83ed8fb33ec4faf3eb4faa3ea0fa63e8cfa13e7cf9d3e68f983e58f933e44f8f3e30f8a3e20f853e0cf813df8f7c3de4f77]

def pqE4 : List Nat := [
  0x411904240f903a40d903240b50294095021407501840510104031007400cfff3fe8ff63fc8fed3fa4fe53f80fdc3f5cfd33f3cfca3f18fc1,
  0x43110c042f10b842d50b142b50a942950a1427909a4259092423908a421908241f907a41dd07341bd06b419d063417d05b415d052413904a,
  0x44dd13344c112c44a5125448911e446d11744511104435109441910243f90fb43dd0f443c10ec43a50e543850de43690d6434d0cf432d0c7,
  0x468919e466d1984655191463918b4621184460517e45ed17745d117145b516a459d163458115c4565156454914f4531148451514144f913a,
  0x481520247fd1fc47e51f647cd1f047b51ea479d1e447851de47691d747511d147391cb47211c547051be46ed1b846d51b246b91ab46a11a5,
  0x4989260497525a495d254494524e49312494919243490123d48e923748d123248bd22c48a5226488d220487521a485d214484520e482d208,
  0x4ae92b74ad52b24abd2ad4aa92a74a952a24a7d29c4a692974a512924a3d28c4a252874a1128149f927c49e527649cd27049b926b49a1265,
  0x4c3530a4c213054c0d3004bf92fb4be52f64bcd2f14bb92ec4ba52e74b912e14b7d2dc4b692d74b512d24b3d2cd4b292c74b152c24afd2bd]

def pqE5 : List Nat := [
  0x4e9139f4e6d3964e4538d4e213834dfd37a4dd53714db13674d8d35e4d653544d3d34b4d193414cf13374cc932d4ca13234c793194c5130f,
  0x50bd42b509d423507941a5059412503540950154014ff13f84fd13ef4fad3e74f893de4f693d54f453cc4f213c34efd3ba4ed93b14eb53a8,
  0x52bd4ab529d4a3527d49c5261494524148c5221484520147c51e147451c146c51a1464518145c5161454514144c5121444510143c50dd433,
  0x5495521547951a545d513543d50c542150554054fd53e94f653c94ef53ad4e753914e053714d853554d153354c953194c252f94ba52dd4b3,
  0x564d58f5631589561558255fd57b55e157555c556e55a9567559156055755595559552553d54c5521545550553e54e953754cd53054b1528,
  0x57e55f657cd5f057b55ea579d5e357815dd57695d757515d057355ca571d5c457015bd56e95b756d15b056b55aa56995a3568159d5665596,
  0x59696575951651593964b5921645590963f58f163958d963358c162d58a96275891621587961b5861615584960f5831609581960358015fc,
  0x5ad56b25abd6ac5aa96a75a916a15a7969c5a656965a4d6905a3968b5a216855a0967f59f167a59dd67459c566e59ad6685995662598165d]

def pqE6 : List Nat := [
  0x5d697555d4174b5d197415cf17375cc572c5c9d7225c757185c4d70d5c217035bf96f85bcd6ee5ba16e35b796d85b4d6cd5b216c25af56b7,
  0x5fc97ed5fa57e45f817db5f5d7d25f357c95f117bf5eed7b65ec57ac5ea17a35e797995e557905e2d7865e0577c5ddd7735db97695d9175f,
  0x61f587961d587161b186861918606171857614d84f6129846610983d60e583560c182c60a1823607d81a6059812603580960118005fed7f7,
  0x63f98fa63d98f263b98ea63998e263798da635d8d3633d8cb631d8c362fd8bb62dd8b362bd8aa62998a2627989a6259892623988a6219881,
  0x65d597165b596a6599963657d95b6561954654194d6525945650993e64e993664cd92f64ad92764919206471918645591164359096415901,
  0x67919e067759da67599d3673d9cc67259c567099be66ed9b766d19b166b59aa66999a3667d99c6661995664598e6629986660d97f65f1978,
  0x6931a496919a4268fda3c68e5a3668c9a2f68b1a296899a22687da1c6865a156849a0f6831a086815a0267f99fb67e19f467c59ee67a99e7,
  0x6ab9aab6aa1aa56a89a9f6a71a996a59a936a41a8d6a29a876a11a8169f9a7b69e1a7469c5a6e69ada686995a62697da5c6961a556949a4f]

def pqE7 : List Nat := [
  0x6d81b5b6d55b506d29b456cfdb3a6cd1b2f6ca5b246c79b196c4db0e6c21b026bf5af76bc5aeb6b99ae06b69ad46b39ac96b0dabd6addab1,
  0x700dbfe6fe9bf56fc1beb6f99be16f71bd76f49bcd6f21bc36ef9bb96ed1bae6ea5ba46e7db9a6e55b906e29b856e01b7b6dd5b706dadb65,
  0x7265c947241c8b721dc8271f9c7971d1c7071adc677189c5d7165c547141c4b7119c4270f5c3870cdc2f70a9c257081c1c705dc127035c08,
  0x7489d1e7465d157445d0d7425d057401cfc73e1cf473c1ceb739dce3737dcda7359cd27335cc97315cc072f1cb772cdcaf72a9ca67285c9d,
  0x7685d9d7665d957645d8e7629d867609d7e75e9d7675c9d6e75a9d667589d5e756dd57754dd4f7529d467509d3e74e9d3674c9d2e74a9d26,
  0x785de147841e0c7825e057809dfe77e9df777cddef77b1de87791de17775dd97759dd27739dca771ddc376fddbb76e1db476c1dac76a1da5,
  0x7a19e8379fde7c79e5e7579c9e6e79ade687991e617975e5a7959e537941e4c7925e457909e3e78ede3778d1e3078b5e297895e227879e1b,
  0x7bb9eeb7ba1ee57b89ede7b6ded87b55ed27b39ecb7b21ec57b05ebe7aedeb87ad1eb17ab9eab7a9dea47a85e9d7a69e977a4de907a35e89]

def pqE8 : List Nat := [
  0x7eadfa57e7df9a7e51f8e7e21f837df5f777dc5f6b7d95f5f7d69f547d39f487d09f3c7cd9f2f7ca5f237c75f177c45f0b7c11efe7be1ef1,
  0x81620538136048810e03e80e603380ba029809201e8066014803a009800dffe7fe5ff37fb9fe87f8dfdd7f61fd27f35fc77f05fbc7ed9fb1,
  0x83d60f083b20e7838a0dd83660d4833e0ca83160c182f20b782ca0ad82a20a3827a099825208f822a085820207b81da07181b2067818a05d,
  0x861a18185f617985d217085ae167858e15e856a155854614c852214384fe13a84da13184b6128849211f846a116844610d842210383fe0fa,
  0x882e207880e1ff87ee1f787ce1ef87ae1e7878e1de876a1d6874a1ce872a1c687061bd86e61b586c61ac86a21a4868219b865e193863a18a,
  0x8a222848a0227c89e627589c626d89a6265898a25e896a256894a24e892e247890e23f88ee23788ce22f88ae227888e21f886e217884e20f,
  0x8bf22f88bd62f18bba2ea8b9e2e38b7e2dc8b622d58b462cd8b2a2c68b0e2bf8aee2b88ad22b08ab62a98a962a28a7a29a8a5e2938a3e28b,
  0x8da63668d8a35f8d723588d563528d3a34b8d1e3448d0633d8cea3378cce3308cb23298c963228c7e31b8c623148c4630d8c2a3068c0e2ff]

def pqE9 : List Nat := [
  0x90ba428908a41c905a410902a4048ffa3f88fca3eb8f963df8f663d38f323c68f023ba8ece3ad8e9e3a08e6a3938e363868e023798dce36c,
  0x938a4dd935e4d293324c7930a4bc92de4b192b24a6928649b9256490922a48591fe47991d246e91a24629176457914644b911644090ea434,
  0x961a58195f257795ca56d95a2563957a559955254f952a545950253b94da53194b2526948651c945e5129432507940a4fd93de4f293b64e7,
  0x9872617984e60e982a60598065fc97de5f397ba5ea97965e097725d7974a5ce97265c497025bb96da5b196b25a8968e59e9666594964258b,
  0x9a9a6a29a7a69a9a5a6919a366899a1668099f267899d266f99ae667998a65e996a655994664d992264498fe63b98de63298ba6299896620,
  0x9c9e7239c7e71b9c5e7149c4270c9c227049c026fc9be26f49bc26ec9ba26e49b826dc9b626d49b426cb9b1e6c39afe6bb9ade6b39abe6ab,
  0x9e7e79b9e627949e4678d9e267859e0a77e9dea7779dce76f9db27689d927609d767599d567519d3674a9d1a7429cfa73a9cda7339cbe72b,
  0xa04280ca026805a00a7ff9fee7f89fd27f19fb67ea9f9a7e39f7e7dc9f627d59f467ce9f2a7c79f0e7bf9ef27b89ed67b19eba7aa9e9a7a3]

def pqE10 : List Nat := [
  0xa36e8d5a33e8c8a30a8bca2da8b0a2a68a3a276896a24288aa20e87da1da870a1aa863a172856a13e849a10a83ba0d682ea09e821a06a813,
  0xa65298fa626983a5fa978a5ce96da59e962a572956a54694ba516940a4ea934a4ba928a48a91da45e911a42e905a3fe8f9a3ce8eda39e8e1,
  0xa8f2a37a8caa2da8a2a23a87aa19a852a0ea826a04a7fe9faa7d29efa7aa9e5a7829daa7569d0a72a9c5a7029baa6d69afa6aa9a4a67e99a,
  0xab5aad1ab36ac8ab0eabfaaeaab5aac6aacaa9eaa3aa7aa99aa52a8faa2ea86aa06a7ca9dea72a9baa69a992a5fa96aa55a942a4ba91aa41,
  0xad92b5fad6eb57ad4eb4ead2ab46ad06b3dace6b34acc2b2bac9eb23ac7ab1aac56b11ac32b08ac0eaffabeaaf6abc6aedaba2ae4ab7eadb,
  0xaf9ebe3af7ebdbaf5ebd3af3ebcbaf1ebc3aefebbbaedebb3aebebabae9eba2ae7ab9aae5ab92ae3ab8aae16b81adf6b79add6b70adb2b68,
  0xb18ac5eb16ac56b14ec4fb12ec48b112c40b0f2c38b0d6c31b0b6c29b096c22b07ac1ab05ac12b03ac0ab01ec03affebfbafdebf3afbebeb,
  0xb352cd1b336ccab31acc3b2fecbcb2e2cb5b2c6caeb2aaca7b28ec9fb272c98b256c91b23ac8ab21ac83b1fec7bb1e2c74b1c2c6db1a6c65]

def pqE11 : List Nat := [
  0xb68ed9db65ed90b62ad84b5f6d77b5c6d6ab592d5eb55ed51b52ad44b4f6d36b4c2d29b48ed1cb456d0eb422d01b3eacf3b3b6ce6b37ecd8,
  0xb97ee5ab952e4eb926e43b8f6e38b8cae2cb89ae21b86ee15b83ee09b812dfeb7e2df2b7b2de6b782ddab752dceb722dc2b6f2db6b6beda9,
  0xbc2af05bbfeefabbd6ef0bbaeee6bb86edbbb5aed1bb32ec6bb06ebcbadaeb1bab2ea6ba86e9cba5ae91ba2ee86ba02e7bb9d6e70b9aae65,
  0xbe96fa1be72f97be4ef8ebe26f84be02f7bbddaf71bdb2f68bd8ef5ebd66f54bd3ef4abd1af41bcf2f37bccaf2dbca2f23bc7af19bc52f0f,
  0xc0d7030c0b3028c08f01fc06f016c04b00dc027005c002ffcbfdeff3bfbafeabf96fe1bf72fd8bf4efcfbf2afc6bf06fbcbee2fb3bebefaa,
  0xc2e70b5c2c70adc2a70a5c28709dc267095c24708dc227085c20307cc1e3074c1c306cc19f063c17f05bc15f052c13b04ac11b041c0f7039,
  0xc4d7131c4b712ac49b122c47b11bc45f113c43f10bc41f104c4030fcc3e30f4c3c30ecc3a70e5c3870ddc3670d5c3470cdc3270c5c3070bd,
  0xc6a31a5c68719ec66b197c64f190c633189c617182c5fb17ac5df173c5c316cc5a3165c58715dc56b156c54b14fc52f147c513140c4f3139]

def pqE12 : List Nat := [
  0xc9e3272c9b3265c97f259c94b24cc91b23fc8e7232c8b3225c87f218c84b20bc8131fec7df1f0c7ab1e3c7731d5c73b1c8c7071bac6cf1ac,
  0xccd7330ccab324cc7f319cc4f30ecc23302cbf32f6cbc72ebcb972dfcb672d3cb372c7cb072bbcad72afcaa72a3ca77297ca4728bca1727e,
  0xcf833dbcf5b3d1cf333c6cf073bccedf3b2ceb33a7ce8b39dce5f392ce37387ce0b37dcddf372cdb3367cd8735ccd5f351cd2f346cd0333b,
  0xd1f3477d1cb46ed1a7464d18345bd15b451d137448d10f43ed0e7434d0c342bd09b421d073417d04b40dd023403cffb3f9cfd33efcfab3e5,
  0xd42f507d40b4fed3eb4f5d3c74edd3a34e4d3834dbd35f4d2d33b4c9d3174c0d2f34b7d2cf4aed2ab4a5d28749cd263493d23b48ad217480,
  0xd64358cd623584d60357cd5df573d5bf56bd59f563d57f55bd55f553d53f54ad51b542d4fb53ad4db531d4b7529d497520d473518d45350f,
  0xd82f607d80f600d7f35f8d7d35f1d7b75e9d7975e1d77b5dad75b5d2d73b5cad71f5c3d6ff5bbd6df5b3d6bf5abd69f5a3d67f59bd663594,
  0xd9fb67ad9df673d9c366cd9a7665d98b65ed96f657d953650d937649d917642d8fb63ad8df633d8c362cd8a3625d88761dd86b616d84b60f]

def pqE13 : List Nat := [
  0xdd37747dd0373adcd372edc9f721dc6f714dc3b707dc076fadbd36eddb9f6e0db6b6d3db336c6daff6b8dac76abda9369dda5b68fda23681,
  0xe023803dff77f8dfcb7ecdf9f7e1df6f7d6df437cadf137bfdee77b3deb77a7de8779bde5b790de2b784ddfb778ddcb76bdd9775fdd67753,
  0xe2cb8ade2a38a3e27b898e24f88ee227884e1ff879e1d386fe1ab865e17f85ae15784fe12b845e0ff83ae0d382fe0ab824e07f819e05380e,
  0xe533948e50f93ee4eb935e4c392ce49f922e477919e45390fe42b906e4078fce3df8f2e3b78e9e3938dfe36b8d5e3438cbe31b8c1e2f38b7,
  0xe76b9d6e7479cde7279c5e7039bce6e39b3e6bf9abe69b9a2e677999e657990e633987e60f97ee5eb975e5c796ce5a3963e57f95ae557951,
  0xe977a59e957a51e937a49e917a41e8f7a39e8d7a31e8b7a29e897a21e877a19e853a10e833a08e813a00e7f39f7e7cf9efe7af9e7e78b9de,
  0xeb5fad3eb3facceb23ac4eb03abdeae7ab5eac7aaeeaabaa6ea8ba9fea6fa97ea4fa8fea33a88ea13a80e9f3a78e9d3a70e9b7a69e997a61,
  0xed23b45ed07b3eecebb37eccfb30ecb3b29ec97b22ec7bb1bec5fb14ec43b0dec27b06ec0bafeebefaf7ebd3af0ebb3ae9eb97ae2eb7bada]

def pqE14 : List Nat := [
  0xf053c0ef023c02efefbf5efbfbe9ef8bbdcef5bbd0ef27bc3eef3bb6eebfba9ee8bb9cee57b8fee23b82edefb74edbbb67ed83b59ed4bb4c,
  0xf337cc7f30bcbcf2dfcb1f2afca6f283c9bf257c8ff22bc84f1fbc79f1cfc6df19fc61f173c56f143c4af113c3ef0e3c32f0b3c26f083c1a,
  0xf5cfd6ef5a7d64f57fd5af557d50f52fd46f507d3cf4dbd31f4b3d27f48bd1df45fd12f437d08f40bcfdf3e3cf2f3b7ce8f38bcddf35fcd2,
  0xf82be06f807dfdf7e3df4f7bfdeaf79bde1f777dd8f74fdcff72bdc5f703dbcf6dfdb2f6b7da9f693d9ff66bd95f643d8cf61fd82f5f7d78,
  0xfa57e91fa37e89fa17e80f9f3e78f9d3e6ff9afe67f98fe5ef96be56f947e4df927e44f903e3cf8dfe33f8bbe2af897e21f873e18f84fe0f,
  0xfc5bf12fc3bf0afc1bf02fbfbefafbdbef3fbbfeebfb9fee3fb7fedbfb5fed3fb3fecbfb1fec3fafbebafadbeb2fabbeaafa9bea2fa7be9a,
  0xfe37f89fe17f82fdfbf7bfddff73fdc3f6cfda3f65fd87f5dfd6bf56fd4bf4efd2ff47fd0ff3ffcf3f38fcd3f30fcb7f29fc97f21fc77f19,
  0xfff3ff8ffd7ff2ffbbfebff9ffe4ff87fddff6bfd6ff4ffcfff33fc9ff17fc2fefbfbbfedffb4fec3fadfea7fa6fe8bf9efe6ff97fe53f90]

def pqE15 : List Nat := [
  0x3fff]

/-- ENC 1 of R90: E[k] for k from 0 to 3,840, 14 bits an entry. -/
def pqEAll : List Nat := pqE0 ++ pqE1 ++ pqE2 ++ pqE3 ++ pqE4 ++ pqE5 ++ pqE6 ++ pqE7 ++ pqE8 ++ pqE9 ++ pqE10 ++ pqE11 ++ pqE12 ++ pqE13 ++ pqE14 ++ pqE15

def tap0 : List Nat := [
  0xfffe0052ff0102da3fbffd7500e8ffb9ffff0035ff5801de3fe4fe45009effcf0000001affad00eb3ff9ff1e0050ffe700000000000000004000000000000000,
  0xfff300cdfd9107173ea6fa9201f5ff6bfff700adfdef05fd3f02fb3c01b6ff7cfffa008efe4c04e93f4ffbf00175ff8ffffc006ffea703de3f8ffcae0130ffa3,
  0xffe10153fc0d0bc43cb4f84702cdff33ffe60131fc6f0a8f3d45f8cb029cff3fffeb010ffcd009613dc9f9590267ff4cffef00eefd3108393e3df9f10230ff5b,
  0xffc701e0fa8310cb39f9f696036dff0fffce01bdfae50f823abaf6f4034aff16ffd40199fb480e3e3b70f75b0324ff1effdb0176fbaa0cfe3c19f7cc02faff28,
  0xffa6026cf90616123688f57903d6feffffaf024af96314bc3774f5b203c1ff01ffb70227f9c213683856f5f503a8ff05ffbf0204fa221217392ef641038cff09,
  0xff8202f1f7a61b7e3277f4e8040aff00ff8b02d1f7fb1a213389f5000401fefeff9502b0f85118c53492f51f03f6fefeff9e028ff8ab176b358ff54803e8fefe,
  0xff5d0365f67820f22de2f4d7040cff0fff66034af6be1f962f12f4d00410ff0aff6f032df7081e39303bf4d10411ff06ff790310f7561cdc315bf4d8040fff03,
  0xff3903c1f58e264c28e8f53803e3ff29ff4203adf5c124fa2a2df51603f1ff22ff4b0396f5f923a42b6ff4fb03fdff1bff54037ef636224c2cabf4e60406ff15]

def tap1 : List Nat := [
  0xff1b03fdf4fb2b6f23a4f5f90396ff4bff2203f1f5162a2d24faf5c103adff42ff2903e3f53828e8264cf58e03c1ff39ff3103d3f560279c279cf56003d3ff31,
  0xff060411f4d1303b1e39f708032dff6fff0a0410f4d02f121f96f6be034aff66ff0f040cf4d72de220f2f6780365ff5dff150406f4e62cab224cf636037eff54,
  0xfefe03f6f51f349218c5f85102b0ff95fefe0401f50033891a21f7fb02d1ff8bff00040af4e832771b7ef7a602f1ff82ff03040ff4d8315b1cdcf7560310ff79,
  0xff0503a8f5f538561368f9c20227ffb7ff0103c1f5b2377414bcf963024affaffeff03d6f57936881612f906026cffa6fefe03e8f548358f176bf8ab028fff9e,
  0xff1e0324f75b3b700e3efb480199ffd4ff16034af6f43aba0f82fae501bdffceff0f036df69639f910cbfa8301e0ffc7ff09038cf641392e1217fa220204ffbf,
  0xff4c0267f9593dc90961fcd0010fffebff3f029cf8cb3d450a8ffc6f0131ffe6ff3302cdf8473cb40bc4fc0d0153ffe1ff2802faf7cc3c190cfefbaa0176ffdb,
  0xff8f0175fbf03f4f04e9fe4c008efffaff7c01b6fb3c3f0205fdfdef00adfff7ff6b01f5fa923ea60717fd9100cdfff3ff5b0230f9f13e3d0839fd3100eeffef,
  0xffe70050ff1e3ff900ebffad001a0000ffcf009efe453fe401deff580035ffffffb900e8fd753fbf02daff010052fffeffa30130fcae3f8f03defea7006ffffc]

def tap2 : List Nat := [
  0x2d026bf7dc0fa82f630b48f86b02ce001d027ff7ec0eed2f7c0c01f84c02c2000f0293f7ff0e332f8d0cbcf82f02b4000002a5f8140d7a2f9a0d7af81402a5,
  0x6e020af7b8129c2eca087cf8fc02f2005d0224f7bd11de2ef9092bf8d502eb004d023df7c511212f2009ddf8b002e3003d0255f7cf10642f450a91f88c02d9,
  0xb50192f7c315972ddd05dbf9a7030000a301b2f7bc14d82e1f067ff97a02ff009101d1f7b814192e5d0726f94e02fc008001eef7b6135b2e9507d0f92402f8,
  0x1000106f801188e2c9e036cfa6602fb00ed012bf7ed17d12cf40403fa3502fe00db014ff7dc17132d46049dfa04030000c80171f7ce16552d93053bf9d50301,
  0x14e0066f8771b7b2b0f0132fb3402e5013a0090f8541ac12b7b01bbfaff02ec012700b8f8351a072be00248facb02f2011400e0f819194b2c4102d8fa9802f7,
  0x19bffb4f9261e53293dff32fc0a02bf0188ffe2f8f41d9f29b9ffacfbd402ca0175000ff8c71cea2a2e002bfb9e02d40161003bf89d1c332aa200acfb6902dd,
  0x1e7fef3fa11210e2729fd6dfce4028d01d4ff24f9d1206227b5fdd9fcad029a01c1ff55f9941fb4283cfe48fc7702a701aeff85f95b1f0528befebbfc4002b4,
  0x22efe26fb3a23a324ddfbe6fdbc0250021dfe5afaea23022575fc42fd860260020bfe8dfa9e225d260cfca2fd50026f01f9fec0fa5621b7269cfd06fd1a027e]

def tap3 : List Nat := [
  0x26ffd50fca2260c225dfa9efe8d020b0260fd86fc4225752302faeafe5a021d0250fdbcfbe624dd23a3fb3afe26022e023ffdf1fb8f24412441fb8ffdf1023f,
  0x2a7fc77fe48283c1fb4f994ff5501c1029afcadfdd927b52062f9d1ff2401d4028dfce4fd6d2729210efa11fef301e7027efd1afd06269c21b7fa56fec001f9,
  0x2d4fb9e002b2a2e1ceaf8c7000f017502cafbd4ffac29b91d9ff8f4ffe2018802bffc0aff32293d1e53f926ffb4019b02b4fc40febb28be1f05f95bff8501ae,
  0x2f2facb02482be01a07f83500b8012702ecfaff01bb2b7b1ac1f8540090013a02e5fb3401322b0f1b7bf8770066014e02ddfb6900ac2aa21c33f89d003b0161,
  0x300fa04049d2d461713f7dc014f00db02fefa3504032cf417d1f7ed012b00ed02fbfa66036c2c9e188ef8010106010002f7fa9802d82c41194bf81900e00114,
  0x2fcf94e07262e5d1419f7b801d1009102fff97a067f2e1f14d8f7bc01b200a30300f9a705db2ddd1597f7c3019200b50301f9d5053b2d931655f7ce017100c8,
  0x2e3f8b009dd2f201121f7c5023d004d02ebf8d5092b2ef911def7bd0224005d02f2f8fc087c2eca129cf7b8020a006e02f8f92407d02e95135bf7b601ee0080,
  0x2b4f82f0cbc2f8d0e33f7ff0293000f02c2f84c0c012f7c0eedf7ec027f001d02cef86b0b482f630fa8f7dc026b002d02d9f88c0a912f451064f7cf0255003d]

def tap4 : List Nat := [
  0xffbefa4700bb15e921a313daff4ffa8bffd5fa52007b158b219f142cff89fa7fffeafa5e003d152e2196147effc4fa750000fa6b000014cf218c14cf0000fa6b,
  0xff62fa2301c6175721a51286fe73fac0ff79fa2b018116fc21a912dcfea8fab2ff91fa34013e16a121a81331fedffaa4ffa8fa3d00fc164521a61386ff17fa97,
  0xff00fa0f02e418b821841128fda8fb01ff19fa12029b1861218f1181fdd9faf0ff31fa1702531809219a11d8fe0bfadfff4afa1d020c17b021a01230fe3efacf,
  0xfe9bfa0a04131a0821420fc2fcf0fb4cfeb4fa0a03c619b62156101cfd1cfb38fecefa0a0379196221681076fd4afb25fee7fa0c032e190d217810cffd78fb13,
  0xfe32fa1705521b4620dd0e57fc4cfb9ffe4dfa1205011af920f80eb2fc73fb8afe67fa0e04b11aaa21130f0dfc9cfb74fe81fa0c04621a5a212a0f68fcc5fb60,
  0xfdc8fa3606a01c6f20540ce8fbbdfbfafde3fa2d064b1c2720780d44fbdffbe3fdfefa2405f71bdd209c0da0fc02fbccfe18fa1d05a51b9320bd0dfbfc26fbb5,
  0xfd5efa6907f81d7e1fac0b7afb42fc5bfd79fa5b07a11d3d1fd90bd5fb5efc42fd93fa4d074b1cfa20030c31fb7dfc2afdaefa4106f51cb5202c0c8dfb9cfc12,
  0xfcf4fab0095b1e731ee20a0ffadcfcc1fd0ffa9d09011e381f180a69faf3fca7fd29fa8a08a91dfc1f4b0ac4fb0cfc8dfd43fa7908501dbe1f7d0b1ffb26fc74]

def tap5 : List Nat := [
  0xfc8dfb0c0ac41f4b1dfc08a9fa8afd29fca7faf30a691f181e380901fa9dfd0ffcc1fadc0a0f1ee21e73095bfab0fcf4fcdafac509b41eac1eae09b4fac5fcda,
  0xfc2afb7d0c3120031cfa074bfa4dfd93fc42fb5e0bd51fd91d3d07a1fa5bfd79fc5bfb420b7a1fac1d7e07f8fa69fd5efc74fb260b1f1f7d1dbe0850fa79fd43,
  0xfbccfc020da0209c1bdd05f7fa24fdfefbe3fbdf0d4420781c27064bfa2dfde3fbfafbbd0ce820541c6f06a0fa36fdc8fc12fb9c0c8d202c1cb506f5fa41fdae,
  0xfb74fc9c0f0d21131aaa04b1fa0efe67fb8afc730eb220f81af90501fa12fe4dfb9ffc4c0e5720dd1b460552fa17fe32fbb5fc260dfb20bd1b9305a5fa1dfe18,
  0xfb25fd4a1076216819620379fa0afecefb38fd1c101c215619b603c6fa0afeb4fb4cfcf00fc221421a080413fa0afe9bfb60fcc50f68212a1a5a0462fa0cfe81,
  0xfadffe0b11d8219a18090253fa17ff31faf0fdd91181218f1861029bfa12ff19fb01fda81128218418b802e4fa0fff00fb13fd7810cf2178190d032efa0cfee7,
  0xfaa4fedf133121a816a1013efa34ff91fab2fea812dc21a916fc0181fa2bff79fac0fe73128621a5175701c6fa23ff62facffe3e123021a017b0020cfa1dff4a,
  0xfa75ffc4147e2196152e003dfa5effeafa7fff89142c219f158b007bfa52ffd5fa8bff4f13da21a315e900bbfa47ffbefa97ff17138621a6164500fcfa3dffa8]

def tap6 : List Nat := [
  0x26042608d50c8f0de50c4b086803b80019041408c40c870de80c59087c03cb000d040308b40c7e0de90c67089003de000003f108a40c750dec0c7508a403f1,
  0x5a046d09160cb10dd80c130819036e004d045b09060ca90dda0c21082d03810040044908f60ca00dde0c2f084103930033043708e50c980de20c3d085403a6,
  0x9004b409570cd10dc90bda07cb0326008204a209470cc90dce0be807de03380075049009370cc10dd00bf707f2034a0067047e09260cb90dd50c050806035c,
  0xc704fd09970cf00db90ba0077d02df00b904ea09870ce90dbd0baf079002f100ab04d809770ce10dc20bbd07a40302009e04c609670cd90dc50bcc07b70314,
  0x100054609d70d0d0da70b66072f029a00f2053309c70d060dac0b74074302ab00e4052109b70cff0db00b83075602bc00d5050f09a70cf80db40b92076902ce,
  0x13b058f0a160d290d950b2a06e20256012c057d0a060d220d990b3906f60267011d056a09f70d1c0d9d0b4807090278010f055809e70d150da10b57071c0289,
  0x17705d90a550d440d7e0aee06960215016805c70a450d3d0d840afd06a90225015905b40a360d370d890b0c06bc0235014a05a20a260d300d8e0b1b06cf0246,
  0x1b506240a930d5c0d690ab1064a01d401a506120a830d560d6e0ac1065d01e4019605ff0a740d500d730ad0067001f4018605ec0a640d4a0d7a0adf06830204]

def tap7 : List Nat := [
  0x1f406700ad00d730d500a7405ff019601e4065d0ac10d6e0d560a83061201a501d4064a0ab10d690d5c0a93062401b501c506370aa20d620d620aa2063701c5,
  0x23506bc0b0c0d890d370a3605b40159022506a90afd0d840d3d0a4505c70168021506960aee0d7e0d440a5505d90177020406830adf0d7a0d4a0a6405ec0186,
  0x27807090b480d9d0d1c09f7056a011d026706f60b390d990d220a06057d012c025606e20b2a0d950d290a16058f013b024606cf0b1b0d8e0d300a2605a2014a,
  0x2bc07560b830db00cff09b7052100e402ab07430b740dac0d0609c7053300f2029a072f0b660da70d0d09d7054601000289071c0b570da10d1509e70558010f,
  0x30207a40bbd0dc20ce1097704d800ab02f107900baf0dbd0ce9098704ea00b902df077d0ba00db90cf0099704fd00c702ce07690b920db40cf809a7050f00d5,
  0x34a07f20bf70dd00cc1093704900075033807de0be80dce0cc9094704a20082032607cb0bda0dc90cd1095704b40090031407b70bcc0dc50cd9096704c6009e,
  0x39308410c2f0dde0ca008f6044900400381082d0c210dda0ca90906045b004d036e08190c130dd80cb10916046d005a035c08060c050dd50cb90926047e0067,
  0x3de08900c670de90c7e08b40403000d03cb087c0c590de80c8708c40414001903b808680c4b0de50c8f08d50426002603a608540c3d0de20c9808e504370033]

/-- The banks of R89, 16 bits a tap: bank b, phase ph, tap c at index 512 b + 8 ph + c. -/
def tapAll : List Nat := tap0 ++ tap1 ++ tap2 ++ tap3 ++ tap4 ++ tap5 ++ tap6 ++ tap7

/-- Entry `i` of a packed table of `w`-bit entries. -/
def entry (w : Nat) (l : List Nat) (i : Nat) : Nat := (l.getD (i / 32) 0) / 2 ^ (w * (i % 32)) % 2 ^ w

/-- The reset word of register `m` of the filter registers: taps 2m and 2m + 1 (Table 04.9). -/
def filterWord (m : Nat) : BitVec 32 :=
  BitVec.ofNat 32 (entry 16 tapAll (2 * m) + entry 16 tapAll (2 * m + 1) * 2 ^ 16)

end Sys2Proof.Machine.Rom
end

