-- ==== Sys2Proof/Machine/RegFile.lean ====
section
/-! DEFINITION. Blocks (Tables 01.2 and 20.1), the lookup of a register's row, reset values, field extraction and insertion, and
the register file: a list of (address, word) pairs in one canonical form, addresses rising, no entry equal to its reset value. -/

namespace Sys2Proof.Machine

/-- The 21 register blocks of Table 20.1. -/
inductive Blk where
  | SYS | RPS | THM | NVS | MGT | CMT | FAB | SND | REL | COR | DRV | LUX | LAN | CMC | TIM | FMC | HST | PAR | EVT | DSP | HCH
deriving DecidableEq, Repr

/-- Base address of a block (Table 20.1). -/
def Blk.base : Blk → Nat
  | .SYS => 0x000000 | .RPS => 0x010000 | .THM => 0x020000 | .NVS => 0x030000 | .MGT => 0x040000 | .CMT => 0x050000
  | .FAB => 0x080000 | .SND => 0x100000 | .REL => 0x140000 | .COR => 0x180000 | .DRV => 0x1C0000 | .LUX => 0x1E0000
  | .LAN => 0x200000 | .CMC => 0x240000 | .TIM => 0x280000 | .FMC => 0x2C0000 | .HST => 0x300000 | .PAR => 0x340000
  | .EVT => 0x360000 | .DSP => 0x380000 | .HCH => 0x3F0000

/-- Extent of a block's register map (Table 20.1, R424). -/
def Blk.extent : Blk → Nat
  | .SYS => 0x100 | .RPS => 0x100 | .THM => 0x400 | .NVS => 0x200 | .MGT => 0x3000 | .CMT => 0x200
  | .FAB => 0x200 | .SND => 0x5000 | .REL => 0x300 | .COR => 0x200 | .DRV => 0x800 | .LUX => 0x200
  | .LAN => 0x800 | .CMC => 0x6300 | .TIM => 0x900 | .FMC => 0x400 | .HST => 0x400 | .PAR => 0x100
  | .EVT => 0x900 | .DSP => 0x200 | .HCH => 0x100

/-- The register rows of a block. -/
def Blk.rows : Blk → List RegRow
  | .SYS => RegTable.sysRows | .RPS => RegTable.rpsRows | .THM => RegTable.thmRows | .NVS => RegTable.nvsRows
  | .MGT => RegTable.mgtRows | .CMT => RegTable.cmtRows | .FAB => RegTable.fabRows | .SND => RegTable.sndRows
  | .REL => RegTable.relRows | .COR => RegTable.corRows | .DRV => RegTable.drvRows | .LUX => RegTable.luxRows
  | .LAN => RegTable.lanRows | .CMC => RegTable.cmcRows | .TIM => RegTable.timRows | .FMC => RegTable.fmcRows
  | .HST => RegTable.hstRows | .PAR => RegTable.parRows | .EVT => RegTable.evtRows | .DSP => RegTable.dspRows
  | .HCH => RegTable.hchRows

/-- Every block, in address order. -/
def Blk.all : List Blk :=
  [.SYS, .RPS, .THM, .NVS, .MGT, .CMT, .FAB, .SND, .REL, .COR, .DRV, .LUX, .LAN, .CMC, .TIM, .FMC, .HST, .PAR, .EVT, .DSP, .HCH]

/-- The block whose extent holds an active-view address (R425). -/
def blkOf (a : Nat) : Option Blk :=
  Blk.all.find? fun b => decide (b.base ≤ a ∧ a < b.base + b.extent)

/-- Does the offset `o` name a member of a series with these (step, count) pairs? -/
def dimsHit : List (Nat × Nat) → Nat → Bool
  | [], o => o == 0
  | (step, count) :: ds, o => decide (o / step < count) && dimsHit ds (o % step)

/-- Does the row name the register at block offset `o`? -/
def RegRow.hit (r : RegRow) (o : Nat) : Bool := decide (r.off ≤ o) && dimsHit r.dims (o - r.off)

/-- The row of the register at an active-view address, none where Table 20.2 names none. -/
def regRow (a : Nat) : Option RegRow :=
  (blkOf a).bind fun b => b.rows.find? fun r => r.hit (a - b.base)

/-- The mask of bits `lo` to `lo + width - 1`. -/
def bitMask (lo width : Nat) : Word := BitVec.ofNat 32 ((2 ^ width - 1) * 2 ^ lo)

/-- The bits of a register whose fields satisfy `p`. -/
def RegRow.mask (r : RegRow) (p : FieldRow → Bool) : Word :=
  r.fields.foldl (fun m f => if p f then m ||| bitMask f.lo f.width else m) 0

/-- The bits of the register at an address whose fields satisfy `p` (none where no register is named). -/
def accMask (a : Nat) (p : FieldRow → Bool) : Word :=
  match regRow a with
  | some r => r.mask p
  | none => 0

/-- The staged bits of a register (R9). -/
def stMask (a : Nat) : Word := accMask a fun f => f.acc == .st

/-- The MSI-X vector of an event's range (Table 14.6). -/
def resetVector (n : Nat) : Nat :=
  if n < 16 then 0 else if n < 32 then 1 else if n < 40 then 2 else if n < 64 then 3 else if n < 88 then 4
  else if n < 112 then 5 else if n < 128 then 6 else if n < 144 then 7 else if n < 168 then 8 else if n < 200 then 9
  else if n < 212 then 10 else if n < 244 then 11 else if n < 276 then 12 else if n < 296 then 13 else if n < 312 then 14 else 15

/-- CMC_FLTf_A at power-on (Table 09.8): EN, TYPE, TMASK, PORTS and QUEUE of filters 0 to 5; the others are disabled. -/
def resetFilterA (f : Nat) : Nat :=
  let enc (typ tmask ports queue : Nat) : Nat := typ + tmask * 2 ^ 8 + queue * 2 ^ 16 + 2 ^ 19 + ports * 2 ^ 20
  match f with
  | 0 => enc 0x02 0xFF 0x0FF 0
  | 1 => enc 0x04 0xFF 0x0FF 0
  | 2 => enc 0x51 0xFF 0x0FF 1
  | 3 => enc 0x30 0xFF 0x1FF 2
  | 4 => enc 0x80 0xF0 0x100 3
  | 5 => enc 0xF0 0xF0 0x1FF 4
  | _ => 0

/-- The reset value of a register: its row's field values in place, and the values that depend on the index in a series. [DESIGN CHOICE, log entry 182] -/
def resetWord (a : Nat) : Word :=
  if 0x360400 ≤ a ∧ a < 0x360900 then BitVec.ofNat 32 (resetVector ((a - 0x360400) / 4) + 0x80)
  else if 0x246000 ≤ a ∧ a < 0x246080 ∧ (a - 0x246000) % 8 = 0 then BitVec.ofNat 32 (resetFilterA ((a - 0x246000) / 8))
  else if 0x104000 ≤ a ∧ a < 0x105000 then Rom.filterWord ((a - 0x104000) / 4)
  else match regRow a with
    | some r => r.fields.foldl (fun m f => m ||| BitVec.ofNat 32 (f.reset * 2 ^ f.lo)) 0
    | none => 0

/-- The value of a field in a word. -/
def Fld.get (f : Fld) (w : Word) : Nat := w.toNat / 2 ^ f.lo % 2 ^ f.width

/-- The value of a signed (two's complement) field in a word. -/
def Fld.getS (f : Fld) (w : Word) : Int :=
  let v := f.get w
  if v < 2 ^ (f.width - 1) then (v : Int) else (v : Int) - (2 ^ f.width : Nat)

/-- The word with a field set to the low bits of `v`, every other bit unchanged. -/
def Fld.put (f : Fld) (w : Word) (v : Nat) : Word :=
  (w &&& ~~~ bitMask f.lo f.width) ||| (BitVec.ofNat 32 (v % 2 ^ f.width) <<< f.lo)

/-- A register file: (address, word) pairs, addresses strictly rising, no word equal to its register's reset value. -/
abbrev RegFile := List (Nat × Word)

/-- The word a register file holds at an address: its reset value where no pair names it. -/
def RegFile.get : RegFile → Nat → Word
  | [], a => resetWord a
  | (b, w) :: r, a => if a = b then w else RegFile.get r a

/-- Put a pair into its place in an ascending list. -/
def RegFile.put (a : Nat) (v : Word) : RegFile → RegFile
  | [] => [(a, v)]
  | (b, w) :: r => if a < b then (a, v) :: (b, w) :: r else (b, w) :: RegFile.put a v r

/-- The register file with the word at `a` set to `v`; a word equal to its reset value leaves no pair. -/
def RegFile.set (r : RegFile) (a : Nat) (v : Word) : RegFile :=
  let e := r.filter fun p => p.1 != a
  if v = resetWord a then e else RegFile.put a v e

/-- The register file with every register whose address satisfies `p` back at its reset value. -/
def RegFile.clear (r : RegFile) (p : Nat → Bool) : RegFile := r.filter fun q => !(p q.1)

/-- The canonical form of a register file. -/
def RegFile.wf (r : RegFile) : Bool :=
  decide (r.Pairwise fun p q => p.1 < q.1) && r.all fun p => p.2 != resetWord p.1

/-- The value of a field in a register file. -/
def RegFile.fld (r : RegFile) (f : Fld) : Nat := f.get (r.get f.addr)

/-- The register file with one field set. -/
def RegFile.setFld (r : RegFile) (f : Fld) (v : Nat) : RegFile := r.set f.addr (f.put (r.get f.addr) v)

/-- The register file `act` with the staged bits of every register taken from `snap` (R275). -/
def RegFile.applyStaged (act snap : RegFile) : RegFile :=
  (act ++ snap).foldl
    (fun r p => let m := stMask p.1
      if m = 0 then r else r.set p.1 ((act.get p.1 &&& ~~~ m) ||| (snap.get p.1 &&& m))) act

end Sys2Proof.Machine
end

