-- ==== Sys2Proof/Machine/State.lean ====
section
/-! DEFINITION. The state of the block as plain data, the reasons a step may stop, and the state after reset. -/

namespace Sys2Proof.Machine

/-- Faults: none is raised by any command (every access the spec describes has an effect). Kept closed and named so that claims
can list it: raised by nothing, safe. -/
inductive Fault where
  /-- Raised by nothing. Safe. -/
  | none
deriving DecidableEq, Repr

/-- Refusals. -/
inductive Refusal where
  /-- Raised by a dispatch arm of a command that has no meaning yet. Safe. -/
  | notModelled (mnemonic : String)
deriving DecidableEq, Repr

/-- Fuses: the part number and the unit ID (Table 02.10), and the revoked firmware keys (Table 16.10). [DESIGN CHOICE, log entry 1] -/
structure Fuses where
  part7440 : Bool := true
  unitId : BitVec 96 := 0
  revoked : BitVec 4 := 0
deriving DecidableEq, Repr

/-- Time: the wall-time count in units of 2^-31 ns (R239, R240), which the island carries through resets and Standby (R263, R373),
the nanoseconds elapsed on the always-on crystal, and the crystal's rate error against wall time, in units of 2^-32, as the island
last measured it (R263). -/
structure Clock where
  wall : Nat := 0
  now : Nat := 0
  err : Int := 0
deriving DecidableEq, Repr

/-- A step of wall time that has been decided (R257): its size in units of 2^-31 ns and its frame boundary. -/
structure TimeStep where
  delta : Int
  n : Nat
  /-- A tile applies it by a notice (event 292). -/
  notice : Bool
deriving DecidableEq, Repr

/-- One measurement domain (R243, R245, R255, R256): runs of consecutive measurements and the exchanges in progress.  Times are
counts in units of 2^-31 ns. [DESIGN CHOICE, log entry 208] -/
structure Domain where
  past : Nat := 0
  within : Nat := 0
  /-- The last Sync: sequenceId, origin t1 and arrival t2. -/
  sync : Option (Nat × Int × Int) := none
  /-- A two-step Sync waiting for its Follow_Up: sequenceId, arrival and correction. -/
  twoStep : Option (Nat × Int × Int) := none
  /-- The Delay_Req or Pdelay_Req in flight: sequenceId and departure, and whether its sync interval dropped a timestamp (R253). -/
  req : Option (Nat × Int) := none
  reqBad : Bool := false
  /-- From this count on the next Delay_Req may leave (R248). -/
  reqAt : Nat := 0
  /-- A two-step Pdelay_Resp waiting for its Follow_Up: sequenceId, request receipt and arrival. -/
  pdelay : Option (Nat × Int × Int) := none
  /-- Mean path delay of the last valid measurement. -/
  mpd : Int := 0
  /-- A peer delay exchange has been complete (R243). -/
  peer : Bool := false
  /-- STEPN of the last Sync. -/
  stepn : Bool := false
  /-- A timestamp of this sync interval was dropped (R253). -/
  dropped : Bool := false
  /-- The transmitter taken: Announce priority vector, and the clockIdentity that sends. -/
  gm : Option (Nat × Nat) := none
  seq : Nat := 0
  /-- logMessageInterval of the last Delay_Resp. -/
  logInt : Int := 0
deriving DecidableEq, Repr

/-- Wall-time state that no register holds (R243 to R262). -/
structure TimSt where
  doms : Vector Domain 2 := .replicate 2 {}
  stepAt : Option TimeStep := none
  /-- STEPN is set in Sync frames while a step waits and until this elapsed time, 1 s after its boundary. -/
  stepnUntil : Nat := 0
  /-- Step notices whose second copy is still to be sent. -/
  noticeCopies : List (List Byte) := []
  queues : Vector (List TsEntry) 10 := .replicate 10 []
  caps : Vector (List CapEntry) 4 := .replicate 4 []
  /-- A one-shot of the output has begun its pulse. -/
  fired : List Bool := List.replicate 8 false
  /-- The count of an output's next edge where its program or trigger alone does not give it: the end of a one-shot's pulse, or a trigger
  that a step of wall time passed over (R257). -/
  edgeAt : List (Option Nat) := List.replicate 8 none
  /-- The servo: the integral part of its correction in units of 2^-32, and the elapsed time of its last measurement (R255). -/
  integ : Int := 0
  servoAt : Nat := 0
  /-- Event 289 was raised for the present Holdover. -/
  holdTold : Bool := false
  /-- Steps of any size are applied at once, until the first Locked (R264, R373). -/
  anyStep : Bool := false
  syncSeq : Nat := 0
  annSeq : Nat := 0
  /-- Sync reference: qualified lines seen and broad pulses in a row. -/
  srefLines : Nat := 0
  srefBroad : Nat := 0
deriving DecidableEq, Repr

/-- Frame timing state that no register holds (R222 to R236). -/
structure DspSt where
  /-- Full number of the last frame boundary taken, and the last slot boundary taken. -/
  lastN : Option Nat := none
  lastS : Option (Nat × Nat) := none
  holdAct : Option Action := none
  blankAct : Option Action := none
  /-- Sender: requests whose boundary has not come, oldest first. -/
  asked : List Action := []
  aseq : Nat := 0
  lastAseq : Option Nat := none
  /-- Action frames whose second copy is still to be sent. -/
  actCopies : List (List Byte) := []
  /-- Sender: actions not yet in force on the wall, and the hold and blank states that are (R231). -/
  wallActs : List Action := []
  wallHold : Bool := false
  wallBlank : Bool := false
  /-- Heavy commit: the frame from which pictures repeat, the slots of the frame repeated (R113 too), and J of R236. -/
  repeatFrom : Option Nat := none
  repeatS : Nat := 1
  joinN : Option Nat := none
  /-- Until J, the old mode: num, den, slots, and the old frame and slot last shown. -/
  oldRate : Option (Nat × Nat × Nat) := none
  /-- Video loss of R348: frames counted, and the factor of its ramp with its direction (0 none, 1 down, 2 dark, 3 up). -/
  lossCount : Nat := 0
  lossDir : Nat := 0
  lossRamp : Nat := 16384
  /-- The ramp of R233: RAMP of the last pass, its step, whether it rises, and whether the pending blank action has begun it. -/
  ramp : Nat := 16384
  rampStep : Nat := 0
  rampUp : Bool := true
  ramped : Bool := false
  /-- The same ramp at the sub-frame shown: its factor, step and direction. -/
  shown : Nat := 16384
  shownStep : Nat := 0
  shownUp : Bool := true
deriving DecidableEq, Repr

/-- Commit state that no register holds (R269 to R285). -/
structure CmtSt where
  /-- Pending commits, in order of their shutter points. -/
  pend : List Commit := []
  /-- The commit under check: at most one on a Sender, in order of receipt on a Tile. -/
  checking : List Commit := []
  /-- Tile: the TSPEC and payload of the last COMMIT acted on, by which its second copy is known (R209). -/
  seen : List Byte := []
  /-- COMMIT frames whose second copy is still to be sent, with the port of a catch-up. -/
  copies : List (Option Nat × List Byte) := []
  /-- The bytes of the last dump; for the dump in progress CMT_GEN and the wall time at its start, the shutter points passed, whether it
  is to stop, and whether it has been suspended. -/
  dump : List Byte := []
  dumpGen : Word := 0
  dumpAt : Nat := 0
  dumpTorn : Nat := 0
  dumpAbort : Bool := false
  dumpSusp : Bool := false
  /-- A heavy commit in preparation: the line-store regions still to be reloaded. -/
  regionsDue : List Nat := []
  prepared : Bool := false
  /-- That preparation has started the load of region 0x11 (R40, R113). -/
  tabReload : Bool := false
deriving DecidableEq, Repr

/-- PCI Express configuration state (R305 to R308, R321). -/
structure Pcie where
  ready : Bool := false
  bme : Bool := false
  d3hot : Bool := false
  msixOn : Bool := false
  funMask : Bool := false
  bar2On : Bool := false
  /-- MSI-X table: message address, data and mask bit of each vector. -/
  table : Vector (Nat × Word × Bool) 64 := .replicate 64 (0, 0, true)
  /-- Vectors pending (PBA) and vectors in hold-off. -/
  pba : BitVec 64 := 0
  hold : BitVec 64 := 0
deriving DecidableEq, Repr

/-- A source ring or the paging ring at work (R311, R316): the descriptor in progress. -/
structure RingSt where
  busy : Bool := false
  desc : List Byte := []
  buf : Nat := 0
  stopping : Bool := false
deriving DecidableEq, Repr

/-- Source buffers of R309 that HST_SRCn_STAT does not show, and R80's latch. -/
structure SrcSt where
  latchedV : Bool := false
  tags : List Word := List.replicate 8 0
  curAddr : Nat := 0
deriving DecidableEq, Repr

/-- Host port, reel and event-router state that no register holds. -/
structure HstSt where
  pcie : Pcie := {}
  rings : Vector RingSt 9 := .replicate 9 {}
  srcs : List SrcSt := List.replicate 8 {}
  /-- Reel: per player the prefetched clip frames with the local address each lies at. -/
  ready : Vector (List (Nat × Nat)) 8 := .replicate 8 []
  reelActs : List Action := []
  reelOn : List Bool := List.replicate 8 false
  /-- The clip frame each player presents at its next latch. -/
  reelPos : List Nat := List.replicate 8 0
  /-- Players that a pause keeps on the buffer of the frame it falls in (R234). -/
  reelHeld : List Bool := List.replicate 8 false
deriving DecidableEq, Repr

/-- A lane block received and not yet part of a whole port block: its group (the BSEQ values of one port block), lane, part, line
bits, payload bytes, and whether it is bad. -/
structure LanPart where
  group : Nat
  lane : Nat
  part : Nat
  bits : BitVec 4096
  bytes : List Byte
  bad : Bool
deriving DecidableEq, Repr

/-- One lane port (0 to 7 chain ports, 8 the pair link): transmit and receive state that no register holds (R170 to R192). -/
structure LanPort where
  /-- The transmitter is in electrical idle. -/
  idle : Bool := true
  /-- Port blocks waiting to be sent, oldest first. -/
  txq : List (List Byte) := []
  /-- The port block being sent, the lanes and parts already sent, and the BSEQ of its first lane block. -/
  cur : List Byte := []
  sent : List (Nat × Nat) := []
  bseq : Nat := 0
  /-- Blocks sent since the port entered Up, modulo 92 (R195). -/
  group : Nat := 0
  /-- Receive: per lane the run of good and of bad control words, the LANE field last seen, and the BSEQ last seen. -/
  good : Vector Nat 4 := .replicate 4 0
  bad : Vector Nat 4 := .replicate 4 0
  laneId : List Nat := [0, 1, 2, 3]
  seq : List Nat := [0, 0, 0, 0]
  skew : Nat := 0
  parts : List LanPart := []
  /-- PRBS31 states of the test pattern by lane: transmit, and receive once 31 bits have come, and whether event 228 was raised. -/
  tpTx : List Nat := [1, 1, 1, 1]
  tpRx : List (Option Nat) := [none, none, none, none]
  tpTold : Bool := false
  /-- The forwarded clock present: 0 none, 1 at the image's rate, 2 at the provisioning rate. -/
  clkRate : Nat := 0
  /-- The test loop in effect; a change of single-lane mode that waits for a block boundary; a recentring of the repeat FIFO that
  waits for one (R183, R188). -/
  loopIn : Nat := 0
  singleAsk : Option Bool := none
  recentre : Bool := false
  /-- The port runs at the provisioning rate; a change asked for; single-lane mode; 100 us of electrical idle before a restart. -/
  prov : Bool := false
  provAsk : Option Bool := none
  single : Bool := false
  restart : Bool := false
deriving DecidableEq, Repr

/-- Offset calibration in progress (R186): the ports, the step (0 to 5 search, 6 verification), the trial trims by (port, lane), and
what disturbed it: alignment lost (port, lane), a DFAULT block (port, lane), a port that left Up or entered a loop. -/
structure LanCal where
  ports : Nat
  step : Nat := 0
  trial : List (Nat × Nat × Int)
  lost : Option (Nat × Nat) := none
  df : Option (Nat × Nat) := none
  down : Option Nat := none
deriving DecidableEq, Repr

/-- Lane state that no register holds. -/
structure LanSt where
  ports : Vector LanPort 9 := .replicate 9 {}
  cal : Option LanCal := none
  /-- What a Sender's transmit PLL follows (R181): 0 its time PLL, p + 1 the clock of port p. -/
  ref : Nat := 0
  /-- Tile: frames waiting to replace a free block, with the port they leave by (R200). -/
  subs : List (Nat × List Byte) := []
deriving DecidableEq, Repr

/-- One bank of one rank of a memory channel (R292, R294): predictor, open row, row last opened, refresh debt. -/
structure BankSt where
  c : Nat := 2
  isOpen : Bool := false
  row : Nat := 0
  /-- Closed by the predictor's auto-precharge. -/
  byPred : Bool := false
  debt : Nat := 0
deriving DecidableEq, Repr

/-- A request in a channel's queues, with the time it has waited in ns. -/
structure DramWait where
  req : DramReq
  waited : Nat := 0
deriving DecidableEq, Repr

/-- The scheduler of one channel (R291): the requests in the queues of its banks, oldest first; those for which their bank's queue
had no room, which wait with their clients; the pointer into the rotating order of activates; the write group in progress, with the
writes served of it; and for the activates of late their ranks and their ages in ns. -/
structure SchedSt where
  queue : List DramWait := []
  outside : List DramWait := []
  ptr : Nat := 0
  group : Option Nat := none
  acts : List (Nat × Nat) := []
deriving DecidableEq, Repr

/-- Frame memory state that no register holds. -/
structure FmcSt where
  /-- The schedulers of the four channels. -/
  sched : List SchedSt := List.replicate 4 {}
  /-- Banks of each channel, rank and bank, bank fastest. -/
  banks : Vector BankSt 128 := .replicate 128 {}
  /-- Geometry read from each channel's mode registers: two ranks, ROWB. -/
  geom : List (Bool × Nat) := List.replicate 4 (false, 0)
  /-- What training runs on a channel: 0 at boot, 1 the shortened retraining, 2 the full retraining after self-refresh. -/
  pass : List Nat := List.replicate 4 0
  /-- A doze entry keeps the clocks running (R297). -/
  dozing : Bool := false
deriving DecidableEq, Repr

/-- Record writes (R413): the write in progress first, then those that wait. -/
structure NvsSt where
  jobs : List RecJob := []
  /-- The record in use is that of the ROM defaults (R416). -/
  rom : Bool := false
deriving DecidableEq, Repr

/-- A pixel path of the fabric (R49, R59): the run in it, tokens fed, the error bit collected, whether it is a replay, the cell of the
run's last mismatch, and the cells of which it has read a word with a double-bit error. -/
structure PathSt where
  run : Option Run := none
  fed : Nat := 0
  err : Bool := false
  replay : Bool := false
  lastCell : Option Nat := none
  readBad : List Nat := []
deriving DecidableEq, Repr

/-- Fabric and margin planner state that no register holds. [DESIGN CHOICE, log entry 207] -/
structure FabSt where
  cells : Vector (Option Tok) 1024 := .replicate 1024 none
  /-- Accumulator of each cell, with its residue code (R47, R57). -/
  accs : Vector (BitVec 48 × BitVec 2) 1024 := .replicate 1024 (0, 0)
  /-- Local SRAM of each cell: the bytes of the line store it was last loaded from (R109, R63). -/
  sram : Vector (List Byte) 1024 := .replicate 1024 []
  /-- Local SRAM words whose stored bits are in error: cell, word, and whether in two bits (R63). -/
  sramErr : List (Nat × Nat × Bool) := []
  /-- Sender: path p is track p.  Tile: path k is the pair of tracks 2k and 2k + 1. -/
  paths : Vector PathSt 16 := .replicate 16 {}
  /-- Token slots offered at each track's input, modulo 64 (R76). -/
  slots : List Nat := List.replicate 16 0
  /-- Runs not yet dealt to a path, in order. -/
  work : List Run := []
  /-- Cells whose local SRAM is to be reloaded (R63). -/
  reload : List Nat := []
  /-- Residue mismatches of each track in the present second (R64). -/
  resSec : List Nat := List.replicate 16 0
  /-- The frame last counted in FAB_LATE (R62). -/
  lateN : Option Nat := none
  /-- The target voltage V, the smallest slack of the window, quiet windows, frames of the window, a late frame (R70). -/
  v : Nat := 0
  smin : Option Int := none
  quiet : Nat := 0
  frames : Nat := 0
  late : Bool := false
  /-- Elapsed time of the last rail write, whether V waits for the 100 us after it to be written, and whether the write has still to
  be read back (R73, R75). -/
  wroteAt : Option Nat := none
  writeDue : Bool := false
  verify : Bool := false
  avsFault : Bool := false
  /-- The planner is frozen by a heavy commit (R69). -/
  frozen : Bool := false
  /-- The day's sum of age indices and their number (R66). -/
  ageSum : Nat := 0
  ageCnt : Nat := 0
deriving DecidableEq, Repr

/-- A segment in the making or being sent (R94 to R99). -/
structure Seg where
  n : Nat
  slot : Nat
  entry : Nat
  port : Nat
  addr : Nat
  pixels : Nat
  derate : Nat
  runs : Nat
  /-- Finished runs: index and P42 pixels. -/
  outs : List (Nat × List Nat) := []
  suspect : Bool := false
  abandoned : Bool := false
  begun : Bool := false
  /-- Video frames that the lanes have begun, and those that have left. -/
  sent : Nat := 0
  left : Nat := 0
  /-- The step that governs the frame in progress has been raised; the rest is discarded (R99). -/
  dropped : Bool := false
deriving DecidableEq, Repr

/-- Sender pipeline state that no register holds. -/
structure SndSt where
  /-- The placement cache in use (R83). -/
  cache : PlcCache := {}
  /-- Buffer addresses latched for the frame in work (R80). -/
  cur : List (Option Nat) := List.replicate 8 none
  /-- Segments of the frame in work, in the order they are dealt. -/
  segs : List Seg := []
  /-- REGION_DERATE last applied to each region (R96). -/
  wcd : List Nat := List.replicate 256 16384
deriving DecidableEq, Repr

/-- A numbered frame that waits to be acknowledged (R208, R330): type, TAG, its block, resends made, and cycles or intervals
since it was sent. -/
structure Unacked where
  typ : Nat
  tag : Nat
  block : List Byte
  resends : Nat := 0
deriving DecidableEq, Repr

/-- What the poll master holds of a tile (R206 to R215, R369, R403), besides CMC_Tp_a. [DESIGN CHOICE, log entry 20] -/
structure TileSt where
  /-- Applied derate of the last reply (R96), and the slot-cap request last read (R403). -/
  drl : Nat := 16384
  scapReq : Nat := 0
  /-- The first event sequence number not yet received. -/
  evack : Nat := 0
  /-- Last REG and UPDATE TAGs sent, and the frames not yet acknowledged. -/
  regTag : Nat := 4095
  updTag : Nat := 4095
  unacked : List Unacked := []
  /-- The frame boundary at which an ADMIT takes effect. -/
  admitAt : Option Nat := none
  /-- The Up bits of the last reply. -/
  up : Option Nat := none
  /-- The tile is reached through the partner (R336). -/
  farSide : Bool := false
  /-- Elapsed time until which misses are not counted (R369). -/
  quietTo : Nat := 0
  /-- Every check of Table 09.6 has passed since the tile became Identifying, and it waits to be admitted. -/
  passed : Bool := false
  /-- An OP 2 REG frame for THM_SCAPREQ waits for its REGDATA: its TAG. -/
  scapTag : Option Nat := none
deriving DecidableEq, Repr

/-- Polling of one chain port (R204, R207, R213). [DESIGN CHOICE, log entry 20] -/
structure PortPoll where
  tag : Nat := 0
  /-- Addresses still to poll in the cycle, and polls outstanding: TAG, address, KIND. -/
  queue : List Nat := []
  out : List (Nat × Nat × Nat) := []
  enumId : Nat := 0
  /-- COUNT sent in the last ENUM, the count of the last complete enumeration, and whether the far end is being enumerated (R335). -/
  sentCount : Nat := 0
  complete : Nat := 0
  far : Bool := false
  /-- Enumeration is held off after a chain warm reset (R381). -/
  noEnum : Bool := false
deriving DecidableEq, Repr

/-- A good video frame held at a tile (R202, R203): side, FRAME, SLOT, TAG, SUSPECT, PRI, the region derate, and its bytes. -/
structure RxVid where
  side : Nat
  frame : Nat
  slot : Nat
  tag : Nat
  suspect : Bool
  pri : Bool
  drr : Nat
  bytes : List Byte
deriving DecidableEq, Repr

/-- Chain MAC state that no register holds. [DESIGN CHOICE, log entry 20] -/
structure CmcSt where
  /-- Sender: tiles by port × 96 + address - 1, and the ports. -/
  tiles : Vector TileSt 768 := .replicate 768 {}
  polls : Vector PortPoll 8 := .replicate 8 {}
  /-- A new poll master begins its first cycle at the next frame boundary. -/
  fresh : Bool := false
  /-- Tile: video frames held, NEWEST once known, segments judged lately (FRAME, SLOT). -/
  vid : List RxVid := []
  newest : Option Nat := none
  judged : List (Nat × Nat) := []
  /-- Last frame of which every segment was accepted, and the slots accepted of the frame being judged. -/
  lastOk : Nat := 0
  okSlots : Nat × Nat := (0, 0)
  /-- Segments kept since the last reply. -/
  kept : Nat := 0
  /-- Last REG and UPDATE TAGs applied. -/
  regRx : Nat := 4095
  updRx : Nat := 4095
  /-- Elapsed time of the last good frame, and of the last with MST = 1 and ABD = 0, from each side. -/
  goodAt : List (Option Nat) := [none, none]
  mstAt : List (Option Nat) := [none, none]
  /-- A poll master has been heard; event 260 was raised for the present run of claims. -/
  mstSeen : Bool := false
  clash : Bool := false
  /-- The frame boundary of an ADMIT received. -/
  admitAt : Option Nat := none
  /-- A good video frame has come since the last frame boundary (R348). -/
  got : Bool := false
deriving DecidableEq, Repr

/-- A correction pass (R102 to R104): the sub-frame it computes, the factors it latched, the segment it corrects, and the lamp codes
of its finished runs by index. -/
structure Pass where
  n : Nat
  slot : Nat
  drl : Nat
  drr : Nat
  ramp : Nat
  seg : List Nat
  runs : Nat
  outs : List (Nat × List Nat) := []
  suspect : Bool := false
deriving DecidableEq, Repr

/-- What a load that a heavy commit starts reads by, before its image runs (R40): the image's slot, the bases of both sets, the flash
size, and ALT_EN of the commit. -/
structure TabPlan where
  slot : Nat
  bases : List Nat
  flash : Nat
  alt : Bool
deriving DecidableEq, Repr

/-- A Gwynkin set load (R112, R113): the set, the block awaited, whether it is its re-read, when the load began, the wall-time count of
the shutter point of the commit that started it with the frame boundaries since, whether block 0 alone is re-read, block 0 as read,
whether a block was replaced, and the plan of a heavy commit. -/
structure TabLoad where
  set : Nat
  block : Nat := 0
  again : Bool := false
  began : Nat := 0
  commit : Option Nat := none
  frames : Nat := 0
  only0 : Bool := false
  head : List Byte := []
  bad : Bool := false
  heavy : Option TabPlan := none
deriving DecidableEq, Repr

/-- Lamp correction state that no register holds. -/
structure CorSt where
  /-- The last accepted segment of each slot and its region derate. -/
  segs : List (List Nat) := List.replicate 8 []
  drrs : List Nat := List.replicate 8 16384
  passes : List Pass := []
  lastPass : Option (Nat × Nat) := none
  load : Option TabLoad := none
  /-- Block 0 of the set in region 0x11. -/
  block0 : List Byte := []
  /-- The sweep in progress (R117): the wall time at which it began, the scales it latched, the lamps it has reached, and whether it
  has clamped an entry. -/
  sweepAt : Nat := 0
  sweepScale : List Nat := []
  sweepDone : Nat := 0
  sweepClamp : Bool := false
  /-- The checkpoint in progress: sequence number, seconds and next chunk. -/
  ckpt : Option (Nat × Nat × Nat) := none
  /-- The sequence number of the last checkpoint begun. -/
  ckptTop : Nat := 0
  /-- Event 158 has been raised; the dose frame for which event 153 has been raised. -/
  satTold : Bool := false
  subN : Option Nat := none
deriving DecidableEq, Repr

/-- Drive port state that no register holds. -/
structure DrvSt where
  /-- Elapsed time of B0 (R143). -/
  startAt : Option Nat := none
  /-- Codes by lamp in the drivers' front and back buffers, and those of the monitor lamps. -/
  front : List Nat := []
  back : List Nat := []
  mon : List Nat := List.replicate 12 0
  /-- COR_AVGc in integer codes as those of the monitor lamps took it (R155). -/
  monAvg : List Nat := List.replicate 3 0
  /-- Codes last sent for each slot. -/
  slotCodes : List (List Nat) := List.replicate 8 []
  written : Option (Nat × Nat) := none
  shown : Option (Nat × Nat) := none
  /-- Count of the rising edge of the last SWAP, the row periods begun since, the row armed for diagnosis, the row measured and not yet
  read, and the row being read. -/
  swapAt : Nat := 0
  rowK : Nat := 0
  armed : Option Nat := none
  readDue : Option Nat := none
  diagRow : Nat := 0
  /-- A release of the hard blank: the elapsed time from which a slot boundary releases. -/
  release : Option Nat := none
  /-- First light waits for the release; buses that left Fault or Mismatch to enumerate again. -/
  lightDue : Bool := false
  wasBad : List Nat := []
  /-- Buses whose configuration is to be re-sent, and those of them whose POR flag is then cleared. -/
  cfgDue : List Nat := []
  porDue : List Nat := []
  /-- Packets awaited: bus, packet, and whether it is a resend or a repeat.  Read and diagnosis packets that wait for a sub-frame with
  room, in the same form (R140). -/
  awaited : List (Nat × List Byte × Bool) := []
  held : List (Nat × List Byte × Bool) := []
  missing : Vector Nat 64 := .replicate 64 0
  /-- Last status slot by bus × 32 + position. -/
  stat : List (Nat × List Byte) := []
  /-- Lamps whose last result was open (1) or short (2), and lamps with probe debt. -/
  diagLast : List (Nat × Nat) := []
  debts : List (Nat × Int) := []
  /-- The PWM width the debts hold for (R149). -/
  debtW : Nat := 0
  lastProbe : Nat := 0
  /-- Frames left of a sweep of every row. -/
  diagLeft : Nat := 0
deriving DecidableEq, Repr

/-- A measurement window or a calibration procedure (R157, R164): kind 0 window, 1 dark level, 2 reference. -/
structure LuxWin where
  kind : Nat := 0
  groups : Nat := 15
  frames : Nat
  start : Nat
  /-- The staged LUX values in effect at its first boundary, which it keeps (R157). -/
  latch : List (Nat × Word) := []
  /-- The samples whose time has come, by phase × 4 + group. -/
  tries : List Nat := List.replicate 16 0
  /-- Count, sum and sum of squares by (phase × 4 + group) × 3 + reading. -/
  acc : List (Nat × Nat × Nat) := List.replicate 48 (0, 0, 0)
  /-- Sum and count of the board readings of each group. -/
  temps : List (Int × Nat) := List.replicate 4 (0, 0)
  failed : Nat := 0
  unmeas : Bool := false
  frozen : Bool := false
deriving DecidableEq, Repr

/-- Monitor lamp state that no register holds: dose and debt by group × 3 + component. -/
structure LuxSt where
  dose : List Nat := List.replicate 12 0
  debt : List Int := List.replicate 12 0
  win : Option LuxWin := none
  /-- The frame at whose boundary the next window begins; a procedure asked for: kind, groups and frames per phase. -/
  winAsk : Option Nat := none
  calAsk : Option (Nat × Nat × Nat) := none
  /-- The groups of the dark-level procedure whose record is being written, and those with an accepted dark level (R165). -/
  darkAsk : Nat := 0
  darkOk : Nat := 0
  /-- The last update was limited by STEPMAX. -/
  limited : Bool := false
  /-- Elapsed time of the last change of DRL. -/
  drlAt : Option Nat := none
  /-- The first ENTDAA of each I3C bus has run; the next dynamic address. -/
  ran : Vector Bool 2 := .replicate 2 false
  next : List Nat := [8, 8]
deriving DecidableEq, Repr

/-- Pair state that no register holds (R325 to R346). -/
structure ParSt where
  /-- Last TAG sent and applied, by type less 0x81. -/
  sentTag : List Nat := List.replicate 8 0
  rxTag : Vector Nat 8 := .replicate 8 0
  unacked : List Unacked := []
  /-- Bytes of a HANDOVER or POLLSTATE stream that has begun. -/
  hand : List Byte := []
  /-- The partner's last heartbeat payload. -/
  hb : List Byte := []
  /-- A commit from the Primary with the snapshot bytes that have come, and the total. -/
  commit : Option (List Byte × List Byte) := none
  snap : List Byte := []
  /-- Elapsed time of the abdication as poll master (R212). -/
  abdAt : Option Nat := none
  /-- The STATE stream of Resync: bytes that have come. -/
  state : List Byte := []
  /-- A RELAY frame waits for the frame it precedes: chain port and direction. -/
  relay : Option (Nat × Nat) := none
  /-- J of the join, the sums of SND_SEG_DROP and SND_SEG_ABANDON at J, and whether the proof still holds. -/
  joinAt : Option Nat := none
  joinGen : Nat := 0
  base : Nat := 0
  proofOk : Bool := true
  /-- Elapsed time at which step 1 of Resync began (Secondary), or the state was sent (Primary); that at which the last snapshot copy
  was begun, with its GEN; the copy in progress. -/
  rsyncAt : Option Nat := none
  snapAt : Option (Nat × Nat) := none
  snapBusy : Option Nat := none
  /-- What that copy will hold. -/
  snapCopy : List Byte := []
  /-- A TAKE waits for the frame boundary; the refusal of an abdication has been told. -/
  takeAsk : Bool := false
  refusedTold : Bool := false
deriving DecidableEq, Repr

/-- Thermal state that no register holds. -/
structure ThmSt where
  /-- The frame at which the written slot cap takes effect, and whether the write came too late for its frame (R403). -/
  scapN : Option Nat := none
  scapLate : Bool := false
  /-- Runs of bad and of good readings: die sensors 0 to 11, board sensors 16 to 31. -/
  bad : Vector Nat 32 := .replicate 32 0
  good : Vector Nat 32 := .replicate 32 0
  /-- Sensors that have given a good reading, and board sensors that an ENTDAA has found. -/
  seen : Nat := 0
  found : Nat := 0
  /-- Milliseconds that each comparison (zone × 3 + comparison) has met the condition to change (R396). -/
  dwell : Vector Nat 24 := .replicate 24 0
  /-- Failed sensors that stand substituted in a shutdown comparison. -/
  subst : Nat := 0
deriving DecidableEq, Repr

/-- A reset request (R374): level 1 core, 2 system, 3 power-on; the source's bit of Table 17.2; the cores of a core reset; whether the
request allows the frame memory to be kept; a loss of VDD_AON. -/
structure ResetReq where
  level : Nat
  source : Nat
  cores : Nat := 0
  keep : Bool := true
  aon : Bool := false
deriving DecidableEq, Repr

/-- Reset, bring-up and power state that no register holds. -/
structure RpsSt where
  /-- A system or power-on reset is in its hold; the cores held in core reset. -/
  held : Bool := true
  cores : Nat := 0
  /-- Elapsed time at which the reset in progress began, its level, and whether it keeps the frame memory. -/
  began : Nat := 0
  level : Nat := 3
  kept : Bool := false
  /-- Requests that wait for the end of an MRAM pulse (R379). -/
  deferred : List ResetReq := []
  /-- Events to raise once bring-up has ended. -/
  owed : List Nat := [0]
  /-- Elapsed time of the release. -/
  released : Nat := 0
  /-- The latch of a thermal shutdown, and whether a Sender was shut down (R406). -/
  latch : Bool := false
  autoRel : Bool := false
  /-- Power-state entry asked for: 1 Doze, 2 Standby, with its frame. -/
  ask : Option (Nat × Nat) := none
  waking : Bool := false
  /-- A dozing tile relays port 0 onto port 1 (R389). -/
  relay : Bool := false
  /-- A tile has received a RESET frame. -/
  chainReset : Bool := false
  /-- Ports on which the wake tone is sent or relayed. -/
  tones : Nat := 0
  /-- ORDER, RATE and DRAM_MASK of the image that ran before a kept reset. -/
  layout : Nat × Nat × Nat := (0, 0, 0)
  /-- The Hatch is in a boundary-scan test instruction. -/
  bscan : Bool := false
  /-- Elapsed time at which TCK last toggled (Table 16.11, HCH_STAT). -/
  tckAt : Option Nat := none
deriving DecidableEq, Repr

/-- The core under activation and its firmware image (R365). -/
structure Activation where
  core : Nat
  image : List Byte
deriving DecidableEq, Repr

/-- One evaluation of the Goose's counters (R337): elapsed time, FAB_SUSPECT, correctable and uncorrectable reads, lane CRC errors
of ports 0 to 7, and what was counted since the one before. -/
structure GooseSample where
  at' : Nat
  susp : Nat
  ce : Nat
  ue : Nat
  crc : List Nat
deriving DecidableEq, Repr

/-- Management core state that no register holds (R351 to R369). [DEDUCED, log entry 201] -/
structure MgtSt where
  /-- Inbound queue of each core, oldest first. -/
  queues : Vector (List Msg) 4 := .replicate 4 []
  /-- Bytes the holder announced at OPEN, and the elapsed time of its last message. -/
  total : Nat := 0
  heardAt : Nat := 0
  act : Option Activation := none
  /-- The bytes of a core's hand-over area begin with a record of this format. -/
  handover : List (Option Nat) := List.replicate 4 none
  /-- The image load area of each core's SRAM from its first byte; the rest of the area is zero (R352, R353). -/
  load : Vector (List Byte) 4 := .replicate 4 []
  /-- Elapsed times of the watchdog expiries of each core. -/
  expiries : List (Nat × Nat) := []
  /-- Elapsed time from which each core has run without a watchdog expiry. -/
  cleanFrom : List Nat := List.replicate 4 0
  /-- Responses that wait for the next REPLY of a tile, oldest first. -/
  responses : List (List Word) := []
  /-- Level of each Goose check, and the elapsed time from which it has stood lower. -/
  levels : Vector Nat 7 := .replicate 7 0
  lower : Vector (Option Nat) 7 := .replicate 7 none
  samples : List GooseSample := []
  /-- Elapsed time from which TSTATE has been 4. -/
  lostAt : Option Nat := none
deriving DecidableEq, Repr

/-- The state of the block. -/
structure State where
  /-- Commands waiting, first in first out. -/
  pending : List Instr := []
  fuses : Fuses := {}
  /-- Active view, stage view and the holding registers of R14. -/
  regs : List (Nat × Word) := []
  stage : List (Nat × Word) := []
  latch : List (Nat × Word) := []
  clk : Clock := {}
  tim : TimSt := {}
  dsp : DspSt := {}
  cmt : CmtSt := {}
  hst : HstSt := {}
  thm : ThmSt := {}
  fmc : FmcSt := {}
  fab : FabSt := {}
  snd : SndSt := {}
  cmc : CmcSt := {}
  cor : CorSt := {}
  drv : DrvSt := {}
  lux : LuxSt := {}
  nvs : NvsSt := {}
  /-- The Guard core's update buffer (R352, R418), as sparse bytes. -/
  ubuf : List Host.Cell := []
  lan : LanSt := {}
  par : ParSt := {}
  mgt : MgtSt := {}
  rps : RpsSt := {}
  /-- Event records not yet acknowledged (R206), and the sequence number of the first. -/
  recs : List EvRec := []
  evSeq : Word := 0
  /-- Local DRAM, MRAM and the line store, as sparse bytes. -/
  dram : List Host.Cell := []
  mram : List Host.Cell := []
  lineStore : List Host.Cell := []
  /-- Everything put out, newest last. -/
  outs : List Out := []
  /-- The model's own: counts the free values taken. -/
  free : Nat := 0
deriving DecidableEq, Repr

/-- The machine right after power-on reset. [DESIGN CHOICE, log entry 1; DESIGN CHOICE, log entry 182; DESIGN CHOICE, log entry 183] -/
def State.reset : State := {}

end Sys2Proof.Machine
end

