-- ==== Sys2Proof/Machine/Ops.lean ====
section
/-! DEFINITION. The named operations over the state: registers and fields, counters, presence of blocks, wall time, the raising of
events, outputs, free values and memories. -/

namespace Sys2Proof.Machine

namespace State

/-! ### Registers -/

/-- The word of a register in the active view (no side effect). -/
def reg (s : State) (a : Nat) : Word := RegFile.get s.regs a

/-- The value of a field in the active view. -/
def f (s : State) (x : Fld) : Nat := RegFile.fld s.regs x

/-- The signed value of a field in the active view. -/
def fS (s : State) (x : Fld) : Int := x.getS (s.reg x.addr)

/-- Is a one-bit field set? -/
def on (s : State) (x : Fld) : Bool := s.f x != 0

/-- Set a register's word in the active view. -/
def setReg (s : State) (a : Nat) (v : Word) : State := { s with regs := RegFile.set s.regs a v }

/-- Set a field in the active view. -/
def setF (s : State) (x : Fld) (v : Nat) : State := { s with regs := RegFile.setFld s.regs x v }

/-- Set a field in both views (R36: a REGINIT value lands in both). -/
def setBoth (s : State) (x : Fld) (v : Nat) : State :=
  { s with
    regs := RegFile.setFld s.regs x v
    stage := if stMask x.addr &&& bitMask x.lo x.width = 0 then s.stage else RegFile.setFld s.stage x v }

/-- The value of a field in the stage view. -/
def fStage (s : State) (x : Fld) : Nat := RegFile.fld s.stage x

/-- A 64-bit value held in a LO and a HI register. -/
def pair (s : State) (lo hi : Nat) : Nat := (s.reg lo).toNat + 2 ^ 32 * (s.reg hi).toNat

/-- Set a LO and a HI register to a 64-bit value. -/
def setPair (s : State) (lo hi : Nat) (v : Nat) : State :=
  (s.setReg lo (BitVec.ofNat 32 v)).setReg hi (BitVec.ofNat 32 (v / 2 ^ 32))

/-- Count one more in a counter that wraps at its width. -/
def bump (s : State) (x : Fld) : State := s.setF x (s.f x + 1)

/-- Count `k` more in a counter that wraps at its width. -/
def bumpBy (s : State) (x : Fld) (k : Nat) : State := s.setF x (s.f x + k)

/-- Count one more in a counter that stops at its greatest value. -/
def bumpSat (s : State) (x : Fld) : State := s.setF x (min (s.f x + 1) (2 ^ x.width - 1))

/-- Count `k` more in a 48-bit counter held in a low and a high word (R14). -/
def bumpWide (s : State) (lo hi : Nat) (k : Nat) : State :=
  let v := ((s.reg lo).toNat + 2 ^ 32 * ((s.reg hi).toNat % 2 ^ 16) + k) % 2 ^ 48
  s.setPair lo hi v

/-! ### Outputs and free values -/

/-- Put something out. -/
def emit (s : State) (o : Out) : State := { s with outs := s.outs ++ [o] }

/-- Take a free value below 2^w: a value the spec leaves open. [DESIGN CHOICE, log entry 2] -/
def takeFree (s : State) (w : Nat) : Nat × State := (Config.freeNat s.free % 2 ^ w, { s with free := s.free + 1 })

/-! ### Roles and presence of blocks -/

/-- The role: 0 none, 1 Sender, 2 Tile (R19). -/
def role (s : State) : Nat := s.f F.SYS_ROLE_ROLE
def isSender (s : State) : Bool := s.role == 1
def isTile (s : State) : Bool := s.role == 2
def part7440 (s : State) : Bool := s.fuses.part7440

/-- Does the running image enable optional unit `b` (0 REL, 1 PAR, 2 Ethernet, 3 LUX)? -/
def opt (s : State) (b : Nat) : Bool := (s.f F.SYS_UNITEN_OPT).testBit b

/-- Is the block present and enabled (Table 01.2, R20, R21, Table 02.1)? -/
def present (s : State) (b : Blk) : Bool :=
  match b with
  | .SYS | .RPS | .THM | .NVS | .MGT | .EVT | .HCH | .LAN | .CMC | .TIM => true
  | .CMT | .FAB | .FMC | .DSP => s.role != 0
  | .SND => s.isSender
  | .REL => s.isSender && s.opt 0
  | .PAR => s.isSender && s.opt 1
  | .HST => s.part7440 && !s.isTile
  | .COR | .DRV => s.isTile
  | .LUX => s.isTile && s.opt 3

/-- Is the Ethernet port present and enabled? -/
def ethOn (s : State) : Bool := s.isSender && s.opt 2

/-- Is chain port `p` in use (R20, Table 02.1)?  A device with no role uses ports 0 and 1. -/
def portOn (s : State) (p : Nat) : Bool := if s.role == 0 then decide (p < 2) else (s.f F.SYS_UNITEN_CHAIN).testBit p

/-- The chain ports in use, ascending. -/
def portsOn (s : State) : List Nat := (List.range 8).filter s.portOn

/-- Is lane port `p` (8 the pair link) in use? -/
def laneOn (s : State) (p : Nat) : Bool := if p = 8 then s.present .PAR else decide (p < 8) && s.portOn p

/-! ### Wall time -/

/-- Units of the count in a nanosecond and in a second. -/
def nsU : Nat := 2 ^ 31
def secU : Nat := 1000000000 * nsU

/-- The tick of domain 19: exactly 2 ns, or 2 ns × (1 + RATE × 2^-32) in the Tile role (R240); in Standby the island's tick of 20 ns, corrected
by the crystal's rate error (R263). -/
def tickU (s : State) : Nat :=
  if s.f F.RPS_PWR_STAT_STATE = 2 then 10 * ((2 ^ 32 : Nat) + s.clk.err : Int).toNat
  else if s.isTile then ((2 ^ 32 : Nat) + s.fS F.TIM_RATE_RATE : Int).toNat else 2 ^ 32

/-- Seconds, nanoseconds and 2^-16 ns fraction of a count. -/
def secOf (t : Nat) : Nat := t / secU
def nsOf (t : Nat) : Nat := t % secU / nsU
def frOf (t : Nat) : Nat := t % nsU / 2 ^ 15

/-- The count of a time of day. -/
def countOf (sec ns : Nat) : Nat := sec * secU + ns * nsU

/-- Let `k` ticks of domain 19, or of the island in Standby, pass. [DESIGN CHOICE, log entry 3] -/
def ticks (s : State) (k : Nat) : State :=
  let ns := if s.f F.RPS_PWR_STAT_STATE = 2 then 20 else 2
  { s with clk := { s.clk with wall := s.clk.wall + k * s.tickU, now := s.clk.now + ns * k } }

/-- Let time pass to the first tick whose count is at or after `t` (R222); nothing where the count is already there. [DESIGN CHOICE, log entry 5] -/
def waitTo (s : State) (t : Nat) : State :=
  if t ≤ s.clk.wall ∨ s.tickU = 0 then s else s.ticks (cdiv (t - s.clk.wall) s.tickU)

/-- The count of the first tick at or after `t`, whether it is past or to come (R222). [DESIGN CHOICE, log entry 86] -/
def placed (s : State) (t : Nat) : Nat :=
  if s.tickU = 0 then t
  else if s.clk.wall ≤ t then s.clk.wall + cdiv (t - s.clk.wall) s.tickU * s.tickU
  else s.clk.wall - (s.clk.wall - t) / s.tickU * s.tickU

/-- Wall time exists: it has been set (TSTATE is not 0). [DESIGN CHOICE, log entry 70] -/
def timed (s : State) : Bool := s.f F.TIM_STATUS_TSTATE != 0

/-! ### Memories -/

/-- Populated bytes of local DRAM (FMC_SIZE). -/
def dramSize (s : State) : Nat := s.f F.FMC_SIZE_MB * 2 ^ 20

/-- Does the access lie in the populated space (R289)? -/
def dramIn (s : State) (a n : Nat) : Bool := decide (a + n ≤ s.dramSize)

/-- A read of local DRAM: zeros at and beyond the populated space (R289). [DESIGN CHOICE, log entry 4] -/
def dramRd (s : State) (a n : Nat) : List Byte :=
  if s.dramIn a n then Mem.read s.dram a n
  else (List.range n).map fun i => if a + i < s.dramSize then Mem.get s.dram (a + i) else 0

/-- The part of a write below the populated end. -/
def dramPut (s : State) (a : Nat) (bs : List Byte) : State := { s with dram := Mem.write s.dram a (bs.take (s.dramSize - a)) }

def mramRd (s : State) (a n : Nat) : List Byte := Mem.read s.mram a n
def mramWr (s : State) (a : Nat) (bs : List Byte) : State := { s with mram := Mem.write s.mram a bs }

/-! ### Events -/

/-- The block that owns an event number, none for a reserved number (Table 20.3, R426). [PRESUMED, log entry 181] -/
def evOwner (n : Nat) : Option Blk :=
  if n < 14 then some .RPS else if n < 16 then none else if n < 31 then some .THM else if n < 32 then none
  else if n < 40 then some .NVS else if n < 53 then some .MGT else if n < 56 then none else if n < 60 then some .SYS
  else if n < 64 then some .MGT else if n < 77 then some .CMT else if n < 80 then none else if n < 88 then some .DSP
  else if n < 101 then some .FAB else if n < 112 then none else if n < 122 then some .SND else if n < 128 then none
  else if n < 132 then some .REL else if n < 135 then some .HST else if n < 136 then some .REL else if n < 142 then some .HST
  else if n < 144 then none else if n < 159 then some .COR else if n < 168 then none
  else if n = 174 then none else if n < 186 then some .DRV else if n < 200 then none else if n < 212 then some .LUX
  else if n = 221 then none else if n < 231 then some .LAN else if n < 244 then none else if n < 269 then some .CMC
  else if n < 276 then none else if n < 295 then some .TIM else if n < 296 then none else if n < 311 then some .FMC
  else if n < 312 then none else if n < 320 then some .PAR else none

/-- Is the event raised at all: its number is not reserved and its block is present, or it is event 319 on a Tile (R426)? -/
def evLive (s : State) (n : Nat) : Bool :=
  (n == 319 && s.isTile) || match evOwner n with
    | some b => s.present b
    | none => false

/-- Send the MSI-X message of a vector, or keep it pending under the masks (R321). [DESIGN CHOICE, log entry 41; DESIGN CHOICE, log entry 184] -/
def msixSend (s : State) (v : Nat) : State :=
  let p := s.hst.pcie
  let e := tabAt p.table v (0, 0, true)
  if !p.msixOn || p.funMask || e.2.2 || p.hold.getLsbD v then
    { s with hst := { s.hst with pcie := { p with pba := p.pba ||| BitVec.ofNat 64 (2 ^ v) } } }
  else
    let hold := if s.f (F.EVT_VEC_CTL_HOLDOFF v) = 0 then p.hold else p.hold ||| BitVec.ofNat 64 (2 ^ v)
    ({ s with hst := { s.hst with pcie := { p with pba := p.pba &&& ~~~ BitVec.ofNat 64 (2 ^ v), hold := hold } } }).emit
      (.msix v e.1 e.2.1)

/-- The STAT and LAST effect of an event, whatever its mask (R321). -/
def evMark (s : State) (n : Nat) : State :=
  (s.setReg (R.EVT_STAT (n / 32)) (s.reg (R.EVT_STAT (n / 32)) ||| BitVec.ofNat 32 (2 ^ (n % 32)))).setF F.EVT_LAST_EVENT n

/-- Is the event delivered: its mask bit is 0? -/
def evOpen (s : State) (n : Nat) : Bool := !(s.reg (R.EVT_MASK (n / 32))).getLsbD (n % 32)

/-- The record of an event at the present wall time (R205). -/
def evRec (s : State) (n : Nat) : EvRec := ⟨n, secOf s.clk.wall, nsOf s.clk.wall⟩

/-- Mark event 266 and deliver its record, which is dropped and counted when the places are full (R206). -/
def raiseDrop (s : State) : State :=
  let s := s.evMark 266
  if s.evOpen 266 && s.on (F.EVT_ROUTE_CHAIN 266) then
    if s.recs.length < 64 then { s with recs := s.recs ++ [s.evRec 266] } else s.bump F.CMC_EVDROP_COUNT
  else s

/-- Add an event record for the chain; with 64 held it is dropped, counted and event 266 raised (R206). -/
def addRec (s : State) (n : Nat) : State :=
  if s.recs.length < 64 then { s with recs := s.recs ++ [s.evRec n] }
  else if n = 266 then s.bump F.CMC_EVDROP_COUNT
  else (s.bump F.CMC_EVDROP_COUNT).raiseDrop

/-- Raise event `n` (R321, R426): mark it, and deliver it where its mask is 0, by MSI-X on a Sender or an SLX-7440 with no role
and as a chain record on a Tile. -/
def raise (s : State) (n : Nat) : State :=
  if !s.evLive n then s
  else
    let s := s.evMark n
    if !s.evOpen n then s
    else if s.isTile then (if s.on (F.EVT_ROUTE_CHAIN n) then s.addRec n else s)
    else if s.part7440 then s.msixSend (s.f (F.EVT_ROUTE_VECTOR n))
    else s

/-- Raise the event where the condition holds. -/
def raiseIf (s : State) (c : Bool) (n : Nat) : State := if c then s.raise n else s

/-! ### Local DRAM outside its populated space -/

/-- An access at or beyond the populated space is counted, recorded and reported (R289). [DESIGN CHOICE, log entry 25] -/
def outOfRange (s : State) (a : Nat) (write : Bool) : State :=
  ((((s.bump F.FMC_OOR_CNT_COUNT).setF F.FMC_OOR_LO_ADDR a).setF F.FMC_OOR_HI_ADDR (a / 2 ^ 32)).setF F.FMC_OOR_HI_WRITE
    write.toNat).raise 302

/-- A write to local DRAM; what lies at or beyond the populated space is dropped and reported (R289). -/
def dramWr (s : State) (a : Nat) (bs : List Byte) : State :=
  if s.dramIn a bs.length then s.dramPut a bs else (s.dramPut a bs).outOfRange (max a s.dramSize) true

/-- The report of a read of local DRAM that leaves the populated space (R289). [DESIGN CHOICE, log entry 25] -/
def dramReadNote (s : State) (a n : Nat) : State := if s.dramIn a n then s else s.outOfRange (max a s.dramSize) false

end State

/-- The state `t` with the queue and the fuses of `s`: they are not a command's to change. -/
def State.sealed (s t : State) : State := { t with pending := s.pending, fuses := s.fuses }

/-- The outcome of a command: the state its effect leaves. [DESIGN CHOICE, log entry 5] -/
def State.finish (s t : State) : Host.Outcome State Fault Refusal := .next (s.sealed t)

end Sys2Proof.Machine
end

