-- ==== Sys2Proof/Machine/Operands.lean ====
section
/-! DEFINITION. Cell primitives of Table 03.3, the encodings of R81 and R90, P42 pixels, the 16-bit dose format of R118 and the
threshold matrix of R106. -/

namespace Sys2Proof.Machine

/-- RSH of Table 03.3: rounds half towards plus infinity. -/
def rsh (x : Int) (s : Nat) : Int := if s = 0 then x else (x + 2 ^ (s - 1)) / 2 ^ s

/-- LERP of Table 03.3, f in UQ0.12. -/
def lerp (y0 y1 : Int) (f : Nat) : Int := y0 + rsh ((y1 - y0) * f) 12

/-- The 48-bit accumulator wraps (MAC). -/
def acc48 (x : Int) : Int := sgn 48 (twos 48 x)

/-- A sum of products in the accumulator (MUL and MAC). -/
def dot (xs : List (Int × Int)) : Int := xs.foldl (fun a p => acc48 (a + p.1 * p.2)) 0

/-- Position of the highest set bit: 31 - clz for 32-bit values. -/
def msb (v : Nat) : Nat := Nat.log2 v

/-- Entry i of the decode table T of an encoding (R81). -/
def decodeT (enc i : Nat) : Nat :=
  match enc with
  | 0 => i * 1024
  | 1 => Rom.entry 24 Rom.pqTAll i
  | _ => greatest (fun t => decide ((2 * t - 1) ^ 5 * 2 ^ 29 ≤ i ^ 12)) 23 0

/-- A component of width w decoded to linear light (R81). -/
def decode (c w enc : Nat) : Int :=
  let x16 := (c <<< (16 - w)) ||| (c >>> (2 * w - 16))
  let i := x16 / 16
  lerp (decodeT enc i) (decodeT enc (i + 1)) (x16 % 16 * 256)

/-- The linear value of entry k of the encode table (R90). -/
def encodeL (k : Nat) : Nat :=
  if k < 256 then k else let e := 8 + (k - 256) / 256; 2 ^ e + (k - 256) % 256 * 2 ^ (e - 8)

/-- Entry k of the encode table E of an encoding (R90). -/
def encodeE (enc k : Nat) : Nat :=
  match enc with
  | 0 => (2 * 16383 * encodeL k + 2 ^ 22) / 2 ^ 23
  | 1 => Rom.entry 14 Rom.pqEAll k
  | _ => greatest (fun t => decide ((2 * t - 1) ^ 12 * 2 ^ 110 ≤ (2 * 16383) ^ 12 * encodeL k ^ 5)) 14 0

/-- A resampled value encoded to a 14-bit canvas code (R90). -/
def encode14 (enc v : Nat) : Int :=
  if v < 256 then lerp (encodeE enc v) (encodeE enc (v + 1)) 0
  else
    let e := msb v
    let mnt := v - 2 ^ e
    let k := 256 + (e - 8) * 256 + mnt / 2 ^ (e - 8)
    let f := if 20 ≤ e then mnt / 2 ^ (e - 20) % 4096 else mnt * 2 ^ (20 - e) % 4096
    if k = 3840 then encodeE enc 3840 else lerp (encodeE enc k) (encodeE enc (k + 1)) f

/-- A P42 pixel: R in [13:0], G in [27:14], B in [41:28]. -/
def p42 (r g b : Nat) : Nat := r % 2 ^ 14 + 2 ^ 14 * (g % 2 ^ 14) + 2 ^ 28 * (b % 2 ^ 14)
def p42c (p c : Nat) : Nat := p / 2 ^ (14 * c) % 2 ^ 14

/-- The payload of a segment: pixels packed 42 bits each, padded to a multiple of 32 bits (R94). -/
def packP42 (ps : List Nat) : List Byte :=
  leBytes (4 * cdiv (42 * ps.length) 32) (ps.foldr (fun p a => p % 2 ^ 42 + 2 ^ 42 * a) 0)

/-- The pixels of a segment payload. -/
def unpackP42 (n : Nat) (bs : List Byte) : List Nat :=
  let v := leVal bs
  (List.range n).map fun i => v / 2 ^ (42 * i) % 2 ^ 42

/-- Position in a shared curve's table (R105): entry and fraction. -/
def curveIdx (v : Nat) : Nat × Nat :=
  if v < 64 then (v, 0)
  else
    let e := msb v
    let mnt := v - 2 ^ e
    (64 + (e - 6) * 64 + mnt / 2 ^ (e - 6), if 18 ≤ e then mnt / 2 ^ (e - 18) % 4096 else mnt * 2 ^ (18 - e) % 4096)

/-- Entry DM[y][x] of the threshold matrix (R106). -/
def ditherM (y x : Nat) : Nat :=
  (List.range 4).foldl (fun d b => d * 4 + (((x ^^^ y) >>> b) % 2) * 2 + (y >>> b) % 2) 0

/-- The function dither of R106: D4, pixel position, component, PWM width, mode, and FRAME × S + s. -/
def dither (d4 u v c w dmode sf : Nat) : Nat :=
  let x := d4 * (2 ^ w - 1)
  if dmode = 0 then (x + 2 ^ 21) / 2 ^ 22
  else
    let ox := if dmode = 2 then 5 * (sf % 256) % 16 else 0
    let oy := if dmode = 2 then 3 * (sf % 256) % 16 else 0
    let t := ditherM ((v + oy + 11 * c) % 16) ((u + ox + 5 * c) % 16)
    (x + t * 2 ^ 14 + 2 ^ 13) / 2 ^ 22

/-- f16 of R118. -/
def f16 (d : Nat) : Nat :=
  if d < 2 then d * 512
  else
    let p := msb d
    if p ≤ 10 then p * 1024 + d * 2 ^ (10 - p) % 1024
    else
      let r := p - 10
      let m := d / 2 ^ r
      let rem := d % 2 ^ r
      let h := 2 ^ (r - 1)
      let m := if h < rem ∨ (rem = h ∧ m % 2 = 1) then m + 1 else m
      let (m, p) := if m = 2048 then (1024, p + 1) else (m, p)
      if 63 < p then 0xFFFF else p * 1024 + m % 1024

/-- d64 of R118. -/
def d64 (q : Nat) : Nat :=
  let e := q / 1024
  let m := q % 1024
  if e = 0 then m / 512 else if 10 ≤ e then (1024 + m) * 2 ^ (e - 10) else (1024 + m) / 2 ^ (10 - e)

/-- A quotient rounded half up. -/
def roundDiv (a b : Int) : Int := if b = 0 then 0 else (2 * a + b) / (2 * b)

end Sys2Proof.Machine
end

