-- ==== Sys2Proof/Machine/Placement.lean ====
section
/-! DEFINITION. Placement entries and meshes (Table 04.2, R82 to R84). -/

namespace Sys2Proof.Machine

namespace Plc

def entry (c : PlcCache) (t : Nat) : List Byte := slice c.table (64 * t) 64
def en (e : List Byte) : Bool := (numAt e 0 1).testBit 0
def orient (e : List Byte) : Nat := numAt e 0 1 / 2 % 8
def meshEn (e : List Byte) : Bool := (numAt e 0 1).testBit 4
def chain (e : List Byte) : Nat := numAt e 1 1
def addr (e : List Byte) : Nat := numAt e 2 1
def region (e : List Byte) : Nat := numAt e 3 1
def w (e : List Byte) : Nat := numAt e 4 2
def h (e : List Byte) : Nat := numAt e 6 2
def x0 (e : List Byte) : Int := sgn 32 (numAt e 8 4)
def y0 (e : List Byte) : Int := sgn 32 (numAt e 12 4)
def aff (e : List Byte) (i : Nat) : Int := sgn 32 (numAt e (16 + 4 * i) 4)
def mesh (e : List Byte) : Nat := numAt e 32 8

/-- The enabled entries of a cache, with their indices. -/
def enabled (c : PlcCache) : List (Nat × List Byte) :=
  ((List.range (c.table.length / 64)).map fun t => (t, entry c t)).filter fun x => en x.2

/-- (u', v') of Table 04.3. -/
def orientUV (e : List Byte) (u v : Int) : Int × Int :=
  let w : Int := w e
  let h : Int := h e
  match orient e with
  | 0 => (u, v) | 1 => (h - 1 - v, u) | 2 => (w - 1 - u, h - 1 - v) | 3 => (v, w - 1 - u)
  | 4 => (w - 1 - u, v) | 5 => (h - 1 - v, w - 1 - u) | 6 => (u, h - 1 - v) | _ => (v, u)

/-- The mesh displacement of a tile pixel: dx (`o` 0) or dy (`o` 2) (R84). -/
def meshD (m : List Byte) (e : List Byte) (u v o : Nat) : Int :=
  let gu := if 1 < w e then u * 61440 / (w e - 1) else 0
  let gv := if 1 < h e then v * 61440 / (h e - 1) else 0
  let i := gu / 4096
  let j := gv / 4096
  let p := fun (k i : Nat) => sgn 16 (numAt m ((16 * k + i) * 4 + o) 2)
  let row := fun (k : Nat) => if i = 15 then p k 15 else lerp (p k i) (p k (i + 1)) (gu % 4096)
  if j = 15 then row 15 else lerp (row j) (row (j + 1)) (gv % 4096)

/-- The canvas position of a tile pixel's centre, Q23.8 (R82). -/
def position (c : PlcCache) (t : Nat) (u v : Nat) : Int × Int :=
  let e := entry c t
  let (u', v') := orientUV e u v
  let m := (c.meshes.lookup t).getD []
  let dx := if meshEn e then meshD m e u v 0 else 0
  let dy := if meshEn e then meshD m e u v 2 else 0
  (x0 e + rsh (aff e 0 * (2 * u' + 1) + aff e 1 * (2 * v' + 1)) 9 + dx,
   y0 e + rsh (aff e 2 * (2 * u' + 1) + aff e 3 * (2 * v' + 1)) 9 + dy)

end Plc

end Sys2Proof.Machine
end

