-- ==== Sys2Proof/Machine/Access.lean ====
section
/-! DEFINITION. Reads and writes of the register space by the rules R4, R7 to R15, R282 and R425, without the triggers that some
registers carry: what a register reads as, the side effects of a read, and what a write stores. -/

namespace Sys2Proof.Machine

namespace State

/-- Set a field's value in a word (for words that are computed on a read). -/
def withF (x : Fld) (v : Nat) (w : Word) : Word := x.put w v

/-- The present/absent capabilities of the part (R43; Table 02.10). -/
def capsWord (s : State) : Word := if s.part7440 then 0x000FFF1F else 0x00030300

/-- The bytes of a timestamp queue entry (R253). -/
def tsBytes (e : TsEntry) : List Byte :=
  leBytes 6 e.sec ++ leBytes 4 e.ns ++ leBytes 2 e.frac ++ leBytes 2 e.seq ++
    [BitVec.ofNat 8 (e.mtype % 16 + (if e.tx then 16 else 0) + e.dom % 2 * 32), BitVec.ofNat 8 e.domNum]

/-- The words of the pending commit `i` in CMT_PENDi (R271), by offset in its group. -/
def pendWord (s : State) (i o : Nat) : Word :=
  match s.cmt.pend[i]? with
  | none => 0
  | some c =>
    if o = 0 then BitVec.ofNat 32 (1 + c.heavy.toNat * 2 + c.sent.toNat * 4 + c.catchup.toNat * 8 + c.slot % 8 * 16 + c.n % 2 ^ 24 * 256)
    else if o = 4 then c.gen
    else if o = 8 then BitVec.ofNat 32 (nsOf c.due)
    else if o = 12 then BitVec.ofNat 32 (secOf c.due)
    else BitVec.ofNat 32 (secOf c.due / 2 ^ 32 % 2 ^ 16 + c.tag % 2 ^ 16 * 2 ^ 16)

/-- MRAM offset of record copy A (0) or B (1) (Table 19.1). -/
def recBase (copy : Nat) : Nat := if copy = 0 then 0x10000 else 0x20000

/-- The record of the ROM defaults (R416): option words and nominal ring counts, every other byte zero. -/
def romRecord : List Byte :=
  List.replicate 32 0 ++ leBytes 4 (Config.romOption 0) ++ leBytes 4 (Config.romOption 1 % 2 ^ 16) ++ List.replicate 24 0 ++
    List.replicate 64 0 ++ ((List.range 144).flatMap fun i => leBytes 2 (Config.nominalRing i)) ++ List.replicate (65536 - 416) 0

/-- Bytes of the record in use: the copy in use, or the ROM defaults while TRIM_INVALID is 1; zeros before a load. -/
def recRead (s : State) (o n : Nat) : List Byte :=
  if !s.on F.NVS_STATUS_LOADED then List.replicate n 0
  else if s.nvs.rom then padTo n (slice romRecord o n)
  else s.mramRd (recBase (s.f F.NVS_STATUS_COPY) + o) n

/-- The words of SND_WCD_VAL (Table 04.9). -/
def wcdWord (s : State) : Word :=
  let r := s.f F.SND_WCD_SEL_REGION
  let k := ((Plc.enabled s.snd.cache).filter fun x => Plc.region x.2 == r).length
  BitVec.ofNat 32 (s.snd.wcd.getD r 16384 + 2 ^ 16 * (k % 1024))

/-- The registers whose content other state holds: computed when read. -/
def derived (s : State) (a : Nat) : Option Word :=
  if a = R.SYS_ID then some (BitVec.ofNat 32 ((if s.part7440 then 0x7440 else 0x7420) + 0xB0 * 2 ^ 16))
  else if a = R.SYS_CAPS then some s.capsWord
  else if R.SYS_UNITID 0 ≤ a ∧ a ≤ R.SYS_UNITID 2 then some ((s.fuses.unitId >>> (32 * ((a - R.SYS_UNITID 0) / 4))).setWidth 32)
  else if a = R.CMT_STATUS then
    some (withF F.CMT_STATUS_HEAVYPEND (s.cmt.pend.any (·.heavy)).toNat
      (withF F.CMT_STATUS_PEND s.cmt.pend.length
        (withF F.CMT_STATUS_CHECKING (!s.cmt.checking.isEmpty).toNat (s.reg a))))
  else if R.CMT_PEND_STAT 0 ≤ a ∧ a ≤ R.CMT_PEND_SH 3 then
    some (s.pendWord ((a - R.CMT_PEND_STAT 0) / 32) ((a - R.CMT_PEND_STAT 0) % 32))
  else if a = R.CMT_DUMP_STAT then
    some (withF F.CMT_DUMP_STAT_SUSP (s.f F.CMT_DUMP_STAT_STATE == 1 && s.on F.THM_STATUS_STAGE).toNat (s.reg a))
  else if a = R.HCH_STAT then
    some (BitVec.ofNat 32 (s.rps.tckAt.any fun t => decide (s.clk.now ≤ t + 1000000)).toNat)
  else if a = R.CMT_DPORT_DATA then
    some (BitVec.ofNat 32 (numAt s.cmt.dump ((s.reg R.CMT_DPORT_ADDR).toNat / 4 * 4) 4))
  else if a = R.TIM_NOW_NS then some (BitVec.ofNat 32 (nsOf s.clk.wall))
  else if R.TIM_P_TSQ 0 ≤ a ∧ a ≤ R.TIM_P_TSQ 9 ∧ (a - R.TIM_P_TSQ 0) % 32 = 0 then
    some (withF (F.TIM_P_TSQ_LEVEL ((a - R.TIM_P_TSQ 0) / 32)) (tabAt s.tim.queues ((a - R.TIM_P_TSQ 0) / 32) []).length (s.reg a))
  else if R.TIM_TSQ_DATA 0 ≤ a ∧ a ≤ R.TIM_TSQ_DATA 3 then
    some (match (tabAt s.tim.queues (s.f F.TIM_TSQ_SEL_PORT) [])[s.f F.TIM_TSQ_SEL_INDEX]? with
      | some e => BitVec.ofNat 32 (numAt (tsBytes e) (a - R.TIM_TSQ_DATA 0) 4)
      | none => 0)
  else if R.TIM_CAP_STAT 0 ≤ a ∧ a ≤ R.TIM_CAP_SH 3 ∧ (a - R.TIM_CAP_STAT 0) % 32 < 16 then
    let q := tabAt s.tim.caps ((a - R.TIM_CAP_STAT 0) / 32) []
    let o := (a - R.TIM_CAP_STAT 0) % 32
    if o = 0 then some (withF (F.TIM_CAP_STAT_LEVEL 0) q.length (s.reg a))
    else some (match q with
      | e :: _ => if o = 4 then BitVec.ofNat 32 (e.ns + e.rise.toNat * 2 ^ 30) else if o = 8 then BitVec.ofNat 32 e.sec
                  else BitVec.ofNat 32 (e.sec / 2 ^ 32 % 2 ^ 16)
      | [] => 0)
  else if R.TIM_OUT_STAT 0 ≤ a ∧ a ≤ R.TIM_OUT_STAT 7 ∧ (a - R.TIM_OUT_STAT 0) % 32 = 0 then
    some (withF (F.TIM_OUT_STAT_OWNER 0) (s.f (F.DSP_TRIG_CTL_EN ((a - R.TIM_OUT_STAT 0) / 32))) (s.reg a))
  else if a = R.NVS_RD_DATA then
    some (BitVec.ofNat 32 (leVal (s.recRead (s.f F.NVS_RD_ADDR_OFFSET / 4 * 4) 4)))
  else if a = R.SND_WCD_VAL then some s.wcdWord
  else if R.DRV_DSTAT 0 ≤ a ∧ a ≤ R.DRV_DSTAT 3 then
    some (BitVec.ofNat 32 (numAt ((s.drv.stat.lookup (s.f F.DRV_DSTAT_SEL_BUS * 32 + s.f F.DRV_DSTAT_SEL_DRIVER)).getD [])
      (a - R.DRV_DSTAT 0) 4))
  else if a = R.LUX_MDOSE_LO ∨ a = R.LUX_MDOSE_HI then
    some (BitVec.ofNat 32 (s.lux.dose.getD (3 * s.f F.LUX_MDOSE_SEL_GROUP + s.f F.LUX_MDOSE_SEL_COMP) 0 /
      (if a = R.LUX_MDOSE_LO then 1 else 2 ^ 32)))
  else if a = R.PAR_STATUS then some (withF F.PAR_STATUS_LINK (s.f (F.LAN_P_STAT_RXST 8) == 5).toNat (s.reg a))
  else if a = R.MGT_KEYS then some (s.fuses.revoked.setWidth 32)
  else if a = R.EVT_PEND_LO then some (s.hst.pcie.pba.setWidth 32)
  else if a = R.EVT_PEND_HI then some ((s.hst.pcie.pba >>> 32).setWidth 32)
  else none

/-- Registers of a present block that read as zero and drop writes in the device's present form: lane ports not in use, lanes 2
and 3 of the pair link, and the Ethernet registers without the Ethernet port. -/
def hiddenReg (s : State) (a : Nat) : Bool :=
  (decide (R.LAN_P_STAT 0 ≤ a ∧ a < R.LAN_P_STAT 9) && !s.laneOn ((a - R.LAN_P_STAT 0) / 128)) ||
  decide (R.LAN_P_L 8 2 ≤ a ∧ a ≤ R.LAN_P_L 8 3) ||
  (decide (R.TIM_P_ASYM 9 ≤ a ∧ a < R.TIM_P_ASYM 10 ∨ R.TIM_ETH_CTL ≤ a ∧ a < R.TIM_ETH_CTL + 0x100) && !s.ethOn)

/-- The staged bits of a register that belong to the other role (Table 09.11): CMC_WPk_CTL.EN in the Sender role. [DEDUCED, log entry 180] -/
def hiddenBits (s : State) (a : Nat) : Word :=
  if s.isSender && (List.range 8).any fun k => a == R.CMC_WP_CTL k then 1 else 0

/-- The active-view value of a register of a present block, with no side effect (R282). -/
def value (s : State) (a : Nat) : Word :=
  match regRow a with
  | none => 0
  | some r =>
    if s.hiddenReg a then 0
    else ((s.derived a).getD (s.reg a)) &&& (r.mask fun _ => true) &&& ~~~ s.hiddenBits a

/-- The stage-view value: the value most recently staged, live fields 0 (R10, R11). -/
def stageValue (s : State) (a : Nat) : Word :=
  if s.hiddenReg a then 0 else RegFile.get s.stage a &&& stMask a &&& ~~~ s.hiddenBits a

/-- Split a 24-bit address into its view (true for the stage view) and its active-view address (R7). -/
def view (a : Nat) : Bool × Nat := (decide (2 ^ 23 ≤ a % 2 ^ 24), a % 2 ^ 23)

/-- Is there a present and enabled block at the active-view address (R4, R425)? -/
def reaches (s : State) (a : Nat) : Bool :=
  match blkOf a with
  | some b => s.present b
  | none => false

/-- The value at a register-space address with no side effect, and whether a block answers there (R282). -/
def peekAt (s : State) (addr : Nat) : Word :=
  let (st, a) := view addr
  if !s.reaches a then 0 else if st then s.stageValue a else s.value a

/-- The side effects of an active-view read of a register that answered (R12, R14, R241, R285). -/
def readEffect (s : State) (a : Nat) : State :=
  match regRow a with
  | none => s
  | some r =>
    if s.hiddenReg a then s
    else if r.wide = 2 then s
    else if r.wide = 1 then
      { (s.setReg a 0).setReg (a + 4) 0 with
        latch := RegFile.put (a + 4) (s.reg (a + 4)) (s.latch.filter fun p => p.1 != a + 4) }
    else if a = R.TIM_NOW_NS then
      ((s.setF F.TIM_NOW_SL_SEC (secOf s.clk.wall)).setF F.TIM_NOW_SH_SEC (secOf s.clk.wall / 2 ^ 32)).setF
        F.TIM_NOW_FR_FR (frOf s.clk.wall)
    else if a = R.CMT_DPORT_DATA then s.setReg R.CMT_DPORT_ADDR (s.reg R.CMT_DPORT_ADDR + 4)
    else if a = R.NVS_RD_DATA then s.setF F.NVS_RD_ADDR_OFFSET (s.f F.NVS_RD_ADDR_OFFSET + 4)
    else
      let m := r.mask fun f => f.acc == .rc
      if m = 0 then s else s.setReg a (s.reg a &&& ~~~ m)

/-- What an active-view read returns: the held high part for the high word of a wide counter (R14), else the value. -/
def readWord (s : State) (a : Nat) : Word :=
  match regRow a with
  | some r => if r.wide = 2 && !s.hiddenReg a then (s.latch.lookup a).getD 0 else s.value a
  | none => 0

/-- A 32-bit read at a 4-byte-aligned address: the word and the state after it (R4, R10, R11, R425). -/
def read32 (s : State) (addr : Nat) : Word × State :=
  let (st, a) := view addr
  if !s.reaches a then (0, s.raise 3)
  else if st then (s.stageValue a, s)
  else (s.readWord a, s.readEffect a)

/-- A read command: the word is answered on its path; a 64-bit read is two 32-bit reads, the lower address first (R8);
after the last word of the space comes the first. [DESIGN CHOICE, log entry 203] -/
def busRead (s : State) (path : Path) (addr : Nat) (wide : Bool) : State :=
  let (w, s) := s.read32 addr
  let s := s.emit (.readData path addr w)
  if wide then
    let (w, s) := s.read32 ((addr + 4) % 2 ^ 24)
    s.emit (.readData path ((addr + 4) % 2 ^ 24) w)
  else s

/-- Record a dropped active-view write to a staged field (R10). -/
def liveWriteErr (s : State) (path : Path) (a : Nat) : State :=
  if !s.present .CMT then s
  else
    let s := s.bump F.CMT_LWE_CNT_COUNT
    if s.on F.CMT_STATUS_LIVE_WR_ERR then s
    else
      let code : Nat := match path with | .host => 0 | .hatch => 1 | .core => 2 | .frame => 3
      (((s.setF F.CMT_STATUS_LIVE_WR_ERR 1).setF F.CMT_LWE_ADDR_ADDR a).setF F.CMT_LWE_ADDR_PATH code).raise 68

/-- The bits of a live write that the register refuses, leaving the field unchanged: LAN_CLK_CTL.BW 3, LAN_Pp_EQMODE.MODE 3,
LAN_Pp_Ll.EQFIX above 36 (R184), RPS_TONE_CTL.MS 0, HCH_CTL.BAUD 3, TXON and PROV outside the Sender role (Table 08.8),
FMC_SCHED.AGEMAX below 100, FMC_SCRUB.PERIOD 0, and CMT_DUMP_CTL.TARGET on a Tile, which reads 0. -/
def refusedBits (s : State) (a : Nat) (v : Word) : Word :=
  if a = R.LAN_CLK_CTL then (if F.LAN_CLK_CTL_BW.get v = 3 then 3 else 0)
  else if R.LAN_P_STAT 0 ≤ a ∧ a < R.LAN_P_STAT 9 then
    let o := (a - R.LAN_P_STAT 0) % 128
    if o = 8 then (if v.toNat % 4 = 3 then 3 else 0)
    else if o = 4 then (if s.isSender then 0 else 0x30)
    else if 0x40 ≤ o then (if 36 < v.toNat / 256 % 64 then 0x3F00 else 0)
    else 0
  else if a = R.RPS_TONE_CTL then (if v.toNat % 256 = 0 then 0xFF else 0)
  else if a = R.FMC_SCHED then (if F.FMC_SCHED_AGEMAX.get v < 100 then 0xFFF else 0)
  else if a = R.FMC_SCRUB then (if F.FMC_SCRUB_PERIOD.get v = 0 then 0xFF else 0)
  else if a = R.CMT_DUMP_CTL then (if s.isTile then 0x10000 else 0)
  else if a = R.HCH_CTL then (if v.toNat % 4 = 3 then 3 else 0)
  else 0

/-- What an active-view write stores: live fields take the written bits, W1C bits clear, staged bits are dropped under R10; in a
register that holds live fields too, of whatever access, the dropped bits count only where they differ from the value in use. [DEDUCED, log entry 177] -/
def storeLive (s : State) (path : Path) (a : Nat) (r : RegRow) (v : Word) : State :=
  let st := r.mask fun f => f.acc == .st
  let rw := (r.mask fun f => f.acc == .rw || f.acc == .wo) &&& ~~~ s.refusedBits a v
  let wc := r.mask fun f => f.acc == .w1c
  let cur := s.reg a
  let s := if rw ||| wc = 0 then s else s.setReg a (((cur &&& ~~~ rw) ||| (v &&& rw)) &&& ~~~ (v &&& wc))
  if st = 0 then s
  else if r.fields.all (fun f => f.acc == .st) || (v ^^^ cur) &&& st != 0 then s.liveWriteErr path a
  else s

/-- What a stage-view write stores (R10). -/
def storeStage (s : State) (a : Nat) (v : Word) : State :=
  let m := stMask a &&& ~~~ s.hiddenBits a
  { s with stage := RegFile.set s.stage a ((RegFile.get s.stage a &&& ~~~ m) ||| (v &&& m)) }

end State

end Sys2Proof.Machine
end

