-- ==== Sys2Proof/Machine/Nvs.lean ====
section
/-! DEFINITION. MRAM writes (R379, R408), and the record of trims, options and calibrations: loading, the one-copy write, option
words and the calibration kinds (chapter 19). -/

namespace Sys2Proof.Machine

/-- A byte string with `new` in place of what stood at offset `o`. -/
def splice (bs : List Byte) (o : Nat) (new : List Byte) : List Byte := bs.take o ++ new ++ bs.drop (o + new.length)

namespace State

/-! ### MRAM writes -/

/-- Are MRAM writes permitted (R408): MCOMP, or zone 3 holding a Valid sensor at 0 °C to 100 °C? -/
def mramOk (s : State) : Bool :=
  s.on F.THM_STATUS_MCOMP ||
    (decide (0 < s.f (F.THM_Z_NVALID 3)) && decide (0 ≤ s.fS (F.THM_Z_VAL 3) ∧ s.fS (F.THM_Z_VAL 3) ≤ 1600))

/-- A refused MRAM write (R408). -/
def mramRefuse (s : State) : State := (s.bump F.THM_MREF_COUNT).raise 28

/-- Write bytes of MRAM, or have the write refused; the result says whether it was made. [DEDUCED, log entry 145] -/
def mramTry (s : State) (a : Nat) (bs : List Byte) : Bool × State :=
  if s.mramOk then (true, s.mramWr a bs) else (false, s.mramRefuse)

/-! ### Loading the record -/

def recMagic : Nat := 0x52544C53

/-- The unit ID as 12 bytes, low word first. -/
def unitBytes (s : State) : List Byte := leBytes 12 s.fuses.unitId.toNat

/-- The check code of a record copy (R414): 0 passes. -/
def recCode (s : State) (c : List Byte) : Nat :=
  if numAt c 0 4 ≠ recMagic ∨ numAt c 4 2 ≠ 1 then 1
  else if numAt c 0xFFFC 4 ≠ (crc32 (c.take 0xFFFC)).toNat then 2
  else if slice c 0xC 12 ≠ s.unitBytes then 3
  else 0

/-- The option words that the record in use gives the blocks (R414, R418). -/
def recApplyOptions (s : State) : State :=
  let s := (List.range 8).foldl (fun s n => s.setF (F.NVS_OPT_OPT n) (leVal (s.recRead (0x20 + 4 * n) 4))) s
  (s.setF F.HST_W2_SIZE_SIZE (s.f (F.NVS_OPT_OPT 1) / 2 ^ 16)).setF F.HCH_CTL_LOCK (s.f (F.NVS_OPT_OPT 1) / 2 ^ 19)

/-- The lane offset trims (Table 19.2, LANE). -/
def recApplyLane (s : State) : State :=
  (List.range 9).foldl (fun s p => (List.range 4).foldl (fun s l =>
    s.setF (F.LAN_P_L_OFFS p l) (leVal (s.recRead (0x40 + 4 * p + l) 1))) s) s

/-- The count and time of one calibration kind (Table 19.2, CAL). -/
def recApplyCal (s : State) (k : Nat) : State :=
  let e := s.recRead (0x300 + 16 * k) 16
  ((((s.setF (F.NVS_CALREC_CNT_COUNT k) (numAt e 0 4)).setF (F.NVS_CALREC_SL_SEC k) (numAt e 4 4)).setF
    (F.NVS_CALREC_SH_SEC k) (numAt e 8 2)).setF (F.NVS_CALREC_NS_NS k) (numAt e 10 4)).setF
    (F.NVS_CALREC_SH_UNSET k) (numAt e 14 2)

/-- The monitor-lamp trims of every group (Table 19.2, LUX). -/
def recApplyLux (s : State) : State :=
  (List.range 4).foldl (fun s g =>
    let e := s.recRead (0x200 + 32 * g) 32
    let s := (List.range 3).foldl (fun s c =>
      ((s.setF (F.LUX_G_DARK_DARK g c) (numAt e (4 * c) 4)).setF (F.LUX_G_SREF_SREF g c) (numAt e (12 + 4 * c) 4)).setF
        (F.LUX_G_DREF_DREF g c) (numAt e (26 + 2 * c) 2)) s
    s.setF (F.LUX_G_REFT_TREF g) (numAt e 24 2)) s

/-- The options, trims and calibration records go to their blocks (R414). -/
def recApply (s : State) : State :=
  (List.range 4).foldl recApplyCal s.recApplyOptions.recApplyLane.recApplyLux

/-- The record load of R414 and R416. -/
def recLoad (s : State) : State :=
  let a := s.mramRd (recBase 0) 65536
  let b := s.mramRd (recBase 1) 65536
  let first := if numAt b 8 4 > numAt a 8 4 then 1 else 0
  let code := fun (k : Nat) => if k = 0 then s.recCode a else s.recCode b
  let fail := fun (k : Nat) => if k = 0 then F.NVS_STATUS_FAILA else F.NVS_STATUS_FAILB
  let seq := fun (k : Nat) => if k = 0 then numAt a 8 4 else numAt b 8 4
  let s := (((((s.setF F.NVS_STATUS_FAILA 0).setF F.NVS_STATUS_FAILB 0).setF F.NVS_STATUS_FALLBACK 0).setF
    F.NVS_STATUS_TRIM_INVALID 0).setF F.NVS_STATUS_REPAIR 0).setF F.NVS_STATUS_LOADED 1
  let s := { s with nvs := { jobs := [], rom := false } }
  if code first = 0 then ((s.setF F.NVS_STATUS_COPY first).setF F.NVS_SEQ_SEQ (seq first)).recApply
  else
    let o := 1 - first
    let s := s.setF (fail first) (code first)
    if code o = 0 then
      ((((s.setF F.NVS_STATUS_COPY o).setF F.NVS_SEQ_SEQ (seq o)).setF F.NVS_STATUS_FALLBACK 1).setF F.NVS_STATUS_REPAIR 1).recApply.raise 32
    else ({ (s.setF (fail o) (code o)).setF F.NVS_STATUS_TRIM_INVALID 1 with nvs := { rom := true } }).recApply.raise 33

/-! ### Writing a copy -/

/-- The body a job asks for, built from the record in use (R413, R419). -/
def recBody (s : State) (j : RecJob) : List Byte :=
  let cur := if j.kind = 1 then padTo 65536 j.image else s.recRead 0 65536
  let body := j.edits.foldl (fun b e => splice b e.1 e.2) cur
  if j.kind = 2 then
    let o := 0x300 + 16 * j.cal
    let (sec, ns, unset) := match j.time with | some (x, y) => (x, y, 0) | none => (0, 0, 1)
    splice body o (leBytes 4 (min (numAt body o 4 + 1) (2 ^ 32 - 1)) ++ leBytes 6 sec ++ leBytes 4 ns ++ leBytes 2 unset)
  else body

/-- The first bytes of a copy: MAGIC, FMT, SEQ one higher than the copy in use, UNITID. -/
def recHead (s : State) : List Byte :=
  leBytes 4 recMagic ++ leBytes 2 1 ++ leBytes 2 0 ++ leBytes 4 (s.f F.NVS_SEQ_SEQ + 1) ++ s.unitBytes

/-- The copy that does not hold the record in use; with no record in use, copy A. -/
def recTarget (s : State) : Nat := if s.nvs.rom then 0 else 1 - s.f F.NVS_STATUS_COPY

/-- Begin the copy write at the head of the queue: its header is written first (R413). -/
def recStart (s : State) : State :=
  let s := (s.mramWr (recBase s.recTarget) s.recHead).setF F.NVS_STATUS_WBUSY 1
  match s.nvs.jobs with
  | j :: _ => if j.kind ≤ 1 then (s.setF F.NVS_WSTAT_STATE 1).setF F.NVS_WSTAT_CODE 0 else s
  | [] => s

/-- Ask for a change of the record: it is queued behind a write in progress, begins at once, or is refused (R413). -/
def recRequest (s : State) (j : RecJob) : Bool × State :=
  if !s.nvs.jobs.isEmpty then (true, { s with nvs := { s.nvs with jobs := s.nvs.jobs ++ [j] } })
  else if s.mramOk then (true, ({ s with nvs := { s.nvs with jobs := [j] } }).recStart)
  else (false, s.mramRefuse.raise 35)

/-- The write of a copy ends: with the readback equal the copy becomes the one in use (R413). [DEDUCED, log entry 31] -/
def recFinish (s : State) (ok : Bool) : State :=
  match s.nvs.jobs with
  | [] => s
  | j :: js =>
    let t := s.recTarget
    let body := splice (padTo 65536 (s.recBody j)) 0 s.recHead
    let whole := body.take 0xFFFC ++ leBytes 4 (crc32 (body.take 0xFFFC)).toNat
    let s := ({ s with nvs := { s.nvs with jobs := js } }).setF F.NVS_STATUS_WBUSY 0
    if ok then
      let s := (s.mramWr (recBase t) whole).setF F.NVS_SEQ_SEQ (s.f F.NVS_SEQ_SEQ + 1)
      let s := s.bump F.NVS_WCNT_COUNT
      let s := if j.kind = 3 then s.setF F.NVS_STATUS_REPAIR 0 else s
      (({ s with nvs := { s.nvs with rom := false } }).setF F.NVS_STATUS_COPY t).raise 34
    else (s.mramWr (recBase t) (whole.take 0xFFFC ++ leBytes 4 (numAt whole 0xFFFC 4 + 1))).raise 35

/-- The repair of R417, which waits while REPAIR is 1, begins where MRAM writes are permitted. [DEDUCED, log entry 31] -/
def recRepair (s : State) : State :=
  if s.on F.NVS_STATUS_REPAIR && s.mramOk && !(s.nvs.jobs.any fun j => j.kind == 3) then (s.recRequest { kind := 3 }).2 else s

/-! ### Commands -/

/-- A refused NVS_WCMD (Table 19.3). -/
def wcmdRefuse (s : State) (code : Nat) : State := (s.setF F.NVS_WSTAT_STATE 3).setF F.NVS_WSTAT_CODE code

/-- Ask for a record write of NVS_WCMD. -/
def wcmdWrite (s : State) (j : RecJob) : State :=
  let (ok, s) := s.recRequest j
  if ok then (s.setF F.NVS_WSTAT_STATE 1).setF F.NVS_WSTAT_CODE 0 else s.wcmdRefuse 5

/-- Are the option words locked (R418)? -/
def optLocked (s : State) : Bool := (s.f (F.NVS_OPT_OPT 1)).testBit 20

/-- OPTION_WRITE: NVS_WCMD OP 1 (R418). -/
def optionWrite (s : State) (key : Nat) : State :=
  if key ≠ 0x3C5A then s.wcmdRefuse 1
  else if s.optLocked then (s.wcmdRefuse 2).raise 39
  else s.wcmdWrite { kind := 0, edits := [(0x20, (List.range 8).flatMap fun n => leBytes 4 (s.f (F.NVS_OPTW_OPT n)))] }

/-- RECORD_IMAGE_WRITE: NVS_WCMD OP 2 (R418). -/
def recordImageWrite (s : State) (key : Nat) : State :=
  let img := Mem.read s.ubuf 0 65536
  if key ≠ 0x3C5A then s.wcmdRefuse 1
  else if s.on F.MGT_SESS_HELD then s.wcmdRefuse 3
  else if s.optLocked && slice img 0x20 32 != s.recRead 0x20 32 then (s.wcmdRefuse 2).raise 39
  else if s.recCode img ≠ 0 then s.wcmdRefuse 4
  else s.wcmdWrite { kind := 1, image := img }

/-- WIN_DATA_WRITE (R418): a word into the staging buffer, then 4 added to OFFSET. -/
def winDataWrite (s : State) (v : Word) : State :=
  if s.on F.MGT_SESS_HELD then s.wcmdRefuse 3
  else
    let o := s.f F.NVS_WIN_ADDR_OFFSET / 4 * 4
    ({ s with ubuf := Mem.write s.ubuf o (leBytes 4 v.toNat) }).setF F.NVS_WIN_ADDR_OFFSET (o + 4)

/-- The wall time of an acceptance (R419): none while TSTATE is 0. -/
def calTime (s : State) : Option (Nat × Nat) := if s.timed then some (secOf s.clk.wall, nsOf s.clk.wall) else none

/-- A refused lamp-table calibration (R420). -/
def calRefuse (s : State) (code : Nat) : State := ((s.setF F.NVS_CALREJ_KIND 3).setF F.NVS_CALREJ_CODE code).raise 37

/-- CALMARK with KIND 3 (R420, Table 19.6); other kinds are ignored. -/
def calMark (s : State) (kind : Nat) : State :=
  if kind ≠ 3 then s
  else
    let sec := s.f (F.COR_GWY_CALTIME_CALTIME 0) + 2 ^ 32 * (s.f (F.COR_GWY_CALTIME_CALTIME 1) % 2 ^ 16)
    let ns := s.f (F.COR_GWY_CALTIME_CALTIME 1) / 2 ^ 16 + 2 ^ 16 * (s.f (F.COR_GWY_CALTIME_CALTIME 2) % 2 ^ 16)
    let oldSec := s.f (F.NVS_CALREC_SL_SEC 3) + 2 ^ 32 * s.f (F.NVS_CALREC_SH_SEC 3)
    if !s.present .COR || s.f F.COR_LOAD_STAT_RESULT != 1 then s.calRefuse 1
    else if s.on F.COR_LOAD_STAT_UID_MISM then s.calRefuse 2
    else if s.on F.COR_LOAD_STAT_ALT_USED then s.calRefuse 3
    else if sec < oldSec ∨ (sec = oldSec ∧ ns ≤ s.f (F.NVS_CALREC_NS_NS 3)) then s.calRefuse 4
    else
      let (ok, s) := s.recRequest { kind := 2, cal := 3, time := some (sec, ns) }
      if ok then s else s.calRefuse 5

/-- What the end of a job tells its requester: NVS_WSTAT, CALREJ, LAN_CAL_STAT code 8 or LUX_CAL_STAT code 10, and on success the
new calibration values taken into their blocks (R187, R164, R419). -/
def recSettle (s : State) (j : RecJob) (ok : Bool) (code : Nat) : State :=
  match j.kind with
  | 0 | 1 => if ok then (s.setF F.NVS_WSTAT_STATE 2).setF F.NVS_WSTAT_CODE 0 else s.wcmdRefuse code
  | 3 => s
  | _ =>
    if ok then
      let s := s.recApplyCal j.cal
      match j.cal with
      | 0 => ((s.recApplyLane.setF F.LAN_CAL_STAT_BUSY 0).setF F.LAN_CAL_STAT_CODE 0).raise 223
      | 3 => s.raise 36
      | k =>
        let s : State := if k = 1 then { s with lux := { s.lux with darkOk := s.lux.darkOk ||| s.lux.darkAsk } } else s
        ((s.recApplyLux.setF F.LUX_CAL_STAT_BUSY 0).setF F.LUX_CAL_STAT_CODE 0).raise 206
    else match j.cal with
      | 0 => ((((s.setF F.LAN_CAL_STAT_BUSY 0).setF F.LAN_CAL_STAT_CODE 8).setF F.LAN_CAL_STAT_PORT 0).setF
          F.LAN_CAL_STAT_LANE 0).raise 224
      | 3 => s.calRefuse 5
      | _ => ((((s.setF F.LUX_CAL_STAT_BUSY 0).setF F.LUX_CAL_STAT_CODE 10).setF F.LUX_CAL_STAT_GROUP 0).setF
          F.LUX_CAL_STAT_COMP 0).raise 207

/-- The next queued job begins, or is refused for temperature in its turn. -/
def recNext : Nat → State → State
  | 0, s => s
  | n + 1, s =>
    match s.nvs.jobs with
    | [] => s
    | j :: js =>
      if s.mramOk then s.recStart
      else recNext n ((({ s with nvs := { s.nvs with jobs := js } }).mramRefuse.raise 35).recSettle j false 5)

/-- RECORD_COPY_DONE (R413): the copy write in progress ends, its readback equal or not. -/
def recordCopyDone (s : State) (ok : Bool) : State :=
  match s.nvs.jobs with
  | [] => s
  | j :: _ =>
    let s := (s.recFinish ok).recSettle j ok 6
    recNext s.nvs.jobs.length s

end State

end Sys2Proof.Machine
end

