-- ==== Sys2Proof/Machine/Timing.lean ====
section
/-! DEFINITION. Timing modes, boundaries and deadlines (Tables 10.1 and 10.2): exact integer arithmetic on wall-time counts. -/

namespace Sys2Proof.Machine

/-- Rate of a timing mode: num and den of Table 10.1, and whether 8 and 6 slots are permitted. -/
def modeRate (index : Nat) : Option (Nat × Nat) :=
  [(24000, 1001), (24, 1), (25, 1), (30000, 1001), (30, 1), (48000, 1001), (48, 1), (50, 1), (60000, 1001), (60, 1), (72, 1),
   (96, 1), (100, 1), (120000, 1001), (120, 1), (144, 1), (240, 1)][index]?

/-- The slot counts of Table 01.3. -/
def slotCounts : List Nat := [1, 2, 3, 4, 6, 8]

/-- Is the slot count permitted for the mode: 1, 2, 3, 4, 6 or 8, and slots × num/den at most 960 (Table 10.1, R444)? -/
def slotsOk (num den slots : Nat) : Bool := slotCounts.contains slots && decide (slots * num ≤ 960 * den)

/-- A timing in effect: rate and slot count. -/
structure Rate where
  num : Nat
  den : Nat
  slots : Nat
deriving DecidableEq, Repr

namespace Rate

open State (secU nsU)

/-- t_n as a count, rounded up (R222). [DESIGN CHOICE, log entry 86] -/
def frame (r : Rate) (n : Nat) : Nat := cdiv (n * r.den * secU) r.num

/-- D(n, k) = t_n + k × Ts as a count, rounded up (R223). -/
def slot (r : Rate) (n k : Nat) : Nat := cdiv ((n * r.slots + k) * r.den * secU) (r.num * r.slots)

/-- The frame that holds a wall time: floor(t × num / den) (R222). -/
def frameOf (r : Rate) (t : Nat) : Nat := t * r.num / (r.den * secU)

/-- Sub-frame period in ns, rounded down. -/
def tsNs (r : Rate) : Nat := 1000000000 * r.den / (r.num * r.slots)

/-- The frame period in units of the count, rounded up. -/
def periodU (r : Rate) : Nat := cdiv (r.den * secU) r.num

/-- U = (P - TAIL) / S in ns, rounded down (R224). -/
def uNs (r : Rate) (tailpm : Nat) : Nat := 1000000 * r.den * (1000 - tailpm) / (r.num * r.slots)

/-- Transmit deadline X_k of slot k of frame n = t_(n-1) + (k + 1) × U (Table 10.2), rounded up. -/
def transmit (r : Rate) (tailpm n k : Nat) : Nat :=
  cdiv (r.den * secU * ((n - 1) * 1000 * r.slots + (k + 1) * (1000 - tailpm))) (r.num * 1000 * r.slots)

/-- Receive deadline R_k = X_k + HOP. -/
def receive (r : Rate) (tailpm hop n k : Nat) : Nat := r.transmit tailpm n k + hop * 1000 * nsU

/-- Correction deadline C_k = R_k + CORW. -/
def correct (r : Rate) (tailpm hop corw n k : Nat) : Nat := r.receive tailpm hop n k + corw * 1000 * nsU

/-- Drive write start: max(D(n, k) - Ts, C_k). -/
def driveWrite (r : Rate) (tailpm hop corw n k : Nat) : Nat :=
  max (if n * r.slots + k = 0 then 0 else cdiv ((n * r.slots + k - 1) * r.den * secU) (r.num * r.slots))
    (r.correct tailpm hop corw n k)

end Rate

namespace State

/-- The timing in effect: DSP_NUM, DSP_DEN and DSP_STATUS.SACT. -/
def rate (s : State) : Rate := ⟨s.f F.DSP_NUM_NUM, s.f F.DSP_DEN_DEN, s.f F.DSP_STATUS_SACT⟩

/-- Boundaries exist: wall time has been set and a mode is in effect. -/
def framed (s : State) : Bool := s.timed && decide (0 < s.f F.DSP_NUM_NUM ∧ 0 < s.f F.DSP_DEN_DEN ∧ 0 < s.f F.DSP_STATUS_SACT)

/-- Does the shutter point of a commit lie at or before slot k of frame n?  It lies in the mode in effect at it, so it is its instant
that tells, but for the slots of one frame. -/
def dueBy (s : State) (c : Commit) (n k : Nat) : Bool :=
  decide (c.due < s.rate.frame n + s.tickU ∨ (c.n = n ∧ c.slot ≤ k ∧ c.due < s.rate.frame (n + 1)))

/-- The values in effect at slot k of frame n: the active view with every pending commit due by then applied (R226). [DEDUCED, log entry 61] -/
def viewAt (s : State) (n k : Nat) : RegFile :=
  (s.cmt.pend.filter fun c => s.dueBy c n k).foldl (fun r c => RegFile.applyStaged r c.snap) s.regs

/-- Work done under the values of a view: its staged fields stand in for those in effect meanwhile (R226). -/
def withView (s : State) (v : RegFile) (g : State → State) : State :=
  let t := g { s with regs := v }
  { t with regs := RegFile.applyStaged t.regs s.regs }

/-- The slot count in effect under a cap: min(SLOTS, CAP), CAP 0 counting as 8 (R403). -/
def capped (slots cap : Nat) : Nat := min slots (if cap = 0 then 8 else cap)

/-- The timing of frame n: pending commits and a slot cap due by then counted in (R221, R226, R403); a change of the rate itself
begins at J (R236). -/
def rateAt (s : State) (n : Nat) : Rate :=
  let v := s.viewAt n 0
  let cap := match s.thm.scapN with
    | some m => if m ≤ n then s.f F.THM_SCAP_CAP else s.f F.THM_STATUS_CAP
    | none => s.f F.THM_STATUS_CAP
  if (s.cmt.pend.any fun c => s.dueBy c n 0) || (s.thm.scapN.any fun m => decide (m ≤ n)) then
    match modeRate (v.fld F.DSP_MODE_INDEX) with
    | some (num, den) =>
      if num = s.rate.num ∧ den = s.rate.den then ⟨num, den, capped (v.fld F.DSP_MODE_SLOTS) cap⟩ else s.rate
    | none => s.rate
  else s.rate

/-- The values in effect at a wall-time count: every pending commit due by then counted in. -/
def viewBy (s : State) (t : Nat) : RegFile :=
  (s.cmt.pend.filter fun c => decide (c.due ≤ t)).foldl (fun r c => RegFile.applyStaged r c.snap) s.regs

/-- The wall-time count at which a slot cap that waits takes effect (R403). -/
def capPoint (s : State) : Option Nat := s.thm.scapN.map fun m => s.placed (s.rate.frame m)

/-- The mode and slot count in effect at a wall-time count (R221, R236, R403). -/
def rateFor (s : State) (t : Nat) : Rate :=
  let v := s.viewBy t
  let cap := if s.capPoint.any fun u => decide (u ≤ t) then s.f F.THM_SCAP_CAP else s.f F.THM_STATUS_CAP
  if (s.cmt.pend.any fun c => decide (c.due ≤ t)) || s.capPoint.any fun u => decide (u ≤ t) then
    match modeRate (v.fld F.DSP_MODE_INDEX) with
    | some (num, den) => ⟨num, den, capped (v.fld F.DSP_MODE_SLOTS) cap⟩
    | none => s.rate
  else s.rate

/-- The counts still to come at which the mode or the slot count may change, in order. -/
def ratePoints (s : State) : List Nat :=
  let cs := s.cmt.pend.map (·.due)
  match s.capPoint with
  | some u => cs.filter (fun t => decide (t < u)) ++ [u] ++ cs.filter fun t => decide (u ≤ t)
  | none => cs

/-- The instant of slot k of frame n of a timing; a slot it does not have counts as the frame boundary. -/
def boundaryOf (s : State) (r : Rate) (n k : Nat) : Nat := s.placed (if k < r.slots then r.slot n k else r.frame n)

/-- The frame in progress at the present wall time. -/
def frameNow (s : State) : Nat := s.rate.frameOf s.clk.wall

/-- The next frame boundary to take: the one that began within the last tick if it has not been taken, else the one after the
frame in progress (R222). -/
def nextFrame (s : State) : Nat :=
  let n := s.frameNow
  if s.dsp.lastN ≠ some n ∧ s.clk.wall < s.rate.frame n + s.tickU then n else n + 1

/-- The next slot boundary to take, as (frame, slot). -/
def nextSlot (s : State) : Nat × Nat :=
  let r := s.rate
  let j := s.clk.wall * r.num * r.slots / (r.den * secU)
  let at' : Nat → Nat × Nat := fun j => (j / r.slots, j % r.slots)
  if s.dsp.lastS ≠ some (at' j) ∧ s.clk.wall < r.slot (j / r.slots) (j % r.slots) + s.tickU then at' j else at' (j + 1)

/-- The full frame number of a 24-bit frame number: the first at or after `from` (R277, R258), within 2^23 frames ahead. -/
def resolve (base frame24 : Nat) : Option Nat :=
  let d := (frame24 + 2 ^ 24 - base % 2 ^ 24) % 2 ^ 24
  if d < 2 ^ 23 then some (base + d) else none

/-- PIPE fields in effect at frame n: TAILPM, HOP, CORW. -/
def pipeAt (s : State) (n : Nat) : Nat × Nat × Nat :=
  let v := s.viewAt n 0
  (v.fld F.DSP_PIPE0_TAILPM, v.fld F.DSP_PIPE0_HOP, v.fld F.DSP_PIPE1_CORW)

/-- The receive deadline of slot k of frame n. -/
def receiveAt (s : State) (n k : Nat) : Nat :=
  let (t, h, _) := s.pipeAt n
  (s.rateAt n).receive t h n k

/-- The action point A(D) = R(D) - 200 us of slot k of frame n (R229). -/
def actionPoint (s : State) (n k : Nat) : Nat := s.receiveAt n k - 200000 * nsU

/-- Is the frame an update frame under the reduced chain update rate (R227)? -/
def updateFrame (s : State) (n : Nat) : Bool := n % ((s.viewAt n 0).fld F.DSP_UPD_UDIVM1 + 1) == 0

/-- The wall time of a request held in an NS, SL and SH register group. -/
def reqTime (s : State) (ns sl sh : Nat) : Nat × Nat :=
  ((s.reg sl).toNat + 2 ^ 32 * ((s.reg sh).toNat % 2 ^ 16), (s.reg ns).toNat % 2 ^ 30)

/-- The first j from j0 upward, within `fuel` steps, that satisfies p. -/
def firstFrom (p : Nat → Bool) : Nat → Nat → Nat
  | 0, j => j
  | fuel + 1, j => if p j then j else firstFrom p fuel (j + 1)

/-- The first boundary of slot k at or after a count, in the timing in effect where it lies: its frame and its instant (R270). -/
def firstBoundary (s : State) (t k : Nat) : Nat × Nat :=
  let at' : Nat → Nat × Nat := fun t =>
    let r := s.rateFor t
    let n := firstFrom (fun n => decide (t ≤ s.boundaryOf r n k)) 4 (r.frameOf t - 1)
    (n, s.boundaryOf r n k)
  (s.ratePoints.filter fun u => decide (t < u)).foldl (fun x u => if x.2 < u then x else at' u) (at' t)

/-- The first boundary of slot k with this 24-bit frame number, within 2^23 frames ahead, in the timing in effect where it lies (R277). -/
def resolveBoundary (s : State) (n24 k : Nat) : Option (Nat × Nat) :=
  let at' : Nat → Option (Nat × Nat) := fun t =>
    let r := s.rateFor t
    (resolve (r.frameOf t) n24).map fun n => (n, s.boundaryOf r n k)
  (s.ratePoints.filter fun u => decide (s.clk.wall < u)).foldl
    (fun x u => if x.any fun y => decide (y.2 < u) then x else at' u) (at' s.clk.wall)

/-- R229: the effective boundary of an action requested for time T at the present instant, as (frame, slot, late). -/
def effective (s : State) (sec ns : Nat) : Nat × Nat × Bool :=
  let r := s.rate
  let q := s.clk.wall
  let t := countOf sec ns
  if q < t then
    let j0 := cdiv (t * r.num * r.slots) (r.den * secU)
    let j := firstFrom (fun j => decide (q ≤ s.actionPoint (j / r.slots) (j % r.slots))) (4 * r.slots) j0
    (j / r.slots, j % r.slots, decide (j ≠ j0))
  else
    let n := firstFrom (fun n => decide (q ≤ s.actionPoint n 0)) 8 (r.frameOf q + 1)
    (n, 0, false)

end State

end Sys2Proof.Machine
end

