-- ==== Sys2Proof/Machine/Waleth.lean ====
section
/-! DEFINITION. Waleth frames on the wire (R194 to R197, R445, Tables 09.1 to 09.4): building a frame, judging a received block,
and handing frames to a port. -/

namespace Sys2Proof.Machine

/-- A Waleth frame before its check fields: TSPEC is ten bytes. -/
structure WFrame where
  typ : Nat
  sflags : Nat
  tag : Nat
  dst : Nat
  src : Nat
  tspec : List Byte
  payload : List Byte
deriving DecidableEq, Repr

/-- Bytes 0 to 17 of a frame. -/
def WFrame.head (w : WFrame) : List Byte :=
  [BitVec.ofNat 8 w.typ, BitVec.ofNat 8 w.sflags] ++ leBytes 2 (w.tag % 4096) ++
    [BitVec.ofNat 8 (w.dst % 128), BitVec.ofNat 8 (w.src % 128)] ++ leBytes 2 (w.payload.length % 2048) ++ padTo 10 w.tspec

/-- Bytes 0 to 2,019: the header with HCRC, the payload and the pad. -/
def WFrame.body (w : WFrame) : List Byte :=
  padTo 2020 (w.head ++ leBytes 2 (crc16 w.head).toNat ++ w.payload)

/-- The 2,024 bytes of a frame (R196). -/
def WFrame.bytes (w : WFrame) : List Byte := w.body ++ leBytes 4 (crc32 w.body).toNat

/-- The 2,024 bytes of a frame ended poisoned: its FCS is the bitwise complement of the correct value (R196, R99). -/
def WFrame.poisoned (w : WFrame) : List Byte := w.body ++ leBytes 4 (~~~ crc32 w.body).toNat

/-- A free block (R194). -/
def freeBlock : List Byte := List.replicate 2024 0

/-- The fields of a received block, whatever its checks say. -/
def parseFrame (b : List Byte) : WFrame :=
  let len := numAt b 6 2 % 2048
  { typ := numAt b 0 1, sflags := numAt b 1 1, tag := numAt b 2 2 % 4096, dst := numAt b 4 1 % 128, src := numAt b 5 1 % 128,
    tspec := padTo 10 (slice b 8 10), payload := slice b 20 len }

/-- The LEN field of a received block. -/
def frameLen (b : List Byte) : Nat := numAt b 6 2 % 2048

/-- Bytes of a segment of `pixels` P42 pixels, and its video frames (R201). -/
def segBytes (pixels : Nat) : Nat := 4 * cdiv (42 * pixels) 32
def segFrames (pixels : Nat) : Nat := cdiv (segBytes pixels) 2000

/-- The LEN of video frame `k` of a segment (R201). -/
def videoLen (pixels k : Nat) : Nat :=
  if k + 1 = segFrames pixels then segBytes pixels - 2000 * (segFrames pixels - 1) else 2000

/-- Fields of the video TSPEC (Table 09.4). -/
def WFrame.vFrame (w : WFrame) : Nat := leVal (w.tspec.take 3)
def WFrame.vSlot (w : WFrame) : Nat := numAt w.tspec 3 1 % 8
def WFrame.vSuspect (w : WFrame) : Bool := (numAt w.tspec 3 1).testBit 3
def WFrame.vPixels (w : WFrame) : Nat := numAt w.tspec 4 3 % 2 ^ 20 + 1
def WFrame.vDerate (w : WFrame) : Nat := numAt w.tspec 8 2

/-- Is the TYPE one of Table 09.2? -/
def typeKnown (t : Nat) : Bool :=
  [0x01, 0x02, 0x03, 0x04, 0x05, 0x0F, 0x10, 0x20, 0x30, 0x40, 0x50, 0x51, 0x70].contains t ||
  decide (0x80 ≤ t ∧ t ≤ 0x8F) || decide (0xF0 ≤ t ∧ t ≤ 0xFF)

/-- Does the content break R445?  `tilePixels` is W × H at a Tile, none elsewhere. -/
def malformedContent (w : WFrame) (len : Nat) (tilePixels : Option Nat) : Bool :=
  let ts := fun i => numAt w.tspec (i - 8) 1
  decide (97 ≤ w.dst ∧ w.dst ≤ 124) ||
  ((w.typ == 0x50 || w.typ == 0x40) && w.dst == 127) ||
  ([0x01, 0x03, 0x04, 0x05, 0x0F, 0x70].contains w.typ && len != 0) ||
  (w.typ == 0x01 && decide (1 < ts 8)) || (w.typ == 0x02 && decide (1 < ts 8)) ||
  (w.typ == 0x03 && decide (1 < ts 9)) || (w.typ == 0x05 && ts 8 != 1 && ts 8 != 2) ||
  (w.typ == 0x70 && ts 8 != 1) ||
  (w.typ == 0x50 && ts 8 != 1 && ts 8 != 2) ||
  (w.typ == 0x50 && ts 8 == 1 && len % 8 != 0) ||
  (w.typ == 0x50 && ts 8 == 2 && (len % 4 != 0 || decide (1000 < len))) ||
  (w.typ == 0x30 && w.tag == 0x100 && decide (ts 10 < 1 ∨ 4 < ts 10)) ||
  (w.typ == 0x20 && len != 16) ||
  (w.typ == 0x10 && (decide (segFrames w.vPixels ≤ w.tag) || len != videoLen w.vPixels w.tag ||
    tilePixels.any fun p => p != w.vPixels)) ||
  decide (0x8A ≤ w.typ ∧ w.typ ≤ 0x8F)

/-- What a received block is (R194, R196). -/
inductive Judged where
  | free | headerError | poisoned | fcsError | malformed | good
deriving DecidableEq, Repr

/-- Judge a received block in the order of R196; `bad` marks a block of which a lane block failed (R174). -/
def judge (b : List Byte) (bad : Bool) (tilePixels : Option Nat) : Judged :=
  if b.all (· == 0) then .free
  else if crc16 (b.take 18) ≠ BitVec.ofNat 16 (numAt b 18 2) then .headerError
  else if BitVec.ofNat 32 (numAt b 2020 4) = ~~~ crc32 (b.take 2020) then .poisoned
  else if BitVec.ofNat 32 (numAt b 2020 4) ≠ crc32 (b.take 2020) || bad then .fcsError
  else if numAt b 0 1 = 0 || decide (2000 < frameLen b) || !typeKnown (numAt b 0 1) ||
      malformedContent (parseFrame b) (frameLen b) tilePixels then .malformed
  else .good

namespace State

/-- Change one lane port. -/
def lanP (s : State) (p : Nat) (g : LanPort → LanPort) : State := { s with lan := { s.lan with ports := tabMod s.lan.ports p g } }

/-- One lane port. -/
def port (s : State) (p : Nat) : LanPort := tabAt s.lan.ports p {}

/-- Hand a block to a port, to be sent in its turn; a port in electrical idle sends nothing. [DEDUCED, log entry 71] -/
def sendBlock (s : State) (p : Nat) (b : List Byte) : State :=
  if (s.port p).idle || (s.port p).loopIn != 0 then s else s.lanP p fun l => { l with txq := l.txq ++ [b] }

/-- Hand a block to each of several ports. -/
def sendAll (s : State) (ps : List Nat) (b : List Byte) : State := ps.foldl (fun s p => s.sendBlock p b) s

/-- SFLAGS of a frame this sender originates (Table 09.1, Table 15.1): PRI, MST and ABD. -/
def sflags (s : State) : Nat :=
  if !s.isSender then 0
  else
    let st := s.f F.PAR_STATUS_PSTATE
    let pri := !s.present .PAR || st == 1 || st == 2
    let mst := s.on F.CMC_STATUS_MASTER
    pri.toNat + 2 * mst.toNat + 4 * (s.present .PAR && s.on F.PAR_STATUS_ABD).toNat

/-- This device's chain address. -/
def addr (s : State) : Nat := s.f F.CMC_ADDR_ADDR

/-- A frame this device originates. -/
def mkFrame (s : State) (typ tag dst : Nat) (tspec payload : List Byte) : WFrame :=
  { typ := typ, sflags := s.sflags, tag := tag, dst := dst, src := s.addr, tspec := tspec, payload := payload }

end State

end Sys2Proof.Machine
end

