-- ==== Sys2Proof/Machine/WallTime.lean ====
section
/-! DEFINITION. Wall time (chapter 11): domains, measurements, steps, PTP messages, timestamp queues, the Ethernet port, the sync
reference, timed outputs and capture inputs. -/

namespace Sys2Proof.Machine

namespace Ptp

/-- A 10-byte PTP timestamp: 48-bit seconds and 32-bit nanoseconds, big-endian. -/
def stampBytes (t : Nat) : List Byte := beBytes 6 (State.secOf t) ++ beBytes 4 (State.nsOf t)

/-- The count of a PTP timestamp at offset `o` of a message. -/
def stampAt (m : List Byte) (o : Nat) : Nat := State.countOf (beVal (slice m o 6)) (beVal (slice m (o + 6) 4))

/-- [PRESUMED, log entry 11] -/
def mtype (m : List Byte) : Nat := numAt m 0 1 % 16
def domain (m : List Byte) : Nat := numAt m 4 1
def twoStep (m : List Byte) : Bool := (numAt m 6 1).testBit 1
/-- correctionField in units of 2^-31 ns (it counts 2^-16 ns). -/
def correction (m : List Byte) : Int := sgn 64 (beVal (slice m 8 8)) * 2 ^ 15
def sender (m : List Byte) : Nat := beVal (slice m 20 8)
def sourcePort (m : List Byte) : List Byte := slice m 20 10
def seqId (m : List Byte) : Nat := beVal (slice m 30 2)
def logInterval (m : List Byte) : Int := sgn 8 (numAt m 33 1)

/-- The priority vector of an Announce: priority1, clock quality, priority2, identity and stepsRemoved, lower is better. [PRESUMED, log entry 11] -/
def vector (m : List Byte) : Nat :=
  beVal (slice m 47 1 ++ slice m 48 4 ++ slice m 52 1 ++ slice m 53 8 ++ slice m 61 2)

/-- The grandmaster identity of an Announce. -/
def gmIdentity (m : List Byte) : Nat := beVal (slice m 53 8)

/-- A message: the common header of IEEE 1588-2019 and a body. -/
def build (mt dom seq : Nat) (flags : Nat) (corr : Int) (logInt : Int) (ident : Nat) (portNo : Nat) (body : List Byte) : List Byte :=
  [BitVec.ofNat 8 mt, 0x02] ++ beBytes 2 (34 + body.length) ++ [BitVec.ofNat 8 dom, 0] ++ beBytes 2 flags ++
    beBytes 8 (twos 64 corr) ++ List.replicate 4 0 ++ beBytes 8 ident ++ beBytes 2 portNo ++ beBytes 2 seq ++
    [0, BitVec.ofNat 8 (twos 8 logInt)] ++ body

/-- Which event or general port a message uses over UDP (R245): messageTypes 0 to 7 are event messages. -/
def udpPort (mt : Nat) : Nat := if mt < 8 then 319 else 320

/-- The destination address of a message: that of IPv4 group 224.0.1.129, or those of the IEEE 802.3 transport (R245). [PRESUMED, log entry 11] -/
def etherDst (ieee : Bool) (mt : Nat) : Nat :=
  if !ieee then 0x01005E000181 else if mt = 2 ∨ mt = 3 ∨ mt = 10 then 0x0180C200000E else 0x011B19000000

/-- The 16-bit words of an IPv4 header added up. -/
def wordSum : List Byte → Nat
  | a :: b :: r => a.toNat * 256 + b.toNat + wordSum r
  | [a] => a.toNat * 256
  | [] => 0

/-- The ones' complement sum of an IPv4 header. [PRESUMED, log entry 11] -/
def onesSum (h : List Byte) : Nat := let n := wordSum h; let n := n % 2 ^ 16 + n / 2 ^ 16; n % 2 ^ 16 + n / 2 ^ 16

/-- The IPv4 and UDP headers before a message of `len` bytes; `v` holds what the spec leaves open: TOS, identification, TTL and the UDP
checksum. [PRESUMED, log entry 11] -/
def udpHead (ip port len v : Nat) : List Byte :=
  let h := fun c => [0x45, BitVec.ofNat 8 v] ++ beBytes 2 (len + 28) ++ beBytes 2 (v / 2 ^ 8) ++ [0, 0, BitVec.ofNat 8 (v / 2 ^ 24), 17] ++
    beBytes 2 c ++ beBytes 4 ip ++ beBytes 4 0xE0000181
  h (2 ^ 16 - 1 - onesSum (h 0)) ++ beBytes 2 port ++ beBytes 2 port ++ beBytes 2 (len + 8) ++ beBytes 2 (v / 2 ^ 32)

/-- The message in an IPv4 packet to 224.0.1.129 with a whole header, to the port of its type (R245). [PRESUMED, log entry 11] -/
def fromUdp (p : List Byte) : Option (List Byte) :=
  let ihl := numAt p 0 1 % 16 * 4
  let u := p.drop ihl
  let m := (u.drop 8).take (beVal (slice u 4 2) - 8)
  if numAt p 0 1 / 16 = 4 ∧ 20 ≤ ihl ∧ onesSum (p.take ihl) = 2 ^ 16 - 1 ∧ numAt p 9 1 = 17 ∧ beVal (slice p 16 4) = 0xE0000181 ∧
      beVal (slice u 2 2) = udpPort (mtype m) then some m else none

end Ptp

namespace State

/-- One domain's private state. -/
def dom (s : State) (d : Nat) : Domain := tabAt s.tim.doms d {}
def setDom (s : State) (d : Nat) (g : Domain → Domain) : State := { s with tim := { s.tim with doms := tabMod s.tim.doms d g } }

/-- The time source followed: TIM_SRC.SRC, or the source R242 gives a device with no role. -/
def source (s : State) : Nat :=
  if s.role ≠ 0 then s.f F.TIM_SRC_SRC
  else if !s.part7440 || s.on (F.LAN_P_STAT_CLKDET 0) then 3 else 0

/-- What a domain measures under the source (Table 11.1): the lane port (0 to 8), the Ethernet port (9) or the sync reference (10), and
the PTP domain number there; none where the source does not use the domain. -/
def domMeans (s : State) (d : Nat) : Option (Nat × Nat) :=
  let second := fun n => if s.on F.TIM_SRC_EN_B then some (9, s.f n) else none
  match s.source, d with
  | 1, 0 => some (9, s.f F.TIM_SRC_DOMA)
  | 1, 1 => second F.TIM_SRC_DOMB
  | 2, 0 => some (10, 0)
  | 3, _ => if d < 2 then some (d, 0) else none
  | 4, 0 => some (8, 0)
  | 2, 1 | 4, 1 => second F.TIM_SRC_DOMA
  | _, _ => none

/-- The domain that a message received on lane port `p` (0 to 8) or the Ethernet port (9) belongs to (Table 11.1). -/
def domainOf (s : State) (p domNum : Nat) : Option Nat :=
  (List.range 2).find? fun d => s.domMeans d == some (p, if p = 9 then domNum else 0)

/-- The active domain. -/
def active (s : State) : Nat := s.f F.TIM_STATUS_ACTD

/-- The rate limit of SLEWMAX in units of 2^-32 (R240). -/
def rateLimit (s : State) : Int := (s.f F.TIM_SERVO_SLEWMAX * 2 ^ 32 / 1000000000 : Nat)

/-- RATE within the limit now in force: |RATE| never exceeds SLEWMAX (R240). -/
def rateFit (s : State) : State :=
  let r := s.fS F.TIM_RATE_RATE
  if r.natAbs ≤ s.rateLimit.natAbs then s else s.setF F.TIM_RATE_RATE (twos 32 (sat r (-s.rateLimit) s.rateLimit))

/-- TSTATE becomes Holdover (R244): event 277; a tile's RATE is 0 and a Sender keeps its last averaged RATE, an average the spec does not
define. [DESIGN CHOICE, log entry 7] -/
def enterHoldover (s : State) : State :=
  let s := ({ (s.setF F.TIM_STATUS_TSTATE 4) with tim := { s.tim with holdTold := false } }).raise 277
  if s.isTile then s.setF F.TIM_RATE_RATE 0
  else
    let (v, s) := s.takeFree 32
    s.setF F.TIM_RATE_RATE (twos 32 (sat (sgn 32 v) (-s.rateLimit) s.rateLimit))

/-- Form TSTATE afresh from the active domain (R244), with the events of entering Locked and Holdover. -/
def formTstate (s : State) : State :=
  let old := s.f F.TIM_STATUS_TSTATE
  if old = 0 ∨ s.source = 0 then s
  else
    let new := match s.f (F.TIM_DOM_STAT_DSTATE s.active) with
      | 1 => 2 | 2 => 3 | 3 => 4 | 4 => 4 | _ => old
    if new = old then s
    else if new = 4 then s.enterHoldover
    else
      let s := s.setF F.TIM_STATUS_TSTATE new
      if new = 3 then
        ({ (s.setF F.TIM_STATUS_SBY 0) with tim := { s.tim with anyStep := false, holdTold := false } }).raise 276
      else { s with tim := { s.tim with holdTold := false } }

/-- A domain changes state (events 278 and 279). [DESIGN CHOICE, log entry 8] -/
def domState (s : State) (d st : Nat) : State :=
  if s.f (F.TIM_DOM_STAT_DSTATE d) = st then s
  else ((s.setF (F.TIM_DOM_STAT_DSTATE d) st).raise (278 + d)).formTstate

/-- Domains whose meaning has changed with the source are Off, with nothing left of what they measured before (R243); with the active one
unused the other is active. [DEDUCED, log entry 197] -/
def domainsFit (old s : State) : State :=
  let s := (List.range 2).foldl (fun s d =>
    if old.domMeans d = s.domMeans d then s
    else ((s.setDom d fun _ => {}).setF (F.TIM_DOM_STAT_LOCKCNT d) 0).domState d 0) s
  if s.active = 1 && (s.domMeans 1).isNone && (s.domMeans 0).isSome then ((s.setF F.TIM_STATUS_ACTD 0).raise 282).formTstate else s

/-- Set the pin level of a timed output. -/
def drive (s : State) (t : Nat) (level : Bool) : State :=
  (s.setF (F.TIM_OUT_STAT_LEVEL t) level.toNat).emit (.timedOut t level)

/-- Where the next edge of an output stands, when a step or a one-shot's start has placed it. -/
def setEdge (s : State) (t : Nat) (u : Option Nat) : State := { s with tim := { s.tim with edgeAt := setAt s.tim.edgeAt t fun _ => u } }

/-- START of an output's program as a count. -/
def outStart (s : State) (t : Nat) : Nat :=
  countOf ((s.reg (R.TIM_OUT_START_SL t)).toNat + 2 ^ 32 * s.f (F.TIM_OUT_START_SH_SEC t)) (s.f (F.TIM_OUT_START_NS_NS t))

/-- PERIOD of an output's program in units of the count (R261). -/
def outPeriod (s : State) (t : Nat) : Nat := s.f (F.TIM_OUT_PER_NS_NS t) * nsU + s.f (F.TIM_OUT_PER_FR_FR t) * 2 ^ 15

/-- Does the camera trigger t have an instant: its slot exists, and no change of mode keeps it inactive until J (R228, R236)? -/
def triggerLive (s : State) (t : Nat) : Bool :=
  decide (s.f (F.DSP_TRIG_CTL_SLOT t) < s.rate.slots) && !(s.dsp.joinN.any fun j => decide (s.clk.wall < s.rate.frame j))

/-- A one-shot program's pulse begins: its end is WID later (R261). -/
def fireOnce (s : State) (t : Nat) : State :=
  let s := { s with tim := { s.tim with fired := setAt s.tim.fired t fun _ => true } }
  (s.setEdge t (some (s.clk.wall + s.f (F.TIM_OUT_WID_WID t) * nsU))).drive t (!s.on (F.TIM_OUT_CTL_POL t))

/-- The instant of camera trigger t in frame n (R228). -/
def triggerAt (s : State) (t n : Nat) : Nat := ((s.rate.slot n (s.f (F.DSP_TRIG_CTL_SLOT t)) : Int) + s.fS (F.DSP_TRIG_OFS_OFFSET t) * nsU).toNat

/-- Is frame n one of camera trigger t's? -/
def triggerHit (s : State) (t n : Nat) : Bool := n % (s.f (F.DSP_TRIG_CTL_DIVM1 t) + 1) == s.f (F.DSP_TRIG_CTL_PHASE t)

/-- The first boundary, of any slot, at or after a count: its frame, its slot and its instant. -/
def boundaryAfter (s : State) (t : Nat) : Nat × Nat × Nat :=
  let at' := fun k => let b := s.firstBoundary t k; (b.1, k, b.2)
  (List.range s.rate.slots).foldl (fun b k => let c := at' k; if c.2.2 < b.2.2 then c else b) (at' 0)

/-- What a step passes over, its count having moved from `t0` to now (R257): a one-shot output fires at the step; a trigger fires, and a
commit takes effect, at the first boundary after it, a heavy commit at the first frame boundary. [DEDUCED, log entry 198] -/
def passOver (s : State) (t0 : Nat) : State :=
  let passed := fun t => decide (t0 ≤ t ∧ t < s.clk.wall)
  let b := s.boundaryAfter s.clk.wall
  let s := (List.range 8).foldl (fun s t =>
    if s.on (F.DSP_TRIG_CTL_EN t) && s.role != 0 then
      let n := firstFrom (fun n => s.triggerHit t n && decide (t0 ≤ s.triggerAt t n)) 64 (s.rate.frameOf t0 - 2)
      if s.triggerLive t && s.on (F.TIM_OUT_STAT_LEVEL t) == s.on (F.DSP_TRIG_CTL_POL t) && passed (s.triggerAt t n) then s.setEdge t (some b.2.2)
      else s
    else if s.f (F.TIM_OUT_CTL_MODE t) = 1 && !s.tim.fired.getD t false && passed (s.outStart t) then s.fireOnce t
    else s) s
  let move := fun (c : Commit) =>
    if !passed c.due then c
    else if c.heavy then let f := s.firstBoundary s.clk.wall 0; { c with n := f.1, slot := 0, due := f.2 }
    else { c with n := b.1, slot := b.2.1, due := b.2.2 }
  { s with cmt := { s.cmt with pend := s.cmt.pend.map move, checking := s.cmt.checking.map move } }

/-- The count jumps by `delta` units (R257); once the first commit has taken effect, what the jump passes over follows it. -/
def jump (s : State) (delta : Int) : State :=
  let t0 := s.clk.wall
  let s := { s with clk := { s.clk with wall := ((t0 : Int) + delta).toNat }, dsp := { s.dsp with lastN := none, lastS := none } }
  if s.framed && s.on F.DSP_STATUS_RUN then s.passOver t0 else s

/-- The FRAME a step's boundary is named by. -/
def noteStep (s : State) (n : Nat) : State := s.setF F.TIM_STEP_FRM_FRAME (n % 2 ^ 24)

/-- The step notice of R258: TAG 0x101, the boundary's FRAME and the step in ns as a signed 56-bit number. -/
def stepNotice (s : State) (n : Nat) (delta : Int) : List Byte :=
  (s.mkFrame 0x30 0x101 127 (leBytes 3 (n % 2 ^ 24) ++ leBytes 7 (twos 56 (delta / 2 ^ 31))) []).bytes

/-- A Sender tells of the step it has scheduled (R258): the notice goes out on every chain port in use and the pair link, and a second time. -/
def announceStep (s : State) (n : Nat) (delta : Int) : State :=
  let b := s.stepNotice n delta
  let s := s.sendAll (s.portsOn ++ (if s.present .PAR then [8] else [])) b
  { s with tim := { s.tim with noticeCopies := s.tim.noticeCopies ++ [b] } }

/-- The first frame boundary at least three frames on (R257). -/
def stepFrame (s : State) : Nat :=
  let n := s.frameNow
  if s.clk.wall < s.rate.frame n + s.tickU then n + 3 else n + 4

/-- Apply a step of `delta` units (R257): before the first commit has taken effect at once, afterwards at the first frame
boundary at least three frames on, which a Sender announces (R258). -/
def applyStep (s : State) (delta : Int) : State :=
  if !s.on F.DSP_STATUS_RUN || !s.framed then ((s.jump delta).noteStep s.frameNow).raise 281
  else
    let n := s.stepFrame
    let s := { s with tim := { s.tim with stepAt := some ⟨delta, n, false⟩ } }
    if s.isSender then s.announceStep n delta else s

/-- Make the other domain active when it is Locked and within THR of the counter (R249, R256); the result says whether. -/
def switchDomain (s : State) : Bool × State :=
  let o := 1 - s.active
  if s.f (F.TIM_DOM_STAT_DSTATE o) = 2 ∧ (s.fS (F.TIM_DOM_OFS_OFS o)).natAbs ≤ s.f F.TIM_STEP_THR * 256 then
    (true, ((s.setF F.TIM_STATUS_ACTD o).raise 282).formTstate)
  else (false, s)

/-- A step of the active domain under POLICY (R256). -/
def stepPolicy (s : State) (d : Nat) (offset : Int) : State :=
  let refuse := fun (s : State) =>
    ((s.setPair R.TIM_STEP_PEND_LO R.TIM_STEP_PEND_HI (twos 64 (offset / 2 ^ 31))).setF F.TIM_STATUS_STEPPEND 1).raise 280 |>.domState d 4
  match s.f F.TIM_SRC_POLICY with
  | 0 => refuse s
  | 1 => let (ok, s) := s.switchDomain; if ok then s else s.applyStep (-offset)
  | _ => let (ok, s) := s.switchDomain; if ok then s else refuse s

/-- The servo's correction for an offset within THR (R255): a second-order loop of a proportional and an integral part.  With a damping of
1 the integral gain is a quarter of the square of the proportional one, which the bandwidth fixes; the correction is clamped to ±SLEWMAX
(R240). [DESIGN CHOICE, log entry 7] -/
def slew (s : State) (offset : Int) : State :=
  let g : Nat := Config.servoGain (s.f F.TIM_SERVO_BW)
  let dt := s.clk.now - s.tim.servoAt
  let integ := s.tim.integ + (g * g * dt : Nat) * offset / (4 * secU * 1000000000 : Nat)
  let s := { s with tim := { s.tim with integ := integ, servoAt := s.clk.now } }
  s.setF F.TIM_RATE_RATE (twos 32 (sat (-((g * 2 ^ 16 : Nat) * offset / (secU : Nat) + integ)) (-s.rateLimit) s.rateLimit))

/-- Q23.8 nanoseconds of a time in units of 2^-31 ns. -/
def q8 (x : Int) : Nat := twos 32 (x / 2 ^ 23)

/-- A valid measurement of domain `d`: its offset and mean path delay in units of 2^-31 ns (R243, R255, R256); nothing while the Time
core, which runs the servo, does not run its image (Tables 16.1 and 16.7). [DESIGN CHOICE, log entry 8; DEDUCED, log entry 136; DEDUCED, log entry 209] -/
def measure (s : State) (d : Nat) (offset mpd : Int) (lockable : Bool) : State :=
  if !(s.f F.MGT_STATUS_RUNNING).testBit 2 then s
  else
  let s := (s.setF (F.TIM_DOM_OFS_OFS d) (q8 offset)).bump (F.TIM_DOM_MEAS_COUNT d)
  let s := s.setDom d fun x => { x with mpd := mpd }
  let isAct := d == s.active
  let s := if isAct then (s.setF F.TIM_OFFSET_OFS (q8 offset)).setF F.TIM_MPD_MPD (twos 32 (mpd / 2 ^ 23)) else s
  let thr : Int := (s.f F.TIM_STEP_THR * nsU : Nat)
  let lock : Int := (s.f F.TIM_STEP_LOCKTH * nsU : Nat)
  let inLock := decide (offset.natAbs ≤ lock)
  let inThr := decide (offset.natAbs ≤ thr)
  let cnt := if inLock then min (s.f (F.TIM_DOM_STAT_LOCKCNT d) + 1) 255 else 0
  let s := s.setF (F.TIM_DOM_STAT_LOCKCNT d) cnt
  let s := s.setDom d fun x => { x with past := if inLock then 0 else x.past + 1, within := if inThr then x.within + 1 else 0 }
  let s := if inThr then s else s.bump (F.TIM_DOM_STEPS_COUNT d)
  let st := s.f (F.TIM_DOM_STAT_DSTATE d)
  let s :=
    if st = 0 ∨ st = 3 then s.domState d 1
    else if st = 2 ∧ 4 ≤ (s.dom d).past then s.domState d 1
    else if st = 4 ∧ 8 ≤ (s.dom d).within then (s.setF F.TIM_STATUS_STEPPEND 0).domState d 1
    else s
  let s := if lockable && decide (16 ≤ cnt) && s.f (F.TIM_DOM_STAT_DSTATE d) != 4 then s.domState d 2 else s
  if !isAct then s
  else if s.f F.TIM_STATUS_TSTATE = 0 ∨ s.tim.anyStep then
    if inThr && s.timed then s.slew offset
    else
      let s := if inThr then s.slew offset else ((s.jump (-offset)).noteStep s.frameNow).raise 281
      (if s.timed then s else s.setF F.TIM_STATUS_TSTATE 2).formTstate
  else if inThr then s.slew offset
  else if s.tim.stepAt.isSome then s
  else s.stepPolicy d offset

/-- A step notice pending or just past (STEPN of R247, R258). -/
def stepN (s : State) : Bool := s.tim.stepAt.isSome || decide (s.clk.now < s.tim.stepnUntil)

/-- The Time core takes the oldest entries off the timestamp queue of a port (R253): how many by now, the spec leaves open. [DESIGN CHOICE, log entry 199] -/
def drainQueue (s : State) (p : Nat) : State :=
  let q := tabAt s.tim.queues p []
  if q.isEmpty || !(s.f F.MGT_STATUS_RUNNING).testBit 2 then s
  else
    let (v, s) := s.takeFree 7
    { s with tim := { s.tim with queues := tabMod s.tim.queues p fun _ => q.drop (v % (q.length + 1)) } }

/-- Take a timestamp of a PTP event message at port `p` (R250, R251, R253): the count less TIM_Pp_ASYM, put into the queue where it
has room; the second component says whether it was kept.  A drop spoils the exchanges of the port's domains. [DESIGN CHOICE, log entry 19] -/
def stamp (s : State) (p : Nat) (tx : Bool) (seq mt d domNum : Nat) : Int × Bool × State :=
  let t : Int := (s.clk.wall : Int) - s.fS (F.TIM_P_ASYM_ASYM p) * 2 ^ 31 / 1000
  let s := (s.bump (F.TIM_P_TSCNT_COUNT p)).drainQueue p
  let q := tabAt s.tim.queues p []
  if q.length < 64 then
    let e : TsEntry := ⟨secOf t.toNat, nsOf t.toNat, frOf t.toNat, seq % 2 ^ 16, mt, tx, d, domNum⟩
    (t, true, { s with tim := { s.tim with queues := tabMod s.tim.queues p fun _ => q ++ [e] } })
  else
    let was := s.on (F.TIM_P_TSQ_OVF p)
    let s := ((s.bump (F.TIM_P_TSDROP_COUNT p)).setF (F.TIM_P_TSQ_OVF p) 1).raiseIf (!was) 283
    (t, false, (List.range 2).foldl (fun s k =>
      if (s.domMeans k).any (fun m => m.1 == p) then s.setDom k fun x => { x with dropped := true, reqBad := x.req.isSome } else s) s)

/-- The Delay_Req or Pdelay_Req of a domain has left with its stamp, or with none (R250, R253). -/
def setReq (s : State) (d q : Nat) (t3 : Int) (kept : Bool) : State :=
  s.setDom d fun x => { x with req := if kept then some (q, t3) else none, reqBad := x.dropped }

/-- A timestamp that was not kept: the frame is still answered, with a time the spec does not state (R248, R253). [DESIGN CHOICE, log entry 199] -/
def stampOr (s : State) (t : Int) (kept : Bool) : Int × State :=
  if kept then (t, s) else let (v, s) := s.takeFree 96; ((v : Int), s)

/-- The device's own clockIdentity. [DESIGN CHOICE, log entry 12] -/
def ident (s : State) : Nat := Config.clockIdentity s.fuses.unitId.toNat % 2 ^ 64

/-- A Sync of domain `d` has its origin time: keep it for the exchange; on the Ethernet port with a mean path delay measured peer to
peer, or at a tile with no address, it is a measurement by itself (R243, R245, R248). -/
def takeSync (s : State) (d seq : Nat) (t1 t2 : Int) (stepn : Bool) : State :=
  let s := s.setDom d fun x => { x with sync := some (seq, t1, t2), stepn := stepn, dropped := false }
  let peer := s.on F.TIM_SRC_DELAYM && (s.dom d).peer && (s.domMeans d).any fun m => m.1 == 9
  if s.source = 3 ∧ s.addr = 126 then s.measure d (t2 - t1 - (s.dom d).mpd) (s.dom d).mpd false
  else if peer then s.measure d (t2 - t1 - (s.dom d).mpd) (s.dom d).mpd true
  else s

/-- A tile sees a step offset in a Sync with STEPN = 1 that it had no notice of: it steps at its next frame boundary (R258). -/
def missedNotice (s : State) (d : Nat) (offset : Int) : State :=
  if s.isTile && d == s.active && (s.dom d).stepn && s.tim.stepAt.isNone &&
      decide ((s.f F.TIM_STEP_THR * nsU : Nat) < offset.natAbs) && s.framed then
    { s with tim := { s.tim with stepAt := some ⟨-offset, s.nextFrame, true⟩ } }
  else s

/-- The exchange of domain `d` completes with the receipt time t4 of its Delay_Req (R243, R255). -/
def takeResp (s : State) (d : Nat) (t4 : Int) (logInt : Int) : State :=
  let x := s.dom d
  match x.sync, x.req with
  | some (_, t1, t2), some (_, t3) =>
    let s := s.setDom d fun x => { x with req := none, logInt := logInt }
    if x.dropped || x.reqBad then s
    else
      let offset := ((t2 - t1) - (t4 - t3)) / 2
      let mpd := ((t2 - t1) + (t4 - t3)) / 2
      let missed := s.missedNotice d offset
      if missed.tim.stepAt = s.tim.stepAt then s.measure d offset mpd true else missed
  | _, _ => s.setDom d fun x => { x with req := none, logInt := logInt }

/-- An Announce of domain `d`: the best one is taken (R245), and a change of transmitter raises event 290. [PRESUMED, log entry 11] -/
def takeAnnounce (s : State) (d : Nat) (m : List Byte) : State :=
  let v := Ptp.vector m
  let better := match (s.dom d).gm with
    | none => true
    | some (w, src) => decide (v < w) || src == Ptp.sender m
  if !better then s
  else
    let old := s.pair (R.TIM_DOM_GMID_LO d) (R.TIM_DOM_GMID_HI d)
    let s := s.setDom d fun x => { x with gm := some (v, Ptp.sender m) }
    let s := s.setPair (R.TIM_DOM_GMID_LO d) (R.TIM_DOM_GMID_HI d) (Ptp.gmIdentity m)
    s.raiseIf (old != Ptp.gmIdentity m) 290

/-- Is a message from the transmitter taken for the domain (or is none taken yet)? -/
def fromGm (s : State) (d : Nat) (m : List Byte) : Bool :=
  match (s.dom d).gm with
  | none => true
  | some (_, src) => src == Ptp.sender m

/-- A Sync arrives at port `p` (R247, R250): it is stamped and, unless its sender's time is unlocked, taken. [PRESUMED, log entry 11] -/
def syncRx (s : State) (p : Nat) (m : List Byte) (stepn unlock : Bool) : State :=
  let num := if p = 9 then Ptp.domain m else 0
  let d := s.domainOf p num
  let (t2, kept, s) := s.stamp p false (Ptp.seqId m) 0 (d.getD 0) num
  match d with
  | none => s
  | some d =>
    if !kept || unlock || (p = 9 && !s.fromGm d m) then s
    else if Ptp.twoStep m && p = 9 then s.setDom d fun x => { x with twoStep := some (Ptp.seqId m, t2, Ptp.correction m) }
    else s.takeSync d (Ptp.seqId m) ((Ptp.stampAt m 34 : Int) + Ptp.correction m) t2 stepn

/-- A frame that carries a PTP message, without its FCS (R245): TRANSPORT 0 is UDP over IPv4, 1 is IEEE 802.3; with VLAN = 1 a tag of VID
stands before it. [PRESUMED, log entry 11] -/
def ptpFrame (s : State) (m : List Byte) : List Byte × State :=
  let ieee := s.on F.TIM_SRC_TRANSPORT
  let mt := Ptp.mtype m
  let (v, s) := s.takeFree 48
  let mac := s.f F.TIM_ETH_MAC_LO_MAC + 2 ^ 32 * s.f F.TIM_ETH_MAC_HI_MAC
  let tag := if s.on F.TIM_ETH_CTL_VLAN then beBytes 2 0x8100 ++ beBytes 2 (s.f F.TIM_ETH_CTL_VID) else []
  let body := if ieee then beBytes 2 0x88F7 ++ m
    else beBytes 2 0x0800 ++ Ptp.udpHead (s.f F.TIM_ETH_IP_IP) (Ptp.udpPort mt) m.length v ++ m
  let f := beBytes 6 (Ptp.etherDst ieee mt) ++ beBytes 6 mac ++ tag ++ body
  (f ++ List.replicate (60 - f.length) 0, s)

/-- The PTP message that a received frame carries for the device's transport and VLAN (R245). [PRESUMED, log entry 11] -/
def ptpOf (s : State) (b : List Byte) : Option (List Byte) :=
  let ieee := s.on F.TIM_SRC_TRANSPORT
  let vlan := s.on F.TIM_ETH_CTL_VLAN
  let body := b.drop (if vlan then 16 else 12)
  let m := if ieee then (if beVal (slice body 0 2) = 0x88F7 then some (body.drop 2) else none)
    else if beVal (slice body 0 2) = 0x0800 then Ptp.fromUdp (body.drop 2) else none
  if vlan && (beVal (slice b 12 2) != 0x8100 || beVal (slice b 14 2) % 4096 != s.f F.TIM_ETH_CTL_VID) then none
  else m.filter fun m => beVal (slice b 0 6) == Ptp.etherDst ieee (Ptp.mtype m)

/-- Send a PTP message of the device's own on the Ethernet port (R245, R246). -/
def sendPtp (s : State) (m : List Byte) : State :=
  let (f, s) := s.ptpFrame m
  (s.bump F.TIM_ETH_TXF_COUNT).emit (.eth f (crc32 f))

/-- A Pdelay_Req from a peer, in domain DOMA or DOMB (R245, R250): answered one-step or two-step; of any other domain ignored. -/
def pdelayReqRx (s : State) (m : List Byte) : State :=
  let num := Ptp.domain m
  let d := (s.domainOf 9 num).getD 0
  let (t2, kept, s) := s.stamp 9 false (Ptp.seqId m) 2 d num
  if num ≠ s.f F.TIM_SRC_DOMA ∧ num ≠ s.f F.TIM_SRC_DOMB then s
  else
    let (t2, s) := s.stampOr t2 kept
    if s.on F.TIM_SRC_TWOSTEP then
      let (t3, kept, s) := s.stamp 9 true (Ptp.seqId m) 3 d num
      let (t3, s) := s.stampOr t3 kept
      (s.sendPtp (Ptp.build 3 num (Ptp.seqId m) 0x0200 0 0 s.ident 1 (Ptp.stampBytes t2.toNat ++ Ptp.sourcePort m))).sendPtp
        (Ptp.build 10 num (Ptp.seqId m) 0 0 0 s.ident 1 (Ptp.stampBytes t3.toNat ++ Ptp.sourcePort m))
    else s.sendPtp (Ptp.build 3 num (Ptp.seqId m) 0 (((s.clk.wall : Int) - t2) / 2 ^ 15) 0 s.ident 1 (Ptp.stampBytes 0 ++ Ptp.sourcePort m))

/-- A peer delay exchange is complete (R243, R245): its mean path delay stands, unless its sync interval dropped a timestamp. -/
def takePeer (s : State) (d : Nat) (mpd : Int) : State :=
  s.setDom d fun x => if x.reqBad then { x with req := none, pdelay := none } else { x with req := none, pdelay := none, mpd := mpd, peer := true }

/-- A Pdelay_Resp (R245, R250): stamped whoever it is for; the answer to the device's own request is taken, a two-step one with its
Follow_Up. -/
def pdelayRespRx (s : State) (m : List Byte) : State :=
  let dom := s.domainOf 9 (Ptp.domain m)
  let (t4, kept, s) := s.stamp 9 false (Ptp.seqId m) 3 (dom.getD 0) (Ptp.domain m)
  match dom with
  | none => s
  | some d => match (s.dom d).req with
    | none => s
    | some (q, t1) =>
      if q ≠ Ptp.seqId m ∨ slice m 44 8 ≠ beBytes 8 s.ident ∨ !kept then s
      else if Ptp.twoStep m then s.setDom d fun x => { x with pdelay := some (q, (Ptp.stampAt m 34 : Int) - Ptp.correction m, t4) }
      else s.takePeer d (((t4 - t1) - Ptp.correction m) / 2)

/-- A PTP message on the Ethernet port (R245, R250): Sync, Follow_Up, Delay_Resp, Announce and the peer delay messages. -/
def ptpMsg (s : State) (m : List Byte) : State :=
  let dom := s.domainOf 9 (Ptp.domain m)
  match Ptp.mtype m with
  | 0 => s.syncRx 9 m false false
  | 1 => (s.stamp 9 false (Ptp.seqId m) 1 (dom.getD 0) (Ptp.domain m)).2.2
  | 2 => s.pdelayReqRx m
  | 3 => s.pdelayRespRx m
  | 8 => match dom with
    | some d => match (s.dom d).twoStep with
      | some (q, t2, c) =>
        if q = Ptp.seqId m ∧ s.fromGm d m then
          (s.setDom d fun x => { x with twoStep := none }).takeSync d q ((Ptp.stampAt m 34 : Int) + c + Ptp.correction m) t2 false
        else s
      | none => s
    | none => s
  | 9 => match dom with
    | some d =>
      if slice m 44 8 = beBytes 8 s.ident ∧ s.fromGm d m ∧ (s.dom d).req.any (fun q => q.1 == Ptp.seqId m) then
        s.takeResp d ((Ptp.stampAt m 34 : Int) - Ptp.correction m) (Ptp.logInterval m)
      else s
    | none => s
  | 10 => match dom with
    | some d => match (s.dom d).pdelay, (s.dom d).req with
      | some (q, t2, t4), some (_, t1) =>
        if q ≠ Ptp.seqId m ∨ slice m 44 8 ≠ beBytes 8 s.ident then s
        else s.takePeer d (((t4 - t1) - ((Ptp.stampAt m 34 : Int) + Ptp.correction m - t2)) / 2)
      | _, _ => s
    | none => s
  | 11 => match dom with
    | some d => s.takeAnnounce d m
    | none => s
  | _ => s

/-- A frame received on the Ethernet port that is to carry a PTP message (R245): one in another transport, VLAN or address form is
ignored. -/
def ptpEth (s : State) (b : List Byte) : State :=
  if !s.ethOn then s
  else
    let s := s.bump F.TIM_ETH_RXF_COUNT
    match s.ptpOf b with
    | some m => s.ptpMsg m
    | none => s

/-- The device's periodic Delay_Req or Pdelay_Req on the Ethernet port, for each domain measured there (R245, R250). -/
def ethDelayReq (s : State) : State :=
  if !s.ethOn then s
  else
    let one := fun (s : State) (d domNum : Nat) =>
      if s.domainOf 9 domNum ≠ some d then s
      else
        let mt := if s.on F.TIM_SRC_DELAYM then 2 else 1
        let q := ((s.dom d).seq + 1) % 2 ^ 16
        let (t3, kept, s) := s.stamp 9 true q mt d domNum
        let s := (s.setDom d fun x => { x with seq := q }).setReq d q t3 kept
        s.sendPtp (Ptp.build mt domNum q 0 0 0x7F s.ident 1 (Ptp.stampBytes 0 ++ List.replicate (if mt = 2 then 10 else 0) 0))
    let (da, db) := (s.f F.TIM_SRC_DOMA, s.f F.TIM_SRC_DOMB)
    let s := one s 0 da
    if s.source = 1 then one s 1 db else one s 1 da

/-- The TSPEC of a PTP message on the chain (R247): sequenceId and FLAGS. [DEDUCED, log entry 9] -/
def timeSpec (s : State) (seq : Nat) : List Byte :=
  let ts := s.f F.TIM_STATUS_TSTATE
  leBytes 2 seq ++ [BitVec.ofNat 8 (2 * s.stepN.toNat + 4 * (ts == 1 || ts == 4).toNat + 8 * (ts == 0 || ts == 2).toNat)]

/-- The ports a Sender's Sync and Announce go out on: every chain port in use, and the pair link unless it is the time source. -/
def timePorts (s : State) : List Nat := s.portsOn ++ (if s.present .PAR && s.source != 4 then [8] else [])

/-- The correctionField, in 2^-16 ns, and the originTimestamp of a one-step Sync that leaves now. -/
def syncTimes (s : State) : Int × List Byte := ((frOf s.clk.wall : Nat), Ptp.stampBytes s.clk.wall)

/-- A one-step Sync on every port in use (R247); its times are those of each port's block as it leaves. -/
def syncSend (s : State) : State :=
  if !s.isSender then s
  else
    let q := (s.tim.syncSeq + 1) % 2 ^ 16
    let s := { s with tim := { s.tim with syncSeq := q } }
    let m := Ptp.build 0 0 q 0 s.syncTimes.1 (s.fS F.TIM_CHAIN_LOGSYNC) s.ident 1 s.syncTimes.2
    s.sendAll s.timePorts (s.mkFrame 0x30 0x000 127 (s.timeSpec q) m).bytes

/-- A port block as it leaves its pins (R247, R250): the device's own one-step Sync carries this instant, and its Delay_Req is stamped
here and opens the domain's exchange. -/
def departs (s : State) (p : Nat) (b : List Byte) : List Byte × State :=
  let w := parseFrame b
  if numAt b 0 1 ≠ 0x30 ∨ w.src ≠ s.addr then (b, s)
  else if w.tag = 0x000 ∧ s.isSender then
    let m := w.payload
    ({ w with payload := m.take 8 ++ beBytes 8 (twos 64 s.syncTimes.1) ++ slice m 16 18 ++ s.syncTimes.2 ++ m.drop 44 }.bytes, s)
  else if w.tag = 0x001 then
    let d := if s.isSender then 0 else p
    let q := Ptp.seqId w.payload
    let (t3, kept, s) := s.stamp p true q 1 d 0
    (b, if (s.dom d).seq = q then s.setReq d q t3 kept else s)
  else (b, s)

/-- An Announce on every port in use (R247). [DESIGN CHOICE, log entry 7] -/
def announceSend (s : State) : State :=
  if !s.isSender then s
  else
    let q := (s.tim.annSeq + 1) % 2 ^ 16
    let s := { s with tim := { s.tim with annSeq := q } }
    let (pv, s) := s.takeFree 88
    let m := Ptp.build 0xB 0 q 0 0 0 s.ident 1
      (Ptp.stampBytes s.clk.wall ++ beBytes 3 pv ++ beBytes 6 (pv / 2 ^ 24) ++ beBytes 8 s.ident ++ beBytes 2 0 ++ beBytes 1 (pv / 2 ^ 72))
    s.sendAll s.timePorts (s.mkFrame 0x30 0x00B 127 (s.timeSpec q) m).bytes

/-- A Delay_Req over the pair link to the partner that is the time source (R242, SRC 4), which the first measurement waits for. [DEDUCED, log entry 174] -/
def pairDelayReq (s : State) : State :=
  if s.source ≠ 4 then s
  else
    let q := ((s.dom 0).seq + 1) % 2 ^ 16
    let s := s.setDom 0 fun x => { x with seq := q }
    let m := Ptp.build 1 0 q 0 0 0x7F s.ident 1 (Ptp.stampBytes 0)
    s.sendBlock 8 (s.mkFrame 0x30 0x001 (if s.addr = 0 then 125 else 0) (leBytes 2 q) m).bytes

/-- The delay interval of the last Delay_Resp in units of the count (R248): 2^logMessageInterval seconds. -/
def delayInterval (x : Domain) : Nat := if 0 ≤ x.logInt then secU * 2 ^ x.logInt.toNat else secU / 2 ^ (-x.logInt).toNat

/-- The instant of the next Delay_Req of a tile at address `a` (R248): a × interval / 128 after a multiple of the interval, once in each. -/
def delaySlot (s : State) (d a : Nat) : Nat :=
  let i := delayInterval (s.dom d)
  let t := max s.clk.wall (s.dom d).reqAt
  cdiv (t - a * i / 128) i * i + a * i / 128

/-- A tile's Delay_Req toward one end (R248): time passes to its slot; a tile with address 126 sends none.  On a Sender: that of the pair
link. -/
def delayReqSend (s : State) (p : Nat) : State :=
  if s.isSender then (if p = 8 then s.pairDelayReq else s)
  else if 1 < p || s.addr == 126 || s.f (F.TIM_DOM_STAT_DSTATE p) == 0 then s
  else
    let q := ((s.dom p).seq + 1) % 2 ^ 16
    let t := s.delaySlot p s.addr
    let s := (s.waitTo t).setDom p fun x => { x with seq := q, reqAt := t + 1 }
    let m := Ptp.build 1 0 q 0 0 0x7F s.ident 1 (Ptp.stampBytes 0)
    let b := (s.mkFrame 0x30 0x001 (if p = 0 then 0 else 125) (leBytes 2 q) m).bytes
    { s with lan := { s.lan with subs := s.lan.subs ++ [(p, b)] } }

/-- A sender answers each Delay_Req that arrived on port `p` with a Delay_Resp (R248, R250); any device stamps it. -/
def delayReqRx (s : State) (p : Nat) (w : WFrame) : State :=
  let m := w.payload
  let (t4, kept, s) := s.stamp p false (Ptp.seqId m) 1 0 0
  if !s.isSender then s
  else
    let (t4, s) := s.stampOr t4 kept
    let r := Ptp.build 9 0 (Ptp.seqId m) 0 (-((frOf t4.toNat : Nat) : Int)) (s.fS F.TIM_CHAIN_LOGDELAY) s.ident 1
      (Ptp.stampBytes t4.toNat ++ Ptp.sourcePort m)
    s.sendBlock p (s.mkFrame 0x30 0x009 w.src (s.timeSpec (Ptp.seqId m)) r).bytes

/-- A Delay_Resp for this device arrives on port `p` (R243, R248). -/
def delayRespRx (s : State) (p : Nat) (m : List Byte) : State :=
  match s.domainOf p 0 with
  | some d =>
    if (s.dom d).req.any (fun q => q.1 == Ptp.seqId m) then
      s.takeResp d ((Ptp.stampAt m 34 : Int) - Ptp.correction m) (Ptp.logInterval m)
    else s
  | none => s

/-- A step notice of the sender (R258): the tile, or a Sender whose time source is the partner, steps at the boundary it names, or at
its next one when that is not ahead. -/
def stepNoticeRx (s : State) (w : WFrame) : State :=
  if !s.isTile && s.source ≠ 4 then s
  else
    let frame := leVal (w.tspec.take 3)
    let delta := sgn 56 (leVal (w.tspec.drop 3)) * 2 ^ 31
    let n := if s.framed then (resolve (s.frameNow + 1) frame).getD s.nextFrame else 0
    if s.tim.stepAt.any (fun t => t.n == n && t.delta == delta) then s
    else
      let s := { s with tim := { s.tim with stepAt := some ⟨delta, n, s.isTile⟩ } }
      if s.isSender then s.announceStep n delta else s

/-- Has the step of wall time its boundary here? -/
def stepHere (s : State) (n : Nat) : Bool := s.tim.stepAt.any fun t => decide (t.n ≤ n)

/-- The step of wall time takes effect at its frame boundary (R257): the count jumps, and boundaries go on in the new time; events 281, and
292 at a tile.  A Sender's STEPN stands for another second (R258). -/
def stepDue (s : State) : State :=
  match s.tim.stepAt with
  | some t =>
    let s := { s with tim := { s.tim with stepAt := none, stepnUntil := s.clk.now + 1000000000 } }
    (((s.jump t.delta).noteStep t.n).raise 281).raiseIf t.notice 292
  | none => s

/-- DOMAIN_HOLDOVER: no valid measurement for four sync intervals, or the reference is lost (R243, R244, R256). -/
def holdover (s : State) (d : Nat) : State :=
  let st := s.f (F.TIM_DOM_STAT_DSTATE d)
  if st = 0 ∨ st = 3 then s
  else
    let s := s.setDom d fun x => { x with gm := none, sync := none, req := none }
    let s := (s.setF (F.TIM_DOM_STAT_LOCKCNT d) 0).domState d 3
    if d ≠ s.active then s
    else
      if s.f F.TIM_SRC_POLICY = 0 then s else s.switchDomain.2

/-- The poll master's end has changed at a tile: its domain becomes active, at once where it is Locked and near (R249). [DEDUCED, log entry 174] -/
def followMaster (s : State) (d : Nat) : State :=
  if d = s.active then s
  else
    let near := s.f (F.TIM_DOM_STAT_DSTATE d) = 2 ∧ (s.fS (F.TIM_DOM_OFS_OFS d)).natAbs ≤ s.f F.TIM_STEP_THR * 256
    let s' := ((s.setF F.TIM_STATUS_ACTD d).raise 282).formTstate
    if near then s'
    else if s.f (F.TIM_DOM_STAT_DSTATE d) = 0 ∨ (s.fS (F.TIM_DOM_OFS_OFS d)).natAbs ≤ s.f F.TIM_STEP_THR * 256 then s'
    else s'.stepPolicy d (s.fS (F.TIM_DOM_OFS_OFS d) * 2 ^ 23)

/-- HOLDMAX_EXPIRY (R244). -/
def holdmax (s : State) : State :=
  if s.f F.TIM_STATUS_TSTATE = 4 ∧ !s.tim.holdTold then ({ s with tim := { s.tim with holdTold := true } }).raise 289 else s

/-- A write to TIM_CMD (Table 11.6, R244, R256): SET where permitted, or ACCEPT of the refused step. [DEDUCED, log entry 209] -/
def timCmd (s : State) (v : Word) : State :=
  match v.toNat % 4 with
  | 1 =>
    let ns := s.f F.TIM_SET_NS_NS
    let ok := (s.source == 0 || s.source == 2 || !s.timed) && decide (ns ≤ 999999999)
    if !ok then s
    else
      let t := countOf ((s.reg R.TIM_SET_SL).toNat + 2 ^ 32 * s.f F.TIM_SET_SH_SEC) ns
      let s := if s.on F.DSP_STATUS_RUN then s.applyStep ((t : Int) - s.clk.wall)
        else s.jump ((t : Int) - s.clk.wall)
      if s.source = 0 then s.setF F.TIM_STATUS_TSTATE 1
      else if s.timed then s else s.setF F.TIM_STATUS_TSTATE 2
  | 2 =>
    if s.on F.TIM_STATUS_STEPPEND then
      (s.setF F.TIM_STATUS_STEPPEND 0).applyStep (-(sgn 64 (s.pair R.TIM_STEP_PEND_LO R.TIM_STEP_PEND_HI)) * 2 ^ 31)
    else s
  | _ => s

/-- Capacity of a ring of 2^LOG2 entries, one of which stays unused. [DESIGN CHOICE, log entry 10] -/
def ringFull (log2 head tail : Nat) : Bool := (head + 1) % 2 ^ log2 == tail % 2 ^ log2

/-- The destination address of an Ethernet frame, first byte most significant. -/
def ethDst (bs : List Byte) : Nat := beVal (bs.take 6)

/-- A non-PTP frame on the Ethernet port, without its FCS (R246). [DEDUCED, log entry 9] -/
def ethFrameRx (s : State) (bs : List Byte) (good : Bool) : State :=
  if !s.ethOn then s
  else if !good || decide (1518 < bs.length) then s.bump F.TIM_ETH_RXERR_COUNT
  else
    let s := s.bump F.TIM_ETH_RXF_COUNT
    let mac := s.f F.TIM_ETH_MAC_LO_MAC + 2 ^ 32 * s.f F.TIM_ETH_MAC_HI_MAC
    if ethDst bs ≠ mac ∧ ethDst bs ≠ 2 ^ 48 - 1 then s
    else if !s.on F.TIM_ERX_CTL_EN then s
    else
      let (lg, h, t) := (s.f F.TIM_ERX_CTL_LOG2, s.f F.TIM_ERX_HEAD_HEAD, s.f F.TIM_ERX_TAIL_TAIL)
      if ringFull lg h t then (s.bump F.TIM_ERX_DROP_COUNT).raise 293
      else
        let a := s.pair R.TIM_ERX_BASE_LO R.TIM_ERX_BASE_HI + h % 2 ^ lg * 2048
        let e := leBytes 2 bs.length ++ leBytes 2 0 ++ leBytes 6 (secOf s.clk.wall) ++ leBytes 4 (nsOf s.clk.wall) ++ leBytes 2 0 ++ bs
        (s.dramWr a e).setF F.TIM_ERX_HEAD_HEAD ((h + 1) % 2 ^ lg)

/-- The entry at TAIL of the transmit ring is sent with its FCS (R246). [DESIGN CHOICE, log entry 10; DEDUCED, log entry 166] -/
def ethTx (s : State) : State :=
  let (lg, h, t) := (s.f F.TIM_ETX_CTL_LOG2, s.f F.TIM_ETX_HEAD_HEAD, s.f F.TIM_ETX_TAIL_TAIL)
  if !s.ethOn || !s.on F.TIM_ETX_CTL_EN || h % 2 ^ lg == t % 2 ^ lg then s
  else
    let a := s.pair R.TIM_ETX_BASE_LO R.TIM_ETX_BASE_HI + t % 2 ^ lg * 2048
    let len := leVal (s.dramRd a 2)
    let s := s.setF F.TIM_ETX_TAIL_TAIL ((t + 1) % 2 ^ lg)
    if len < 60 ∨ 1514 < len then s
    else
      let bs := s.dramRd (a + 16) len
      (s.bump F.TIM_ETH_TXF_COUNT).emit (.eth bs (crc32 bs))

/-- ETHERNET_LINK_CHANGE: the port gains or loses block lock. -/
def ethLink (s : State) (up : Bool) : State :=
  if !s.ethOn || s.on F.TIM_ETH_STAT_LINK == up then s
  else
    let s := ((s.setF F.TIM_STATUS_ETH_UP up.toNat).setF F.TIM_ETH_STAT_LINK up.toNat).raise 284
    if up then s
    else
      let lost := fun (s : State) (d domNum : Nat) => if s.domainOf 9 domNum = some d then s.holdover d else s
      let s := lost s 0 (s.f F.TIM_SRC_DOMA)
      lost (lost s 1 (s.f F.TIM_SRC_DOMA)) 1 (s.f F.TIM_SRC_DOMB)

/-- The signed remainder of `x` nearest zero, modulo `m`. -/
def nearest (x : Int) (m : Nat) : Int := if m = 0 then 0 else let r := x % (m : Int); if 2 * r < m then r else r - m

/-- The phase error of a frame start of the sync reference at offset-free time `x`, its period being `m / q` (R260): the integer k comes
from PTP domain DOMA where that is Locked, else from the count as it was last set. -/
def frameError (s : State) (x : Int) (m q : Nat) : Int :=
  let ofs : Int := match s.domainOf 9 (s.f F.TIM_SRC_DOMA) with
    | some d => if s.f (F.TIM_DOM_STAT_DSTATE d) = 2 then s.fS (F.TIM_DOM_OFS_OFS d) * 2 ^ 23 else 0
    | none => 0
  let y := (x - ofs) * q
  (x * q - (y - nearest y m)) / q

/-- A timing edge of the sync reference after a qualified pulse whose low time was `low` ns (R259, R260). -/
def srefEdge (s : State) (low : Nat) : State :=
  if !s.isSender || !s.on F.TIM_SREF_CTL_EN || decide (low < 200) then s
  else
    let lines := s.tim.srefLines + 1
    let broad := decide (s.f F.TIM_SREF_BROAD_BROADTH < low)
    let start := !broad && decide (4 ≤ s.tim.srefBroad)
    let s := { s with tim := { s.tim with srefLines := lines, srefBroad := if broad then s.tim.srefBroad + 1 else 0 } }
    let s := if lines = 64 then (s.setF F.TIM_SREF_STAT_PRESENT 1).setF F.RPS_AON_SREF 1 else s
    let acquired := start && s.on F.TIM_SREF_STAT_PRESENT && !s.on F.TIM_SREF_STAT_FLOCK
    let s := if acquired then ((s.setF F.TIM_SREF_STAT_FLOCK 1).setF F.TIM_STATUS_SREF_OK 1).raise 286 else s
    match modeRate (s.f F.TIM_SREF_CTL_INDEX) with
    | none => s
    | some (num, den) =>
      let fields := s.f F.TIM_SREF_CTL_FIELDS2 + 1
      let lns := s.f F.TIM_SREF_CTL_LINES
      let x : Int := (s.clk.wall : Int) - s.fS F.TIM_SREF_OFS_OFFS * nsU
      let err := if start then s.frameError x (den * secU) (num * fields)
        else nearest (x * (num * fields * lns : Nat)) (den * secU) / (num * fields * lns : Nat)
      let s := s.setF F.TIM_SREF_PHASE_ERR (q8 err)
      if s.source = 2 ∧ s.on F.TIM_SREF_STAT_FLOCK then s.measure 0 err 0 true else s

/-- Three line periods without an edge: the reference is lost (R259). -/
def srefLost (s : State) : State :=
  if !s.isSender || !s.on F.TIM_SREF_CTL_EN then s
  else
    let was := s.on F.TIM_SREF_STAT_PRESENT
    let s := { s with tim := { s.tim with srefLines := 0, srefBroad := 0 } }
    let s := (((s.setF F.TIM_SREF_STAT_PRESENT 0).setF F.TIM_SREF_STAT_FLOCK 0).setF F.TIM_STATUS_SREF_OK 0).setF F.RPS_AON_SREF 0
    let s := s.raiseIf was 285
    if s.source = 2 then s.holdover 0 else s

/-- Camera triggers that have no instant any more go inactive (R228, R236). -/
def triggersRest (s : State) : State :=
  (List.range 8).foldl (fun s t =>
    let pol := s.on (F.DSP_TRIG_CTL_POL t)
    if s.on (F.DSP_TRIG_CTL_EN t) && s.role != 0 && !s.triggerLive t && s.on (F.TIM_OUT_STAT_LEVEL t) != pol then s.drive t pol else s) s

/-- The next edge of an output's own program: time passes to its instant and the level changes (R261). -/
def outputEdge (s : State) (t : Nat) : State :=
  if s.on (F.DSP_TRIG_CTL_EN t) && s.role != 0 then s
  else
    let pol := s.on (F.TIM_OUT_CTL_POL t)
    let act := s.on (F.TIM_OUT_STAT_LEVEL t) != pol
    let st := s.outStart t
    let wid := s.f (F.TIM_OUT_WID_WID t) * nsU
    match s.f (F.TIM_OUT_CTL_MODE t) with
    | 1 =>
      if act then ((s.waitTo ((s.tim.edgeAt.getD t none).getD (st + wid))).setEdge t none).drive t pol
      else if s.tim.fired.getD t false then s
      else (s.waitTo st).fireOnce t
    | 2 =>
      let per := s.outPeriod t
      if per = 0 then s
      else if act then (s.waitTo (st + (s.clk.wall - st) / per * per + wid)).drive t pol
      else (s.waitTo (st + cdiv (s.clk.wall + 1 - s.tickU - st) per * per)).drive t (!pol)
    | _ => s

/-- The next edge of a camera trigger (R228): time passes to its instant and the level changes.  An instant stands until the tick that
first reaches it has passed; a trigger that a step passed over fires at the boundary placed for it, its pulse as long as ever (R257). -/
def triggerEdge (s : State) (t : Nat) : State :=
  if !s.on (F.DSP_TRIG_CTL_EN t) || !s.framed || s.role == 0 || !s.triggerLive t then s
  else
    let pol := s.on (F.DSP_TRIG_CTL_POL t)
    let act := s.on (F.TIM_OUT_STAT_LEVEL t) != pol
    let width := s.f (F.DSP_TRIG_WID_WIDTH t) * nsU
    match s.tim.edgeAt.getD t none with
    | some u => ((s.waitTo u).setEdge t (if act then none else some (u + width))).drive t (act == pol)
    | none =>
      let wid := if act then width else 0
      let n := firstFrom (fun n => s.triggerHit t n && decide (s.clk.wall < s.triggerAt t n + wid + s.tickU)) 64 (s.frameNow - 2)
      (s.waitTo (s.triggerAt t n + wid)).drive t (act == pol)

/-- An edge at a capture input (R262). -/
def captureEdge (s : State) (c : Nat) (rise : Bool) : State :=
  let e := s.f (F.TIM_CAP_CTL_EDGE c)
  if !(if rise then e.testBit 0 else e.testBit 1) then s
  else
    let q := tabAt s.tim.caps c []
    if q.length < 16 then
      let s := { s with tim := { s.tim with caps := tabMod s.tim.caps c fun _ => q ++ [(⟨secOf s.clk.wall, nsOf s.clk.wall, rise⟩ : CapEntry)] } }
      s.raiseIf (s.on (F.TIM_CAP_CTL_EVT c)) 294
    else ((s.bump (F.TIM_CAP_DROP_COUNT c)).setF (F.TIM_CAP_STAT_OVF c) 1).raise 288

/-- A write to TIM_CAPc_POP removes the oldest entry (R262). -/
def capturePop (s : State) (c : Nat) : State :=
  { s with tim := { s.tim with caps := tabMod s.tim.caps c fun q => q.tail } }

/-- The second copies of step notices are sent on every chain port in use and the pair link (R258). -/
def noticeSecond (s : State) : State :=
  match s.tim.noticeCopies with
  | [] => s
  | b :: bs =>
    ({ s with tim := { s.tim with noticeCopies := bs } }).sendAll (s.portsOn ++ (if s.present .PAR then [8] else [])) b

/-- An output's program has just taken effect (R261): a one-shot START already past is missed. -/
def outProgram (s : State) (t : Nat) : State :=
  let pol := s.on (F.TIM_OUT_CTL_POL t)
  let s := { s with tim := { s.tim with fired := setAt s.tim.fired t fun _ => false } }.setEdge t none
  let s := if s.on (F.DSP_TRIG_CTL_EN t) then s.drive t (s.on (F.DSP_TRIG_CTL_POL t)) else s.drive t pol
  if s.f (F.TIM_OUT_CTL_MODE t) = 1 ∧ s.outStart t < s.clk.wall then
    ({ (s.setF (F.TIM_OUT_STAT_MISSED t) 1) with tim := { s.tim with fired := setAt s.tim.fired t fun _ => true } }).raise 287
  else s

end State

end Sys2Proof.Machine
end

