-- ==== Sys2Proof/Machine/Lanes.lean ====
section
/-! DEFINITION. Chain lanes (chapter 8): the lane block, scrambling and stuffing, port states, the clock path, equalisers, offset
calibration, test loops, the provisioning rate and single-lane mode. -/

namespace Sys2Proof.Machine

namespace Lane

/-! ### Line coding (R171 to R178) -/

/-- The bits of a number, least significant first. -/
def bitsOf (w v : Nat) : List Bool := (List.range w).map v.testBit
def ofBits (bs : List Bool) : Nat := bs.foldr (fun b a => b.toNat + 2 * a) 0
def bitsOfBytes (bs : List Byte) : List Bool := bs.flatMap fun b => bitsOf 8 b.toNat
def bytesOfBits : Nat → List Bool → List Byte
  | 0, _ => []
  | n + 1, bs => BitVec.ofNat 8 (ofBits (bs.take 8)) :: bytesOfBits n (bs.drop 8)

/-- Even parity bit over some bits. -/
def parity (v : Nat) : Nat := (bitsOf 16 v).foldl (fun p b => (p + b.toNat) % 2) 0

/-- The control word (Table 08.3). -/
def control (seed : Nat) (dfault : Bool) (lane bseq : Nat) : Nat :=
  let hi := 0b101100 * 4 + seed
  let lo := dfault.toNat * 32 + lane * 8 + bseq % 8
  hi * 256 + lo * 4 + parity hi * 2 + parity lo

def seedOf (c : Nat) : Nat := c / 256 % 4
def dfaultOf (c : Nat) : Bool := c.testBit 7
def laneOf (c : Nat) : Nat := c / 32 % 4
def bseqOf (c : Nat) : Nat := c / 4 % 8

/-- SYNC and both parity bits are correct. [DEDUCED, log entry 62] -/
def syncOk (c : Nat) : Bool :=
  c / 1024 == 0b101100 && parity (c / 256) == c / 2 % 2 && parity (c / 4 % 64) == c % 2

def seedTab : List Nat := [0x2B6D1C35, 0x5E19A3C7, 0x13F48D62, 0x6A075B99]

/-- One step of the PRBS31 generator: the feedback bit and the next state. -/
def prbs (st : Nat) : Bool × Nat :=
  let fb := st.testBit 30 != st.testBit 27
  (fb, (2 * st + fb.toNat) % 2 ^ 31)

/-- Scramble or descramble bits from a state (R175). -/
def scramble : Nat → List Bool → List Bool
  | _, [] => []
  | st, x :: xs => let (fb, st') := prbs st; (x != fb) :: scramble st' xs

def seedState (k lane : Nat) : Nat := (seedTab.getD k 0 ^^^ lane * 0x01010101) % 2 ^ 31

/-- The CRC of the payload bits in line order (R174), sent least significant bit first. -/
def crcBits (p : List Bool) : List Bool := bitsOf 16 (p.foldl crc16Bit 0xFFFF).toNat

/-- Length of the final run of equal bits in a control word, last sent bit 0. -/
def finalRun (c : Nat) : Nat := ((bitsOf 16 c).takeWhile fun b => b == c.testBit 0).length

/-- Insert stuffs, at most `lim` of them (R176): the line bits, the stuffs, and the last bit. -/
def stuff (lim : Nat) : List Bool → Bool → Nat → Nat → List Bool × Nat × Bool
  | [], rb, _, s => ([], s, rb)
  | y :: ys, rb, run, s =>
    let run := if y = rb then run + 1 else 1
    if run = 32 ∧ s < lim then
      let (r, s', b) := stuff lim ys (!y) 1 (s + 1)
      (y :: (!y) :: r, s', b)
    else
      let (r, s', b) := stuff lim ys y run s
      (y :: r, s', b)

/-- The alternating pad. -/
def padBits : Nat → Bool → List Bool
  | 0, _ => []
  | n + 1, rb => (!rb) :: padBits n (!rb)

/-- The control word's bits in line order: most significant first. -/
def ctlBits (c : Nat) : List Bool := (bitsOf 16 c).reverse

/-- Line bits of a lane block under one seed, and the stuffs it needs. -/
def encodeWith (k lane laneField bseq : Nat) (p : List Bool) (crc : List Bool) : List Bool × Nat :=
  let c := control k false laneField bseq
  let y := scramble (seedState k lane) (p ++ crc)
  let (bits, s, rb) := stuff 4096 y (c.testBit 0) (finalRun c) 0
  (ctlBits c ++ bits ++ padBits (16 - s) rb, s)

/-- A lane block (R177): its line bits, the seed used, and whether it carries DFAULT. -/
def encode (lane laneField bseq : Nat) (p : List Bool) (crc : List Bool) : BitVec 4096 × Nat × Bool :=
  match (List.range 4).find? fun k => decide ((encodeWith k lane laneField bseq p crc).2 ≤ 16) with
  | some k => (BitVec.ofNat 4096 (ofBits (encodeWith k lane laneField bseq p crc).1), k, false)
  | none =>
    let c := control 3 true laneField bseq
    let (bits, _, _) := stuff 16 (scramble (seedState 3 lane) (p ++ crc)) (c.testBit 0) (finalRun c) 0
    (BitVec.ofNat 4096 (ofBits (ctlBits c ++ bits)), 3, true)

/-- Remove stuffs (R178): `n` data bits are still to be collected and `lim` stuffs may still be removed; none is removed once the last
data bit has been collected.  The result says whether a stuff violation was met. -/
def unstuff : Nat → Nat → List Bool → Bool → Nat → List Bool × Bool
  | 0, _, _, _, _ => ([], false)
  | _, _, [], _, _ => ([], true)
  | n + 1, lim, y :: ys, rb, run =>
    let run := if y = rb then run + 1 else 1
    if n = 0 then ([y], false)
    else if run = 32 ∧ 0 < lim then
      match ys with
      | [] => ([y], true)
      | z :: zs =>
        let (r, v) := unstuff n (lim - 1) zs z 1
        (y :: r, v || z == y)
    else
      let (r, v) := unstuff n lim ys y run
      (y :: r, v)

/-- The payload bits of a lane block and whether it is bad (R174, R178). -/
def decode (lane : Nat) (bits : BitVec 4096) : List Bool × Bool :=
  let l := bitsOf 4096 bits.toNat
  let c := ofBits (l.take 16).reverse
  let (y, viol) := unstuff 4064 (if dfaultOf c then 16 else 4096) (l.drop 16) (c.testBit 0) (finalRun c)
  let x := scramble (seedState (seedOf c) lane) y
  let p := x.take 4048
  (p, viol || crcBits p != x.drop 4048)

/-- The control word of a lane block. -/
def ctlOf (bits : BitVec 4096) : Nat := ofBits ((bitsOf 16 bits.toNat).take 16).reverse

/-- Lanes and parts of a port block: 4 and 1, 2 and 2 on the pair link, 1 and 4 in single-lane mode (R173, R192). -/
def shape (p : Nat) (single : Bool) : Nat × Nat := if single then (1, 4) else if p = 8 then (2, 2) else (4, 1)

/-- The 253 words of a port block that a lane carries in a part, as bytes. -/
def partOf (lanes l t : Nat) (b : List Byte) : List Byte :=
  (List.range 253).flatMap fun i => slice b (2 * (lanes * (253 * t + i) + l)) 2

/-- A port block from the bytes of its lanes and parts. -/
def join (lanes : Nat) (get : Nat → Nat → List Byte) : List Byte :=
  (List.range 1012).flatMap fun j => let i := j / lanes; slice (get (j % lanes) (i / 253)) (2 * (i % 253)) 2

end Lane

namespace State

/-! ### Transmitters (R170) -/

/-- Do the power states let a port send: every port in Run, and port 1 of a dozing tile that relays (R387, R389)? [DEDUCED, log entry 71] -/
def powerTx (s : State) (p : Nat) : Bool :=
  s.f F.RPS_PWR_STAT_STATE == 0 || (s.f F.RPS_PWR_STAT_STATE == 1 && (s.rps.waking || (s.rps.relay && p == 1)))

/-- Is a port's transmitter to be out of electrical idle? -/
def txWanted (s : State) (p : Nat) : Bool :=
  s.powerTx p && s.laneOn p && !s.on (F.LAN_P_CTL_EIDLE p) && !(s.port p).restart && ((s.port p).loopIn == 0 || (s.port p).loopIn == 3) &&
    (if s.isSender then s.on (F.LAN_P_CTL_TXON p) else decide (p < 2) && s.on F.LAN_CLK_LOCK)

def rxst (s : State) (p : Nat) : Nat := s.f (F.LAN_P_STAT_RXST p)

/-- The MAC sees the port as up. -/
def portUp (s : State) (p : Nat) : Bool := s.laneOn p && s.rxst p == 5 && (s.port p).loopIn == 0

/-- Note what disturbs a calibration of port p in progress. -/
def calNote (s : State) (p : Nat) (g : LanCal → LanCal) : State :=
  { s with lan := { s.lan with cal := s.lan.cal.map fun c => bif c.ports.testBit p then g c else c } }

/-- The reference changes: REFSRC and event 215. -/
def setRef (s : State) (r : Nat) : State := if s.f F.LAN_CLK_REFSRC = r then s else (s.setF F.LAN_CLK_REFSRC r).raise 215

/-- The reference of a Sender (R181): a Secondary follows the pair link, else its lowest chain port in Up, else its time PLL; each
change of the source raises event 215. [DEDUCED, log entry 69] -/
def senderRef (s : State) : State :=
  if !s.isSender then s
  else
    let sec := s.present .PAR && (s.f F.PAR_STATUS_PSTATE == 3 || s.f F.PAR_STATUS_PSTATE == 4)
    let src := if !sec then 0
      else if s.on (F.LAN_P_STAT_CLKDET 8) then 9
      else ((s.portsOn.find? s.portUp).map (· + 1)).getD 0
    if s.lan.ref = src then s
    else ({ s with lan := { s.lan with ref := src } }.setF F.LAN_CLK_REFSRC (if src = 0 then 0 else 3)).raise 215

/-- A port enters a receive state with its alignment forgotten, counting an exit from Up (Table 08.4). -/
def rxTo (s : State) (p st : Nat) : State :=
  let was := s.rxst p
  let s := if was = 5 ∧ st ≠ 5 then
      let s := s.bump (F.LAN_P_LOCKLOSS_COUNT p)
      s.calNote p fun c => { c with down := c.down.or (some p) }
    else s
  ((s.lanP p fun l => { l with good := .replicate 4 0, bad := .replicate 4 0, parts := [], skew := 0, recentre := false }).setF
    (F.LAN_P_STAT_RXST p) st).senderRef

/-- A port enters Idle: event 214 from Train to Up (Table 08.4). -/
def toIdle (s : State) (p : Nat) : State :=
  let was := s.rxst p
  (s.rxTo p 1).raiseIf (decide (2 ≤ was)) 214

/-- A port enters Up (Table 08.4, R190); the groups of R195 are counted from the next block. -/
def enterUp (s : State) (p : Nat) : State :=
  ((((s.setF (F.LAN_P_STAT_RXST p) 5).lanP p fun x => { x with bad := .replicate 4 0, parts := [], group := 0 }).senderRef)).raise
    (if p = 8 then 229 else 212)

/-! ### Changes at a block boundary (R170, R173, R188, R192) -/

/-- A port enters or leaves single-lane mode (R192): its port blocks begin at a BSEQ that is a multiple of 4, and 100 us of
electrical idle follow a return to the image's rate. -/
def singleEdge (s : State) (p : Nat) : State :=
  match (s.port p).singleAsk with
  | none => s
  | some on => (s.lanP p fun l => { l with
      singleAsk := none, single := on, restart := !on, bseq := if on then (l.bseq + 3) / 4 * 4 % 8 else l.bseq }).toIdle p

/-- A loop is entered or left: the receive side restarts from Train, and the MAC sends nothing on the port meanwhile (R188). -/
def loopEdge (s : State) (p : Nat) : State :=
  let v := s.f (F.LAN_P_CTL_LOOP p)
  if v = (s.port p).loopIn then s
  else if v ≠ 0 then
    let s := s.calNote p fun c => { c with down := c.down.or (some p) }
    let s := if v = 1 ∨ v = 2 then s.setF (F.LAN_P_STAT_CLKDET p) 1 else s
    ((s.rxTo p 2).lanP p fun l => { l with loopIn := v, txq := [] }).raise 226
  else
    let s := s.setF (F.LAN_P_STAT_CLKDET p) (decide ((s.port p).clkRate ≠ 0)).toNat
    let s := s.lanP p fun l => { l with loopIn := 0 }
    (if s.on (F.LAN_P_STAT_CLKDET p) then s.rxTo p 2 else s.toIdle p).raise 227

/-- A transmitter enters or leaves electrical idle; a port that leaves it leaves Off for Idle, or for Train where its clock is
present (Table 08.4). [DEDUCED, log entry 68] -/
def txEdge (s : State) (p : Nat) : State :=
  let idle := !s.txWanted p
  if (s.port p).idle = idle then s
  else
    let s := (s.lanP p fun l => { l with idle := idle, cur := [], sent := [], txq := if idle then [] else l.txq }).emit (.txIdle p idle)
    if idle || s.rxst p != 0 then s else s.rxTo p (if s.on (F.LAN_P_STAT_CLKDET p) then 2 else 1)

/-- The changes that a port's transmitter is to make are made at a boundary of its port blocks: one that has been sent in part is
finished first (R173). [DEDUCED, log entry 68] -/
def noteTx (s : State) (p : Nat) : State :=
  if !(s.port p).cur.isEmpty then s else ((s.singleEdge p).loopEdge p).txEdge p

/-- A power state ends or the clock is gone: nothing more is sent of the block in hand (R182, R389, R390). -/
def txHalt (s : State) (p : Nat) : State :=
  if s.txWanted p then s else (s.lanP p fun l => { l with cur := [], sent := [] }).noteTx p

/-- Single-lane mode is asked for or left (R192). -/
def singleMode (s : State) (p : Nat) (on : Bool) : State :=
  if (s.port p).single = on then s else (s.lanP p fun l => { l with singleAsk := some on }).noteTx p

/-! ### The clock path (R180 to R182, R191) -/

/-- A Tile's rate follows its reference clock (R191). -/
def noteProvr (s : State) : State :=
  let r := s.f F.LAN_CLK_REFSRC
  if !s.isTile || r = 0 || r = 3 then s
  else s.setF F.LAN_CLK_PROVR ((s.port (r - 1)).clkRate == 2 && s.f F.SYS_UNITEN_LANE != 0).toNat

/-- CLOCK_PRESENT (R180, R191): the forwarded clock of port p has been there for 10 us, at the image's rate or (`prov`) at 1.75 GHz. -/
def clockPresent (s : State) (p : Nat) (prov : Bool) : State :=
  if !s.laneOn p || (s.role == 0 && !prov) then s
  else
    let s := (s.lanP p fun l => { l with clkRate := if prov then 2 else 1 }).setF (F.LAN_P_STAT_CLKDET p) 1
    let s := if s.rxst p < 2 then s.rxTo p 2 else s
    if s.isSender then s.senderRef
    else
      let r := s.f F.LAN_CLK_REFSRC
      let s := if r = 0 || s.on F.LAN_CLK_HOLD then (s.setF F.LAN_CLK_HOLD 0).setRef (p + 1) else s
      s.noteProvr

/-- CLOCK_LOST (R180, R182). -/
def clockLost (s : State) (p : Nat) : State :=
  if !s.laneOn p || !s.on (F.LAN_P_STAT_CLKDET p) then s
  else
    let s := ((s.lanP p fun l => { l with clkRate := 0 }).setF (F.LAN_P_STAT_CLKDET p) 0).toIdle p
    if s.isSender then s.senderRef
    else if s.f F.LAN_CLK_REFSRC ≠ p + 1 then s
    else if p < 2 && s.on (F.LAN_P_STAT_CLKDET (1 - p)) then (s.setRef (2 - p)).noteProvr
    else s.setF F.LAN_CLK_HOLD 1

/-- A device with no role follows source 3 or 0 by the clock of chain port 0 (R242): with a change of it its domains are as the source
now uses them. -/
def noRoleSource (old s : State) : State := if s.role = 0 then domainsFit old s else s

/-- PLL_LOCK (R182): the clock PLL locks, and ports 0 and 1 leave electrical idle. -/
def pllLock (s : State) : State := (s.portsOn.foldl noteTx (s.setF F.LAN_CLK_LOCK 1)).noteTx 8

/-- PLL_REVERT (R182). -/
def pllRevert (s : State) : State :=
  if s.isSender || !s.on F.LAN_CLK_CTL_REVERT || !s.on (F.LAN_P_STAT_CLKDET 0) || s.f F.LAN_CLK_REFSRC ≠ 2 then s
  else (s.setRef 1).noteProvr

/-- NO_CLOCK_TIMEOUT (R182). -/
def noClock (s : State) : State :=
  if s.isSender || s.on (F.LAN_P_STAT_CLKDET 0) || s.on (F.LAN_P_STAT_CLKDET 1) then s
  else ((List.range 9).foldl txHalt (s.setF F.LAN_CLK_LOCK 0)).raise 216

/-! ### Equalisers (R185) -/

/-- In mode 0 every lane of a port uses EQFIX (R185). -/
def eqFixed (s : State) (p : Nat) : State :=
  if !s.laneOn p || s.f (F.LAN_P_EQMODE_MODE p) ≠ 0 then s
  else (List.range (Lane.shape p false).1).foldl (fun s l => s.setF (F.LAN_P_L_EQ p l) (s.f (F.LAN_P_L_EQFIX p l))) s

/-- EQ_TRAIN_DONE: the sweep of a port ends with eye widths for the 37 codes of each lane. -/
def eqTrainDone (s : State) (p : Nat) (widths : List (List Nat)) : State :=
  if !s.laneOn p || s.rxst p ≠ 2 then s
  else
    let lanes := (Lane.shape p (s.port p).single).1
    let s := (List.range lanes).foldl (fun s l =>
      if s.f (F.LAN_P_EQMODE_MODE p) = 0 then s.setF (F.LAN_P_L_EQ p l) (s.f (F.LAN_P_L_EQFIX p l))
      else
        let w := (widths.getD l []).take 37
        let best := (List.range w.length).foldl (fun b k => if w.getD b 0 < w.getD k 0 then k else b) 0
        ((s.setF (F.LAN_P_L_EQ p l) best).setF (F.LAN_P_L_EYE p l) (w.getD best 0)).raiseIf (decide (w.getD best 0 < 8)) 222) s
    s.rxTo p 3

/-- EQ_ADAPT: eye widths of a lane at its present code, one below and one above. [DESIGN CHOICE, log entry 65] -/
def eqAdapt (s : State) (p l now below above : Nat) : State :=
  if !s.laneOn p || s.rxst p ≠ 5 || s.f (F.LAN_P_EQMODE_MODE p) ≠ 2 then s
  else
    let k := s.f (F.LAN_P_L_EQ p l)
    let dn := decide (0 < k ∧ now + 2 ≤ below ∧ above ≤ below)
    let up := decide (k < 36 ∧ now + 2 ≤ above) && !dn
    if dn then (s.setF (F.LAN_P_L_EQ p l) (k - 1)).setF (F.LAN_P_L_EYE p l) below
    else if up then (s.setF (F.LAN_P_L_EQ p l) (k + 1)).setF (F.LAN_P_L_EYE p l) above
    else s.setF (F.LAN_P_L_EYE p l) now

/-! ### Sending lane blocks (R173 to R177, R189) -/

/-- Is the transmitter of a port repeating what the other port receives (R183)?  A test pattern or a loop goes before (R188, R189).
[DESIGN CHOICE, log entry 66] -/
def repeating (s : State) (p : Nat) : Bool :=
  !s.isSender && decide (p < 2) && s.portUp (1 - p) && !s.on (F.LAN_P_CTL_TPAT p) && (s.port p).loopIn == 0

/-- The pending answer of a tile that leaves by a port (R200), taken off the list. -/
def takeSub (s : State) (p : Nat) : Option (List Byte × State) :=
  (s.lan.subs.find? fun x => x.1 == p).map fun x => (x.2, { s with lan := { s.lan with subs := s.lan.subs.erase x } })

/-- Payload bits of the test pattern of a lane, which run on (R189). -/
def testBits : Nat → Nat → List Bool × Nat
  | 0, st => ([], st)
  | n + 1, st => let (b, st') := Lane.prbs st; let (r, e) := testBits n st'; (b :: r, e)

/-- The line bits of one lane block of a port, with seeds and density faults counted (R177). -/
def codeLane (s : State) (p l laneField bseq : Nat) (pay : List Bool) (badCrc : Bool) : BitVec 4096 × State :=
  let crc := Lane.crcBits pay
  let (bits, k, df) := Lane.encode l laneField bseq pay (if badCrc then crc.map (!·) else crc)
  let s := if k = 0 then s else s.bump (F.LAN_P_RESCR_COUNT p)
  (bits, if df then (s.bump (F.LAN_P_DFTX_COUNT p)).raise 218 else s)

/-- Encode and send one lane block of a port. -/
def emitLane (s : State) (p l laneField bseq : Nat) (pay : List Bool) (badCrc : Bool) : State :=
  let (bits, s) := s.codeLane p l laneField bseq pay badCrc
  s.emit (.laneBits p l bits)

/-- A port block put out whole in place of a free one, on the lanes and BSEQ values of that one (R200, R213). [DESIGN CHOICE, log entry 67] -/
def putBlock (s : State) (p : Nat) (b : List Byte) (at' : List (Nat × Nat)) : State :=
  let (lanes, _) := Lane.shape p (s.port p).single
  (List.range at'.length).foldl (fun s i =>
    let x := at'.getD i (0, 0)
    let t := ((at'.take i).filter fun y => y.1 == x.1).length
    s.emitLane p x.1 x.1 x.2 (Lane.bitsOfBytes (Lane.partOf lanes x.1 t b)) false) (s.emit (.block p b))

/-- REPLY_SUBSTITUTE: the pending answer leaves in place of the first free block toward port p of a tile (R200): the port's own idle
block where it sends those.  Where the port repeats, the free block that is replaced is one that passes, as it passes. -/
def replySubstitute (s : State) (p : Nat) : State :=
  if s.isSender || !s.laneOn p || (s.port p).idle || (s.port p).loopIn != 0 || !(s.port p).cur.isEmpty || s.repeating p then s
  else match s.takeSub p with
    | none => s
    | some (b, s) =>
      let (b, s) := s.departs p b
      let (lanes, parts) := Lane.shape p (s.port p).single
      let s := s.putBlock p b ((List.range parts).flatMap fun t => (List.range lanes).map fun l => (l, ((s.port p).bseq + t) % 8))
      s.lanP p fun x => { x with bseq := (x.bseq + parts) % 8 }

/-- A pending answer of a tile toward a port; one of the same type replaces it (R200). -/
def setSub (s : State) (p : Nat) (b : List Byte) : State :=
  { s with lan := { s.lan with subs := (s.lan.subs.filter fun x => numAt x.2 0 1 != numAt b 0 1) ++ [(p, b)] } }

/-! ### Receiving lane blocks (R174, R178, R179, R188, R189) -/

/-- Check the payload bits of a test pattern; the first 31 bits that come set the generator. -/
def testCheck (st : Option Nat) (bits : List Bool) : Nat × Option Nat :=
  let (st, rest) := match st with
    | some x => (x, bits)
    | none => ((bits.take 31).foldl (fun (a : Nat) (b : Bool) => (2 * a + b.toNat) % 2 ^ 31) 0, bits.drop 31)
  let (errs, e) := rest.foldl (fun (r : Nat × Nat) b => let (x, st') := Lane.prbs r.2; (if x = b then r.1 else r.1 + 1, st')) (0, st)
  (errs, some e)

/-- Alignment bookkeeping for one control word: a lane becomes aligned after four good ones in succession and loses its alignment
after four bad ones, with which the port leaves Deskew or Up (R179).  LANE is checked in Up, and in single-lane mode always; below Up
any lane of the port will do, since Deskew reports crossed lanes. [DEDUCED, log entry 62] -/
def laneCtl (s : State) (p l c skew : Nat) : State :=
  let single := (s.port p).single
  let st := s.rxst p
  let laneOk := if single then Lane.laneOf c == 0 else if st = 5 then Lane.laneOf c == l
    else decide (Lane.laneOf c < (Lane.shape p false).1)
  let good := Lane.syncOk c && laneOk
  let s := s.lanP p fun x => { x with
    good := tabMod x.good l fun k => if good then min 4 (k + 1) else if k = 4 then 4 else 0,
    bad := tabMod x.bad l fun k => if good then 0 else k + 1,
    laneId := if good then setAt x.laneId l fun _ => Lane.laneOf c else x.laneId, skew := max x.skew skew }
  if tabAt (s.port p).bad l 0 < 4 then s
  else if st = 5 then
    let s := s.calNote p fun c => { c with lost := c.lost.or (some (p, l)) }
    (s.rxTo p 3).raise (if p = 8 then 230 else 213)
  else if st = 4 then s.rxTo p 3
  else s.lanP p fun x => { x with good := tabMod x.good l fun _ => 0 }

/-- Every lane of the port is aligned: deskew succeeds or fails (R179), and single-lane mode skips it (R192). -/
def laneDeskew (s : State) (p : Nat) : State :=
  let single := (s.port p).single
  let lanes := (Lane.shape p single).1
  let x := s.port p
  if s.rxst p = 3 ∧ (List.range lanes).all (fun l => tabAt x.good l 0 == 4) then
    if single then s.enterUp p
    else (s.setF (F.LAN_P_STAT_RXST p) 4).lanP p fun x => { x with skew := 0 }
  else if s.rxst p = 4 ∧ (List.range lanes).all (fun l => x.seq.getD l 0 == x.seq.getD 0 0) then
    let order := (List.range lanes).foldl (fun a l => a + x.laneId.getD l 0 * 4 ^ l) 0
    let bad := (List.range lanes).any fun l => x.laneId.getD l 0 != l
    let s := s.setF (F.LAN_P_STAT_SKEW p) (min x.skew 255)
    if bad then ((s.setF (F.LAN_P_STAT_ORDER p) order).rxTo p 3).raise 220
    else if 96 < x.skew then (s.rxTo p 3).raise 220
    else s.enterUp p
  else s

/-- A lane block of a port in Up is decoded; the result is a whole port block, whether it is bad, and its line bits by lane. -/
def laneData (s : State) (p l : Nat) (bits : BitVec 4096) : Option (List Byte × Bool × List (Nat × BitVec 4096)) × State :=
  let x := s.port p
  let (lanes, parts) := Lane.shape p x.single
  let c := Lane.ctlOf bits
  let good := Lane.syncOk c
  let seq := if good then Lane.bseqOf c else (x.seq.getD l 0 + 1) % 8
  let s := s.lanP p fun y => { y with seq := setAt y.seq l fun _ => seq }
  let (pay, bad) := Lane.decode (if x.single then 0 else l) bits
  let s := if bad then (s.bump (F.LAN_P_CRCERR_COUNT p)).raise 217 else s
  let s := if good && Lane.dfaultOf c then
      let s := (s.bump (F.LAN_P_DFRX_COUNT p)).raise 219
      s.calNote p fun c => { c with df := c.df.or (some (p, l)) }
    else s
  let s := if s.on (F.LAN_P_CTL_TPAT p) then
      let (e, st) := testCheck ((s.port p).tpRx.getD l none) pay
      let told := (s.port p).tpTold
      let s := s.lanP p fun y => { y with tpRx := setAt y.tpRx l fun _ => st, tpTold := y.tpTold || decide (0 < e) }
      (s.bumpBy (F.LAN_P_TPERR_COUNT p) e).raiseIf (decide (0 < e) && !told) 228
    else s
  let e : LanPart := ⟨seq / parts, l, seq % parts, bits, Lane.bytesOfBits 506 pay, bad || !good⟩
  let old := (s.port p).parts.filter fun y => y.lane != l || (y.group == e.group && decide (y.part < e.part))
  let mine := (old ++ [e]).filter fun y => y.group == e.group
  if mine.length = lanes * parts then
    let get := fun (l t : Nat) => ((mine.find? fun y => y.lane == l && y.part == t).map (·.bytes)).getD []
    let s := s.lanP p fun y => { y with parts := [] }
    (some (Lane.join lanes get, mine.any (·.bad), mine.map fun y => (y.lane, y.bits)),
      s.bumpWide (R.LAN_P_BLK p) (R.LAN_P_BLK_H p) 1)
  else (none, s.lanP p fun y => { y with parts := ((old ++ [e]).reverse.take (2 * lanes * parts)).reverse })

/-- The address an ENUM gives a tile (R213): HOP + 1 from the head, COUNT - HOP from the tail, 126 where that lies outside 1 to 96. -/
def enumAddr (w : WFrame) : Nat :=
  let hop := numAt w.tspec 0 1
  let a := if numAt w.tspec 1 1 = 0 then hop + 1 else numAt w.tspec 2 1 - hop
  if 1 ≤ a ∧ a ≤ 96 then a else 126

/-- The end from which a tile takes the poll master's frames, once it has a good one from port p (R211): the claimant's own, but the
head's where the other end has claimed within 1 ms. -/
def masterSide (s : State) (p : Nat) (w : WFrame) : Nat :=
  if w.sflags.testBit 1 && !w.sflags.testBit 2 then
    if (s.cmc.mstAt.getD (1 - p) none).any fun t => decide (s.clk.now < t + 1000000) then 0 else p
  else s.f F.CMC_STATUS_MSTSIDE

/-- Does a frame from port `p` come from the current poll master, directly or relayed (R198, R211)? -/
def fromMaster (s : State) (p : Nat) (w : WFrame) : Bool := w.sflags.testBit 3 || s.masterSide p w == p

/-- A passing ENUM as a tile forwards it, with HOP incremented (R199, R213); none for any other block. -/
def enumForward (s : State) (p : Nat) (b : List Byte) (bad : Bool) : Option (List Byte) :=
  let w := parseFrame b
  if !s.isSender && w.typ == 0x03 && judge b bad none == .good && s.fromMaster p w then
    some ({ w with tspec := BitVec.ofNat 8 (numAt w.tspec 0 1 + 1) :: w.tspec.drop 1 }).bytes
  else none

/-- LANE_BLOCK_RX: 4,096 line bits of lane l of port p, which came `skew` UI after the first lane's; the result is a whole port
block for the MAC.  `recentre` says that the repeat FIFO came within 8 UI of an end: it is recentred at the next block boundary, and
that block is replaced by one with a bad CRC (R183). [DESIGN CHOICE, log entry 63] -/
def laneRx (s : State) (p l : Nat) (bits : BitVec 4096) (skew : Nat) (recentre : Bool) : Option (List Byte × Bool) × State :=
  let lanes := (Lane.shape p (s.port p).single).1
  let loop := (s.port p).loopIn
  let s := if s.laneOn p && loop == 3 then s.emit (.laneBits p l bits) else s
  if !s.laneOn p || lanes ≤ l || s.rxst p < 3 then (none, s)
  else
    let c := Lane.ctlOf bits
    let was := s.rxst p
    let s := s.laneCtl p l c skew
    if s.rxst p ≠ 5 then
      let s := if was = 5 then s else
        s.lanP p fun y => { y with seq := setAt y.seq l fun q => if Lane.syncOk c then Lane.bseqOf c else (q + 1) % 8 }
      (none, s.laneDeskew p)
    else
      let onward := s.repeating (1 - p) && decide (p < 2) && !(s.port (1 - p)).idle
      let s := if onward && recentre then
          ((s.lanP p fun y => { y with recentre := true }).bump (F.LAN_P_FIFO_COUNT p)).raise 225
        else s
      let (b, s) := s.laneData p l bits
      match b with
      | none => (none, s)
      | some (bytes, bad, line) =>
        let s := if !onward then s
          else if (s.port p).recentre then
            line.foldl (fun s x =>
              let pay := (Lane.decode x.1 x.2).1
              s.emitLane (1 - p) x.1 x.1 (Lane.bseqOf (Lane.ctlOf x.2)) pay true) (s.lanP p fun y => { y with recentre := false })
          else match (if numAt bytes 0 1 = 0 then s.takeSub (1 - p) else (s.enumForward p bytes bad).map fun b => (b, s)) with
            | some (b, s) =>
              let (b, s) := s.departs (1 - p) b
              s.putBlock (1 - p) b (line.map fun x => (x.1, Lane.bseqOf (Lane.ctlOf x.2)))
            | none => line.foldl (fun s x => s.emit (.laneBits (1 - p) x.1 x.2)) s
        if loop = 0 && !s.on (F.LAN_P_CTL_TPAT p) then (some (bytes, bad), s) else (none, s)

/-! ### Offset calibration (R186, R187) -/

/-- A calibration is refused. -/
def calFail (s : State) (code port lane : Nat) : State :=
  (((({ s with lan := { s.lan with cal := none } }.setF F.LAN_CAL_STAT_BUSY 0).setF F.LAN_CAL_STAT_CODE code).setF
    F.LAN_CAL_STAT_PORT port).setF F.LAN_CAL_STAT_LANE lane).raise 224

/-- The data lanes of a mask of ports. -/
def calLanes (ports : Nat) : List (Nat × Nat) :=
  ((List.range 9).filter ports.testBit).flatMap fun p => (List.range (Lane.shape p false).1).map fun l => (p, l)

/-- OFFSET_CAL_START: a non-zero write to LAN_CAL. [DESIGN CHOICE, log entry 63] -/
def calStart (s : State) (ports : Nat) : State :=
  if ports = 0 || s.on F.LAN_CAL_STAT_BUSY then s
  else
    match ((List.range 9).filter ports.testBit).find? fun p => !s.portUp p with
    | some p => s.calFail 7 p 0
    | none =>
      { s.setF F.LAN_CAL_STAT_BUSY 1 with
        lan := { s.lan with cal := some { ports := ports, trial := (calLanes ports).map fun x => (x.1, x.2, -32) } } }

/-- Does a lane fail check `code` of Table 08.6 in a window? -/
def laneFails (k : LanCal) (st : LaneStat) (code : Nat) (t : Int) : Bool :=
  let n := 2 ^ 24
  match code with
  | 1 => k.lost == some (st.port.val, st.lane.val)
  | 2 => decide (st.ones * 100 < 49 * n ∨ 51 * n < st.ones * 100)
  | 3 => decide (st.runs1 * 100 < 48 * st.runs ∨ 52 * st.runs < st.runs1 * 100 ∨ 32 < st.longest)
  | 4 => decide (st.trans < 2 ^ 20)
  | 5 => k.df == some (st.port.val, st.lane.val)
  | 6 => k.step == 6 && (decide (st.edge * 100 < 49 * st.trans ∨ 51 * st.trans < st.edge * 100) || t == -32 || t == 31)
  | 7 => k.down == some st.port.val
  | _ => false

/-- OFFSET_CAL_WINDOW_END: a window ends with the statistics of every lane; while some lane's have not come it has not ended. -/
def calWindow (s : State) (stats : List LaneStat) : State :=
  match s.lan.cal with
  | none => s
  | some k =>
    let trimOf := fun (p l : Nat) => ((k.trial.find? fun x => x.1 == p && x.2.1 == l).map (·.2.2)).getD 0
    let mine := stats.filter fun x => k.ports.testBit x.port.val
    let fail := [1, 2, 3, 4, 5, 6, 7].findSome? fun code =>
      (mine.find? fun x => laneFails k x code (trimOf x.port.val x.lane.val)).map fun x => (code, x.port.val, x.lane.val)
    let fail := fail.or (k.lost.map fun x => (1, x.1, x.2)) |>.or (k.df.map fun x => (5, x.1, x.2)) |>.or (k.down.map fun p => (7, p, 0))
    match fail with
    | some (code, p, l) => s.calFail code p l
    | none =>
      if !(calLanes k.ports).all (fun x => mine.any fun y => y.port.val == x.1 && y.lane.val == x.2) then s
      else if k.step < 6 then
        let trial := k.trial.map fun x =>
          if mine.any fun y => y.port.val == x.1 && y.lane.val == x.2.1 && y.keep then (x.1, x.2.1, x.2.2 + 2 ^ (5 - k.step)) else x
        { s with lan := { s.lan with cal := some { k with step := k.step + 1, trial := trial } } }
      else
        let edits := k.trial.map fun x => (0x40 + 4 * x.1 + x.2.1, leBytes 1 (twos 8 x.2.2))
        let (ok, s) := ({ s with lan := { s.lan with cal := none } }).recRequest { kind := 2, cal := 0, time := s.calTime, edits := edits }
        if ok then s else s.calFail 8 0 0

/-! ### Loops, test pattern, electrical idle, provisioning rate (R188 to R191) -/

/-- LOOP_ENTER: LAN_Pp_CTL.LOOP is set to a non-zero value. -/
def loopEnter (s : State) (p v : Nat) : State := if !s.laneOn p then s else (s.setF (F.LAN_P_CTL_LOOP p) v).noteTx p

/-- LOOP_EXIT: LAN_Pp_CTL.LOOP is set to 0. -/
def loopExit (s : State) (p : Nat) : State := if !s.laneOn p then s else (s.setF (F.LAN_P_CTL_LOOP p) 0).noteTx p

/-- TEST_PATTERN_SET: LAN_Pp_CTL.TPAT is set; the state the sequence starts from is open. [DESIGN CHOICE, log entry 64] -/
def testPattern (s : State) (p : Nat) : State :=
  if !s.laneOn p then s
  else
    let s := s.setF (F.LAN_P_CTL_TPAT p) 1
    let s := (List.range 4).foldl (fun s l =>
      let (v, s) := s.takeFree 31
      s.lanP p fun x => { x with tpTx := setAt x.tpTx l fun _ => if v = 0 then 1 else v }) s
    s.lanP p fun x => { x with tpRx := [none, none, none, none], tpTold := false }

/-- EIDLE_SET and TXON_SET: the bit is set, and the transmitter follows. -/
def eidleSet (s : State) (p : Nat) : State := if s.laneOn p then (s.setF (F.LAN_P_CTL_EIDLE p) 1).noteTx p else s
/-- [DEDUCED, log entry 68] -/
def txonSet (s : State) (p : Nat) : State :=
  if s.laneOn p && s.isSender then (s.setF (F.LAN_P_CTL_TXON p) 1).noteTx p else s

/-- PROV_SET: LAN_Pp_CTL.PROV is written; it takes effect at the next frame boundary.  Table 08.8 gives the bit to the pair link too,
but R191 speaks of chain ports only: at port 8 the write is dropped.  [DESIGN CHOICE, log entry 196] -/
def provSet (s : State) (p : Nat) (v : Bool) : State :=
  if s.laneOn p && s.isSender && decide (p < 8) then
    (s.setF (F.LAN_P_CTL_PROV p) v.toNat).lanP p fun l => { l with provAsk := if l.prov = v then none else some v }
  else s

/-- The changes of rate asked for begin at a frame boundary: electrical idle, and the receive side restarts from Idle (R191). -/
def provFrame (s : State) : State :=
  (List.range 8).foldl (fun s p =>
    match (s.port p).provAsk with
    | none => s
    | some v =>
      let s := s.lanP p fun l => { l with prov := v, provAsk := none, restart := true }
      (s.noteTx p).toIdle p) s

/-- ELECTRICAL_IDLE_END: 100 us of electrical idle end, and the transmitter restarts (R191, R192). -/
def idleEnd (s : State) (p : Nat) : State := (s.lanP p fun l => { l with restart := false }).noteTx p

end State

end Sys2Proof.Machine
end

