-- ==== Sys2Proof/Machine/Flags.lean ====
section
/-! DEFINITION. Residues of fabric words (Tables 03.5 and 03.6): the codes that the error bit of a token is formed from. -/

namespace Sys2Proof.Machine

/-- The residue code of a signed value (Table 03.5). -/
def residue (x : Int) : Nat := (x % 3).toNat

/-- The invalid residue code, which matches no value. -/
def residueInvalid : Nat := 3

/-- Does a carried residue match a word's data (R58)? -/
def residueOk (carried : Nat) (x : Int) : Bool := carried != residueInvalid && carried == residue x

/-- The predicted residue of a sum or difference of 24-bit words, adjusted by the wraps out of bit 23 (Table 03.6). -/
def residueAdd (ra rb : Int) (wraps : Int) : Nat := ((ra + rb - wraps) % 3).toNat

/-- The predicted residue of a product with an accumulator, adjusted by the wraps out of bit 47 (Table 03.6). -/
def residueMac (ra rb racc : Nat) (wraps : Int) : Nat := (((ra : Int) * rb + racc - wraps) % 3).toNat

/-- The predicted residue of RSH x, s, for the carried residue of x (Table 03.6): d is the value of the s bits discarded of
x + 2^(s-1). -/
def residueRsh (rx : Nat) (x : Int) (s : Nat) : Nat :=
  if s = 0 then rx
  else ((((rx : Int) + 2 ^ (s - 1) - (x + 2 ^ (s - 1)) % 2 ^ s) * (if s % 2 = 0 then 1 else 2)) % 3).toNat

/-- The predicted residue of LERP, composed from its SUB, MUL, RSH and ADD (Table 03.6). -/
def residueLerp (r0 r1 rf : Nat) (y0 y1 f : Int) : Nat :=
  residueAdd r0 (residueRsh (residueMac (residueAdd r1 (-r0) 0) rf 0 0) ((y1 - y0) * f) 12) 0

/-- The predicted residue of SAT: that of the bound taken, or of the value as carried (Table 03.6). -/
def residueSat (rx : Nat) (x lo hi : Int) : Nat := if x < lo then residue lo else if hi < x then residue hi else rx

end Sys2Proof.Machine
end

