-- ==== Sys2Proof/Machine/Cell.lean ====
section
/-! DEFINITION. The arithmetic of a fabric cell (R47, R53, R57, R58): its primitives on words that carry residues, with the operand
check and the result check of each. -/

namespace Sys2Proof.Machine

/-- A word with the residue of its data. -/
def FWord.sound (v : BitVec 24) : FWord := ⟨v, BitVec.ofNat 2 (residue v.toInt)⟩

/-- A cell at work on a token: the components, the accumulator with its residue code, and the mismatches found. -/
structure CellRun where
  comps : List FWord
  acc : BitVec 48
  accCode : BitVec 2
  bad : Nat := 0
deriving DecidableEq, Repr

/-- An operand of LDS from a 32-bit local SRAM word: its low 24 bits, or a half extended as the program states (Table 03.3). -/
def ldsPart (w : Nat) (part : Fin 3) (signed : Bool) : BitVec 24 :=
  let half := fun (h : BitVec 16) => if signed then h.signExtend 24 else h.setWidth 24
  match part with
  | 0 => BitVec.ofNat 24 w
  | 1 => half (BitVec.ofNat 16 w)
  | 2 => half (BitVec.ofNat 16 (w / 2 ^ 16))

/-- The word an operand names; `sram` gives a local SRAM word and tells whether two of its bits are in error, which forces the invalid
residue (R47, R63). -/
def CellArg.word (x : CellArg) (r : CellRun) (sram : Nat → Nat × Bool) : FWord :=
  match x with
  | .comp i => r.comps.getD i.val {}
  | .const v => .sound v
  | .lds a part signed ecc =>
    let (w, double) := sram a.toNat
    let v := FWord.sound (ldsPart w part signed)
    if double || ecc == 2 then { v with code := 3 } else v

/-- The operands of a primitive, in order. -/
def CellPrim.args : CellPrim → List CellArg
  | .mul a b | .mac a b | .add _ a b | .sub _ a b => [a, b]
  | .rsh _ x _ => x.toList
  | .sat _ x _ _ | .load _ x => [x]
  | .lerp _ y0 y1 f => [y0, y1, f]

/-- Does a primitive read the accumulator? -/
def CellPrim.readsAcc : CellPrim → Bool
  | .mac _ _ | .rsh _ none _ => true
  | _ => false

/-- The local SRAM words a primitive reads, each with the errors found. -/
def CellOp.reads (o : CellOp) : List (Nat × Fin 3) :=
  o.prim.args.filterMap fun x => match x with | .lds a _ _ ecc => some (a.toNat, ecc) | _ => none

/-- A result in the accumulator: exact, wrapped to 48 bits, with its predicted residue (Table 03.6). -/
def CellRun.putAcc (r : CellRun) (exact : Int) (ra rb racc : Nat) (flip : BitVec 48) : CellRun :=
  let v := BitVec.ofInt 48 exact
  let code := residueMac ra rb racc ((exact - v.toInt) / 2 ^ 48)
  let out := v ^^^ flip
  { r with acc := out, accCode := BitVec.ofNat 2 code, bad := r.bad + if residueOk code out.toInt then 0 else 1 }

/-- A result in a component, with its predicted residue. -/
def CellRun.put (r : CellRun) (dst : Fin 3) (v : BitVec 24) (code : Nat) (flip : BitVec 48) : CellRun :=
  let out := v ^^^ flip.setWidth 24
  { r with comps := setAt r.comps dst.val fun _ => ⟨out, BitVec.ofNat 2 code⟩,
           bad := r.bad + if residueOk code out.toInt then 0 else 1 }

/-- One primitive with its operand check and its result check (R53, R58). -/
def CellRun.op (r : CellRun) (o : CellOp) (sram : Nat → Nat × Bool) : CellRun :=
  let ws : List FWord := (o.prim.args.map fun x => x.word r sram).zipIdx.map fun x => { x.1 with data := x.1.data ^^^ o.flips.getD x.2 0 }
  let acc := (r.acc ^^^ o.flipAcc).toInt
  let accBad := o.prim.readsAcc && !residueOk r.accCode.toNat acc
  let r := { r with bad := r.bad + (ws.filter fun (w : FWord) => !residueOk w.code.toNat w.data.toInt).length + accBad.toNat }
  let w : Nat → FWord := fun i => ws.getD i {}
  let v : Nat → Int := fun i => (w i).data.toInt
  let c : Nat → Nat := fun i => (w i).code.toNat
  let half := fun (i : Nat) => sgn 16 (w i).data.toNat
  let sum := fun (dst : Fin 3) (x : Int) (rb : Int) =>
    let y := BitVec.ofInt 24 x
    r.put dst y (residueAdd (c 0) rb ((x - y.toInt) / 2 ^ 24)) o.flipOut
  match o.prim with
  | .mul _ _ => r.putAcc (half 0 * v 1) (c 0) (c 1) 0 o.flipOut
  | .mac _ _ => r.putAcc (acc + half 0 * v 1) (c 0) (c 1) r.accCode.toNat o.flipOut
  | .add dst _ _ => sum dst (v 0 + v 1) (c 1)
  | .sub dst _ _ => sum dst (v 0 - v 1) (-(c 1 : Int))
  | .rsh dst x s =>
    let (y, cy) : Int × Nat := if x.isSome then (v 0, c 0) else (acc, r.accCode.toNat)
    r.put dst (BitVec.ofInt 24 (rsh y s.val)) (residueRsh cy y s.val) o.flipOut
  | .sat dst _ lo hi => r.put dst (BitVec.ofInt 24 (sat (v 0) lo.toInt hi.toInt)) (residueSat (c 0) (v 0) lo.toInt hi.toInt) o.flipOut
  | .load dst _ => r.put dst (w 0).data (c 0) o.flipOut
  | .lerp dst _ _ _ =>
    r.put dst (BitVec.ofInt 24 (lerp (v 0) (v 1) (v 2).toNat)) (residueLerp (c 0) (c 1) (c 2) (v 0) (v 1) (v 2)) o.flipOut

/-- The primitives of a cell's program with the upsets that meet them: `ins` gives for each the bits inverted in its operands and in the
accumulator it reads, `outs` those inverted in its result, and where a list is shorter nothing is inverted. -/
def cellOps (prims : List CellPrim) (ins : List (List (BitVec 24) × BitVec 48)) (outs : List (BitVec 48)) : List CellOp :=
  prims.mapIdx fun i p => ⟨p, (ins.getD i ([], 0)).1, (ins.getD i ([], 0)).2, outs.getD i 0⟩

/-- A program on a token: its primitives in order. -/
def CellRun.program (r : CellRun) (ops : List CellOp) (sram : Nat → Nat × Bool) : CellRun :=
  ops.foldl (fun r o => r.op o sram) r

end Sys2Proof.Machine
end

