-- ==== Sys2Proof/Machine/Fmc.lean ====
section
/-! DEFINITION. The frame memory controller (chapter 13): geometry, the address mapping of R290, the row predictor, refresh debt,
training, self-refresh, ECC, scrub and the real-time FIFOs. -/

namespace Sys2Proof.Machine

/-- Where a granule lies (R290). -/
structure Place where
  ch : Nat
  rank : Nat
  bank : Nat
  row : Nat
  col : Nat
deriving DecidableEq, Repr

/-- The mapping of R290: ORDER, the number of channels in use, ROWS, GPC and a local address. -/
def mapAddr (order nch rows gpc a : Nat) : Place :=
  let g := a / 64
  let (ch, l) := if order = 3 then (g / 4 % nch, g / 4 / nch * 4 + g % 4) else (g / gpc, g % gpc)
  let col := l % 64
  let l := l / 64
  let (row, bank, rank) :=
    if order = 1 then (l % rows, l / rows % 16, l / rows / 16) else (l / 16 % rows, l % 16, l / 16 / rows)
  ⟨ch, rank, if 2 ≤ order then bank ^^^ row % 16 else bank, row, col⟩

/-- Requests in the order in which they arrived: their addresses, the data of those that write, and the clients in real time. -/
def dramReqs (addrs : List (BitVec 40)) (data : List (Option (BitVec 512))) (clients : List (Option (Fin 3))) : List DramReq :=
  addrs.mapIdx fun i a => ⟨a, data.getD i none, clients.getD i none⟩

namespace State

/-- The channels in use, ascending: the set bits of DRAM_MASK. -/
def chansOn (s : State) : List Nat := (List.range 4).filter fun c => (s.f F.FMC_CFG_MASK).testBit c

/-- Rows per bank, and granules per channel, of the geometry in use (R288). -/
def fmcRows (s : State) : Nat := 2 ^ (15 + s.f F.FMC_GEOM_ROWB)
def fmcGpc (s : State) : Nat := (s.f F.FMC_GEOM_RANKS2 + 1) * 16 * s.fmcRows * 64

/-- The place of a local address under the configuration in use, its channel by its true number. -/
def placeOf (s : State) (a : Nat) : Place :=
  let p := mapAddr (s.f F.FMC_CFG_ORDER) (max 1 s.chansOn.length) s.fmcRows s.fmcGpc a
  { p with ch := s.chansOn.getD p.ch 0 }

/-- Index of a bank in dump section 0x0014: channel, rank, bank with bank fastest (R292). -/
def bankIdx (c r b : Nat) : Nat := c * 32 + r * 16 + b

def bank (s : State) (i : Nat) : BankSt := tabAt s.fmc.banks i {}
def setBank (s : State) (i : Nat) (g : BankSt → BankSt) : State := { s with fmc := { s.fmc with banks := tabMod s.fmc.banks i g } }

/-- The bytes of dump section 0x0014 (R292). [DESIGN CHOICE, log entry 23] -/
def predictorDump (s : State) : List Byte :=
  (List.range 128).flatMap fun i =>
    if s.chansOn.contains (i / 32) then
      let b := s.bank i
      leBytes 4 (b.c + b.isOpen.toNat * 4 + b.row % 2 ^ 18 * 256)
    else leBytes 4 0

/-- The geometry in use: the smallest of the channels that have been trained (R288). [DESIGN CHOICE, log entry 22] -/
def smallest : List (Bool × Nat) → Bool × Nat
  | [] => (false, 0)
  | [g] => g
  | g :: gs => let h := smallest gs; (g.1 && h.1, min g.2 h.2)

/-- FMC_GEOM and FMC_SIZE from the channels in use (R288). [DESIGN CHOICE, log entry 22] -/
def setGeometry (s : State) : State :=
  let (r2, rowb) := smallest (s.chansOn.map fun c => s.fmc.geom.getD c (false, 0))
  let gb := (r2.toNat + 1) * 2 ^ (1 + rowb)
  (((s.setF F.FMC_GEOM_RANKS2 r2.toNat).setF F.FMC_GEOM_ROWB rowb).setF F.FMC_GEOM_CHGB gb).setF F.FMC_SIZE_MB
    (s.chansOn.length * gb * 1024)

/-- A channel's state and its bits in FMC_STATUS. -/
def setChan (s : State) (c st : Nat) : State :=
  let s := s.setF (F.FMC_CH_STAT_STATE c) st
  let put := fun (m : Nat) (b : Bool) => if b then m ||| 2 ^ c else m &&& (15 - 2 ^ c)
  let s := (s.setF F.FMC_STATUS_READY (put (s.f F.FMC_STATUS_READY) (st == 2))).setF F.FMC_STATUS_FAILED
    (put (s.f F.FMC_STATUS_FAILED) (st == 4))
  s.setF F.FMC_STATUS_SR (s.chansOn.any fun k => s.f (F.FMC_CH_STAT_STATE k) == 3).toNat

/-- The scrub runs: enabled, some channel in use, all of them Ready, and not suspended by throttle stage 1 (R301). -/
def scrubRuns (s : State) : Bool :=
  s.on F.FMC_CTL_SCRUB_EN && !s.chansOn.isEmpty && (s.chansOn.all fun c => s.f (F.FMC_CH_STAT_STATE c) == 2) &&
    s.f F.THM_STATUS_STAGE == 0

def noteScrub (s : State) : State := s.setF F.FMC_STATUS_SCRUB s.scrubRuns.toNat

/-- Training starts on the channels of DRAM_MASK as the image is run (R287, R296). -/
def startTraining (s : State) : State :=
  s.chansOn.foldl (fun s c => { s.setChan c 1 with fmc := { s.fmc with pass := setAt s.fmc.pass c fun _ => 0 } }) s

/-- CHANNEL_TRAINING_DONE (R288, R296, R297): the channel's geometry, and `fail` 0 for a pass or the TFAIL code.  The result's
second part asks for the system reset of R297 after a failed retraining. -/
def trainingDone (s : State) (c : Nat) (ranks2 : Bool) (rowb fail : Nat) : Bool × State :=
  if !s.present .FMC || !s.chansOn.contains c || s.f (F.FMC_CH_STAT_STATE c) ≠ 1 then (false, s)
  else
    let p := s.fmc.pass.getD c 0
    if fail = 0 then
      let s := if p = 0 then { s with fmc := { s.fmc with geom := setAt s.fmc.geom c fun _ => (ranks2, rowb % 4) } } else s
      let s := (s.setChan c 2).setF (F.FMC_CH_STAT_TFAIL c) 0
      let s := s.raise (if p = 0 then 296 else 305)
      let s := { s with fmc := { s.fmc with pass := setAt s.fmc.pass c fun _ => 0 } }
      let done := s.chansOn.all fun k => s.f (F.FMC_CH_STAT_STATE k) != 1
      let gs := s.chansOn.map fun k => s.fmc.geom.getD k (false, 0)
      let s := if p = 0 && done then s.setGeometry.raiseIf (gs.any fun g => g != gs.headD g) 303 else s
      (false, s.noteScrub)
    else if p = 1 then (false, { s with fmc := { s.fmc with pass := setAt s.fmc.pass c fun _ => 2 } })
    else
      let s := (s.setChan c 4).setF (F.FMC_CH_STAT_TFAIL c) fail
      let s := s.raise (if p = 0 then 297 else 306)
      let done := s.chansOn.all fun k => s.f (F.FMC_CH_STAT_STATE k) != 1
      let s := if p = 0 && done then s.setGeometry else s
      (p == 2, s.noteScrub)

/-- Every row closes and every refresh debt is paid, the predictors unchanged (R292, R297). -/
def closeAll (s : State) : State :=
  { s with fmc := { s.fmc with banks := tabMap s.fmc.banks fun b => { b with isOpen := false, byPred := false, debt := 0 } } }

/-- Accepted writes complete, and the reads that wait are dropped with their clients (R297, R298). -/
def flushQueues (s : State) : State :=
  let s := (s.fmc.sched.flatMap fun x => x.queue).foldl (fun s w =>
    match w.req.data with
    | some d => s.dramPut (w.req.addr.toNat / 64 * 64) (leBytes 64 d.toNat)
    | none => s) s
  { s with fmc := { s.fmc with sched := List.replicate 4 {} } }

/-- Self-refresh of every Ready channel in use; in Doze with the clocks running (R297). -/
def selfRefresh (s : State) (doze : Bool) : State :=
  if s.chansOn.isEmpty then s
  else
    let s := s.flushQueues.closeAll
    let s := s.chansOn.foldl (fun s c => if s.f (F.FMC_CH_STAT_STATE c) = 2 then s.setChan c 3 else s) s
    ({ s with fmc := { s.fmc with dozing := doze } }).noteScrub.raise 304

/-- Leaving self-refresh: at once to Ready after Doze, through the shortened retraining after Standby (R297). -/
def leaveSelfRefresh (s : State) : State :=
  let doze := s.fmc.dozing
  let s := s.chansOn.foldl (fun s c =>
    if s.f (F.FMC_CH_STAT_STATE c) ≠ 3 then s
    else if doze then (s.setChan c 2).raise 305
    else { s.setChan c 1 with fmc := { s.fmc with pass := setAt s.fmc.pass c fun _ => 1 } }) s
  s.noteScrub

/-- A change of one bank's refresh debt, with the highest value kept in DEBTMAX. -/
def setDebt (s : State) (c i d : Nat) : State :=
  let s := s.setBank i fun b => { b with debt := d }
  s.setF (F.FMC_CH_STAT_DEBTMAX c) (max (s.f (F.FMC_CH_STAT_DEBTMAX c)) d)

/-- REFRESH_INTERVAL (R294): since the last one `paid` refreshes reached the bank while no request stood at its head; the debt
rises by one, and at 9 a refresh is forced. [DESIGN CHOICE, log entry 26] -/
def refreshInterval (s : State) (c r b paid : Nat) : State :=
  if !s.present .FMC || s.f (F.FMC_CH_STAT_STATE c) ≠ 2 then s
  else
    let i := bankIdx c r b
    let old := (s.bank i).debt
    let s := if 0 < min paid old then
        (s.setBank i fun x => { x with isOpen := false, byPred := false }).emit (.dram c 0 (r * 16 + b) 0) else s
    let d := old - paid + 1
    let s := s.setDebt c i d
    if d < 9 then s
    else
      let s := (s.setBank i fun x => { x with isOpen := false, byPred := false, debt := 8 }).emit (.dram c 0 (r * 16 + b) 0)
      (s.bump (F.FMC_CH_FORCED_COUNT c)).raise 300

/-- The refresh-rate field of a channel in FMC_TEMP. -/
def rrField (c : Nat) : Fld := ⟨R.FMC_TEMP, 8 * (c % 4), 5⟩

/-- REFRESH_RATE_POLL (R294): mode register 4 is read; a changed code raises event 307. -/
def refreshRatePoll (s : State) (c code : Nat) : State :=
  if !s.present .FMC || s.f (F.FMC_CH_STAT_STATE c) ≠ 2 then s
  else ((s.emit (.dram c 1 4 0)).setF (rrField c) code).raiseIf (s.f (rrField c) != code) 307

/-- A request for `p` reaches the head of its bank's queue: the predictor of R292. -/
def headReached (s : State) (p : Place) : State :=
  let b := s.bank (bankIdx p.ch p.rank p.bank)
  let up := b.row == p.row && (b.isOpen || b.byPred)
  let down := b.row != p.row && (b.isOpen || b.byPred)
  if !s.on F.FMC_CTL_PRED_EN then s
  else s.setBank (bankIdx p.ch p.rank p.bank) fun b => { b with c := if up then min (b.c + 1) 3 else if down then b.c - 1 else b.c }

/-- The request at the head of a bank's queue is served: the counts of FMC_CHc_HIT, CONF and ACT, and the row, closed afterwards
when this was the bank's `last` queued request and the predictor says so (R292). -/
def serveRow (s : State) (p : Place) (last : Bool) : State :=
  let b := s.bank (bankIdx p.ch p.rank p.bank)
  let pred := s.on F.FMC_CTL_PRED_EN
  let hit := b.isOpen && b.row == p.row
  let close := last && (!pred || decide (b.c ≤ 1))
  let s := if hit then s.bump (F.FMC_CH_HIT_COUNT p.ch) else s.bump (F.FMC_CH_ACT_COUNT p.ch)
  let s := if b.isOpen && !hit then s.bump (F.FMC_CH_CONF_COUNT p.ch) else s
  s.setBank (bankIdx p.ch p.rank p.bank) fun b => { b with isOpen := !close, row := p.row, byPred := close && pred }

/-- The ECC outcome of a read (R300, R301). -/
def eccNote (s : State) (c a : Nat) (e : Ecc) (scrub : Bool) : State :=
  match e with
  | .ok => s
  | .corrected => (s.bump (F.FMC_CH_CE_COUNT c)).raise 298
  | _ =>
    let src := match e with | .link => 0 | .die => 1 | _ => 2
    (((((s.bump (F.FMC_CH_UE_COUNT c)).setF F.FMC_LAST_UE_LO_ADDR a).setF F.FMC_LAST_UE_HI_ADDR (a / 2 ^ 32)).setF
      F.FMC_LAST_UE_HI_SRC src).setF F.FMC_LAST_UE_HI_SCRUB scrub.toNat).raise 299

/-- The longest wait of a real-time client's request (Table 13.8), saturating. -/
def noteWait (s : State) (client : Option (Fin 3)) (wait : Nat) : State :=
  match client with
  | none => s
  | some k => s.setF (F.FMC_RT_STAT_MAXWAIT k) (max (s.f (F.FMC_RT_STAT_MAXWAIT k)) (min wait 0xFFFF))

/-- The scheduler of a channel, and a change of it. -/
def sched (s : State) (c : Nat) : SchedSt := s.fmc.sched.getD c {}
def setSched (s : State) (c : Nat) (g : SchedSt → SchedSt) : State := { s with fmc := { s.fmc with sched := setAt s.fmc.sched c g } }

/-- The place of a request, and whether two requests are for the same bank of a channel. -/
def placeReq (s : State) (w : DramWait) : Place := s.placeOf (w.req.addr.toNat / 64 * 64)
def sameBank (s : State) (v w : DramWait) : Bool :=
  let p := s.placeReq v
  let q := s.placeReq w
  p.rank == q.rank && p.bank == q.bank

/-- The requests at the heads of the banks' queues, oldest first. -/
def headsOf (s : State) (q : List DramWait) : List DramWait :=
  q.foldl (fun hs w => if hs.any (s.sameBank w) then hs else hs ++ [w]) []

/-- How many writes the banks' queues can serve before any needs a read served first. -/
def writesAhead (s : State) (q : List DramWait) : Nat :=
  (q.foldl (fun (g : Nat × List DramWait) w =>
    if g.2.any (s.sameBank w) then g else if w.req.data.isSome then (g.1 + 1, g.2) else (g.1, w :: g.2)) (0, [])).1

/-- Half the time covered of a real-time client in ns (Table 13.3). -/
def rtHalf (k : Fin 3) : Nat := [1390, 1225, 4095].getD k.val 0

/-- A request joins its bank's queue of at most 16, or waits with its client (R291).  [DESIGN CHOICE, log entry 192] -/
def joinQueue (s : State) (w : DramWait) : State :=
  let p := s.placeReq w
  let n := (s.sched p.ch).queue.countP (s.sameBank w)
  if 16 ≤ n then s.setSched p.ch fun c => { c with outside := c.outside ++ [w] }
  else
    let s := s.setSched p.ch fun c => { c with queue := c.queue ++ [w] }
    if n = 0 then s.headReached p else s

/-- A client makes a request: one outside the populated space is answered at once (R289), one to a channel that is not Ready is
refused (R297), any other joins its queue.  The result's second part is the address of a read marked uncorrectable. -/
def request (s : State) (r : DramReq) : State × Option Nat :=
  let a := r.addr.toNat / 64 * 64
  if !s.dramIn a 64 then (s.outOfRange a r.data.isSome, if r.data.isSome then none else some a)
  else if s.f (F.FMC_CH_STAT_STATE (s.placeOf a).ch) ≠ 2 then (s, none)
  else (s.joinQueue ⟨r, 0⟩, none)

/-- Time passes for a channel's scheduler; activates older than any tFAW matter no longer. -/
def schedAge (s : State) (c ns : Nat) : State :=
  let faw := Config.tFaw (s.f F.FMC_CFG_RATE)
  let older := fun (w : DramWait) => { w with waited := w.waited + ns }
  s.setSched c fun x => { x with
    queue := x.queue.map older
    outside := x.outside.map older
    acts := (x.acts.map fun (a : Nat × Nat) => (a.1, a.2 + ns)).filter fun (a : Nat × Nat) => decide (a.2 < faw) }

/-- Writes are drained in groups of at least 8 (R291): a group begins when 8 writes can be served and no read waits at a head, and
ends when no write does, or after 8 when a read does.  [DESIGN CHOICE, log entry 192] -/
def writeGroup (s : State) (c : Nat) : State :=
  let x := s.sched c
  let hs := s.headsOf x.queue
  let reads := hs.any fun w => w.req.data.isNone
  let writes := hs.any fun w => w.req.data.isSome
  let g := match x.group with
    | some k => if !writes || (decide (8 ≤ k) && reads) then none else some k
    | none => if !reads && decide (8 ≤ s.writesAhead x.queue) then some 0 else none
  s.setSched c fun x => { x with group := g }

/-- The rotating order of activates (R291). -/
def actOrder : List Nat := [0, 4, 8, 12, 1, 5, 9, 13, 2, 6, 10, 14, 3, 7, 11, 15]

/-- The next bank in the rotating order among the candidates, of rank 0 before rank 1.  [DESIGN CHOICE, log entry 192] -/
def nextAct (s : State) (ptr : Nat) (hs : List DramWait) : Option DramWait :=
  ((List.range 16).flatMap fun i =>
    let bank := actOrder.getD ((ptr + i) % 16) 0
    [0, 1].filterMap fun rank => hs.find? fun w => (s.placeReq w).rank == rank && (s.placeReq w).bank == bank).head?

/-- The request that a channel serves next, by the first rule of R291 that applies; a request whose age counts is reached through
the head of its bank's queue.  [DEDUCED, log entry 193] -/
def schedPick (s : State) (c : Nat) : Option DramWait :=
  let x := s.sched c
  let hs := s.headsOf x.queue
  let headFor := fun (w : DramWait) => hs.find? (s.sameBank w)
  let late := fun (w : DramWait) => match w.req.client with
    | some k => decide (rtHalf k < w.waited)
    | none => false
  let may := hs.filter fun w => w.req.data.isSome == x.group.isSome
  let hit := fun (w : DramWait) =>
    let p := s.placeReq w
    let b := s.bank (bankIdx c p.rank p.bank)
    b.isOpen && b.row == p.row
  ((x.queue.find? late).bind headFor).or (((x.queue.find? fun w => decide (s.f F.FMC_SCHED_AGEMAX < w.waited)).bind headFor).or
    ((may.find? hit).or (s.nextAct x.ptr may)))

/-- The time for which tFAW still holds back an activate on a rank: four activates at most within it (R291). -/
def fawHold (s : State) (c rank : Nat) : Nat :=
  let ages := ((s.sched c).acts.filter fun (a : Nat × Nat) => a.1 == rank).map Prod.snd
  if ages.length < 4 then 0 else Config.tFaw (s.f F.FMC_CFG_RATE) - ages.getD (ages.length - 4) 0

/-- The longest wait of a channel's requests. -/
def longestWait (s : State) (c : Nat) : Nat := ((s.sched c).queue.map fun w => w.waited).foldl max 0

/-- A chosen request is served: activated if its row is not open, taken from its queue, performed, and followed by the next request
of its bank and by one that waited for room.  The result's second part is the address of a read marked uncorrectable. -/
def serveReq (s : State) (c : Nat) (w : DramWait) (e : Ecc) : State × Option Nat :=
  let p := s.placeReq w
  let b := s.bank (bankIdx c p.rank p.bank)
  let act := !b.isOpen || b.row != p.row
  let hold := if act then s.fawHold c p.rank else 0
  let s := s.schedAge c hold
  let s := s.noteWait w.req.client (w.waited + hold)
  let q := ((s.sched c).queue.eraseP (s.sameBank w))
  let s := s.setSched c fun x => { x with
    queue := q
    ptr := if act then (actOrder.idxOf p.bank + 1) % 16 else x.ptr
    group := if w.req.data.isSome then x.group.map (· + 1) else x.group
    acts := if act then x.acts ++ [(p.rank, 0)] else x.acts }
  let s := s.serveRow p !(q.any (s.sameBank w))
  let s := match q.find? (s.sameBank w) with
    | some v => s.headReached (s.placeReq v)
    | none => s
  let s := match (s.sched c).outside.find? (s.sameBank w) with
    | some v => (s.setSched c fun x => { x with outside := x.outside.eraseP (s.sameBank w) }).joinQueue v
    | none => s
  let a := w.req.addr.toNat / 64 * 64
  match w.req.data with
  | some d => ((s.bumpWide (R.FMC_CH_WR c) (R.FMC_CH_WR_H c) 1).dramPut a (leBytes 64 d.toNat), none)
  | none =>
    ((s.bumpWide (R.FMC_CH_RD c) (R.FMC_CH_RD_H c) 1).eccNote c a e false, if e = .ok ∨ e = .corrected then none else some a)

/-- DRAM_ACCESS_DONE (R289, R291, R292, R300): `ns` after the last one on a channel the requests that arrived meanwhile join the
queues, and the channel's next access in the order of R291 completes.  Where no rule lets one go at once the oldest request's age
does in the end.  The second part names the reads marked uncorrectable. [DESIGN CHOICE, log entry 18; DESIGN CHOICE, log entry 24] -/
def dramAccess (s : State) (c ns : Nat) (arrived : List DramReq) (e : Ecc) : State × List Nat :=
  if !s.present .FMC then (s, [])
  else
    let (s, bad) := arrived.foldl (fun (g : State × List Nat) r => let (s, a) := g.1.request r; (s, g.2 ++ a.toList))
      (s.schedAge c ns, [])
    if s.f (F.FMC_CH_STAT_STATE c) ≠ 2 ∨ (s.sched c).queue.isEmpty then (s, bad)
    else
      let s := s.writeGroup c
      let s := if (s.schedPick c).isNone then s.schedAge c (s.f F.FMC_SCHED_AGEMAX + 1 - s.longestWait c) else s
      match s.schedPick c with
      | none => (s, bad)
      | some w => let (s, a) := s.serveReq c w e; (s, bad ++ a.toList)

/-- ROW_IDLE_CLOSE (R292): an open row with no request for IDLE ns is closed. [DESIGN CHOICE, log entry 23] -/
def rowIdleClose (s : State) (c r b : Nat) : State :=
  let asked := (s.sched c).queue.any fun w => (s.placeReq w).rank == r && (s.placeReq w).bank == b
  if !s.present .FMC || s.f F.FMC_SCHED_IDLE = 0 || asked || !(s.bank (bankIdx c r b)).isOpen then s
  else (s.setBank (bankIdx c r b) fun x => { x with isOpen := false, byPred := false }).emit
    (.dram c 2 (r * 16 + b) (s.bank (bankIdx c r b)).row)

/-- SCRUB_READ (R301): the next granule is read; corrected data is written back unless a client wrote the granule meanwhile.  The
second part names a granule read as uncorrectable. [DESIGN CHOICE, log entry 24] -/
def scrubRead (s : State) (e : Ecc) (overwritten : Bool) : State × List Nat :=
  let s := s.noteScrub
  if !s.present .FMC || !s.scrubRuns || s.dramSize = 0 then (s, [])
  else
    let g := s.f F.FMC_SCRUB_POS_POS
    let a := g * 64
    let p := s.placeOf a
    let asked := (s.sched p.ch).queue.any fun w => (s.placeReq w).rank == p.rank && (s.placeReq w).bank == p.bank
    let s := ((s.headReached p).serveRow p !asked).bumpWide (R.FMC_CH_RD p.ch) (R.FMC_CH_RD_H p.ch) 1
    let s := s.eccNote p.ch a e true
    let s := if e = .corrected ∧ !overwritten then s.bumpWide (R.FMC_CH_WR p.ch) (R.FMC_CH_WR_H p.ch) 1 else s
    let bad := if e = .ok ∨ e = .corrected then [] else [a]
    if s.dramSize / 64 ≤ g + 1 then (((s.setF F.FMC_SCRUB_POS_POS 0).bump F.FMC_SCRUB_PASS_COUNT).raise 308, bad)
    else (s.setF F.FMC_SCRUB_POS_POS (g + 1), bad)

/-- RT_FIFO_STARVE (R295): a real-time FIFO of this role ran empty or full. -/
def rtStarve (s : State) (k : Nat) : State :=
  if !s.present .FMC || (if k = 0 then !s.isSender else !s.isTile) then s
  else (s.bump (F.FMC_RT_STARVE_COUNT k)).raise 301

/-- The FIFO sizes of Table 13.3 for the role (Table 13.8). -/
def rtSizes (s : State) : State :=
  let s := s.setF (F.FMC_RT_STAT_SIZE 0) (if s.isSender then 128 else 0)
  let s := s.setF (F.FMC_RT_STAT_SIZE 1) (if s.isTile then 64 else 0)
  s.setF (F.FMC_RT_STAT_SIZE 2) (if s.isTile then 64 else 0)

/-- The controller is reset: its channels are Off, local DRAM's content is lost and the registers return to reset but FMC_CTL,
FMC_SCHED and FMC_SCRUB (R298, Table 13.8). -/
def fmcReset (s : State) : State :=
  let kept := [R.FMC_CTL, R.FMC_SCHED, R.FMC_SCRUB]
  { s with
    regs := RegFile.clear s.regs fun a => decide (Blk.FMC.base ≤ a ∧ a < Blk.FMC.base + Blk.FMC.extent) && !kept.contains a
    fmc := {}
    dram := [] }

/-- Rule 0x98 of Table 13.7: a channel in DRAM_MASK of the image in use is not Ready. -/
def rule98 (s : State) : Bool := s.chansOn.any fun c => s.f (F.FMC_CH_STAT_STATE c) != 2

end State

end Sys2Proof.Machine
end

