-- ==== Sys2Proof/Machine/Image.lean ====
section
/-! DEFINITION. Structure images (chapter 2) and their LAYOUT descriptors (R108, R139, R152): parsing, validation, and running an
image. -/

namespace Sys2Proof.Machine

namespace Img

/-! ### Container -/

/-- One entry of the section table (Table 02.3). -/
structure Sect where
  idx : Nat
  typ : Nat
  flags : Nat
  off : Nat
  size : Nat
  crc : Nat
deriving DecidableEq, Repr

def length (b : List Byte) : Nat := numAt b 8 4
def role (b : List Byte) : Nat := numAt b 0xC 1
def hash (b : List Byte) : List Byte := slice b 0x20 32

/-- The section table. -/
def sects (b : List Byte) : List Sect :=
  (List.range (numAt b 0x18 2)).map fun i =>
    let o := 0x40 + 16 * i
    ⟨i, numAt b o 2, numAt b (o + 2) 2, numAt b (o + 4) 4, numAt b (o + 8) 4, numAt b (o + 12) 4⟩

/-- The bytes of a section. -/
def body (b : List Byte) (x : Sect) : List Byte := slice b x.off x.size

/-- The bytes of the section of a type, empty where absent. -/
def sect (b : List Byte) (typ : Nat) : List Byte :=
  match (sects b).find? fun x => x.typ == typ with
  | some x => body b x
  | none => []

/-- [DEDUCED, log entry 29] -/
def units (b : List Byte) : List Byte := sect b 1
def tracks (b : List Byte) : List Byte := sect b 2
def cellprog (b : List Byte) : List Byte := sect b 3
def regions (b : List Byte) : List (Nat × Nat × Nat) :=
  let l := sect b 4
  (List.range (l.length / 8)).map fun i => (numAt l (8 * i) 1, numAt l (8 * i + 2) 2, numAt l (8 * i + 4) 2)
def modeIndex (b : List Byte) : Nat := numAt (sect b 7) 0 2
def modeSlots (b : List Byte) : Nat := numAt (sect b 7) 2 1
def optEn (b : List Byte) : Nat := numAt (units b) 0 1
def chainMask (b : List Byte) : Nat := numAt (units b) 1 1
def dramMask (b : List Byte) : Nat := numAt (units b) 4 1
def driveBuses (b : List Byte) : Nat := numAt (units b) 5 1
def dramRate (b : List Byte) : Nat := numAt (units b) 6 1 % 8
def dramOrder (b : List Byte) : Nat := numAt (units b) 6 1 / 16 % 4

/-- Active track pairs: even tracks with code 0x11 (R49). -/
def pairs (b : List Byte) : List Nat := (List.range 8).filter fun k => numAt (tracks b) (2 * k) 1 == 0x11

/-- Tracks with a non-zero stage code. -/
def active (b : List Byte) : List Nat := (List.range 16).filter fun t => numAt (tracks b) t 1 != 0

/-! ### LAYOUT descriptors -/

/-- The descriptors of a LAYOUT section, none where the chain of LENGTHs breaks R443. -/
def layout : Nat → List Byte → Option (List (Nat × List Byte))
  | _, [] => some []
  | 0, _ => none
  | n + 1, l =>
    let len := numAt l 4 4
    if len < 8 ∨ len % 4 ≠ 0 ∨ l.length < len then none
    else (layout n (l.drop len)).map fun ds => (numAt l 0 2, l.take len) :: ds

/-- The bytes of the descriptor of a block, empty where absent. -/
def desc (b : List Byte) (block : Nat) : List Byte :=
  match layout (sect b 5).length (sect b 5) with
  | some ds => (ds.lookup block).getD []
  | none => []

def cor (b : List Byte) : List Byte := desc b 0x18
def drv (b : List Byte) : List Byte := desc b 0x1C
def lux (b : List Byte) : List Byte := desc b 0x1E

/-- Fields of the COR descriptor (Table 05.1). -/
def corW (d : List Byte) : Nat := numAt d 8 2
def corH (d : List Byte) : Nat := numAt d 10 2
def corBanks (d : List Byte) : Nat := numAt d 12 1
def corDoseBase (d : List Byte) : Nat := numAt d 0x10 8
def corCplBase (d : List Byte) : Nat := numAt d 0x18 8

/-- Fields of the DRV descriptor (Table 06.6). -/
def drvRows (d : List Byte) : Nat := numAt d 8 1
def drvRdx (d : List Byte) : Int := sgn 16 (numAt d 10 2)
def drvRdy (d : List Byte) : Int := sgn 16 (numAt d 12 2)
def drvMapBase (d : List Byte) : Nat := numAt d 0x10 8
def drvDrivers (d : List Byte) (n : Nat) : Nat := numAt d (0x18 + n) 1
/-- The CHMAP word of a bus, driver position and channel. -/
def drvChan (d : List Byte) (bus pos ch : Nat) : Nat := numAt d (0x58 + 6144 * bus + 192 * pos + 4 * ch) 4
def chUsed (w : Nat) : Bool := w.testBit 31
def chComp (w : Nat) : Nat := w / 2 ^ 24 % 4
/-- The tile pixel that a channel lights in a row. -/
def chPixel (d : List Byte) (w r : Nat) : Int × Int := ((w % 4096 : Nat) + r * drvRdx d, (w / 4096 % 4096 : Nat) + r * drvRdy d)

/-- Fields of the LUX descriptor (Table 07.1). -/
def luxGroups (d : List Byte) : Nat := numAt d 8 1
def luxAt (d : List Byte) (g o n : Nat) : Nat := numAt d (0x10 + 16 * g + o) n

/-! ### Checks of Table 02.8 -/

/-- The cases of R443 and of the owners' rules R108, R139 and R152 for a Tile image. -/
def corOk (d : List Byte) : Bool :=
  let w := corW d
  let h := corH d
  let k := corBanks d
  let curve := slice d 0x20 278784
  let decay := slice d (0x20 + 278784 + 1152 * k) 16416
  let tempw := slice d (0x20 + 278784 + 1152 * k + 16416) 66
  decide (1 ≤ w ∧ 1 ≤ h ∧ w * h ≤ 1048576 ∧ 1 ≤ k ∧ k ≤ 4 ∧ d.length = 295300 + 1152 * k ∧ corDoseBase d % 64 = 0 ∧
    corCplBase d % 64 = 0) &&
  (List.range (64 * 1089)).all (fun i => decide (numAt curve (4 * i) 4 ≤ 4194304)) &&
  (List.range (16 * 513)).all (fun i => decide (16384 ≤ sgn 16 (numAt decay (2 * i) 2)) &&
    (i % 513 == 512 || decide (sgn 16 (numAt decay (2 * i) 2) ≤ sgn 16 (numAt decay (2 * i + 2) 2)))) &&
  (List.range 33).all fun i => decide (numAt tempw (2 * i) 2 ≤ 32767)

/-- [DEDUCED, log entry 210] -/
def drvOk (d c : List Byte) (buses : Nat) : Bool :=
  decide (1 ≤ drvRows d ∧ drvRows d ≤ 32 ∧ d.length = 88 + 6144 * buses) &&
  (List.range 64).all (fun n => if n < buses then decide (1 ≤ drvDrivers d n ∧ drvDrivers d n ≤ 32) else drvDrivers d n == 0) &&
  (List.range buses).all fun n => (List.range 32).all fun k => (List.range 48).all fun ch =>
    let w := drvChan d n k ch
    !chUsed w || (decide (k < drvDrivers d n) && chComp w != 3 && (List.range (drvRows d)).all fun r =>
      let p := chPixel d w r
      decide (0 ≤ p.1 ∧ p.1 < corW c ∧ 0 ≤ p.2 ∧ p.2 < corH c))

/-- The bus, position and channel of the three monitor lamps of a group. -/
def luxChans (d : List Byte) (g : Nat) : List (Nat × Nat × Nat) :=
  (List.range 3).map fun c => (luxAt d g 9 1, luxAt d g 10 1, luxAt d g (11 + c) 1)

/-- [DEDUCED, log entry 210] -/
def luxOk (d v : List Byte) (buses : Nat) : Bool :=
  let g := luxGroups d
  decide (1 ≤ g ∧ g ≤ 4 ∧ d.length = 16 + 16 * g) &&
  (List.range g).all (fun i => decide (luxAt d i 9 1 < buses ∧ luxAt d i 10 1 < drvDrivers v (luxAt d i 9 1) ∧ luxAt d i 15 1 < 16) &&
    (luxChans d i).all (fun x => decide (x.2.2 < 48) && !chUsed (drvChan v x.1 x.2.1 x.2.2)) &&
    (List.range i).all fun j => (luxChans d i).all fun x => !(luxChans d j).contains x)

/-- Check 10: TRACKS and CELLPROG consistent with the role (R49, R51), the LAYOUT descriptors per R443. [DEDUCED, log entry 210] -/
def check10 (b : List Byte) : Bool :=
  let tr := tracks b
  let stage := fun (t : Nat) => numAt tr t 1
  let cp := cellprog b
  let rolesOk :=
    if role b = 1 then (List.range 16).all fun t => stage t == 0 || stage t == 1
    else (List.range 8).all fun k => (stage (2 * k) == 0 && stage (2 * k + 1) == 0) ||
      (stage (2 * k) == 0x11 && stage (2 * k + 1) == 0x12)
  let cellOk := fun (c : Nat) =>
    let r := slice cp (768 * c) 768
    if stage (c / 64) = 0 then r.all (· == 0) else numAt r 0 1 == stage (c / 64) && decide (1 ≤ numAt r 2 1 % 128)
  let layOk :=
    match layout (sect b 5).length (sect b 5) with
    | none => false
    | some ds =>
      let known := (ds.map (·.1)).filter fun k => k == 0x18 || k == 0x1C || k == 0x1E
      decide known.Nodup &&
      (role b == 1 ||
        (corOk (cor b) && drvOk (drv b) (cor b) (driveBuses b) &&
          (!(optEn b).testBit 3 || luxOk (lux b) (drv b) (driveBuses b))))
  tr.length == 16 && rolesOk && cp.length == 786432 && (List.range 1024).all cellOk && layOk

/-- Bytes of the shared tables that region 0x14 holds first (R109). -/
def sharedLen (b : List Byte) : Nat := 278784 + 1152 * corBanks (cor b) + 16416 + 68

/-- Check 9: LINESTORE per R31, and the size of region 0x14 (R109). -/
def check9 (b : List Byte) : Bool :=
  let l := sect b 4
  let rs := regions b
  let uses := if role b = 1 then [1, 2, 3, 4] else [0x11, 0x12, 0x13, 0x14]
  decide (l.length % 8 = 0 ∧ 1 ≤ rs.length ∧ rs.length ≤ 16) &&
  (List.range rs.length).all (fun i => numAt l (8 * i + 1) 1 == 0 && numAt l (8 * i + 6) 2 == 0) &&
  rs.all (fun r => uses.contains r.1 && decide (1 ≤ r.2.2 ∧ r.2.1 + r.2.2 ≤ 512)) && decide (rs.map (·.1)).Nodup &&
  decide (rs.Pairwise fun x y => x.2.1 + x.2.2 ≤ y.2.1 ∨ y.2.1 + y.2.2 ≤ x.2.1) &&
  (role b == 1 || match rs.lookup 0x14 with
    | some (_, n) => decide (sharedLen b + 65536 * (pairs b).length ≤ n * 65536)
    | none => false)

/-- Check 8: the fields of UNITS within their encodings (Table 02.5). -/
def check8 (b : List Byte) (p7440 : Bool) : Bool :=
  let u := units b
  let chain := if p7440 then 0xFF else 0x03
  let dram := if p7440 then 0xF else 0x3
  let cm := chainMask b
  let dm := dramMask b
  let pr := numAt u 3 1
  let db := driveBuses b
  u.length == 16 && (if role b = 1 then cm != 0 && cm &&& chain == cm else cm == 3) && decide (numAt u 2 1 ≤ 2) &&
    (if (optEn b).testBit 1 then decide (pr ≤ 2) else pr == 0) && dm != 0 && dm &&& dram == dm &&
    (if role b = 1 then db == 0 else decide (1 ≤ db ∧ db ≤ 64)) && numAt u 6 1 &&& 0xC8 == 0 && numAt u 7 9 == 0

/-- Check 7: OPT_EN. -/
def check7 (b : List Byte) (p7440 : Bool) : Bool :=
  if role b = 1 then p7440 && decide (optEn b < 8) else optEn b == 0 || optEn b == 8

/-- Is a REGINIT address 4-byte aligned, in the active view, inside a block the image enables (R36, check 11)? -/
def regAddrOk (b : List Byte) (p7440 : Bool) (a : Nat) : Bool :=
  decide (a % 4 = 0 ∧ a < 2 ^ 23) &&
  match blkOf a with
  | some .REL => role b == 1 && (optEn b).testBit 0
  | some .PAR => role b == 1 && (optEn b).testBit 1
  | some .LUX => role b == 2 && (optEn b).testBit 3
  | some .SND => role b == 1
  | some .HST => role b == 1 && p7440
  | some .COR | some .DRV => role b == 2
  | some _ => true
  | none => false

/-- The pairs of REGINIT. -/
def reginit (b : List Byte) : List (Nat × Word) :=
  let l := sect b 6
  (List.range (l.length / 8)).map fun i => (numAt l (8 * i) 4, BitVec.ofNat 32 (numAt l (8 * i + 4) 4))

/-- Check 13: the MODE section and the limits an image fixes (R444). -/
def check13 (b : List Byte) : Bool :=
  let m := sect b 7
  let rateOk :=
    match modeRate (modeIndex b) with
    | none => false
    | some (num, den) =>
      slotsOk num den (modeSlots b) && decide (dramRate b ≤ 5) &&
      (role b == 1 ||
        let px := corW (cor b) * corH (cor b) * modeSlots b * num
        decide (px ≤ 1000000000 * den ∧ px ≤ (pairs b).length * 450000000 * den))
  m.length == 4 && numAt m 3 1 == 0 && rateOk

/-- Section placement and reserved bytes (check 2). -/
def check2 (b : List Byte) : Bool :=
  let n := numAt b 0x18 2
  let len := length b
  let ss := sects b
  decide (len % 16 = 0 ∧ 1024 ≤ len ∧ len ≤ 2097152 ∧ 7 ≤ n ∧ n ≤ 32 ∧ numAt b 0xF 1 = 0 ∧ numAt b 0x1A 6 = 0 ∧
    numAt b 0xD 1 < 4) &&
  ss.all (fun x => decide (x.flags < 2 ∧ x.off % 16 = 0 ∧ 0x40 + 16 * n ≤ x.off ∧ 1 ≤ x.size ∧ x.off + x.size ≤ len)) &&
  decide (ss.Pairwise fun x y => x.off + x.size ≤ y.off ∨ y.off + y.size ≤ x.off)

/-- The lowest index among the sections that break R30, and whether the image breaks R30 at all. -/
def check12 (b : List Byte) : Option Nat :=
  let ss := sects b
  let req := fun (t : Nat) => decide (1 ≤ t ∧ t ≤ 7)
  let bad := ss.filter fun x =>
    if req x.typ then x.flags % 2 == 0 || ss.any (fun y => y.typ == x.typ && decide (y.idx < x.idx)) else x.flags % 2 == 1
  match bad with
  | x :: _ => some x.idx
  | [] => if (List.range 7).all fun t => ss.any fun x => x.typ == t + 1 then none else some 0xFF

/-- R34: the failure code (0 for a valid image) and SECT, for the 2,097,152 bytes of a slot. -/
def validate (slot : List Byte) (p7440 : Bool) : Nat × Nat :=
  let b := slot.take (length slot)
  if numAt slot 0 4 ≠ 0x53584C53 ∨ numAt slot 4 2 ≠ 1 then (1, 0xFF)
  else if !check2 slot then (2, 0xFF)
  else if sha256 (splice b) ≠ hash b then (3, 0xFF)
  else match (sects b).find? fun x => (crc32 (body b x)).toNat != x.crc with
    | some x => (4, x.idx)
    | none =>
      match check12 b with
      | some i => (12, i)
      | none =>
        if !((numAt b 0xD 1).testBit (if p7440 then 0 else 1)) || decide (0xB0 < numAt b 0xE 1) then (5, 0xFF)
        else if !(role b == 2 || (role b == 1 && p7440)) then (6, 0xFF)
        else if !check7 b p7440 then (7, 0xFF)
        else if !check8 b p7440 then (8, 0xFF)
        else if !check9 b then (9, 0xFF)
        else if !check10 b then (10, 0xFF)
        else if (sect b 6).length % 8 ≠ 0 || !(reginit b).all (fun r => regAddrOk b p7440 r.1) then (11, 0xFF)
        else if !check13 b then (13, 0xFF)
        else (0, 0xFF)
where
  /-- The image with the HASH field taken as zero. -/
  splice (b : List Byte) : List Byte := b.take 0x20 ++ List.replicate 32 0 ++ b.drop 0x40

end Img

namespace State

/-- MRAM offset of an image slot. -/
def slotBase (k : Nat) : Nat := 0x100000 + 0x200000 * k

def slotBytes (s : State) (k : Nat) : List Byte := s.mramRd (slotBase k) 2097152

/-- The image in a slot. -/
def slotImg (s : State) (k : Nat) : List Byte :=
  let b := s.slotBytes k
  b.take (Img.length b)

/-- The slot that runs. -/
def runSlot (s : State) : Nat := s.f F.SYS_IMG_ACT_SLOT

/-- The running image's bytes. -/
def runImg (s : State) : List Byte :=
  s.mramRd (slotBase s.runSlot) (min (leVal (s.mramRd (slotBase s.runSlot + 8) 4)) 2097152)

/-- Has no image been written to the slot: its header is blank? [DEDUCED, log entry 27] -/
def slotEmpty (s : State) (k : Nat) : Bool := (s.mramRd (slotBase k) 64).all (· == 0)

/-- Validate a slot and report it in SYS_IMG_STATn (R33, R34); a failure raises event 56, which an Empty slot
does not. -/
def validateSlot (s : State) (k : Nat) : State :=
  let b := s.slotBytes k
  let (fail, sect) := Img.validate b s.part7440
  let empty := s.slotEmpty k
  let running := s.role != 0 && s.runSlot == k
  let st := if empty then 0 else if fail ≠ 0 then 3 else if running then 4 else 2
  let s := (((s.setF (F.SYS_IMG_STAT_STATE k) st).setF (F.SYS_IMG_STAT_FAIL k) (if empty then 0 else fail)).setF
    (F.SYS_IMG_STAT_SECT k) (if empty then 0xFF else sect)).setF (F.SYS_IMG_STAT_IMG_ROLE k) (if empty then 0 else Img.role b)
  s.raiseIf (fail != 0 && !empty) 56

/-- An update session writes the slot (R33): its state is Writing, and FAIL and SECT name no failure. -/
def slotWriting (s : State) (k : Nat) : State :=
  ((s.setF (F.SYS_IMG_STAT_STATE k) 1).setF (F.SYS_IMG_STAT_FAIL k) 0).setF (F.SYS_IMG_STAT_SECT k) 0xFF

/-- A slot is valid: Valid or Active. -/
def slotValid (s : State) (k : Nat) : Bool := s.f (F.SYS_IMG_STAT_STATE k) == 2 || s.f (F.SYS_IMG_STAT_STATE k) == 4

/-- IMG_CHECK: a write to SYS_IMG_CHECK, ignored while the slot is Writing. [DEDUCED, log entry 27; DEDUCED, log entry 28] -/
def imgCheck (s : State) (k : Nat) : State := if s.f (F.SYS_IMG_STAT_STATE k) = 1 then s else s.validateSlot k

/-- The line-store region of a use code in an image: first byte and size. -/
def regionIn (img : List Byte) (use : Nat) : Option (Nat × Nat) :=
  ((Img.regions img).lookup use).map fun r => (r.1 * 65536, r.2 * 65536)

/-- The line-store region of a use code in the running image. -/
def region (s : State) (use : Nat) : Option (Nat × Nat) := if s.role = 0 then none else regionIn s.runImg use

def lineRd (s : State) (use o n : Nat) : List Byte :=
  match s.region use with
  | some (a, _) => Mem.read s.lineStore (a + o) n
  | none => List.replicate n 0

/-- Bytes written into a region, as far as it reaches. -/
def lineWrIn (s : State) (r : Option (Nat × Nat)) (o : Nat) (bs : List Byte) : State :=
  match r with
  | some (a, n) => { s with lineStore := Mem.write s.lineStore (a + o) (bs.take (n - o)) }
  | none => s

def lineWr (s : State) (use o : Nat) (bs : List Byte) : State := s.lineWrIn (s.region use) o bs

/-- Fields set from the header, UNITS and the boot (R36). -/
def imgHeader (s : State) (b : List Byte) (slot : Nat) (fallback : Bool) : State :=
  let u := Img.units b
  let s := (((s.setBoth F.SYS_ROLE_ROLE (Img.role b)).setBoth F.SYS_IMG_ACT_SLOT slot).setBoth F.SYS_IMG_ACT_FALLBACK
    fallback.toNat).setBoth F.SYS_IMG_ID_IMAGE_ID (numAt b 0x14 4)
  let s := s.setBoth F.SYS_IMG_TOOL_TOOL_VER (numAt b 0x10 4)
  let s := (List.range 8).foldl (fun s i => s.setBoth (F.SYS_IMG_HASH_HASH i) (numAt b (0x20 + 4 * i) 4)) s
  let s := (((((s.setBoth F.SYS_UNITEN_OPT (Img.optEn b)).setBoth F.SYS_UNITEN_DRAM (Img.dramMask b)).setBoth
    F.SYS_UNITEN_CHAIN (Img.chainMask b)).setBoth F.SYS_UNITEN_LANE (numAt u 2 1)).setBoth F.SYS_UNITEN_PAIRR
    (numAt u 3 1)).setBoth F.SYS_UNITEN_BUSES (Img.driveBuses b)
  ((s.setBoth F.FMC_CFG_ORDER (Img.dramOrder b)).setBoth F.FMC_CFG_RATE (Img.dramRate b)).setBoth F.FMC_CFG_MASK (Img.dramMask b)

/-- Fields set from TRACKS and LINESTORE: FAB_TRACKS, FAB_STAGE and the output FIFO sizes (R36). -/
def imgFabric (s : State) (b : List Byte) : State :=
  let s := s.setBoth F.FAB_TRACKS_ACTIVE ((Img.active b).foldl (fun m t => m + 2 ^ t) 0)
  let s := (List.range 4).foldl (fun s i => s.setBoth (F.FAB_STAGE_CODE i) (numAt (Img.tracks b) (4 * i) 4)) s
  let ports := s.portsOn
  let kb := match (Img.regions b).lookup 2 with | some r => r.2 * 64 | none => 0
  (List.range 8).foldl (fun s p =>
    s.setBoth (F.SND_OFIFO_SIZE_SIZE p) (if s.isSender && ports.contains p then kb / ports.length else 0)) s

/-- Fields set from MODE: the timing mode in effect (R36, R221). -/
def imgMode (s : State) (b : List Byte) : State :=
  let s := (s.setBoth F.DSP_MODE_INDEX (Img.modeIndex b)).setBoth F.DSP_MODE_SLOTS (Img.modeSlots b)
  match modeRate (Img.modeIndex b) with
  | some (num, den) =>
    ((s.setBoth F.DSP_STATUS_SACT (capped (Img.modeSlots b) (s.f F.THM_STATUS_CAP))).setBoth F.DSP_NUM_NUM num).setBoth
      F.DSP_DEN_DEN den
  | none => s

/-- Fields set from the LAYOUT descriptors, and the copy of the shared tables in region 0x14 (R36, R109). -/
def imgLayout (s : State) (b : List Byte) : State :=
  if !s.isTile then s
  else
    let c := Img.cor b
    let d := Img.drv b
    let s := (((s.setBoth F.COR_DOSE_BASE_LO_BASE (Img.corDoseBase c)).setBoth F.COR_DOSE_BASE_HI_BASE
      (Img.corDoseBase c / 2 ^ 32)).setBoth F.COR_CPL_BASE_LO_BASE (Img.corCplBase c)).setBoth F.COR_CPL_BASE_HI_BASE
      (Img.corCplBase c / 2 ^ 32)
    let s := ((s.setBoth F.DRV_SCAN_NM1 (Img.drvRows d - 1)).setBoth F.DRV_MAP_BASE_LO_BASE (Img.drvMapBase d)).setBoth
      F.DRV_MAP_BASE_HI_BASE (Img.drvMapBase d / 2 ^ 32)
    let n := Img.driveBuses b
    let en := 2 ^ n - 1
    let s := (s.setBoth F.DRV_BUSEN_LO_EN en).setBoth F.DRV_BUSEN_HI_EN (en / 2 ^ 32)
    let s := (List.range 64).foldl (fun s i => s.setBoth (F.DRV_BUS_STAT_EXPECT i) (Img.drvDrivers d i)) s
    s.lineWr 0x14 0 (c.drop 0x20)

/-- One REGINIT entry: the fields that take their value from REGINIT, in both views (R36). -/
def reginitSet (s : State) (e : Nat × Word) : State :=
  let m := accMask e.1 fun f => f.img == 1
  if m = 0 then s
  else
    let put := fun (r : RegFile) => r.set e.1 ((r.get e.1 &&& ~~~ m) ||| (e.2 &&& m))
    { s with regs := put s.regs, stage := if stMask e.1 = 0 then s.stage else put s.stage }

/-- Steps 1 to 6 of R36 but for the training of step 1. -/
def imgFields (s : State) (slot : Nat) (fallback : Bool) : State :=
  let b := s.slotBytes slot
  let b := b.take (Img.length b)
  let s := (((s.imgHeader b slot fallback).imgFabric b).imgMode b).imgLayout b
  let s := s.rtSizes
  (Img.reginit b).foldl reginitSet s

end State

end Sys2Proof.Machine
end

