-- ==== Sys2Proof/Machine/Fabric.lean ====
section
/-! DEFINITION. The pixel fabric (chapter 3): tokens and paths, residue counts, speed rings and the age index, the margin planner,
the AVSBus, bubbles and cell readback.  What a finished run computes is in Runs.lean. -/

namespace Sys2Proof.Machine

namespace State

def setFab (s : State) (g : FabSt → FabSt) : State := { s with fab := g s.fab }
def path (s : State) (p : Nat) : PathSt := tabAt s.fab.paths p {}
def setPath (s : State) (p : Nat) (g : PathSt → PathSt) : State := s.setFab fun f => { f with paths := tabMod f.paths p g }

/-- The stage code of a track. -/
def stageCode (s : State) (t : Nat) : Nat := s.f (F.FAB_STAGE_CODE (t / 4)) / 2 ^ (8 * (t % 4)) % 256

/-- The paths of the role: Sender tracks with code 0x01, or the active pairs of a Tile (R50). -/
def pathsOn (s : State) : List Nat :=
  if s.isSender then (List.range 16).filter fun t => s.stageCode t == 1
  else if s.isTile then (List.range 8).filter fun k => s.stageCode (2 * k) == 0x11
  else []

/-- The tracks of a path, in order. -/
def tracksOf (s : State) (p : Nat) : List Nat := if s.isTile then [2 * p, 2 * p + 1] else [p]

/-- The path of a track. -/
def pathOf (s : State) (t : Nat) : Nat := if s.isTile then t / 2 else t

/-- Runs wait; every path that has room takes the next (R59). [DESIGN CHOICE, log entry 35] -/
def dealRuns (s : State) : State :=
  s.pathsOn.foldl (fun s p =>
    if (s.path p).run.isSome then s
    else match s.fab.work with
      | [] => s
      | r :: rs => (s.setFab fun f => { f with work := rs }).setPath p fun _ => { run := some r }) s

/-- Split `pixels` pixels into runs of up to 1,024 tokens (R59). -/
def runsOf (n slot entry pixels : Nat) : List Run :=
  (List.range (cdiv pixels 1024)).map fun i => ⟨n, slot, entry, i, 1024 * i, min 1024 (pixels - 1024 * i)⟩

/-- Record residue mismatches at a cell (R58, R64). -/
def noteMismatch (s : State) (c k : Nat) : State :=
  let t := c / 64
  let p := s.pathOf t
  let s := (s.bumpWide R.FAB_RES_CNT R.FAB_RES_CNT_H k).bumpBy (F.FAB_TRK_RES_COUNT t) k
  let s := (s.setFab fun f => { f with resSec := setAt f.resSec t (· + k) }).setPath p fun x => { x with lastCell := some c }
  match (s.path p).run with
  | some r =>
    ((((s.setF F.FAB_LAST_ERR_CELL c).setF F.FAB_LAST_ERR_RUN r.idx).setF F.FAB_LAST_ERR_SUSPECT 0).setF F.FAB_LAST_FRM_FRAME
      r.n).setF F.FAB_LAST_FRM_SLOT r.slot
  | none => s.setF F.FAB_LAST_ERR_CELL c

/-! ### Local SRAM (R47, R63, R109) -/

/-- What the owning block keeps in the line store for the cells: on a Tile the shared tables of region 0x14. -/
def sramCopy (s : State) : List Byte := if s.isTile then s.lineRd 0x14 0 (Img.sharedLen s.runImg) else []

/-- The local SRAM of every cell of an active track is loaded, and no stored word is in error. -/
def sramLoad (s : State) : State :=
  let b := s.sramCopy
  s.setFab fun f => { f with
    sram := ⟨⟨(List.range 1024).map fun c => if s.stageCode (c / 64) = 0 then [] else b⟩, by simp⟩, sramErr := [], reload := [] }

/-- The data bits of a local SRAM word, and whether two of its stored bits are in error. -/
def sramAt (s : State) (c w : Nat) : Nat × Bool :=
  (Config.sramWord (tabAt s.fab.sram c []) c w % 2 ^ 32, s.fab.sramErr.contains (c, w, true))

/-- A local SRAM word is read with a single-bit or double-bit error, or with one it already holds: it is counted and reported, stays
in the store, and a double-bit error asks for a reload and stays with the run that has read it (R63). -/
def sramRead (s : State) (c w : Nat) (ecc : Fin 3) : State :=
  let double := ecc == 2 || s.fab.sramErr.contains (c, w, true)
  let single := ecc == 1 || s.fab.sramErr.contains (c, w, false)
  let note := fun (s : State) => s.setFab fun f =>
    { f with sramErr := if f.sramErr.contains (c, w, double) then f.sramErr else f.sramErr ++ [(c, w, double)] }
  if double then
    let s := (note (s.bump F.FAB_SRAM_DE_COUNT)).setFab fun f => { f with reload := if f.reload.contains c then f.reload else f.reload ++ [c] }
    (s.setPath (s.pathOf (c / 64)) fun x => { x with readBad := x.readBad ++ [c] }).raise 97
  else if single then (note (s.bump F.FAB_SRAM_CE_COUNT)).raise 96
  else s

/-- SRAM_RELOAD (R63): a cell's local SRAM is reloaded from the line store. -/
def sramReload (s : State) (c : Nat) : State :=
  if s.stageCode (c / 64) = 0 then s
  else
    let b := s.sramCopy
    s.setFab fun f => { f with
      sram := tabMod f.sram c fun _ => b, sramErr := f.sramErr.filter fun x => x.1 != c, reload := f.reload.filter (· != c) }

/-- The reloads still due are made before the first run of the next frame starts (R63). -/
def sramReloads (s : State) : State := s.fab.reload.foldl sramReload s

/-! ### Tokens -/

/-- The latch that feeds a cell, none for the first cell of a path. -/
def upstream (s : State) (c : Nat) : Option Nat :=
  if c % 64 ≠ 0 then some (c - 1)
  else if s.isTile && (c / 64) % 2 == 1 then some (c - 1)
  else none

/-- Is the cell the last of its path? -/
def lastCell (s : State) (c : Nat) : Bool := c % 64 == 63 && (!s.isTile || (c / 64) % 2 == 1)

/-- The components of the token that enters a path for pixel i of a run: on a Tile those of the segment's pixel. [DESIGN CHOICE, log
entry 35] -/
def tokenIn (s : State) (r : Run) (i : Nat) : List FWord :=
  let px := r.first + i
  (List.range 3).map fun k => FWord.sound (BitVec.ofNat 24 (
    if s.isTile then
      match s.cor.passes.find? fun x => x.n == r.n && x.slot == r.slot with
      | some x => p42c (x.seg.getD px 0) k
      | none => 0
    else Config.tokenWord r.n r.slot r.entry px k))

/-- The token waiting at the input of a path: the next pixel of its run. -/
def feed (s : State) (p : Nat) : Option (Tok × State) :=
  match (s.path p).run with
  | some r =>
    if (s.path p).fed < r.count then
      some ({ comps := s.tokenIn r (s.path p).fed, run := r.idx }, s.setPath p fun x => { x with fed := x.fed + 1 })
    else none
  | none => none

/-- The token offered to a cell: at position 0 of a track a bubble in the first APPLIED of every 64 token slots (R48, R76); else the one in
the latch before it, or at the first cell of a path the next pixel of the run. -/
def offered (s : State) (c : Nat) : Option (Tok × State) :=
  let t := c / 64
  let next := fun (s : State) => s.setFab fun f => { f with slots := setAt f.slots t fun k => (k + 1) % 64 }
  if c % 64 = 0 ∧ s.fab.slots.getD t 0 < s.f F.FAB_THR_APPLIED then some ({ bubble := true }, next s)
  else
    let r := match s.upstream c with
      | some u => (tabAt s.fab.cells u none).map fun x => (x, s.setFab fun f => { f with cells := tabMod f.cells u fun _ => none })
      | none => s.feed (s.pathOf t)
    if c % 64 = 0 then r.map fun x => (x.1, next x.2) else r

/-- The cell's program runs on a token: the accumulator moves on, local SRAM errors and residue mismatches are reported, and a mismatch
sets the token's error bit (R53, R57, R58, R63). -/
def cellRun (s : State) (c : Nat) (t : Tok) (ops : List CellOp) : Tok × State :=
  let (acc, code) := tabAt s.fab.accs c (0, 0)
  let r := CellRun.program ⟨t.comps, acc, code, 0⟩ ops (s.sramAt c)
  let s := s.setFab fun f => { f with accs := tabMod f.accs c fun _ => (r.acc, r.accCode) }
  let s := (ops.flatMap CellOp.reads).foldl (fun s x => s.sramRead c x.1 x.2) s
  ({ t with comps := r.comps, err := t.err || r.bad != 0 }, if r.bad = 0 then s else s.noteMismatch c r.bad)

/-- CELL_TOKEN (R46, R47, R48): the cell takes the token offered to it where its latch is free, runs its program on it, unless it is a
bubble, and offers it onward; at the end of a path the token leaves, and at the end of a track a bubble is removed. `ops` is what the
cell's program does, which only the Zhoand tool knows, with the upsets that meet it. [DESIGN CHOICE, log entry 35] -/
def cellToken (s : State) (c : Nat) (ops : List CellOp) : State :=
  if s.stageCode (c / 64) = 0 || s.role == 0 || (tabAt s.fab.cells c none).isSome then s
  else match s.offered c with
    | none => s
    | some (t, s) =>
      if t.bubble then (if c % 64 = 63 then s else s.setFab fun f => { f with cells := tabMod f.cells c fun _ => some t })
      else
        let (t, s) := s.cellRun c t ops
        if s.lastCell c then s.setPath (s.pathOf (c / 64)) fun x => { x with err := x.err || t.err }
        else s.setFab fun f => { f with cells := tabMod f.cells c fun _ => some t }

/-- The latches of some paths are emptied. -/
def emptyPaths (s : State) (ps : List Nat) : State :=
  let ts := ps.flatMap s.tracksOf
  s.setFab fun f => { f with
    cells := ⟨⟨(List.range 1024).map fun i => if ts.contains (i / 64) then none else tabAt f.cells i none⟩, by simp⟩ }

/-- The tokens of a path's tracks have left it; the result tells whether any left with its error bit set. -/
def drainPath (s : State) (p : Nat) : Bool × State :=
  let ts := s.tracksOf p
  let err := (s.path p).err ||
    (List.range 1024).any fun i => ts.contains (i / 64) && ((tabAt s.fab.cells i none).map (·.err)).getD false
  (err, s.emptyPaths [p])

/-- RESIDUE_SECOND_END (R64). -/
def residueSecond (s : State) : State :=
  if !s.present .FAB then s
  else
    let past := s.fab.resSec.any fun k => decide (s.f F.FAB_RES_THR_LIMIT < k)
    let s := s.setFab fun f => { f with resSec := List.replicate 16 0 }
    (s.setF F.FAB_STATUS_RES_HIGH past.toNat).raiseIf past 99

/-! ### Speed rings and the age index -/

/-- The hottest Valid die reading of a zone, in 1/16 °C. -/
def zoneHot (s : State) (z : Nat) : Option Int :=
  let l := ((List.range 3).map fun i => 3 * z + i).filter fun d => s.f (F.THM_D_STATE d) == 1
  (l.map fun d => s.fS (F.THM_D_T16 d)).foldl (fun m t => some (max t (m.getD t))) none

/-- A ring trim: track, voltage index (0.60, 0.70, 0.85 V) and temperature index (25, 70, 110 °C) (Table 19.2). -/
def ringTrim (s : State) (t v k : Nat) : Nat := leVal (s.recRead (0x80 + 18 * t + 6 * v + 2 * k) 2)

/-- The new-part ring count at a voltage in mV and a temperature in 1/16 °C, bilinear in the nine trims and rounded half up (R65); none outside them. [DESIGN CHOICE, log entry 32] -/
def ringExpect (s : State) (t : Nat) (mv : Nat) (t16 : Int) : Option Nat :=
  if mv < 600 ∨ 850 < mv ∨ t16 < 400 ∨ 1760 < t16 then none
  else
    let (vi, v0, dv) := if mv < 700 then (0, 600, 100) else (1, 700, 150)
    let (ki, t0, dt) := if t16 < 1120 then (0, 400, 720) else (1, 1120, 640)
    let fv : Int := mv - v0
    let ft := t16 - t0
    let c := fun v k => (s.ringTrim t v k : Int)
    let lo := c vi ki * (dt - ft) + c vi (ki + 1) * ft
    let hi := c (vi + 1) ki * (dt - ft) + c (vi + 1) (ki + 1) * ft
    some (roundDiv (lo * (dv - fv) + hi * fv) (dv * dt)).toNat

/-- Is track t's ring in range? -/
def ringOk (s : State) (t : Nat) : Bool := s.stageCode t != 0 && !(s.f F.FAB_RING_BAD_BAD).testBit t && s.f (F.FAB_RING_COUNT t) != 0

/-- 10,000 times the slowdown of a track, clamped at 0 (R66). -/
def slowdown (s : State) (t : Nat) : Nat :=
  let e := s.f (F.FAB_RING_EXPECT t)
  if e = 0 then 0 else 10000 * (e - s.f (F.FAB_RING_COUNT t)) / e

/-- The slowest in-range active track, with its slowdown. -/
def slowest (s : State) : Option (Nat × Nat) :=
  ((List.range 16).filter s.ringOk).foldl (fun m t =>
    let x := s.slowdown t
    match m with
    | some (_, y) => if y < x then some (t, x) else m
    | none => some (t, x)) none

/-- RING_GATE_END (R65, R66): the gate of track t's ring ends with `count` cycles. -/
def ringGate (s : State) (t count : Nat) : State :=
  if !s.present .FAB || s.stageCode t = 0 then s
  else
    let (e, s) : Nat × State :=
      match (s.zoneHot (t / 8)).bind (s.ringExpect t (s.f F.FAB_VCORE_READ)) with
      | some e => (e, s)
      | none => s.takeFree 16
    let s := (s.setF (F.FAB_RING_COUNT t) count).setF (F.FAB_RING_EXPECT t) e
    let bad := count == 0 || decide (2 * count < e ∨ 3 * e < 2 * count)
    let was := (s.f F.FAB_RING_BAD_BAD).testBit t
    let m := s.f F.FAB_RING_BAD_BAD
    let s := s.setF F.FAB_RING_BAD_BAD (if bad then m ||| 2 ^ t else m &&& (0xFFFF - 2 ^ t))
    let s := s.raiseIf (bad && !was) 100
    match s.slowest with
    | some (k, x) => if s.f F.RPS_PWR_STAT_STATE ≠ 0 then s.setF F.FAB_AGE_TRACK k else (s.setFab fun f => { f with ageSum := f.ageSum + x, ageCnt := f.ageCnt + 1 }).setF F.FAB_AGE_TRACK k
    | none => s

/-- AGE_DAY_END (R66, R67): the 24-hour average joins the running maximum. -/
def ageDay (s : State) : State :=
  if !s.present .FAB then s
  else
    let avg := if s.fab.ageCnt = 0 then 0 else s.fab.ageSum / s.fab.ageCnt
    let old := s.f F.FAB_AGE_INDEX
    let new := max old avg
    let s := (s.setFab fun f => { f with ageSum := 0, ageCnt := 0 }).setF F.FAB_AGE_INDEX new
    (s.raiseIf (decide (old < 800 ∧ 800 ≤ new)) 94).raiseIf (decide (old < 1000 ∧ 1000 ≤ new)) 95

/-- AGE_HOURLY_SAVE (R66): the Guard core writes the running maximum to MRAM. -/
def ageSave (s : State) : State :=
  if !s.present .FAB || !(s.f F.MGT_STATUS_RUNNING).testBit 3 then s else (s.mramTry 0x20 (leBytes 8 (s.f F.FAB_AGE_INDEX))).2

/-! ### Margin planner -/

/-- [DEDUCED, log entry 92] -/
def pstate (s : State) : Nat := s.f F.FAB_STATUS_PSTATE

/-- The planner runs: the Guard core runs its resident image and no heavy commit freezes it (R69, Table 16.1). [DEDUCED, log entry 92] -/
def plannerRuns (s : State) : Bool :=
  s.present .FAB && s.pstate != 0 && !s.fab.frozen && (s.f F.MGT_STATUS_RUNNING).testBit 3

/-- Was the rail written within the last 100 us (R75)? -/
def railRecent (s : State) : Bool := s.fab.wroteAt.any fun t => decide (s.clk.now < t + 100000)

/-- The target V is written to the rail. -/
def railWrite (s : State) : State :=
  ((s.setFab fun f => { f with wroteAt := some s.clk.now, writeDue := false, verify := true }).setF F.FAB_VCORE_TARGET s.fab.v).emit
    (.avsWrite (s.f F.FAB_AVS_CFG_RAIL) s.fab.v)

/-- step(d) of R70: the target moves within VMIN to VMAX, and the rail is written when it changes; a write within 100 us of the one
before it waits until they have passed (R75). -/
def railStep (s : State) (d : Int) : State :=
  let v := (sat ((s.fab.v : Int) + d) (s.f F.FAB_AVS_LIM_VMIN) (s.f F.FAB_AVS_LIM_VMAX)).toNat
  if v = s.fab.v then s
  else
    let s := s.setFab fun f => { f with v := v }
    if s.railRecent then s.setFab fun f => { f with writeDue := true } else s.railWrite

/-- A write that waited is made (R75). -/
def railLate (s : State) : State := if s.fab.writeDue && !s.railRecent then s.railWrite else s

/-- A read of the rail: its voltage, and the status response that comes with it (R73). -/
def railRead (s : State) : State :=
  (s.emit (.avsRead (s.f F.FAB_AVS_CFG_RAIL))).emit (.avsStatus (s.f F.FAB_AVS_CFG_RAIL))

/-- The planner enters Settling: it reads the rail voltage and measures one window; HOLD = 1 forces Hold (R69, Table 03.7). [DEDUCED,
log entry 92] -/
def settle (s : State) : State :=
  ((s.setF F.FAB_STATUS_PSTATE (if s.on F.FAB_PLAN_CTL_HOLD then 3 else 1)).setFab fun f => { f with
    smin := none, quiet := 0, frames := 0, late := false, frozen := false, avsFault := false, verify := false }).railRead

/-- The least rate predicted at V - 5 for the slowest in-range track is enough (predict_ok of R70). [DESIGN CHOICE, log entry 33] -/
def predictOk (s : State) : Bool :=
  match s.slowest with
  | none => false
  | some (t, _) =>
    match s.zoneHot (t / 8) with
    | none => false
    | some k =>
      match s.ringExpect t (s.fab.v - 5) k, s.ringExpect t s.fab.v k with
      | some a, some b =>
        decide (s.f F.FAB_FLOOR_FLOOR * 1000 * b ≤ s.f F.FAB_RATE_SLOWEST * a * (1000 - s.f F.FAB_PLAN_MARGIN - 50))
      | _, _ => false

/-- Pixel tokens of a frame: the enabled placement entries of every slot, or the tile's pixels times its slots. [DESIGN CHOICE, log entry 36] -/
def frameTokens (s : State) : Nat :=
  let slots := s.f F.DSP_STATUS_SACT
  if s.isTile then
    let d := Img.cor s.runImg
    Img.corW d * Img.corH d * slots
  else
    let t := s.snd.cache.table
    let px := (List.range (t.length / 64)).map fun i =>
      let e := slice t (64 * i) 64
      if numAt e 0 1 % 2 = 1 then numAt e 4 2 * numAt e 6 2 else 0
    px.sum * slots

/-- PLANNER_FRAME_END (R68, R70): a frame's work took `busy` microseconds; the slowest active track ran at `rate` x 10^6 tokens/s. [DESIGN CHOICE, log entry 37] -/
def plannerFrame (s : State) (busy rate : Nat) : State :=
  if !s.plannerRuns then s
  else
    let b := s.f F.FAB_BUDGET_BUDGET
    let slack : Int := if b = 0 then 0 else Int.tdiv (((b : Int) - busy) * 1000) b
    let den := s.pathsOn.length * b
    let s := (s.railLate.setF F.FAB_SLACK_LAST (twos 16 slack)).setF F.FAB_RATE_SLOWEST rate
    let s := s.setF F.FAB_FLOOR_FLOOR (if den = 0 then 0 else s.frameTokens / den)
    let late := s.fab.late || decide (b < busy)
    let s := s.setFab fun f => { f with late := false, smin := some (min slack (f.smin.getD slack)), frames := f.frames + 1 }
    if late && (s.pstate == 2 || s.pstate == 3) then (s.railStep 25).setFab fun f => { f with quiet := 0 } else s

/-- LIMIT of R76: the greatest b up to 48 that leaves the planned floor. -/
def bubbleLimit (s : State) : Nat :=
  ((List.range 49).filter fun b => decide (s.f F.FAB_FLOOR_FLOOR * 64 ≤ s.f F.FAB_RATE_SLOWEST * (64 - b))).foldl max 0

/-- APPLIED, LIMIT and THROTTLED at the end of a planner window (R76). [DESIGN CHOICE, log entry 36] -/
def applyBubbles (s : State) : State :=
  let lim := s.bubbleLimit
  let req := s.f F.FAB_THR_REQ
  let s := (s.setF F.FAB_THR_LIMIT lim).setF F.FAB_THR_APPLIED (min req lim)
  (s.setF F.FAB_STATUS_THROTTLED (decide (lim < req)).toNat).raiseIf (decide (lim < req)) 98

/-- PLANNER_WINDOW_END (R70, R71, R75, R76): a window of 64 frames ends.  AT_MAX is judged on the V of the window, before its own
step. [DEDUCED, log entry 92] -/
def plannerWindow (s : State) : State :=
  if !s.plannerRuns || decide (s.fab.frames < 64) then s
  else
    let margin : Int := s.f F.FAB_PLAN_MARGIN
    let sm := s.fab.smin.getD 0
    let atMax := s.fab.v == s.f F.FAB_AVS_LIM_VMAX && decide (sm < margin)
    let s := (s.setF F.FAB_SLACK_WMIN (twos 16 sm)).setFab fun f => { f with smin := none, frames := 0 }
    let recent := s.railRecent
    let s :=
      if s.pstate = 1 then s.setF F.FAB_STATUS_PSTATE 2
      else if s.pstate ≠ 2 then s
      else if sm < margin ∧ s.f F.FAB_THR_APPLIED = 0 then
        (if recent then s else s.railStep 10).setFab fun f => { f with quiet := 0 }
      else if margin + 50 ≤ sm then
        let s := s.setFab fun f => { f with quiet := f.quiet + 1 }
        if 4 ≤ s.fab.quiet && s.predictOk && !recent then (s.railStep (-5)).setFab fun f => { f with quiet := 0 } else s
      else s.setFab fun f => { f with quiet := 0 }
    let s := if atMax then (s.setF F.FAB_STATUS_AT_MAX 1).raise 91
      else if margin ≤ sm then s.setF F.FAB_STATUS_AT_MAX 0 else s
    s.applyBubbles

/-- Staged limits have changed: a V outside them moves to the nearer one with a single write (R72). -/
def railLimits (s : State) : State := if s.pstate = 0 || s.fab.v = 0 then s else s.railStep 0

/-- An AVSBus transaction failed; the third in a row leads to Hold (R73). -/
def avsFail (s : State) : State :=
  let n := min (s.f F.FAB_AVS_STAT_FAILS + 1) 255
  let s := (s.setF F.FAB_AVS_STAT_FAILS n).raise 92
  if n < 3 then s
  else
    let v := s.f F.FAB_VCORE_READ
    ((s.setF F.FAB_STATUS_AVS_OK 0).setF F.FAB_STATUS_PSTATE 3).setFab fun f => { f with avsFault := true, v := v, writeDue := false, verify := false }

/-- A rail read succeeded with a voltage in mV. -/
def avsGood (s : State) (mv : Nat) : State :=
  ((s.setF F.FAB_VCORE_READ mv).setF F.FAB_AVS_STAT_FAILS 0).setF F.FAB_STATUS_AVS_OK 1

/-- AVS_READBACK (R73): the rail is read back; `ok` tells whether the transaction succeeded.  The first read after a write is held against
the target written; a read that follows none tells the planner where the rail stands. -/
def avsReadback (s : State) (ok : Bool) (mv status : Nat) : State :=
  if !s.present .FAB || s.pstate = 0 then s
  else
    let s := s.railRead.setF F.FAB_AVS_STAT_STATUS status
    if !ok then s.avsFail
    else
      let check := s.fab.verify
      let s := s.setFab fun f => { f with verify := false }
      if check && decide (10 < ((mv : Int) - s.f F.FAB_VCORE_TARGET).natAbs) then
        ((s.setF F.FAB_VCORE_READ mv).raise 93).avsFail.railLate
      else
        let s := s.avsGood mv
        if check || s.fab.writeDue then s.railLate else s.setFab fun f => { f with v := mv }

/-- AVS_RETRY (R73): in the Hold of an AVSBus fault a read is retried; one success returns to Settling. -/
def avsRetry (s : State) (ok : Bool) (mv status : Nat) : State :=
  if !s.present .FAB || s.pstate != 3 || !s.fab.avsFault then s
  else
    let s := s.railRead.setF F.FAB_AVS_STAT_STATUS status
    if ok then
      (s.avsGood mv).settle
    else s.avsFail

/-- FAB_PLAN_CTL.HOLD has been written (R69, Table 03.7). -/
def planHold (s : State) (hold : Bool) : State :=
  if !s.present .FAB || s.pstate = 0 then s
  else if hold then s.setF F.FAB_STATUS_PSTATE 3
  else if s.pstate = 3 && !s.fab.avsFault then s.settle
  else s

/-! ### Cell readback -/

/-- CPR_READ: a write to FAB_CPR_ADDR starts a readback (R52). -/
def cprRead (s : State) : State := s.setF F.FAB_CPR_ADDR_BUSY 1

/-- CPR_READ_DONE (R51, R52): a program word as loaded, its number taken modulo 128, or a local SRAM word with its check bits; one with a
double-bit error reads as no known value. [DESIGN CHOICE, log entry 17] -/
def cprReadDone (s : State) : State :=
  if !s.present .FAB || !s.on F.FAB_CPR_ADDR_BUSY then s
  else
    let s := s.setF F.FAB_CPR_ADDR_BUSY 0
    let cell := s.f F.FAB_CPR_ADDR_CELL
    if s.on F.FAB_CPR_ADDR_SPACE then
      let (w, double) := s.sramAt cell (s.f F.FAB_CPR_ADDR_WORD)
      let (v, s) := if double then s.takeFree 39 else (w + 2 ^ 32 * (Config.secded w % 128), s)
      (s.setReg R.FAB_CPR_DATA0 (BitVec.ofNat 32 v)).setF F.FAB_CPR_DATA1_DATA (v / 2 ^ 32)
    else
      let w := numAt (Img.cellprog s.runImg) (768 * cell + 6 * (s.f F.FAB_CPR_ADDR_WORD % 128)) 6
      (s.setReg R.FAB_CPR_DATA0 (BitVec.ofNat 32 w)).setF F.FAB_CPR_DATA1_DATA (w / 2 ^ 32)

/-- The fabric as an image loads: no run, no token, and the shared tables in the local SRAM of its cells (R36, R109). -/
def fabClear (s : State) : State :=
  (s.setFab fun f => { f with cells := .replicate 1024 none, accs := .replicate 1024 (0, 0), paths := .replicate 16 {}, work := [] }).sramLoad

end State

end Sys2Proof.Machine
end

