-- ==== Sys2Proof/Machine/HostPort.lean ====
section
/-! DEFINITION. Host port, source rings, peer doorbells, paging, the reel store and MSI-X (chapter 14), and the latch of R80. -/

namespace Sys2Proof.Machine

namespace State

def setHst (s : State) (g : HstSt → HstSt) : State := { s with hst := g s.hst }
def setPcie (s : State) (g : Pcie → Pcie) : State := s.setHst fun h => { h with pcie := g h.pcie }
def src (s : State) (n : Nat) : SrcSt := s.hst.srcs.getD n {}
def setSrc (s : State) (n : Nat) (g : SrcSt → SrcSt) : State := s.setHst fun h => { h with srcs := setAt h.srcs n g }
def ring (s : State) (n : Nat) : RingSt := tabAt s.hst.rings n {}
def setRing (s : State) (n : Nat) (g : RingSt → RingSt) : State := s.setHst fun h => { h with rings := tabMod h.rings n g }

/-! ### Source buffers -/

/-- Bytes of one frame of a source: (HM1 + 1) × STRIDE. -/
def srcBytes (s : State) (n : Nat) : Nat := (s.f (F.SND_SRC_SIZE_HM1 n) + 1) * s.f (F.SND_SRC_STRIDE_STRIDE n)

/-- The address of local buffer `i` of a source (R309). -/
def bufAddr (s : State) (n i : Nat) : Nat :=
  (s.f (F.HST_SRC_LBUF_LO_BASE n) + 2 ^ 32 * s.f (F.HST_SRC_LBUF_HI_BASE n)) + i * s.f (F.HST_SRC_LSTEP_STEP n)

/-- The player of a reel source (R317). -/
def playerOf (s : State) (n : Nat) : Option Nat :=
  if !s.present .REL then none
  else (List.range 8).find? fun p => s.on (F.REL_P_CTL_EN p) && s.f (F.REL_P_CTL_SRC p) == n

/-- Is a local buffer free: not latched, not newest, and not holding a prefetched clip frame (R309, R318)?  A clip frame latched in place
latches no buffer. -/
def bufFree (s : State) (n i : Nat) : Bool :=
  !((s.src n).latchedV && s.f (F.HST_SRC_STAT_LATCHED n) == i && (s.src n).curAddr == s.bufAddr n i) &&
  !(s.on (F.HST_SRC_STAT_NEWV n) && s.f (F.HST_SRC_STAT_NEWEST n) == i) &&
  match s.playerOf n with
  | some p => (tabAt s.hst.ready p []).all fun e => e.2 != s.bufAddr n i
  | none => true

/-- The free buffer after `i`, in cyclic order. [DESIGN CHOICE, log entry 13] -/
def nextFree (s : State) (n i : Nat) : Option Nat :=
  let k := s.f (F.HST_SRC_CTL_NLBUF n)
  ((List.range k).map fun j => (i + 1 + j) % k).find? fun j => s.bufFree n j

/-- NEXT moves to a free buffer where it names one that is not free. [DESIGN CHOICE, log entry 13] -/
def fixNext (s : State) (n : Nat) : State :=
  let i := s.f (F.HST_SRC_STAT_NEXT n)
  if s.bufFree n i then s else s.setF (F.HST_SRC_STAT_NEXT n) ((s.nextFree n i).getD i)

/-- Buffer `i` of a source completes (R309): it becomes newest, and the previous newest becomes free. -/
def completeBuffer (s : State) (n i : Nat) (tag : Word) : State :=
  let s := s.setSrc n fun x => { x with tags := setAt x.tags i fun _ => tag }
  let s := ((s.setF (F.HST_SRC_STAT_NEWEST n) i).setF (F.HST_SRC_STAT_NEWV n) 1).bump (F.HST_SRCN_DONE_COUNT n)
  s.fixNext n

/-- A source latches a buffer at an address with a tag (R80). -/
def latchAs (s : State) (n a : Nat) (tag : Word) : State :=
  (((s.setSrc n fun x => { x with latchedV := true, curAddr := a }).setF (F.SND_SRC_CUR_LO_ADDR n) a).setF
    (F.SND_SRC_CUR_HI_ADDR n) (a / 2 ^ 32)).setReg (R.SND_SRC_TAG n) tag

/-- A source that has latched before latches the same buffer again (R80). -/
def repeatLatch (s : State) (n : Nat) : State :=
  if (s.src n).latchedV then (s.bump (F.SND_SRC_REPEAT_COUNT n)).raise 112 else s

/-- The R80 latch of a ring or peer source. -/
def latchRing (s : State) (n : Nat) : State :=
  if s.on (F.HST_SRC_STAT_NEWV n) then
    let i := s.f (F.HST_SRC_STAT_NEWEST n)
    let s := (s.setF (F.HST_SRC_STAT_LATCHED n) i).setF (F.HST_SRC_STAT_NEWV n) 0
    (s.latchAs n (s.bufAddr n i) ((s.src n).tags.getD i 0)).fixNext n
  else s.repeatLatch n

/-! ### Reel players -/

/-- The clip frames a player keeps ahead of `pos`, in the order it reaches them (R318). -/
def clipAhead (s : State) (p pos : Nat) : List Nat :=
  let frames := s.f (F.REL_P_FRAMES_FRAMES p)
  let l := (List.range (s.f (F.REL_P_CTL_PREFETCH p))).map fun i => pos + i
  if s.on (F.REL_P_CTL_LOOP p) && frames != 0 then (l.map (· % frames)).eraseDups
  else l.filter fun f => decide (f < frames)

/-- Set the frames a player holds ready, with READY. -/
def setReady (s : State) (p : Nat) (l : List (Nat × Nat)) : State :=
  (s.setHst fun h => { h with ready := tabMod h.ready p fun _ => l }).setF (F.REL_P_STAT_READY p) (min l.length 7)

/-- Prefetched frames that no longer lie ahead are discarded. -/
def dropStale (s : State) (p : Nat) : State :=
  let a := s.clipAhead p (s.hst.reelPos.getD p 0)
  s.setReady p ((tabAt s.hst.ready p []).filter fun e => a.contains e.1)

def setPos (s : State) (p pos : Nat) : State := s.setHst fun h => { h with reelPos := setAt h.reelPos p fun _ => pos }

/-- A pause from Playing keeps the player on the buffer it has presented, until it plays or seeks (R234). -/
def reelHold (s : State) (p : Nat) (on : Bool) : State := s.setHst fun h => { h with reelHeld := setAt h.reelHeld p fun _ => on }

/-- Apply a reel action (R319). -/
def applyReel (s : State) (a : Action) : State :=
  let p := a.player
  let st := s.f (F.REL_P_STAT_STATE p)
  if st = 0 then s
  else
    let s :=
      match a.kind with
      | 1 => (((if st = 3 then s.setPos p 0 else s).setF (F.REL_P_STAT_STATE p) 1).reelHold p false).dropStale p
      | 2 => if st = 1 then (s.setF (F.REL_P_STAT_STATE p) 2).reelHold p true else s
      | _ => ((((s.reelHold p false).setPos p a.seek).setF (F.REL_P_ACC_ACC p) 0).setF (F.REL_P_STAT_STATE p) (if st = 3 then 2 else st)).dropStale p
    (s.setF F.REL_ACT_STAT_RESULT 2).raise 135

/-- Apply the reel actions that govern the latch at boundary `m` (R319). -/
def reelDue (s : State) (m : Nat) : State :=
  let due := s.hst.reelActs.filter fun a => decide (a.n ≤ m)
  let s := s.setHst fun h => { h with reelActs := h.reelActs.filter fun a => !decide (a.n ≤ m) }
  due.foldl applyReel s

/-- The advance of R317 after a latch: position, accumulator and whether the clip ended. -/
def reelAdvance (num frames : Nat) (loop : Bool) : Nat → Nat → Nat → Nat × Nat × Bool
  | 0, pos, acc => (pos, acc, false)
  | fuel + 1, pos, acc =>
    if acc < 1000 * num ∨ num = 0 then (pos, acc, false)
    else if pos + 1 < frames then reelAdvance num frames loop fuel (pos + 1) (acc - 1000 * num)
    else if loop then reelAdvance num frames loop fuel 0 (acc - 1000 * num)
    else (pos, 0, true)

/-- The R80 latch of a reel source: present(POS) and the accumulator (R317, R318); a player paused while it
played latches the buffer of the frame of its pause again (R234). [DESIGN CHOICE, log entry 21] -/
def latchReel (s : State) (n p : Nat) : State :=
  if s.hst.reelHeld.getD p false && (s.src n).latchedV then s
  else
  let pos := s.hst.reelPos.getD p 0
  let s := s.setF (F.REL_P_POS_POS p) pos
  let s :=
    match (tabAt s.hst.ready p []).lookup pos with
    | some a =>
      let (tag, s) := s.takeFree 32
      let s := s.latchAs n a (BitVec.ofNat 32 tag)
      match (List.range (s.f (F.HST_SRC_CTL_NLBUF n))).find? fun i => s.bufAddr n i == a with
      | some i => s.setF (F.HST_SRC_STAT_LATCHED n) i
      | none => s
    | none => ((s.bump (F.REL_P_LATE_COUNT p)).raise 128).repeatLatch n
  if s.f (F.REL_P_STAT_STATE p) ≠ 1 then s
  else
    let acc := s.f (F.REL_P_ACC_ACC p) + s.f (F.SND_SRC_RATE_RATE n) * s.f F.DSP_DEN_DEN
    let num := s.f F.DSP_NUM_NUM
    let (pos, acc, ended) := reelAdvance num (s.f (F.REL_P_FRAMES_FRAMES p)) (s.on (F.REL_P_CTL_LOOP p))
      (if num = 0 then 0 else acc / (1000 * num) + 1) pos acc
    let s := (s.setPos p pos).setF (F.REL_P_ACC_ACC p) acc
    let s := if ended then (s.setF (F.REL_P_STAT_STATE p) 3).raise 131 else s
    s.dropStale p

/-- The latch of every enabled source at boundary `m`, where work on frame m + 1 begins (R80). -/
def latchSources (s : State) (m : Nat) : State :=
  let s := if s.present .REL then s.reelDue m else s
  let s := (List.range 8).foldl (fun s n =>
    if !s.on (F.SND_SRC_CTL_EN n) then s
    else
      if s.f (F.SND_SRC_CTL_ORIGIN n) = 0 then s.latchRing n
      else match s.playerOf n with
        | some p => s.latchReel n p
        | none => s.repeatLatch n) s
  let bare := (List.range (s.rateAt (m + 1)).slots).any fun k => (List.range 16).any fun l =>
    s.on (F.SND_LYR_CTL_EN k l) && s.on (F.SND_SRC_CTL_EN (s.f (F.SND_LYR_CTL_SRC k l))) &&
      !(s.src (s.f (F.SND_LYR_CTL_SRC k l))).latchedV
  s.raiseIf bare 113

/-- A commit has changed which players are enabled (R317): a newly enabled one starts Paused at POS 0 with ACC 0. -/
def reelEnable (s : State) : State :=
  (List.range 8).foldl (fun s p =>
    let en := s.present .REL && s.on (F.REL_P_CTL_EN p)
    let was := s.hst.reelOn.getD p false
    let s := s.setHst fun h => { h with reelOn := setAt h.reelOn p fun _ => en }
    if en && !was then ((((s.setPos p 0).setF (F.REL_P_ACC_ACC p) 0).setF (F.REL_P_STAT_STATE p) 2).setReady p [])
    else if !en && was then ((s.setF (F.REL_P_STAT_STATE p) 0).setReady p [])
    else s) s

/-- The bytes of page-table entry `page` (R315). -/
def pageEntry (s : State) (page : Nat) : List Byte :=
  s.dramRd (s.f F.REL_PT_BASE_LO_BASE + 2 ^ 32 * s.f F.REL_PT_BASE_HI_BASE + 16 * page) 16

/-- A page entry's target and kind, none for an invalid entry (R315). -/
def pageOf (e : List Byte) : Option (Nat × Nat) :=
  let a := numAt e 0 8
  let k := numAt e 8 1
  if 1 ≤ k ∧ k ≤ 3 ∧ a % 2 ^ 21 = 0 ∧ numAt e 10 6 = 0 then some (a, k) else none

/-- The no-snoop and relaxed-ordering bits of a page entry; peer memory is always read with relaxed ordering (R315). -/
def pageFlags (e : List Byte) : Bool × Bool := ((numAt e 9 1).testBit 0, (numAt e 9 1).testBit 1 || numAt e 8 1 == 2)

/-- Assemble a clip frame page by page: (address in the page's target, kind, bytes) of each page it uses; the host and peer bytes
come from `data` in order. -/
def assemble (s : State) : List (Nat × Nat × Nat) → List Byte → List Byte
  | [], _ => []
  | (a, k, n) :: ps, data =>
    if k = 3 then s.dramRd a n ++ assemble s ps data else padTo n data ++ assemble s ps (data.drop n)

/-- A page fault of a player (R320). -/
def reelFault (s : State) (p page cause ev : Nat) : State :=
  ((((s.setF F.REL_FAULT_PAGE page).setF F.REL_FAULT_CAUSE cause).setF F.REL_FAULT_PLAYER p).bump F.REL_FAULTS_COUNT).raise ev

/-- REEL_FETCH_DONE (R318, R320, R400): the next clip frame a player lacks is fetched.  `data` is what its host and peer pages answer,
in order; `failed` is the index, among the frame's pages, of a page whose read failed. -/
def reelFetch (s : State) (p : Nat) (data : List Byte) (failed : Option Nat) : State :=
  if !s.present .REL || s.f (F.REL_P_STAT_STATE p) = 0 then s
  else
    let n := s.f (F.REL_P_CTL_SRC p)
    let ready := tabAt s.hst.ready p []
    let ahead := s.clipAhead p (s.hst.reelPos.getD p 0)
    match (if s.f F.THM_STATUS_STAGE = 0 then ahead else ahead.take 1).find? fun f => (ready.lookup f).isNone with
    | none => s
    | some f =>
      let m := s.f (F.REL_P_START_LO_START p) + 2 ^ 32 * s.f (F.REL_P_START_HI_START p) + f * s.f (F.REL_P_FSTRIDE_FSTRIDE p)
      let len := s.srcBytes n
      let p0 := m / 2 ^ 21
      let pages := List.range ((m + len - 1) / 2 ^ 21 + 1 - p0)
      let ents := pages.map fun i => pageOf (s.pageEntry (p0 + i))
      match pages.find? fun i => (ents.getD i none).isNone with
      | some i => s.reelFault p (p0 + i) 1 129
      | none =>
        let chunks := pages.map fun i =>
          let (t, k) := (ents.getD i none).getD (0, 0)
          let lo := max m ((p0 + i) * 2 ^ 21)
          (t + lo % 2 ^ 21, k, min (m + len) ((p0 + i + 1) * 2 ^ 21) - lo)
        let bad := fun (i : Nat) => match chunks[i]? with
          | some (a, k, c) => failed == some i || (if k = 3 then !s.dramIn a c else !s.hst.pcie.bme)
          | none => false
        match pages.find? bad with
        | some i => s.reelFault p (p0 + i) 2 130
        | none =>
          let inPlace := chunks.all (fun c => c.2.1 == 3) &&
            (pages.all fun i => (chunks.getD (i + 1) (0, 0, 0)).1 == (chunks.getD i (0, 0, 0)).1 + (chunks.getD i (0, 0, 0)).2.2 ||
              i + 1 == pages.length)
          if inPlace then s.setReady p (ready ++ [(f, (chunks.headD (0, 0, 0)).1)])
          else if !s.bufFree n (s.f (F.HST_SRC_STAT_NEXT n)) then s
          else
            let b := s.f (F.HST_SRC_STAT_NEXT n)
            let s := pages.foldl (fun s i =>
              let (a, k, c) := chunks.getD i (0, 3, 0)
              let (ns, ro) := pageFlags (s.pageEntry (p0 + i))
              if k = 3 then s else s.emit (.hostRead a c ns ro)) s
            let s := s.dramWr (s.bufAddr n b) (s.assemble chunks data)
            (s.setReady p (ready ++ [(f, s.bufAddr n b)])).fixNext n

/-- REL_CMD (R319): the action scheduled, or refused with RESULT 3.  The second component is what a Primary mirrors. -/
def reelCmd (s : State) (p kind : Nat) : Option Action × State :=
  let ns := s.f F.REL_ACT_NS_NS
  let secondary := s.present .PAR && decide (3 ≤ s.f F.PAR_STATUS_PSTATE)
  if kind = 0 ∨ !s.present .REL then (none, s)
  else if 999999999 < ns || s.f (F.REL_P_STAT_STATE p) == 0 || secondary || !s.framed || s.on F.DSP_STATUS_JOIN ||
      (kind == 3 && decide (s.f (F.REL_P_FRAMES_FRAMES p) ≤ s.f F.REL_SEEK_FRAME)) then
    (none, s.setF F.REL_ACT_STAT_RESULT 3)
  else
    let (n, k, late) := s.effective (s.f F.REL_ACT_SL_SEC + 2 ^ 32 * s.f F.REL_ACT_SH_SEC) ns
    let a : Action := { kind := kind, rampM1 := 0, aseq := 0, n := n, slot := k, late := late, player := p, seek := s.f F.REL_SEEK_FRAME }
    let s := (((s.setF F.REL_ACT_STAT_RESULT 1).setF F.REL_ACT_STAT_LATE late.toNat).setF F.REL_ACT_STAT_SLOT k).setF
      F.REL_ACT_STAT_FRAME n
    let s := if late then (s.bump F.DSP_LATE_COUNT).raise 81 else s
    (some a, s.setHst fun h => { h with reelActs := h.reelActs ++ [a] })

/-! ### Rings -/

/-- The fields of ring `n`: 0 to 7 the sources, 8 the paging ring. -/
def ringState (n : Nat) : Fld := if n < 8 then F.HST_SRC_STAT_STATE n else F.HST_PGR_CTL_STATE
/-- [DEDUCED, log entry 15] -/
def ringRunF (n : Nat) : Fld := if n < 8 then F.HST_SRC_CTL_RUN n else F.HST_PGR_CTL_RUN
def ringLog2 (n : Nat) : Fld := if n < 8 then F.HST_SRC_CTL_LOG2 n else F.HST_PGR_CTL_LOG2
def ringHead (n : Nat) : Fld := if n < 8 then F.HST_SRC_HEAD_HEAD n else F.HST_PGR_HEAD_HEAD
def ringTail (n : Nat) : Fld := if n < 8 then F.HST_SRC_TAIL_TAIL n else F.HST_PGR_TAIL_TAIL
def ringBase (s : State) (n : Nat) : Nat :=
  if n < 8 then s.pair (R.HST_SRC_RING_LO n) (R.HST_SRC_RING_HI n) else s.pair R.HST_PGR_RING_LO R.HST_PGR_RING_HI

/-- The host address of the descriptor at TAIL. -/
def descAddr (s : State) (n : Nat) : Nat := s.ringBase n + 32 * (s.f (ringTail n) % 2 ^ s.f (ringLog2 n))

/-- A ring's RUN bit has been written: a ring not running starts at TAIL; RUN 0 lets the descriptor in progress finish (R311,
R312). -/
def ringRunWritten (s : State) (n : Nat) (was now : Bool) : State :=
  if was == now then s
  else if now then
    if s.f (ringState n) = 3 then (s.setRing n fun r => { r with stopping := false }).setF (ringState n) 1
    else (s.setRing n fun _ => {}).setF (ringState n) 1
  else if s.f (ringState n) = 1 then
    if (s.ring n).busy then (s.setRing n fun r => { r with stopping := true }).setF (ringState n) 3 else s.setF (ringState n) 0
  else s

/-- An error of the host port (HST_ERR). -/
def hstErr (s : State) (n code ev : Nat) : State :=
  (((s.setF F.HST_ERR_CODE code).setF F.HST_ERR_RING n).bump F.HST_ERRCNT_COUNT).raise ev

/-- A ring halts; `wb` writes back STATUS 2 (R312). [DEDUCED, log entry 15] -/
def haltRing (s : State) (n code : Nat) (wb : Bool) : State :=
  let s := if wb then s.emit (.hostWrite (s.descAddr n + if n < 8 then 24 else 2) [2]) else s
  ((s.setRing n fun _ => {}).setF (ringState n) 2).hstErr n code 133

/-- May a ring take its next descriptor: running, idle, not empty, the link up and Bus Master Enable set, and a buffer free? -/
def ringReady (s : State) (n : Nat) : Bool :=
  let k := 2 ^ s.f (ringLog2 n)
  s.present .HST && s.f (ringState n) == 1 && !(s.ring n).busy && s.f (ringHead n) % k != s.f (ringTail n) % k &&
    s.on F.HST_LINK_UP && s.hst.pcie.bme &&
    (decide (8 ≤ n) || (s.present .SND && s.f (F.HST_SRC_CTL_MODE n) == 0 && s.bufFree n (s.f (F.HST_SRC_STAT_NEXT n))))

/-- Is a source descriptor well formed (R312, Table 14.3)? -/
def srcDescOk (d : List Byte) : Bool := numAt d 0 8 % 64 == 0 && numAt d 13 3 == 0 && numAt d 26 6 == 0

/-- Is a paging descriptor well formed (Table 14.5)? -/
def pageDescOk (d : List Byte) : Bool :=
  numAt d 3 1 == 0 &&
  if numAt d 0 1 = 1 then numAt d 4 4 % 64 == 0 && numAt d 8 8 % 64 == 0 && numAt d 16 8 % 64 == 0 && numAt d 24 8 == 0
  else numAt d 0 1 == 2 && numAt d 4 4 == 0 && decide (numAt d 8 8 < 2 ^ 21)

/-- DESCRIPTOR_FETCH (R311, R316): the descriptor at TAIL arrives; a bad one halts the ring, a good one starts its frame. -/
def descriptorFetch (s : State) (n : Nat) (bytes : List Byte) : State :=
  if !s.ringReady n then s
  else
    let d := padTo 32 bytes
    let s := s.emit (.hostRead (s.descAddr n) 32 false false)
    if n < 8 then
      if !srcDescOk d then s.haltRing n 4 true
      else (s.setRing n fun r => { r with busy := true, desc := d, buf := s.f (F.HST_SRC_STAT_NEXT n) }).emit
        (.hostRead (numAt d 0 8) (s.srcBytes n) ((numAt d 12 1).testBit 1) ((numAt d 12 1).testBit 2))
    else if !pageDescOk d then s.haltRing n 4 true
    else if numAt d 0 1 = 1 ∧ !s.dramIn (numAt d 16 8) (numAt d 4 4) then s.haltRing n 5 true
    else
      let s := s.setRing n fun r => { r with busy := true, desc := d }
      if numAt d 0 1 = 1 then s.emit (.hostRead (numAt d 8 8) (numAt d 4 4) ((numAt d 1 1).testBit 1) false) else s

/-- The descriptor in progress is done: TAIL advances and a stopping ring stops. -/
def ringAdvance (s : State) (n : Nat) : State :=
  let s := s.setF (ringTail n) ((s.f (ringTail n) + 1) % 2 ^ s.f (ringLog2 n))
  let stop := (s.ring n).stopping
  let s := s.setRing n fun _ => {}
  if stop then s.setF (ringState n) 0 else s

/-- BUFFER_COMPLETE (R311): the frame of the descriptor in progress is wholly in DRAM. -/
def bufferComplete (s : State) (n : Nat) (data : List Byte) : State :=
  let r := s.ring n
  if !s.present .HST || !s.present .SND || !r.busy then s
  else
    let s := s.dramWr (s.bufAddr n r.buf) (padTo (s.srcBytes n) data)
    let s := s.completeBuffer n r.buf (BitVec.ofNat 32 (numAt r.desc 8 4))
    let t := s.clk.wall
    let s := s.emit (.hostWrite (s.descAddr n + 16)
      (leBytes 4 (nsOf t) ++ leBytes 4 (secOf t) ++ [1, BitVec.ofNat 8 r.buf]))
    let s := s.ringAdvance n
    if (numAt r.desc 12 1).testBit 0 then
      (s.setReg R.HST_SRC_DONE (s.reg R.HST_SRC_DONE ||| BitVec.ofNat 32 (2 ^ n))).raise 136
    else s

/-- The paging descriptor in progress is done (R316). -/
def pagingDone (s : State) : State :=
  let d := (s.ring 8).desc
  let s := (s.emit (.hostWrite (s.descAddr 8 + 2) [1])).bump F.HST_PGR_DONE_COUNT
  (s.ringAdvance 8).raiseIf ((numAt d 1 1).testBit 0) 132

/-- PAGING_COPY (R316): the host data of the COPY in progress reaches local DRAM. -/
def pagingCopy (s : State) (data : List Byte) : State :=
  let r := s.ring 8
  if !s.present .HST || !r.busy || numAt r.desc 0 1 != 1 then s
  else (s.dramWr (numAt r.desc 16 8) (padTo (numAt r.desc 4 4) data)).pagingDone

/-- PAGING_MAP (R316): the entry of the MAP in progress is written whole. -/
def pagingMap (s : State) : State :=
  let r := s.ring 8
  if !s.present .HST || !r.busy || numAt r.desc 0 1 != 2 then s
  else
    let a := s.f F.REL_PT_BASE_LO_BASE + 2 ^ 32 * s.f F.REL_PT_BASE_HI_BASE + 16 * numAt r.desc 8 8
    (if s.present .REL then s.dramWr a (slice r.desc 16 16) else s).pagingDone

/-- RING_HALT (R312): a PCI Express error, code 1 to 3, on the descriptor read or on a data read. -/
def ringHalt (s : State) (n code : Nat) (onDesc : Bool) : State :=
  if onDesc then (if s.ringReady n then s.haltRing n code false else s)
  else if s.present .HST && (s.ring n).busy then s.haltRing n code true
  else s

/-- PEER_DOORBELL (R313): a write of `idx` to HST_SRCn_PEERDONE. [DESIGN CHOICE, log entry 16] -/
def peerDoorbell (s : State) (n idx : Nat) : State :=
  if !s.present .SND || s.f (F.HST_SRC_CTL_MODE n) != 1 then s
  else if idx = s.f (F.HST_SRC_STAT_NEXT n) ∧ idx < s.f (F.HST_SRC_CTL_NLBUF n) then
    s.completeBuffer n idx (s.reg (R.HST_SRC_PEERTAG n))
  else s.hstErr n 6 134

/-! ### Link, configuration and MSI-X -/

/-- CAPY of R314: lanes × rate × E / 8 × 0.90 in 10^6 byte/s, rounded down. -/
def linkCapy (speed width : Nat) : Nat :=
  let mt := [0, 2500, 5000, 8000, 16000, 32000].getD speed 0
  if speed ≤ 2 then width * mt * 72 / 800 else width * mt * 128 * 9 / (130 * 80)

/-- Every pending vector that no mask and no hold-off keeps back is sent (R321). -/
def msixFlush (s : State) : State :=
  (List.range 64).foldl (fun s v => if s.hst.pcie.pba.getLsbD v then s.msixSend v else s) s

/-- LINK_TRAINED (R314): the link trains or retrains at `speed` (1 to 5) and `width` lanes. -/
def linkTrained (s : State) (speed width : Nat) : State :=
  if !s.present .HST then s
  else
    let s := (((s.setF F.HST_LINK_SPEED speed).setF F.HST_LINK_WIDTH width).setF F.HST_LINK_UP 1).setF F.HST_LINK_CAPY
      (linkCapy speed width)
    (s.raise 137).raiseIf (decide (linkCapy speed width < s.f F.HST_LOAD_LOAD)) 138

/-- The effect shared by a function-level reset, a hot reset and a link-down (R308). [DEDUCED, log entry 14] -/
def hstReset (s : State) : State :=
  let inHst := fun (a : Nat) => decide (Blk.HST.base ≤ a ∧ a < Blk.HST.base + Blk.HST.extent)
  let old := s.regs
  let s := { s with regs := RegFile.clear s.regs inHst }
  let s := (old.filter fun p => inHst p.1).foldl (fun s p =>
    let m := stMask p.1
    if m = 0 then s else s.setReg p.1 ((s.reg p.1 &&& ~~~ m) ||| (RegFile.get old p.1 &&& m))) s
  let s := s.setF F.HST_W2_SIZE_SIZE (s.f (F.NVS_OPT_OPT 1) / 2 ^ 16)
  let s := s.setHst fun h => { h with rings := .replicate 9 {} }
  s.setPcie fun p => { ready := p.ready, bar2On := p.bar2On }

/-- LINK_DOWN (R308): a hot reset or a link-down. -/
def linkDown (s : State) : State := if s.present .HST then s.hstReset.raise 137 else s

/-- FUNCTION_LEVEL_RESET (R308). [DEDUCED, log entry 14] -/
def functionLevelReset (s : State) : State := if s.present .HST then s.hstReset.raise 140 else s

/-- A merge of written bytes, some of them disabled, into memory. -/
def mergeBytes (old : List Byte) (new : List (Option Byte)) : List Byte := List.zipWith (fun o n => n.getD o) old new

/-- BAR2_ACCESS (R305, R307): a write of bytes under byte enables, or a read of `len` bytes. -/
def bar2Access (s : State) (off : Nat) (write : Option (List (Option Byte))) (len : Nat) (poisoned : Bool) : State :=
  if !s.present .HST then s
  else
    let a := s.f F.HST_W2_BASE_LO_BASE + 2 ^ 32 * s.f F.HST_W2_BASE_HI_BASE + off
    let n := match write with | some bs => bs.length | none => len
    let inWin := decide (off + n ≤ 2 ^ (30 + s.f F.HST_W2_SIZE_SIZE))
    if !s.hst.pcie.bar2On || !inWin then s.emit (.completion 1 [])
    else match write with
      | some bs =>
        if poisoned then s.raise 139
        else s.dramWr a (mergeBytes (s.dramRd a bs.length) bs)
      | none => (s.dramReadNote a len).emit (.completion 0 (s.dramRd a len))

/-- The configuration registers whose content the spec gives (R305). [DESIGN CHOICE, log entry 40] -/
def cfgWord (s : State) (off : Nat) : Option Word :=
  match off / 4 * 4 with
  | 0x00 => some (BitVec.ofNat 32 (s.f (F.NVS_OPT_OPT 0) % 2 ^ 16 + (if s.part7440 then 0x7440 else 0x7420) * 2 ^ 16))
  | 0x08 => some (BitVec.ofNat 32 (0x048000 * 256 + 0xB0))
  | 0x2C => some (BitVec.ofNat 32 (s.f (F.NVS_OPT_OPT 0) / 2 ^ 16 + s.f (F.NVS_OPT_OPT 1) % 2 ^ 16 * 2 ^ 16))
  | _ => none

/-- CONFIGURATION_REQUEST (R305). [DESIGN CHOICE, log entry 40] -/
def configRequest (s : State) (op : CfgOp) : State :=
  if !s.present .HST then s
  else if !s.hst.pcie.ready then s.emit (.completion 2 [])
  else match op with
    | .read off =>
      match s.cfgWord off.toNat with
      | some w => s.emit (.completion 0 (leBytes 4 w.toNat))
      | none => let (v, s) := s.takeFree 32; s.emit (.completion 0 (leBytes 4 v))
    | .busMaster on => ((s.setPcie fun p => { p with bme := on }).setF F.HST_LINK_BME on.toNat).emit (.completion 0 [])
    | .bar2Size n => (s.setF F.HST_W2_SIZE_SIZE n).emit (.completion 0 [])
    | .msix en m => ((s.setPcie fun p => { p with msixOn := en, funMask := m }).emit (.completion 0 [])).msixFlush
    | .power d3 => (s.setPcie fun p => { p with d3hot := d3 }).emit (.completion 0 [])

/-- MSIX_TABLE_ACCESS (R306, R321): a 32-bit BAR4 access to the table at 0x0000 or the PBA at 0x8000. [DESIGN CHOICE, log entry 41] -/
def msixTable (s : State) (off : Nat) (write : Option Word) : State :=
  if !s.present .HST then s
  else
    let v := off / 16
    let e := tabAt s.hst.pcie.table v (0, 0, true)
    match write with
    | some w =>
      if 64 ≤ v then s
      else
        let e' : Nat × Word × Bool :=
          match off % 16 / 4 with
          | 0 => (e.1 / 2 ^ 32 * 2 ^ 32 + w.toNat / 4 * 4, e.2.1, e.2.2)
          | 1 => (e.1 % 2 ^ 32 + w.toNat * 2 ^ 32, e.2.1, e.2.2)
          | 2 => (e.1, w, e.2.2)
          | _ => (e.1, e.2.1, w.getLsbD 0)
        (s.setPcie fun p => { p with table := tabMod p.table v fun _ => e' }).msixFlush
    | none =>
      let w : Word :=
        if v < 64 then
          match off % 16 / 4 with
          | 0 => BitVec.ofNat 32 e.1 | 1 => BitVec.ofNat 32 (e.1 / 2 ^ 32) | 2 => e.2.1 | _ => BitVec.ofNat 32 e.2.2.toNat
        else if off / 4 = 0x2000 then s.hst.pcie.pba.setWidth 32
        else if off / 4 = 0x2001 then (s.hst.pcie.pba >>> 32).setWidth 32
        else 0
      s.emit (.completion 0 (leBytes 4 w.toNat))

/-- MSIX_HOLDOFF_END (R321): the hold-off of a vector expires, and what merged during it goes out as one message. -/
def holdoffEnd (s : State) (v : Nat) : State :=
  if !s.hst.pcie.hold.getLsbD v then s
  else
    let s := s.setPcie fun p => { p with hold := p.hold &&& ~~~ BitVec.ofNat 64 (2 ^ v) }
    if s.hst.pcie.pba.getLsbD v then s.msixSend v else s

/-- An image has run, or none was found: configuration is served, and BAR2 with an image (R305). -/
def hostInService (s : State) (image : Bool) : State :=
  s.setPcie fun p => { p with ready := true, bar2On := image }

end State

end Sys2Proof.Machine
end

