-- ==== Sys2Proof/Machine/Sender.lean ====
section
/-! DEFINITION. The Sender pipeline (chapter 4): placement, layers, resampling, encoding, annotation, segments and the output
FIFOs. -/

namespace Sys2Proof.Machine

/-- Bytes per pixel and component width of a source format (Table 04.1). -/
def fmtBytes (f : Nat) : Nat := [3, 4, 6, 6, 6].getD f 6
def fmtWidth (f : Nat) : Nat := [8, 10, 12, 14, 16].getD f 16

/-- Component c of a source pixel's bytes (Table 04.1). -/
def fmtComp (f : Nat) (px : List Byte) (c : Nat) : Nat :=
  match f with
  | 0 => numAt px c 1
  | 1 => numAt px 0 4 / 2 ^ (10 * c) % 2 ^ 10
  | 2 => numAt px (2 * c) 2 / 16
  | 3 => numAt px (2 * c) 2 / 4
  | _ => numAt px (2 * c) 2

/-- A scale factor of R86: floor((src × 131,072 + can) / (2 × can)). -/
def scaleK (src can : Nat) : Nat := if can = 0 then 0 else (src * 131072 + can) / (2 * can)

namespace State

/-- Where a source sample lies: `v` is the register file in effect, `a` the latched buffer. -/
def srcAddr (v : RegFile) (n a col row : Nat) : Nat :=
  a + row * v.fld (F.SND_SRC_STRIDE_STRIDE n) + col * fmtBytes (v.fld (F.SND_SRC_CTL_FMT n))

/-- The linear value of a source sample (R81). -/
def srcSample (s : State) (v : RegFile) (n a col row c : Nat) : Int :=
  let f := v.fld (F.SND_SRC_CTL_FMT n)
  let px := s.dramRd (srcAddr v n a col row) (fmtBytes f)
  decode (fmtComp f px c) (fmtWidth f) (v.fld (F.SND_SRC_CTL_ENC n))

/-- A filter tap, Q1.14. -/
def tap (v : RegFile) (b ph k : Nat) : Int :=
  let a := R.SND_FILT b ph (k / 2)
  sgn 16 ((v.get a).toNat / 2 ^ (16 * (k % 2)))

/-- Source position and filter phase of a canvas coordinate in one axis (R86): sample index and phase. -/
def srcPos (x can0 k s0 : Int) : Int × Nat :=
  let sx := s0 * 65536 + ((x - can0 * 256) * k + 128) / 256
  let q := (sx - 32768 + 512) / 1024
  (q / 64, (q % 64).toNat)

/-- The taps of a layer at a canvas position (R86, R87): filter phases, and the columns and rows they read. -/
def srcTaps (v : RegFile) (slot l : Nat) (x y : Int) : Nat × Nat × (Nat → Nat) × (Nat → Nat) :=
  let fx := fun (f : Fld) => (v.fld f : Int)
  let sx0 := fx (F.SND_LYR_SRCPOS_SX0 slot l)
  let sy0 := fx (F.SND_LYR_SRCPOS_SY0 slot l)
  let kx := scaleK (v.fld (F.SND_LYR_SRCSIZE_SWM1 slot l) + 1) (v.fld (F.SND_LYR_CANSIZE_CWM1 slot l) + 1)
  let ky := scaleK (v.fld (F.SND_LYR_SRCSIZE_SHM1 slot l) + 1) (v.fld (F.SND_LYR_CANSIZE_CHM1 slot l) + 1)
  let (nx, ph) := srcPos x (fx (F.SND_LYR_CANPOS_CX0 slot l)) kx sx0
  let (ny, phy) := srcPos y (fx (F.SND_LYR_CANPOS_CY0 slot l)) ky sy0
  (ph, phy, fun i => (sat (nx - 3 + i) sx0 (sx0 + fx (F.SND_LYR_SRCSIZE_SWM1 slot l))).toNat,
    fun i => (sat (ny - 3 + i) sy0 (sy0 + fx (F.SND_LYR_SRCSIZE_SHM1 slot l))).toNat)

/-- Resample one component of a layer at a canvas position (R86 to R88). -/
def resample (s : State) (v : RegFile) (slot l n a : Nat) (x y : Int) (c : Nat) : Nat :=
  let (ph, phy, col, row) := srcTaps v slot l x y
  let hb := v.fld (F.SND_LYR_CTL_HBANK slot l)
  let vb := v.fld (F.SND_LYR_CTL_VBANK slot l)
  let line := fun (k : Nat) =>
    sat (rsh (dot ((List.range 8).map fun i => (tap v hb ph i, s.srcSample v n a (col i) (row k) c))) 14) (-8388608) 8388607
  (sat (rsh (dot ((List.range 8).map fun k => (tap v vb phy k, line k))) 14) 0 4194304).toNat

/-- The layer a canvas pixel comes from: the highest enabled one that covers it and names a source that has a latched buffer, or
none for the slot background (R80, R85). -/
def layerAt (v : RegFile) (slot : Nat) (xi yi : Int) : Option Nat :=
  (List.range 16).reverse.find? fun l =>
    let cx : Int := v.fld (F.SND_LYR_CANPOS_CX0 slot l)
    let cy : Int := v.fld (F.SND_LYR_CANPOS_CY0 slot l)
    v.fld (F.SND_LYR_CTL_EN slot l) == 1 &&
      decide (cx ≤ xi ∧ xi ≤ cx + v.fld (F.SND_LYR_CANSIZE_CWM1 slot l) ∧ cy ≤ yi ∧ yi ≤ cy + v.fld (F.SND_LYR_CANSIZE_CHM1 slot l))

/-- Where the annotation plane's byte of a canvas pixel lies, where the slot takes one (R91). -/
def annAddr (v : RegFile) (slot : Nat) (xi yi : Int) : Option Nat :=
  let inside := decide (0 ≤ xi ∧ xi ≤ v.fld F.SND_CANVAS_SIZE_WM1 ∧ 0 ≤ yi ∧ yi ≤ v.fld F.SND_CANVAS_SIZE_HM1)
  if !(v.fld F.SND_ANN_SLOTS_SLOTS).testBit slot || !inside then none
  else some (v.fld F.SND_ANN_BASE_LO_BASE + 2 ^ 32 * v.fld F.SND_ANN_BASE_HI_BASE + yi.toNat * v.fld F.SND_ANN_STRIDE_STRIDE + xi.toNat)

/-- Blend the annotation plane over a canvas code (R91, R92); `bad` marks a plane byte that failed its ECC check. -/
def annotate (s : State) (v : RegFile) (slot : Nat) (xi yi : Int) (px : Nat) (bad : Bool) : Nat :=
  match if bad then none else annAddr v slot xi yi with
  | none => px
  | some b =>
    let i := leVal (s.dramRd b 1)
    let col := v.fld (F.SND_PAL_LO_COLOUR i) + 2 ^ 32 * v.fld (F.SND_PAL_HI_COLOUR i)
    let a := v.fld (F.SND_PAL_HI_A i)
    if a = 0 then px
    else if a = 255 then col
    else
      let m := fun (c : Nat) => (lerp (p42c px c) (p42c col c) (a * 16 + a / 16)).toNat
      p42 (m 0) (m 1) (m 2)

/-- The P42 pixel of a tile (R82 to R92). -/
def senderPixel (s : State) (v : RegFile) (cache : PlcCache) (t slot u w : Nat) (annBad : Bool) : Nat :=
  let (x, y) := Plc.position cache t u w
  let xi := x / 256
  let yi := y / 256
  let bg := v.fld (F.SND_SLOT_BG_LO_BG slot) + 2 ^ 32 * v.fld (F.SND_SLOT_BG_HI_BG slot)
  let px :=
    match layerAt v slot xi yi with
    | none => bg
    | some l =>
      let n := v.fld (F.SND_LYR_CTL_SRC slot l)
      match s.snd.cur.getD n none with
      | none => bg
      | some a =>
        let enc := v.fld F.SND_CANVAS_ENC
        let code := fun (c : Nat) => (encode14 enc (s.resample v slot l n a x y c)).toNat
        p42 (code 0) (code 1) (code 2)
  s.annotate v slot xi yi px annBad

/-- The placement cache in effect at slot k of frame n: that of the last commit due by then (R83). -/
def cacheAt (s : State) (n k : Nat) : PlcCache :=
  match (s.cmt.pend.filter fun c => s.dueBy c n k).getLast? with
  | some c => c.cache
  | none => s.snd.cache

/-- The source samples a tile pixel reads: their first bytes, with the bytes of each. -/
def pixelReads (s : State) (v : RegFile) (slot : Nat) (x y : Int) : List (Nat × Nat) :=
  match layerAt v slot (x / 256) (y / 256) with
  | none => []
  | some l =>
    let n := v.fld (F.SND_LYR_CTL_SRC slot l)
    match s.snd.cur.getD n none with
    | none => []
    | some a =>
      let (_, _, col, row) := srcTaps v slot l x y
      (List.range 8).flatMap fun k => (List.range 8).map fun i => (srcAddr v n a (col i) (row k), fmtBytes (v.fld (F.SND_SRC_CTL_FMT n)))

/-- What a run reads beyond the populated space, where every word is uncorrectable (R289): the 64-byte words of its sources, and the
pixels whose plane byte lies there with the addresses. [DEDUCED, log entry 191] -/
def farReads (s : State) (r : Run) : List Nat × List (Nat × Nat) :=
  let v := s.viewAt r.n r.slot
  let cache := s.cacheAt r.n r.slot
  let w := max 1 (Plc.w (Plc.entry cache r.entry))
  let pos := (List.range r.count).map fun i => (i, Plc.position cache r.entry ((r.first + i) % w) ((r.first + i) / w))
  let words := pos.flatMap fun p => (s.pixelReads v r.slot p.2.1 p.2.2).flatMap fun a =>
    if s.dramIn a.1 a.2 then [] else [a.1 / 64, (a.1 + a.2 - 1) / 64].filter fun g => decide (s.dramSize ≤ 64 * g + 63)
  let plane := pos.filterMap fun p =>
    (annAddr v r.slot (p.2.1 / 256) (p.2.2 / 256)).bind fun a => if s.dramIn a 1 then none else some (p.1, a)
  (words.eraseDups, plane)

/-- The pixels of a run (R104's counterpart of the Sender): `annBad` lists the run's pixels whose plane byte failed. [DESIGN CHOICE, log entry 39] -/
def senderRun (s : State) (r : Run) (annBad : List Nat) : List Nat :=
  let v := s.viewAt r.n r.slot
  let cache := s.cacheAt r.n r.slot
  let w := max 1 (Plc.w (Plc.entry cache r.entry))
  let bad := annBad ++ (s.farReads r).2.map (·.1)
  (List.range r.count).map fun i =>
    let p := r.first + i
    s.senderPixel v cache r.entry r.slot (p % w) (p / w) (bad.contains i)

/-! ### Segments -/

def setSegs (s : State) (g : List Seg → List Seg) : State := { s with snd := { s.snd with segs := g s.snd.segs } }

/-- Change the segments that satisfy a condition. -/
def mapSegs (s : State) (p : Seg → Bool) (g : Seg → Seg) : State := s.setSegs fun l => l.map fun x => if p x then g x else x

/-- The segment a run belongs to. -/
def segOf (r : Run) (x : Seg) : Bool := x.n == r.n && x.slot == r.slot && x.entry == r.entry

/-- REGION_DERATE of each region (R96): the largest derate, that is the least factor, in the last replies of its tiles. -/
def regionDerate (s : State) (cache : PlcCache) (region : Nat) : Nat :=
  ((Plc.enabled cache).filter fun x => Plc.region x.2 == region).foldl
    (fun m x => min m ((tabAt s.cmc.tiles (Plc.chain x.2 * 96 + Plc.addr x.2 - 1) {}).drl)) 16384

/-- Apply the derates of a frame to the regions; a change raises event 121. [DESIGN CHOICE, log entry 206] -/
def applyDerates (s : State) (v : RegFile) (cache : PlcCache) : State :=
  let new := (List.range 256).map fun r => if v.fld F.SND_CTL_WCD = 1 then s.regionDerate cache r else 16384
  let changed := new != s.snd.wcd
  ({ s with snd := { s.snd with wcd := new } }).raiseIf changed 121

/-- The order of R95: segments in turn over the ports, each port's in ascending ADDR. -/
def dealOrder (cache : PlcCache) (ports : List Nat) : List (Nat × List Byte) :=
  let perPort := ports.map fun p =>
    ((List.range 96).flatMap fun a => (Plc.enabled cache).filter fun x => Plc.chain x.2 == p && Plc.addr x.2 == a + 1)
  let depth := perPort.foldl (fun m l => max m l.length) 0
  (List.range depth).flatMap fun i => perPort.filterMap fun l => l[i]?

/-- Deal the work of frame n: its segments and their runs, slot by slot (R94, R95), after the reloads of local SRAM that are due (R63). -/
def dealFrame (s : State) (n : Nat) : State :=
  let v := s.viewAt n 0
  let s := s.sramReloads.applyDerates v (s.cacheAt n 0)
  let cur := (List.range 8).map fun i =>
    if v.fld (F.SND_SRC_CTL_EN i) = 1 ∧ (s.src i).latchedV = true then some (s.src i).curAddr else none
  let s := { s with snd := { s.snd with cur := cur } }
  let slots := List.range (s.rateAt n).slots
  let segs := slots.flatMap fun k => (dealOrder (s.cacheAt n k) s.portsOn).map fun x =>
    let e := x.2
    let px := Plc.w e * Plc.h e
    ({ n := n, slot := k, entry := x.1, port := Plc.chain e, addr := Plc.addr e, pixels := px,
       derate := s.snd.wcd.getD (Plc.region e) 16384, runs := cdiv px 1024 } : Seg)
  let s := s.setSegs fun l => (l.filter fun x => decide (n ≤ x.n + 1)) ++ segs
  let work := segs.flatMap fun x => runsOf n x.slot x.entry x.pixels
  (s.setFab fun f => { f with work := f.work ++ work }).dealRuns

/-! ### Output FIFOs -/

/-- Bytes of a segment that stand in its FIFO: its leading finished runs. -/
def segReady (x : Seg) : Nat :=
  let k := ((List.range x.runs).takeWhile fun i => x.outs.any fun o => o.1 == i).length
  if k = x.runs then segBytes x.pixels else 1024 * k * 42 / 8

/-- Do the bytes of video frame k of a segment stand in its FIFO? -/
def segHas (x : Seg) (k : Nat) : Bool :=
  decide (k < segFrames x.pixels) && (segReady x == segBytes x.pixels || decide (2000 * (k + 1) ≤ segReady x))

/-- Is a block a video frame, and one of a segment? -/
def isVideo (b : List Byte) : Bool := numAt b 0 1 == 0x10
def ofSeg (x : Seg) (b : List Byte) : Bool :=
  let w := parseFrame b
  isVideo b && w.vFrame == x.n % 2 ^ 24 && w.vSlot == x.slot && w.dst == x.addr

/-- The pixels of a segment's finished runs, in order. -/
def segPixels (x : Seg) : List Nat := (List.range x.runs).flatMap fun i => (x.outs.lookup i).getD []

/-- A segment is done with: discarded, or wholly sent. -/
def segDone (x : Seg) : Bool := x.dropped || decide (segFrames x.pixels ≤ x.left)

/-- The segment in hand on a port: the first that is not done with. -/

def headSeg (s : State) (p : Nat) : Option Seg := s.snd.segs.find? fun x => x.port == p && !segDone x

/-- The video frame k of a segment (R96, R201, Table 09.4). -/
def videoFrame (s : State) (x : Seg) (k : Nat) : WFrame :=
  let body := packP42 (segPixels x)
  let last := k + 1 == segFrames x.pixels
  let ts := leBytes 3 (x.n % 2 ^ 24) ++ [BitVec.ofNat 8 (x.slot + (if x.suspect then 8 else 0) + (if last then 16 else 0))] ++
    leBytes 3 (x.pixels - 1) ++ [BitVec.ofNat 8 x.port] ++ leBytes 2 x.derate
  s.mkFrame 0x10 k x.addr ts (padTo (videoLen x.pixels k) (slice body (2000 * k) 2000))

/-- FIFO fill of a port in units of 64 bytes. -/
def noteLevel (s : State) (p : Nat) : State :=
  let b := (s.snd.segs.filter fun x => x.port == p && !segDone x).map fun x => segReady x - 2000 * x.left
  s.setF (F.SND_OFIFO_STAT_LEVEL p) (cdiv b.sum 64)

/-- The prefetch threshold of a port in bytes (R98). -/
def prefetch (s : State) (p : Nat) : Nat :=
  min (4096 * 2 ^ s.f (F.SND_OFIFO_CTL_STEP p)) (s.f (F.SND_OFIFO_SIZE_SIZE p) * 1024 / 2)

/-- Does this sender send video now: not in hold of pair Resync or Off (R334)? -/
def sendsVideo (s : State) : Bool :=
  !s.present .PAR || [1, 2, 3].contains (s.f F.PAR_STATUS_PSTATE) ||
    (s.f F.PAR_STATUS_PSTATE == 4 && s.par.joinAt.any fun j => decide (j ≤ s.frameNow))

/-- Does a port carry video: not at the provisioning rate (R191)? -/
def carriesVideo (s : State) (p : Nat) : Bool := s.sendsVideo && !(s.port p).prov

/-- SEGMENT_START (R98): the chain MAC begins the next segment of a port once its FIFO holds enough of it. -/
def segmentStart (s : State) (p : Nat) : State :=
  if !s.isSender || !s.portOn p || !s.carriesVideo p then s
  else match s.headSeg p with
    | none => s
    | some x =>
      if x.begun || x.abandoned then s
      else if segReady x = segBytes x.pixels ∨ s.prefetch p ≤ segReady x then
        (s.mapSegs (fun y => y == x) fun y => { y with begun := true }).noteLevel p
      else s

/-- The video frame in progress of a begun segment is ended poisoned, and the rest is discarded (R97, R99).  Where none is in progress
the one that comes next ends so, with what stands in the FIFO. -/
def poison (s : State) (x : Seg) : State :=
  let cur := (s.port x.port).cur
  let s := if ofSeg x cur then
      s.lanP x.port fun l => { l with cur := cur.take 2020 ++ leBytes 4 (~~~ crc32 (cur.take 2020)).toNat }
    else s.sendBlock x.port (s.videoFrame x x.sent).poisoned
  s.mapSegs (fun y => y == x) fun y => { y with dropped := true }

/-- FIFO_UNDERRUN (R99): the FIFO of a port runs empty while a segment of it is being sent. -/
def fifoUnderrun (s : State) (p : Nat) : State :=
  if !s.isSender || !s.portOn p then s
  else match s.headSeg p with
    | none => s
    | some x =>
      if !x.begun || segReady x = segBytes x.pixels then s
      else
        let s := (((s.poison x).bump (F.SND_OFIFO_UNDER_COUNT p)).raise 114).noteLevel p
        let k := s.f (F.SND_OFIFO_CTL_STEP p)
        if k < 7 then s.setF (F.SND_OFIFO_CTL_STEP p) (k + 1) else s.raise 115

/-- TRANSMIT_DEADLINE (R97): the transmit deadline of slot `k` of the frame in transmission arrives on every port. -/
def transmitDeadline (s : State) (k : Nat) : State :=
  if !s.isSender || !s.framed then s
  else
    let n := s.frameNow + 1
    let (tail, _, _) := s.pipeAt n
    let s := s.waitTo ((s.rateAt n).transmit tail n k)
    let open' := s.snd.segs.filter fun x => x.n == n && x.slot == k && !segDone x
    open'.foldl (fun s x =>
      if !s.carriesVideo x.port then s.mapSegs (fun y => y == x) fun y => { y with dropped := true }
      else if x.begun then (s.poison x).noteLevel x.port
      else
        let s := (s.mapSegs (fun y => y == x) fun y => { y with dropped := true }).bump F.SND_SEG_DROP_COUNT
        ((((s.setF F.SND_LAST_DROP_PORT x.port).setF F.SND_LAST_DROP_ADDR x.addr).setF F.SND_LAST_DROP_SLOT x.slot).raise 116).noteLevel
          x.port) s

/-- A segment holds an abandoned run: it is not begun, or its frame is poisoned (R62, R97). -/
def abandonSeg (s : State) (x : Seg) : State :=
  let s := if x.begun then s.poison x else s.mapSegs (fun y => y == x) fun y => { y with dropped := true, abandoned := true }
  ((s.bump F.SND_SEG_ABANDON_COUNT).raise 117).noteLevel x.port

end State

end Sys2Proof.Machine
end

