-- ==== Sys2Proof/Machine/LaneTx.lean ====
section
/-! DEFINITION. What a port sends (R195, R97, R173): the next port block, and its lane blocks. -/

namespace Sys2Proof.Machine

namespace State

/-- Take the first waiting block that satisfies a condition, else a free block. -/
def takeBlock (s : State) (p : Nat) (ok : List Byte → Bool) : List Byte × State :=
  match (s.port p).txq.findIdx? ok with
  | none => (freeBlock, s)
  | some i =>
    let s' := s.lanP p fun l => { l with txq := l.txq.eraseIdx i }
    ((s.port p).txq.getD i freeBlock,
      if s.isSender && decide (p < 8) then s'.bumpWide (R.CMC_P_TXF p) (R.CMC_P_TXF_H p) 1 else s')

/-- A queued frame as it leaves: a sender's own carry the SFLAGS of that moment (R196, R212); a relayed one keeps its sender's, and one
that was ended poisoned stays so. -/
def restamp (s : State) (b : List Byte) : List Byte :=
  let old := numAt b 1 1
  if !s.isSender || numAt b 0 1 == 0 || old.testBit 3 || old == s.sflags then b
  else
    let head := b.take 1 ++ [BitVec.ofNat 8 s.sflags] ++ slice b 2 16
    let body := head ++ leBytes 2 (crc16 head).toNat ++ slice b 20 2000
    let good := numAt b 2020 4 == (crc32 (b.take 2020)).toNat
    body ++ leBytes 4 (if good then crc32 body else ~~~ crc32 body).toNat

/-- The video frame that a port sends next: one that was ended poisoned, else that of the segment being sent whose bytes stand in the
FIFO (R97, R98). -/
def nextVideo (s : State) (p : Nat) : Option (List Byte × State) :=
  if (s.port p).txq.any isVideo then some (s.takeBlock p isVideo)
  else match s.headSeg p with
    | none => none
    | some x =>
      if x.begun && s.carriesVideo p && segHas x x.sent then
        some ((s.videoFrame x x.sent).bytes,
          (s.mapSegs (fun y => y == x) fun y => { y with sent := y.sent + 1 }).bumpWide (R.CMC_P_TXF p) (R.CMC_P_TXF_H p) 1)
      else none

/-- A member in Resync sends IDLE frames on its chain ports where it has nothing else to send (R334, R340). -/
def idleBlock (s : State) (p : Nat) (b : List Byte) : List Byte × State :=
  if s.present .PAR && s.f F.PAR_STATUS_PSTATE == 4 && !s.sendsVideo && b.all (· == 0) then
    ((s.mkFrame 0x0F 0 127 [] []).bytes, s.bumpWide (R.CMC_P_TXF p) (R.CMC_P_TXF_H p) 1)
  else (b, s)

/-- The port block to send next: by the groups of R195 on a sender's chain port, an answer on a tile, else a free block. -/
def nextBlock (s : State) (p : Nat) : List Byte × State :=
  if (s.port p).loopIn ≠ 0 then (freeBlock, s)
  else if s.isSender && decide (p < 8) then
    let i := (s.port p).group
    let other := fun (_ : Unit) => let (b, t) := s.takeBlock p fun b => !isVideo b; t.idleBlock p (t.restamp b)
    if i = 0 then (freeBlock, s)
    else if i = 46 then other ()
    else match s.nextVideo p with
      | some (b, t) => (s.restamp b, t)
      | none => other ()
  else match s.takeSub p with
    | some r => r
    | none => let (b, t) := s.takeBlock p fun _ => true; (s.restamp b, t)

/-- LANE_BLOCK_TX: the next lane block of lane l of port p is sent: onto its pins, or in loops 1 and 2 to its own receiver; in loop 3
the port sends back what it receives (R188).  The result is the port block of which this was the last. -/
def laneTx (s : State) (p l : Nat) : Option (List Byte) × State :=
  let (lanes, parts) := Lane.shape p (s.port p).single
  let loop := (s.port p).loopIn
  if !s.laneOn p || lanes ≤ l || loop == 3 || ((s.port p).idle && loop == 0) then (none, s)
  else if s.repeating p && (s.port p).cur.isEmpty then (none, s)
  else
    let s := if (s.port p).cur.isEmpty then
        let (b, s) := s.nextBlock p
        let (b, s) := s.departs p b
        (s.lanP p fun x => { x with cur := b, sent := [] }).emit (.block p b)
      else s
    let x := s.port p
    match (List.range parts).find? fun t => !x.sent.contains (l, t) with
    | none => (none, s)
    | some t =>
      let tp := s.on (F.LAN_P_CTL_TPAT p)
      let (pay, st) := if tp then testBits 4048 (x.tpTx.getD l 1) else (Lane.bitsOfBytes (Lane.partOf lanes l t x.cur), x.tpTx.getD l 1)
      let (bits, s) := s.codeLane p l l (x.bseq + t) pay false
      let s := if loop = 0 then s.emit (.laneBits p l bits) else (s.laneRx p l bits 0 false).2
      let sent := (l, t) :: x.sent
      let done := decide (sent.length = lanes * parts)
      let s := s.lanP p fun y => { y with
        sent := if done then [] else sent, cur := if done then [] else y.cur, tpTx := setAt y.tpTx l fun _ => st,
        bseq := if done then (y.bseq + parts) % 8 else y.bseq, group := if done then (y.group + 1) % 92 else y.group }
      if done then (some x.cur, s.noteTx p) else (none, s)

/-- A port block has left whole: with its last video frame a segment is sent (R97). -/
def blockLeft (s : State) (p : Nat) (b : List Byte) : State :=
  match s.snd.segs.find? fun x => x.port == p && !segDone x && ofSeg x b with
  | none => s
  | some x =>
    let s := s.mapSegs (fun y => y == x) fun y => { y with left := y.left + 1 }
    let s := if x.left + 1 < segFrames x.pixels then s
      else
        let s := s.bumpWide R.SND_SEG_SENT R.SND_SEG_SENT_H 1
        if x.suspect then (s.bump F.SND_SEG_SUSPECT_COUNT).raise 118 else s
    s.noteLevel p

/-- LANE_BLOCK_TX: a lane block is sent. -/
def laneBlockTx (s : State) (p l : Nat) : State :=
  match s.laneTx p l with
  | (some b, s) => s.blockLeft p b
  | (none, s) => s

end State

end Sys2Proof.Machine
end

