-- ==== Sys2Proof/Machine/Correction.lean ====
section
/-! DEFINITION. Per-lamp correction (chapter 5): the pixel path, Gwynkin tables, the dose model, compensation sweeps, checkpoints
and restore. -/

namespace Sys2Proof.Machine

/-! ### Lamp records (Table 05.3) -/

namespace LampRec

def gain (r : Nat) : Int := sgn 16 r
def curve (r : Nat) : Nat := r / 2 ^ 16 % 64
def dclass (r : Nat) : Nat := r / 2 ^ 22 % 16
def dead (r : Nat) : Bool := r.testBit 26
def msel (r : Nat) : Nat := r / 2 ^ 28 % 64
def dsens (r : Nat) : Int := sgn 16 (r / 2 ^ 36)

/-- The default record of R112 step 3. -/
def default (gain : Nat) : List Byte := leBytes 8 (gain + 16384 * 2 ^ 36)

end LampRec

namespace State

def setCor (s : State) (g : CorSt → CorSt) : State := { s with cor := g s.cor }

/-- The COR and DRV descriptors of the running image. -/
def corD (s : State) : List Byte := Img.cor s.runImg
def drvD (s : State) : List Byte := Img.drv s.runImg

/-- Pixels and lamps of the tile. -/
def tilePixels (s : State) : Nat := Img.corW s.corD * Img.corH s.corD
def lamps (s : State) : Nat := 3 * s.tilePixels

/-! ### Shared tables, from their copy in region 0x14 (R109) -/

def curveT (s : State) (c k : Nat) : Int := leVal (s.lineRd 0x14 (4 * (1089 * c + k)) 4) % 2 ^ 23
def matrixT (s : State) (bank m i : Nat) : Int := sgn 16 (leVal (s.lineRd 0x14 (278784 + 1152 * bank + 18 * m + 2 * i) 2))
def decayOff (s : State) : Nat := 278784 + 1152 * Img.corBanks s.corD
def decayT (s : State) (cls k : Nat) : Int := sgn 16 (leVal (s.lineRd 0x14 (s.decayOff + 2 * (513 * cls + k)) 2))

def tempT (s : State) (k : Nat) : Int := sgn 16 (leVal (s.lineRd 0x14 (s.decayOff + 16416 + 2 * k) 2))

/-- The record of a lamp, in region 0x11. -/
def lampRec (s : State) (l : Nat) : Nat := leVal (s.lineRd 0x11 (8 * l) 8)

/-- The function curve of R105. -/
def curve (s : State) (c v : Nat) : Int :=
  let (k, f) := curveIdx v
  if k = 1088 then s.curveT c 1088 else lerp (s.curveT c k) (s.curveT c (k + 1)) f

/-! ### The pixel path (R104) -/

def doseBase (s : State) : Nat := s.f F.COR_DOSE_BASE_LO_BASE + 2 ^ 32 * s.f F.COR_DOSE_BASE_HI_BASE
def cplBase (s : State) : Nat := s.f F.COR_CPL_BASE_LO_BASE + 2 ^ 32 * s.f F.COR_CPL_BASE_HI_BASE
def ckptDesc (j : Nat) : Nat := 0x900000 + 16 * j
def ckptSlot (j : Nat) : Nat := 0x910000 + 0x10000 * j

/-- INDEX, SEQ and validity of physical slot j. -/
def ckptOf (s : State) (j : Nat) : Option (Nat × Nat) :=
  let d := s.mramRd (ckptDesc j) 16
  let i := numAt d 0 2
  if (i < 96 ∨ i = 0xFFFF) ∧ numAt d 8 4 = (crc32 (s.mramRd (ckptSlot j) 65536)).toNat then some (i, numAt d 4 4)
  else none

/-- The physical slot with the newest valid copy of a chunk. -/
def ckptBest (s : State) (i : Nat) : Option (Nat × Nat) :=
  (List.range 98).foldl (fun m j => match s.ckptOf j with
    | some (k, q) => if k = i ∧ m.all (fun x => decide (x.2 < q)) then some (j, q) else m
    | none => m) none

/-- The dose of a lamp's last checkpointed code. -/
def ckptDose (s : State) (l : Nat) : Nat := match s.ckptBest (l / 32768) with
  | some (j, _) => d64 (leVal (s.mramRd (ckptSlot j + 2 * (l % 32768)) 2))
  | none => 0

/-- A lamp's dose word and compensation entry.  One beyond the populated space reads as an uncorrectable error makes it (R289, R119). -/
def doseOf (s : State) (l : Nat) : Nat :=
  if s.dramIn (s.doseBase + 8 * l) 8 then leVal (Mem.read s.dram (s.doseBase + 8 * l) 8) else s.ckptDose l
def cplOf (s : State) (l : Nat) : Nat :=
  if s.dramIn (s.cplBase + 2 * l) 2 then leVal (Mem.read s.dram (s.cplBase + 2 * l) 2) % 2 ^ 15 else 16384

/-- The report of reads of words of `size` bytes of a plane: those beyond the populated space (R289, R119). -/
def planeNote (s : State) (base size : Nat) (ls : List Nat) : State :=
  if s.dramIn base (size * s.lamps) then s
  else
    (ls.foldl (fun s l => s.dramReadNote (base + size * l) size) s).raiseIf (ls.any fun l => !s.dramIn (base + size * l) size) 157

/-- The reports of reads of the doses, and of the compensation entries, of some lamps. -/
def doseNote (s : State) (ls : List Nat) : State := s.planeNote s.doseBase 8 ls
def cplNote (s : State) (ls : List Nat) : State := s.planeNote s.cplBase 2 ls

/-- The PWM codes of the three lamps of tile pixel p in a pass. -/
def pixelCodes (s : State) (v : RegFile) (x : Pass) (p : Nat) : List Nat :=
  let w := max 1 (Img.corW s.corD)
  let pwm := v.fld F.COR_PWM_WIDTH
  let l := (List.range 3).map fun c => decode (p42c (x.seg.getD p 0) c) 14 (v.fld F.COR_CTL_ENC)
  let bank := v.fld (F.COR_SLOT_CTL_MBANK x.slot)
  let m := LampRec.msel (s.lampRec (3 * p))
  let brf := rsh ((v.fld (F.COR_SLOT_CTL_BRIGHT x.slot) : Int) * x.ramp) 14
  (List.range 3).map fun c =>
    let rec' := s.lampRec (3 * p + c)
    let lm := sat (rsh (dot ((List.range 3).map fun j => (s.matrixT bank m (3 * c + j), l.getD j 0))) 14) 0 4194304
    let d1 := sat (rsh (LampRec.gain rec' * s.curve (LampRec.curve rec') lm.toNat) 14) 0 4194304
    let d2 := sat (rsh (s.cplOf (3 * p + c) * d1) 14) 0 4194304
    let d3 := rsh ((min x.drl x.drr : Nat) * d2) 14
    let d4 := if LampRec.dead rec' then 0 else sat (rsh (brf * d3) 14) 0 4194304
    dither d4.toNat (p % w) (p / w) c pwm (v.fld F.COR_PWM_DMODE) (x.n % 2 ^ 24 * (s.rateAt x.n).slots + x.slot)

/-- The codes of a finished run. [DESIGN CHOICE, log entry 39] -/
def tileRun (s : State) (r : Run) : List Nat :=
  match s.cor.passes.find? fun x => x.n == r.n && x.slot == r.slot with
  | none => []
  | some x =>
    let v := s.viewAt r.n r.slot
    (List.range r.count).flatMap fun i => s.pixelCodes v x (r.first + i)

/-- Change the pass a run belongs to. -/
def mapPass (s : State) (n k : Nat) (g : Pass → Pass) : State :=
  s.setCor fun c => { c with passes := c.passes.map fun x => if x.n = n ∧ x.slot = k then g x else x }

/-- The codes of a pass that finished whole and unsuspected, else none. -/
def passCodes (x : Pass) : Option (List Nat) :=
  if x.suspect || !((List.range x.runs).all fun i => x.outs.any fun o => o.1 == i) then none
  else some ((List.range x.runs).flatMap fun i => (x.outs.lookup i).getD [])

/-- CORRECTION_PASS_START (R103): the pass of slot k of frame n latches its factors, and its runs are dealt. -/
def passStart (s : State) (n k ramp : Nat) : State :=
  let px := s.tilePixels
  let seg := s.cor.segs.getD k []
  let drl := s.f F.DRV_DERATE_STAT_DRL
  let drr := s.cor.drrs.getD k 16384
  let s := (if k = 0 then s.sramReloads else s).cplNote (List.range s.lamps)
  let x : Pass := { n := n, slot := k, drl := drl, drr := drr, ramp := ramp, seg := seg, runs := cdiv px 1024 }
  let s := s.setCor fun c => { c with
    passes := (c.passes.filter fun y => decide (n ≤ y.n + 1) && !(y.n == n && y.slot == k)) ++ [x], lastPass := some (n, k) }
  let s := ((s.setF F.COR_DERATE_DRL drl).setF F.COR_DERATE_DRR drr).setF F.COR_RAMP_RAMP ramp
  (s.setFab fun f => { f with work := f.work ++ runsOf n k 0 px }).dealRuns

/-! ### Dose (R114 to R116) -/

/-- KQ(s) of R116. [DEDUCED, log entry 80] -/
def kq (s : State) (sh : Nat) : Nat :=
  let w := s.f F.COR_PWM_WIDTH
  let num := s.f F.COR_DOSE_CTL_IREF * (s.f F.COR_DOSE_CTL_DECIMM1 + 1) * 2 ^ (sh + 12) * s.f F.DSP_DEN_DEN
  let den := (2 ^ w - 1) * 3600 * s.f F.DSP_STATUS_SACT * s.f F.DSP_NUM_NUM
  if den = 0 then 0 else (2 * num + den) / (2 * den)

/-- KQ and SHIFT are recomputed (R116). [DEDUCED, log entry 80] -/
def doseConstants (s : State) : State :=
  if !s.isTile then s
  else
    let sh := ((List.range 48).filter fun i => decide (s.kq i ≤ 16777215)).foldl max 0
    (s.setF F.COR_DOSE_K_KQ (s.kq sh)).setF F.COR_DOSE_K_SHIFT sh

/-- Is board sensor b Valid? -/
def boardValid (s : State) (b : Nat) : Bool := s.f (F.THM_B_STATE b) == 1

/-- The highest Valid reading among board sensors of a mask. -/
def boardHot (s : State) (mask : Nat) : Option Int :=
  ((List.range 16).filter fun b => mask.testBit b && s.boardValid b).foldl
    (fun m b => some (max (s.fS (F.THM_B_T16 b)) (m.getD (s.fS (F.THM_B_T16 b))))) none

/-- The temperature of a drive bus and whether it is a substitute (R115). -/
def busTemp (s : State) (bus : Nat) : Int × Bool :=
  let b := s.f (F.COR_TSEL_SENSOR (bus / 8)) / 2 ^ (4 * (bus % 8)) % 16
  if s.boardValid b then (s.fS (F.THM_B_T16 b), false)
  else ((s.boardHot 0xFFFF).getD (s.f F.COR_DOSE_TDEF_TDEF), true)

/-- The temperature weight of a drive bus (R115). -/
def tempWeight (s : State) (bus : Nat) : Nat :=
  let tq := (sat (s.busTemp bus).1 0 2047).toNat
  (lerp (s.tempT (tq / 64)) (s.tempT (tq / 64 + 1)) (tq % 64 * 64)).toNat

/-- The dose after one sub-frame at a code under a weight, and whether it saturated (R114). -/
def doseAdd (s : State) (dose code weight : Nat) : Nat × Bool :=
  let a := code * weight
  let sh := s.f F.COR_DOSE_K_SHIFT
  let kq := s.f F.COR_DOSE_K_KQ
  let inc := if sh = 0 then a * kq else (a * kq + 2 ^ (sh - 1)) / 2 ^ sh
  (min (dose + inc) (2 ^ 64 - 1), decide (2 ^ 64 - 1 < dose + inc))

/-- Every lit channel: bus, position, channel, row and lamp (R139). -/
def lampMap (s : State) : List (Nat × Nat × Nat × Nat × Nat) :=
  let d := s.drvD
  let w := Img.corW s.corD
  (List.range (s.f F.SYS_UNITEN_BUSES)).flatMap fun b => (List.range (Img.drvDrivers d b)).flatMap fun k =>
    (List.range 48).flatMap fun ch =>
      let e := Img.drvChan d b k ch
      if Img.chUsed e then (List.range (Img.drvRows d)).map fun r =>
        let p := Img.chPixel d e r
        (b, k, ch, r, 3 * (p.2.toNat * w + p.1.toNat) + Img.chComp e)
      else []

/-- Is frame n a dose frame? -/
def doseFrame (s : State) (n : Nat) : Bool :=
  s.on F.COR_CTL_DOSE_EN && n % 2 ^ 24 % (s.f F.COR_DOSE_CTL_DECIMM1 + 1) == 0

/-- The first saturation of a dose raises event 158. -/
def doseSat (s : State) (b : Bool) : State :=
  if b && !s.cor.satTold then (s.setCor fun c => { c with satTold := true }).raise 158 else s

/-- Dose of every lamp for the sub-frame of frame n shown with `codes` (R107, R114, R115). -/
def doseSubframe (s : State) (n : Nat) (codes : List Nat) : State :=
  if !s.doseFrame n then s
  else
    let m := s.lampMap
    let buses := (m.map (·.1)).eraseDups
    let ws := buses.map fun b => (b, s.tempWeight b)
    let sub := buses.any fun b => (s.busTemp b).2
    let s := if sub && s.cor.subN != some n then (s.setCor fun c => { c with subN := some n }).raise 153 else s
    m.foldl (fun s e =>
      let l := e.2.2.2.2
      if LampRec.dead (s.lampRec l) then s
      else
        let (d, sat) := s.doseAdd (s.doseOf l) (codes.getD l 0) ((ws.lookup e.1).getD 0)
        ((s.doseNote [l]).dramWr (s.doseBase + 8 * l) (leBytes 8 d)).doseSat sat) s

/-- Mean code of each component over the lamps that are not DEAD (COR_AVGc). [DESIGN CHOICE, log entry 45] -/
def noteMeans (s : State) (codes : List Nat) : State :=
  (List.range 3).foldl (fun s c =>
    let ls := ((List.range s.tilePixels).map fun p => 3 * p + c).filter fun l => !LampRec.dead (s.lampRec l)
    let sum := (ls.map fun l => codes.getD l 0).sum
    s.setF (F.COR_AVG_MEAN c) (if ls.isEmpty then 0 else sum * 256 / ls.length)) s

/-! ### Compensation (R117) -/

/-- CT of R117 for a dose code and a decay class. -/
def ctOf (s : State) (q cls : Nat) : Int :=
  let e := q / 1024
  let m := q % 1024
  if e < 32 then lerp (s.decayT cls 0) (s.decayT cls 1) 0
  else lerp (s.decayT cls ((e - 32) * 16 + m / 64)) (s.decayT cls ((e - 32) * 16 + m / 64 + 1)) (m % 64 * 64)

/-- CPL of R117 before and after its clamp, for a decay factor, a scale and a sensitivity. -/
def cplRaw (ct scale dsens : Int) : Int := 16384 + rsh (dsens * rsh (scale * (ct - 16384)) 14) 14
def cplClamp (s : State) (x : Int) : Nat := (sat x 16384 (s.f F.COR_DOSE_CMAX_CMAX)).toNat

/-- Thermal throttle stage 1 is in force. -/
def st1 (s : State) : Bool := s.f F.THM_STATUS_STAGE != 0

/-- The sweep reaches the lamps up to `upto`: their entries are rewritten, and the first one clamped raises event 152 (R117). -/
def sweepTo (s : State) (upto : Nat) : State :=
  let m := min upto s.lamps
  let ls := (List.range (m - s.cor.sweepDone)).map (s.cor.sweepDone + ·)
  let raw := ls.map fun l =>
    let r := s.lampRec l
    cplRaw (s.ctOf (f16 (s.doseOf l)) (LampRec.dclass r)) (s.cor.sweepScale.getD (l % 3) 16384) (LampRec.dsens r)
  let clamps := raw.any fun x => decide ((s.f F.COR_DOSE_CMAX_CMAX : Int) < x)
  let s := (s.doseNote ls).dramWr (s.cplBase + 2 * s.cor.sweepDone) (raw.flatMap fun x => leBytes 2 (s.cplClamp x))
  let told := s.cor.sweepClamp
  (s.setCor fun c => { c with sweepDone := max c.sweepDone m, sweepClamp := told || clamps }).raiseIf (clamps && !told) 152

/-- SWEEP_START (R117): a sweep begins, with the scales it latches; it has reached no lamp yet. [DESIGN CHOICE, log entry 42] -/
def sweepStart (s : State) : State :=
  if !s.present .COR || !s.on F.COR_STATUS_RUN || s.on F.COR_STATUS_SWEEP || s.st1 then s
  else
    (s.setF F.COR_STATUS_SWEEP 1).setCor fun c => { c with
      sweepAt := s.clk.wall, sweepDone := 0, sweepClamp := false
      sweepScale := (List.range 3).map fun k => s.f (F.COR_SCALE_SCALE k) }

/-- A frame boundary while a sweep is in progress: in the fabric time left it has reached more lamps, how many is a free value; stage
1 suspends it (R117).  [DESIGN CHOICE, log entry 42] -/
def sweepFrame (s : State) : State :=
  if !s.present .COR || !s.on F.COR_STATUS_SWEEP || s.st1 then s
  else
    let (m, s) := s.takeFree 22
    s.sweepTo (s.cor.sweepDone + m)

/-- SWEEP_END (R117): the sweep reaches the last lamp and completes, with event 154 if it overran CPER seconds of wall time. -/
def sweepEnd (s : State) : State :=
  if !s.present .COR || !s.on F.COR_STATUS_SWEEP || s.st1 then s
  else ((s.sweepTo s.lamps).setF F.COR_STATUS_SWEEP 0).raiseIf
    (decide (s.cor.sweepAt + s.f F.COR_DOSE_CTL_CPER * secU < s.clk.wall)) 154

/-! ### Checkpoint and restore (R120 to R122, R156) -/

/-- Chunks of the tile's lamps. -/
def chunks (s : State) : Nat := cdiv s.lamps 32768

/-- Is LUX there, so that a monitor record is kept? -/
def luxOn (s : State) : Bool := s.present .LUX

/-- The chunk numbers of a checkpoint in order: the lamp chunks, then the monitor record. -/
def ckptList (s : State) : List Nat := List.range s.chunks ++ (if s.luxOn then [0xFFFF] else [])

/-- The spare physical slot: the first that holds no chunk's newest valid copy. -/
def ckptSpare (s : State) : Nat :=
  let used := s.ckptList.filterMap fun i => (s.ckptBest i).map (·.1)
  ((List.range 98).find? fun j => !used.contains j).getD 97

/-- The payload of a chunk: f16 codes, or the monitor record: twelve 64-bit doses and COR_SCALE0 to 2. -/
def ckptPayload (s : State) (i : Nat) : List Byte :=
  padTo 65536 (if i = 0xFFFF then (s.lux.dose.flatMap fun d => leBytes 8 d) ++
      ((List.range 3).flatMap fun c => leBytes 2 (s.f (F.COR_SCALE_SCALE c)))
    else (List.range (min 32768 (s.lamps - 32768 * i))).flatMap fun l => leBytes 2 (f16 (s.doseOf (32768 * i + l))))

/-- CHECKPOINT_START (R121): a checkpoint begins with the next sequence number, unless stage 1 defers it.  A number once begun is not
used again. -/
def ckptStart (s : State) : State :=
  if !s.present .COR || s.st1 || s.on F.COR_STATUS_CKPT then s
  else
    let q := (s.cor.ckptTop + 1) % 2 ^ 32
    (s.setF F.COR_STATUS_CKPT 1).setCor fun c => { c with ckptTop := q, ckpt := some (q, secOf s.clk.wall % 2 ^ 32, 0) }

/-- A checkpoint is skipped (R121). -/
def ckptSkip (s : State) : State :=
  if !s.present .COR then s
  else (((s.setF F.COR_STATUS_CKPT 0).setCor fun c => { c with ckpt := none }).bumpSat F.COR_DOSE_STAT_SKIPPED).raise 150

/-- CHECKPOINT_CHUNK_DONE (R121): the next chunk's codes and then its descriptor are written to the spare slot. -/
def ckptChunk (s : State) : State :=
  match s.cor.ckpt with
  | none => s
  | some (seq, sec, i) =>
    match s.ckptList[i]? with
    | none => s
    | some c =>
      let j := s.ckptSpare
      let p := s.ckptPayload c
      let s := if c = 0xFFFF then s else s.doseNote ((List.range (min 32768 (s.lamps - 32768 * c))).map fun l => 32768 * c + l)
      let (ok, s') := s.mramTry (ckptSlot j) p
      if !ok then s'.ckptSkip
      else
        let s := s'.mramWr (ckptDesc j) (leBytes 2 c ++ leBytes 2 0 ++ leBytes 4 seq ++ leBytes 4 (crc32 p).toNat ++ leBytes 4 sec)
        if i + 1 < s.ckptList.length then s.setCor fun x => { x with ckpt := some (seq, sec, i + 1) }
        else (((s.setF F.COR_STATUS_CKPT 0).setCor fun x => { x with ckpt := none }).setF F.COR_CKPT_SEQ_SEQ seq).setF
          F.COR_CKPT_TIME_SEC sec

/-- The doses of a chunk's slot. -/
def ckptDoses (s : State) (j i : Nat) : List Nat :=
  (List.range (min 32768 (s.lamps - 32768 * i))).map fun l => d64 (leVal (s.mramRd (ckptSlot j + 2 * l) 2))

/-- DOSE_RESTORE (R122) after a power-on reset or a reset that did not keep the frame memory; `warm` tells that it was kept.  The
last checkpoint that completed is the oldest of the newest copies of the chunks, since one that was broken off has replaced some of
them only.  The mean dose for lost chunks is rounded down.  [DESIGN CHOICE, log entry 194] -/
def doseRestore (s : State) (warm : Bool) : State :=
  if !s.isTile then s
  else
    let valid := (List.range 98).filterMap fun j => (s.ckptOf j).map fun x => (j, x.2)
    let s := s.setCor fun c => { c with ckptTop := (valid.map (·.2)).foldl max 0 }
    let last := (s.ckptList.filterMap fun i => s.ckptBest i).foldl
      (fun m x => if m.all (fun y => decide (x.2 < y.2)) then some x else m) (none : Option (Nat × Nat))
    let s : State := match last with
      | some (j, q) => (s.setF F.COR_CKPT_SEQ_SEQ q).setF F.COR_CKPT_TIME_SEC (numAt (s.mramRd (ckptDesc j) 16) 12 4)
      | none => s
    let s : State := match s.ckptBest 0xFFFF with
      | some (j, _) =>
        let p := s.mramRd (ckptSlot j) 102
        let s := { s with lux := { s.lux with dose := if warm then s.lux.dose else (List.range 12).map fun i => numAt p (8 * i) 8 } }
        (List.range 3).foldl (fun s c => s.setF (F.COR_SCALE_SCALE c) (numAt p (96 + 2 * c) 2)) s
      | none => s
    if warm then s.setF F.COR_DOSE_STAT_WARM 1
    else
      let n := s.chunks
      let got := (List.range n).map fun i => (i, (s.ckptBest i).map fun x => s.ckptDoses x.1 i)
      let all := got.flatMap fun x => x.2.getD []
      let mean := if all.isEmpty then 0 else all.sum / all.length
      let lost := (got.filter fun x => x.2.isNone).length
      let s := got.foldl (fun s x =>
        let k := min 32768 (s.lamps - 32768 * x.1)
        s.dramWr (s.doseBase + 8 * 32768 * x.1) ((x.2.getD (List.replicate k mean)).flatMap fun d => leBytes 8 d)) s
      let s := s.dramWr s.cplBase ((List.replicate s.lamps 16384).flatMap fun x => leBytes 2 x)
      if valid.isEmpty then s
      else ((s.setF F.COR_DOSE_STAT_LOST lost).setF F.COR_DOSE_STAT_RESTORED (decide (lost < n)).toNat).raiseIf
        (decide (0 < lost)) 151

/-- An uncorrectable DRAM error in the dose store or the compensation plane (R119): the granule of 64 bytes at `a`. -/
def corEcc (s : State) (a : Nat) : State :=
  if !s.isTile then s
  else
    let dB := s.doseBase
    let cB := s.cplBase
    let dose := decide (dB ≤ a ∧ a < dB + 8 * s.lamps)
    let cpl := decide (cB ≤ a ∧ a < cB + 2 * s.lamps)
    let s := if dose then
        ((List.range 8).map fun i => (a - dB) / 8 + i).foldl (fun s l =>
          if s.lamps ≤ l then s
          else s.dramPut (dB + 8 * l) (leBytes 8 (s.ckptDose l))) s
      else s
    let s := if cpl then
        ((List.range 32).map fun i => (a - cB) / 2 + i).foldl (fun s l =>
          if s.lamps ≤ l then s else s.dramPut (cB + 2 * l) (leBytes 2 16384)) s
      else s
    s.raiseIf (dose || cpl) 157

/-- The clients' reaction to granules read as uncorrectable (R119). -/
def reactEcc (r : State × List Nat) : State := r.2.foldl corEcc r.1

/-! ### Gwynkin tables (R110 to R113) -/

def gwyBase (s : State) (k : Nat) : Nat := if k = 0 then s.f F.COR_GWY_BASE0_BASE else s.f F.COR_GWY_BASE1_BASE

/-- Flash size of COR_XSPI_CFG in bytes. -/
def flashSize (s : State) : Nat := 2 ^ (26 + s.f F.COR_XSPI_CFG_SIZE)

def setLoad (s : State) (l : Option TabLoad) : State := s.setCor fun c => { c with load := l }

/-- Where a load reads a set, by the registers in effect or by the plan of a heavy commit. -/
def loadBase (s : State) (l : TabLoad) : Nat :=
  match l.heavy with
  | some p => p.bases.getD l.set 0
  | none => s.gwyBase l.set

/-- The image a load is for. -/
def loadImg (s : State) (l : TabLoad) : List Byte :=
  match l.heavy with
  | some p => s.slotImg p.slot
  | none => s.runImg

/-- TABLE_LOAD_START (R112): the read of block 0 begins. -/
def tableBegin (s : State) (l : TabLoad) : State :=
  let s := (s.setF F.COR_STATUS_LOADING 1).setLoad (some { l with began := s.clk.now })
  let s := (s.setF F.COR_LOAD_STAT_UID_MISM 0).setF F.COR_LOAD_STAT_ALT_USED 0
  s.emit (.flashRead (s.loadBase l) 65536)

/-- A load of the running image's set starts: `commit` is the shutter point of the commit that starts it (R113). -/
def tableStart (s : State) (set : Nat) (commit : Option Nat) (only0 : Bool) : State :=
  if !s.isTile then s else s.tableBegin { set := set, commit := commit, only0 := only0 }

/-- The owning block has ended the reload of a region that a heavy commit cleared (R40). -/
def regionLoaded (s : State) (use : Nat) : State :=
  { s with cmt := { s.cmt with regionsDue := s.cmt.regionsDue.filter (· != use) } }

/-- Step 5 of R112. [DEDUCED, log entry 43] -/
def tableFail (s : State) (l : TabLoad) : State :=
  let alt := match l.heavy with | some p => p.alt | none => s.on F.COR_GWY_SEL_ALT_EN
  if alt && !s.on F.COR_LOAD_STAT_ALT_USED then
    let l := { l with set := 1 - l.set, block := 0, again := false, only0 := false, head := [], bad := false }
    (((s.setF F.COR_LOAD_STAT_ALT_USED 1).raise 146).setLoad (some l)).emit (.flashRead (s.loadBase l) 65536)
  else ((((s.setF F.COR_STATUS_TABLES_OK 0).setF F.COR_STATUS_LOADING 0).setLoad none).regionLoaded 0x11).raise 147

/-- The code of the first header check that block 0 fails, 0 if none (R112 step 1). [DEDUCED, log entry 44] -/
def headCode (s : State) (l : TabLoad) (b : List Byte) : Nat :=
  let d := Img.cor (s.loadImg l)
  let flash := match l.heavy with | some p => p.flash | none => s.flashSize
  let size := Img.corW d * Img.corH d * 24
  let blocks := numAt b 0x2C 4
  if numAt b 0xFFFC 4 ≠ (crc32 (b.take 0xFFFC)).toNat then 3
  else if numAt b 0 4 ≠ 0x4E595747 ∨ numAt b 4 2 ≠ 1 then 4
  else if numAt b 0x18 2 ≠ Img.corW d ∨ numAt b 0x1A 2 ≠ Img.corH d then 5
  else if numAt b 0x1C 2 ≠ 3 then 4
  else if numAt b 0x30 4 ≠ 0x10000 ∨ numAt b 0x34 4 ≠ size ∨ blocks < 2 ∨ 4096 < blocks ∨ blocks ≠ 1 + cdiv size 65536 ∨
      flash < s.loadBase l + 65536 * blocks then 6
  else 0

/-- Step 4 of R112. -/
def tableDone (s : State) (l : TabLoad) : State :=
  let s := ((s.setF F.COR_STATUS_TABLES_OK 1).setF F.COR_STATUS_LOADING 0).setF F.COR_STATUS_SET l.set
  let s := (s.setF F.COR_LOAD_STAT_RESULT (if l.bad then 2 else 1)).setF F.COR_LOAD_TIME_MS
    (min ((s.clk.now - l.began) / 1000000) 0xFFFF)
  let s := s.setF F.COR_GWY_ID_TABLE_ID (numAt l.head 8 4)
  let s := (List.range 3).foldl (fun s i => s.setF (F.COR_GWY_CALTIME_CALTIME i) (numAt l.head (0x20 + 4 * i) (if i = 2 then 2 else 4))) s
  (((s.setLoad none).setCor fun c => { c with block0 := l.head }).regionLoaded 0x11).raise 144

/-- TABLE_BLOCK_READ (R110, R112): the block awaited arrives from flash. -/
def tableBlock (s : State) (b : List Byte) : State :=
  match s.cor.load with
  | none => s
  | some l =>
    let b := padTo 65536 b
    if l.block = 0 then
      let code := s.headCode l b
      if code ≠ 0 then ((s.setF F.COR_LOAD_STAT_RESULT code).raise 145).tableFail l
      else
        let mism := slice b 0xC 12 != s.unitBytes
        let s := if mism then (s.setF F.COR_LOAD_STAT_UID_MISM 1).raise 149 else s
        let whole := !(l.only0 && b == s.cor.block0)
        let n := numAt b 0x2C 4
        let s := s.setLoad (some { l with head := b, block := if whole then 1 else n, only0 := false })
        if whole then s.emit (.flashRead (s.loadBase l + 65536) 65536) else s
    else if numAt l.head 0x2C 4 ≤ l.block then s
    else
      let n := numAt l.head 0x2C 4
      let good := (crc32 b).toNat == numAt l.head (0x100 + 4 * l.block) 4
      let next := fun (s : State) (bad : Bool) =>
        let s := s.setLoad (some { l with block := l.block + 1, again := false, bad := bad })
        if l.block + 1 < n then s.emit (.flashRead (s.loadBase l + 65536 * (l.block + 1)) 65536) else s
      let d := Img.cor (s.loadImg l)
      let put := fun (s : State) (b : List Byte) =>
        s.lineWrIn (regionIn (s.loadImg l) 0x11) (65536 * (l.block - 1))
          (b.take (Img.corW d * Img.corH d * 24 - 65536 * (l.block - 1)))
      if good then next (put s b) l.bad
      else if !l.again then
        (s.setLoad (some { l with again := true })).emit (.flashRead (s.loadBase l + 65536 * l.block) 65536)
      else
        let s := put s ((List.replicate 8192 (LampRec.default (numAt l.head 0x2A 2))).flatten)
        let s := s.bump F.COR_LOAD_BAD_COUNT
        let s := if l.bad then s else s.setF F.COR_LOAD_STAT_FIRSTBAD l.block
        next (s.raise 148) true

/-- TABLE_LOAD_TIMEOUT (R112): a flash read took longer than 200 ms. [DEDUCED, log entry 43] -/
def tableTimeout (s : State) : State :=
  match s.cor.load with
  | none => s
  | some l => ((s.setF F.COR_LOAD_STAT_RESULT 7).raiseIf (l.block == 0) 145).tableFail l

/-- TABLE_LOAD_COMPLETE (R112): every block has been taken. -/
def tableComplete (s : State) : State :=
  match s.cor.load with
  | none => s
  | some l => if !l.head.isEmpty ∧ numAt l.head 0x2C 4 ≤ l.block then s.tableDone l else s

/-- A frame boundary after the shutter point of the commit that started a load; the eighth raises event 156 (R113). -/
def tableFrame (s : State) : State :=
  match s.cor.load with
  | some l =>
    if l.commit.any fun t => decide (t + s.tickU < s.clk.wall) then
      (s.setLoad (some { l with frames := l.frames + 1 })).raiseIf (l.frames + 1 == 8) 156
    else s
  | none => s

/-! ### Readback -/

/-- TBL_READ and DOSE_LAMP_READ: a write to the address register starts the read. -/
def tblRead (s : State) : State := s.setF F.COR_TBL_ADDR_BUSY 1
def lampRead (s : State) : State := s.setF F.COR_DOSE_LAMP_BUSY 1

/-- TBL_READ_DONE (R109). -/
def tblReadDone (s : State) : State :=
  if !s.present .COR || !s.on F.COR_TBL_ADDR_BUSY then s
  else
    let use := if s.on F.COR_TBL_ADDR_SPACE then 0x14 else 0x11
    let o := s.f F.COR_TBL_ADDR_OFFSET / 4 * 4
    (s.setF F.COR_TBL_ADDR_BUSY 0).setF F.COR_TBL_DATA_DATA (leVal (s.lineRd use o 4))

/-- DOSE_LAMP_READ_DONE (R114). -/
def lampReadDone (s : State) : State :=
  if !s.present .COR || !s.on F.COR_DOSE_LAMP_BUSY then s
  else
    let l := s.f F.COR_DOSE_LAMP_LAMP
    let s := (s.doseNote [l]).cplNote [l]
    ((s.setF F.COR_DOSE_LAMP_BUSY 0).setPair R.COR_DOSE_VAL_LO R.COR_DOSE_VAL_HI (s.doseOf l)).setF F.COR_DOSE_CPL_CPL (s.cplOf l)

end State

end Sys2Proof.Machine
end

