-- ==== Sys2Proof/Machine/Lux.lean ====
section
/-! DEFINITION. Monitor lamps and colour feedback (chapter 7): sensors, monitor-lamp codes and doses, measurement windows, the colour
loop and the calibration procedures. -/

namespace Sys2Proof.Machine

namespace State

def setLux (s : State) (g : LuxSt → LuxSt) : State := { s with lux := g s.lux }
def luxD (s : State) : List Byte := Img.lux s.runImg
def luxN (s : State) : Nat := Img.luxGroups s.luxD

/-! ### Sensors (R153, R154) -/

/-- The groups in state OK. -/
def luxMask (s : State) : Nat := ((List.range 4).filter fun g => s.f (F.LUX_G_SNS_STATE g) == 1).foldl (fun m g => m + 2 ^ g) 0

/-- Set a group's sensor state. -/
def luxState (s : State) (g st : Nat) : State :=
  let s := s.setF (F.LUX_G_SNS_STATE g) st
  s.setF F.LUX_STATUS_OKMASK s.luxMask

/-- The Provisioned ID of a group's sensor, its bus and its register. -/
def luxPid (s : State) (g : Nat) : Nat := leVal (slice s.luxD (0x10 + 16 * g) 6)
def luxBus (s : State) (g : Nat) : Nat := Img.luxAt s.luxD g 6 1

/-- A group's sensor enters Failed. -/
def luxFail (s : State) (g : Nat) : State := if s.f (F.LUX_G_SNS_STATE g) = 2 then s else (s.luxState g 2).raise 202

/-- A group's sensor has answered ENTDAA with an address. -/
def luxFound (s : State) (g addr : Nat) : State :=
  let was := s.f (F.LUX_G_SNS_STATE g)
  (((s.luxState g 1).setF (F.LUX_G_SNS_DADDR g) addr).setF (F.LUX_G_STAT_FAILS g) 0).raiseIf (was == 2) 203

/-- A sensor reading (R153): one private read of 6 or 9 bytes at REGIDX. -/
def luxRead (s : State) (g : Nat) : State :=
  let reg := leBytes 1 (Img.luxAt s.luxD g 7 1)
  (s.emit (.i3c (s.luxBus g) (s.f (F.LUX_G_SNS_DADDR g)) reg)).emit
    (.i3cRead (s.luxBus g) (s.f (F.LUX_G_SNS_DADDR g)) (if Img.luxAt s.luxD g 8 1 = 1 then 9 else 6))

/-- The phase of a window that frame n lies in: 0 dark, 1 to 3 the components. -/
def luxPhase (x : LuxWin) (n : Nat) : Option Nat :=
  if n < x.start then none
  else
    let p := (n - x.start) / max 1 x.frames
    if p < (if x.kind = 1 then 1 else 4) then some p else none

/-- The wall-time counts of the next sample of group g in phase p, SETTLE and then SPER µs apart, and of the phase's end (R157). -/
def sampleAt (s : State) (x : LuxWin) (p g : Nat) : Nat × Nat :=
  let at' := fun (p : Nat) => s.rate.frame (x.start + p * max 1 x.frames)
  let t := RegFile.fld x.latch F.LUX_SAMPLE_SETTLE + x.tries.getD (p * 4 + g) 0 * RegFile.fld x.latch F.LUX_SAMPLE_SPER
  (at' p + t * 1000 * nsU, at' (p + 1))

/-- The next sample of a group is taken in the phase at hand: wall time reaches its instant. -/
def luxTry (s : State) (x : LuxWin) (p g : Nat) : State :=
  let s := (s.waitTo (s.sampleAt x p g).1).luxRead g
  s.setLux fun l => { l with win := some { x with tries := setAt x.tries (p * 4 + g) (· + 1) } }

/-- LUX_SENSOR_READ_FAIL (R154): a read of group g's sensor failed; the third in a row makes it Failed. -/
def luxReadFail (s : State) (g : Nat) : State :=
  if !s.present .LUX || s.luxN ≤ g then s
  else
    let s : State := match s.lux.win with
      | some x => match luxPhase x s.frameNow with
        | some p => s.luxTry x p g
        | none => s.luxRead g
      | none => s.luxRead g
    let s := s.bumpSat (F.LUX_G_STAT_FAILS g)
    let s := s.setLux fun l => { l with win := l.win.map fun w => { w with failed := w.failed ||| 2 ^ g } }
    if 3 ≤ s.f (F.LUX_G_STAT_FAILS g) then s.luxFail g else s

/-! ### Monitor-lamp codes (R155, R157) -/

/-- round((2^w - 1) × per mille / 1,000), half up. -/
def levelCode (w permille : Nat) : Nat := (2 * (2 ^ w - 1) * permille + 1000) / 2000

/-- A hard blank, throttle stage 1, or a heavy commit between B - 2 and B makes a window not measurable (code 8). -/
def unmeasurable (s : State) : Bool :=
  s.on F.DRV_CTL_BLANK || s.drv.release.isSome || s.st1 || s.dsp.repeatFrom.isSome || s.cmt.prepared

/-- One of these begins while a window runs (R159). -/
def luxSpoil (s : State) : State := s.setLux fun l => { l with win := l.win.map fun x => { x with unmeas := true } }

/-- A window, or a procedure of another kind, whose first boundary is that of frame n (R157, R164). -/
def luxNew (s : State) (n kind groups : Nat) (frames : Option Nat) : LuxWin :=
  let v := (s.viewAt n 0).filter fun p => decide (R.LUX_CTL ≤ p.1 ∧ p.1 ≤ R.LUX_CHECK2)
  { kind := kind, groups := groups, frames := frames.getD (RegFile.fld v F.LUX_WIN_PH), start := n, latch := v
    unmeas := s.unmeasurable }

/-- What runs in frame n: the window or procedure in progress, else the one that is to begin; a procedure goes before a window
(R157, R164). -/
def luxAhead (s : State) (n : Nat) : Option LuxWin :=
  match s.lux.win, s.lux.calAsk with
  | some x, _ => some x
  | none, some (k, g, fr) => some (s.luxNew n k g (some fr))
  | none, none =>
    if (s.lux.winAsk.any fun st => decide (st ≤ n)) && !s.on F.LUX_CAL_STAT_BUSY && (s.viewAt n 0).fld F.LUX_CTL_WIN_EN == 1 then
      some (s.luxNew n 0 15 none)
    else none

/-- COR_AVGc rounded half up to an integer code (R155). -/
def luxAvg (s : State) (c : Nat) : Nat := (s.f (F.COR_AVG_MEAN c) + 128) / 256

/-- The codes of the twelve monitor lamps for slot k of frame n. [DESIGN CHOICE, log entry 47] -/
def luxCodes (s : State) (n k : Nat) : List Nat :=
  let w := RegFile.fld (s.viewAt n k) F.COR_PWM_WIDTH
  (List.range 12).map fun i =>
    let g := i / 3
    let c := i % 3
    if !s.present .LUX || s.luxN ≤ g then 0
    else
      let free := (sat (s.luxAvg c + s.lux.debt.getD i 0) 0 (2 ^ w - 1)).toNat
      match s.luxAhead n with
      | none => free
      | some x =>
        if !x.groups.testBit g then free
        else match luxPhase x n with
          | none => free
          | some p => if p = c + 1 then levelCode w (RegFile.fld x.latch F.LUX_WIN_REF) else 0

/-- The sub-frame of frame n has been shown with these monitor codes: debts and doses (R155, R156). -/
def luxShown (s : State) (n : Nat) (codes : List Nat) : State :=
  if !s.present .LUX then s
  else (List.range (3 * s.luxN)).foldl (fun s i =>
    let c := i % 3
    let avg : Int := s.drv.monAvg.getD c 0
    let code := codes.getD i 0
    let old := s.lux.debt.getD i 0
    let new := sat (old + avg - code) (-16777216) 16777216
    let hit := decide ((new = 16777216 ∨ new = -16777216) ∧ old ≠ new)
    let s := (s.setLux fun l => { l with debt := setAt l.debt i fun _ => new }).raiseIf hit 210
    if s.doseFrame n then
      let (d, sat) := s.doseAdd (s.lux.dose.getD i 0) code (s.tempWeight (Img.luxAt s.luxD (i / 3) 9 1))
      (s.setLux fun l => { l with dose := setAt l.dose i fun _ => d }).doseSat sat
    else s) s

/-! ### Windows (R157 to R159) -/

/-- LUX_WINDOW_START (R157): the next window is due at the first frame boundary, of those not yet taken, at or after a wall time
whose seconds are a multiple of LPER. [DEDUCED, log entry 48] -/
def luxWindowStart (s : State) : State :=
  if !s.present .LUX || !s.on F.LUX_CTL_WIN_EN || !s.framed then s
  else
    let l := max 1 (s.f F.LUX_WIN_LPER) * secU
    let t := (s.rate.frame (s.nextFrame - 1) / l + 1) * l
    s.setLux fun x => { x with winAsk := some (s.firstBoundary t 0).1 }

/-- A frame boundary begins the window or the procedure that is due, with the freeze of derate at that moment (R157, R159, R164). -/
def luxFrame (s : State) (n : Nat) : State :=
  if !s.present .LUX || s.lux.win.isSome then s
  else match s.luxAhead n with
    | none => s
    | some x =>
      let freeze := RegFile.fld x.latch F.LUX_CHECK2_FREEZE * 1000000000
      let frozen := x.kind == 0 && s.lux.drlAt.any fun t => decide (s.clk.now < t + freeze)
      let s := s.setLux fun l => { l with
        win := some { x with frozen := frozen }
        calAsk := none
        winAsk := if l.winAsk.any (fun st => decide (st ≤ n)) then none else l.winAsk }
      if x.kind ≠ 0 then s
      else ((s.setF F.LUX_STATUS_WINDOW 1).setF F.LUX_STATUS_FROZEN frozen.toNat).raiseIf
        (frozen && !s.on F.LUX_STATUS_FROZEN) 208

/-- The board sensor of a group's temperature check. -/
def luxTsens (s : State) (g : Nat) : Nat := Img.luxAt s.luxD g 15 1

/-- LUX_SAMPLE (R153, R157, R158): the next sample of group g is due in its phase, and its three readings come. -/
def luxSample (s : State) (g : Nat) (r : List Nat) : State :=
  if !s.present .LUX || s.luxN ≤ g || s.f (F.LUX_G_SNS_STATE g) ≠ 1 then s
  else match s.lux.win with
    | none => s
    | some x =>
      match luxPhase x s.frameNow with
      | none => s
      | some p =>
        let (t, stop) := s.sampleAt x p g
        if !x.groups.testBit g || decide (stop < t) then s
        else
          let s := s.luxTry x p g
          let w := if Img.luxAt s.luxD g 8 1 = 1 then 24 else 16
          let acc := (List.range 3).foldl (fun a c =>
            setAt a ((p * 4 + g) * 3 + c) fun y =>
              (y.1 + 1, y.2.1 + r.getD c 0 % 2 ^ w, y.2.2 + (r.getD c 0 % 2 ^ w) ^ 2)) x.acc
          let b := s.luxTsens g
          let temps := if s.boardValid b then setAt x.temps g fun t => (t.1 + s.fS (F.THM_B_T16 b), t.2 + 1) else x.temps
          (s.setF (F.LUX_G_STAT_FAILS g) 0).setLux fun l =>
            { l with win := l.win.map fun y => { y with acc := acc, temps := temps } }

/-- Mean and variance of a reading in a phase (R158). -/
def luxMean (x : LuxWin) (p g c : Nat) : Int := let a := x.acc.getD ((p * 4 + g) * 3 + c) (0, 0, 0); roundDiv a.2.1 a.1
def luxVar (x : LuxWin) (p g c : Nat) : Int :=
  let a := x.acc.getD ((p * 4 + g) * 3 + c) (0, 0, 0)
  roundDiv ((a.1 : Int) * a.2.2 - (a.2.1 : Int) ^ 2) ((a.1 : Int) ^ 2)
def luxCount (x : LuxWin) (p g c : Nat) : Nat := (x.acc.getD ((p * 4 + g) * 3 + c) (0, 0, 0)).1
def luxSignal (x : LuxWin) (g c : Nat) : Int := luxMean x (c + 1) g c - luxMean x 0 g c

/-- CTn and CTr of a group and component (R160). -/
def luxCt (s : State) (g c : Nat) : Int × Int :=
  let cls := Img.luxAt s.luxD g 14 1
  (s.ctOf (f16 (s.lux.dose.getD (3 * g + c) 0)) cls, s.ctOf (s.f (F.LUX_G_DREF_DREF g c)) cls)

/-- Fm and Fp of a group and component (R160). [DESIGN CHOICE, log entry 52] -/
def luxFrac (s : State) (x : LuxWin) (g c : Nat) : Int × Int :=
  let (n, r) := s.luxCt g c
  let sc : Int := s.f (F.COR_SCALE_SCALE c)
  let cpl := fun ct => (s.cplClamp (cplRaw ct sc 16384) : Int)
  (roundDiv (16384 * luxSignal x g c) (s.f (F.LUX_G_SREF_SREF g c)), roundDiv (16384 * cpl r) (cpl n))

/-- a × Fm - b × 16,384 of R161. -/
def luxDen (s : State) (x : LuxWin) (g c : Nat) : Int :=
  let (n, r) := s.luxCt g c
  (n - 16384) * (s.luxFrac x g c).1 - (r - 16384) * 16384

/-- S* of R161, clamped. -/
def luxTarget (s : State) (x : LuxWin) (g c : Nat) : Int :=
  sat (roundDiv (2 ^ 28 * (16384 - (s.luxFrac x g c).1)) (s.luxDen x g c)) (RegFile.fld x.latch F.LUX_LIMIT_SMIN)
    (RegFile.fld x.latch F.LUX_LIMIT_SMAX)

/-- Every phase that a check of a group and component uses holds a sample. -/
def luxSampled (x : LuxWin) (g c : Nat) : Bool := luxCount x 0 g c != 0 && (x.kind == 1 || luxCount x (c + 1) g c != 0)

/-- Does check `code` of Table 07.2 fail for a group and component?  Without a sample nothing can be computed, which is a failure of
the sensor. [DEDUCED, log entry 49] -/
def luxFails (s : State) (x : LuxWin) (g c code : Nat) : Bool :=
  let vd := luxVar x 0 g c
  let held := RegFile.fld x.latch
  match code with
  | 1 => luxSampled x g c && decide ((held F.LUX_CHECK0_DTOL : Int) < (luxMean x 0 g c - s.f (F.LUX_G_DARK_DARK g c)).natAbs)
  | 2 => luxSampled x g c && decide ((held F.LUX_CHECK1_DVAR : Int) < vd)
  | 3 => luxSampled x g c && decide ((held F.LUX_CHECK1_LVK : Int) * vd + luxSignal x g c / 16 < luxVar x (c + 1) g c)
  | 4 => luxSampled x g c && decide (luxSignal x g c < held F.LUX_CHECK0_SMINSIG)
  | 5 => !s.boardValid (s.luxTsens g) ||
      decide (held F.LUX_CHECK2_TWIN < (s.fS (F.THM_B_T16 (s.luxTsens g)) - s.fS (F.LUX_G_REFT_TREF g)).natAbs)
  | 6 => x.frozen
  | 7 => x.failed.testBit g || !luxSampled x g c
  | 8 => x.unmeas || s.unmeasurable
  | 9 => let (n, r) := s.luxCt g c
         decide (n - r < held F.LUX_CHECK2_CTMIN) || decide (s.luxDen x g c ≤ 0)
  | _ => false

/-- The first failing check among `codes`, 0 if none. [DEDUCED, log entry 49] -/
def luxCode (s : State) (x : LuxWin) (g c : Nat) (codes : List Nat) : Nat := (codes.find? (s.luxFails x g c)).getD 0

/-- The update of one component (R162); the result tells whether there was one. [DEDUCED, log entry 50] -/
def luxUpdate (s : State) (x : LuxWin) (c : Nat) (groups : List Nat) : Bool × State :=
  let held := RegFile.fld x.latch
  if groups.isEmpty || held F.LUX_CTL_LOOP_EN = 0 then (false, s)
  else
    let sc : Int := s.f (F.COR_SCALE_SCALE c)
    let lo : Int := held F.LUX_LIMIT_SMIN
    let hi : Int := held F.LUX_LIMIT_SMAX
    let err := Int.tdiv ((groups.map fun g => s.luxTarget x g c - sc).foldl (· + ·) 0) groups.length
    let raw := rsh (err * held F.LUX_LOOP_GAIN) 16
    let m : Int := held F.LUX_LOOP_STEPMAX
    let step := sat raw (-m) m
    let new := sat (sc + step) lo hi
    let limited := step != raw
    let s := s.setF (F.COR_SCALE_SCALE c) new.toNat
    let s := s.raiseIf (limited && !s.lux.limited) 205
    let s := s.setLux fun l => { l with limited := limited }
    (true, s.raiseIf (decide ((new = lo ∨ new = hi) ∧ new ≠ sc)) 204)

/-- LUX_WINDOW_END (R159 to R162). -/
def luxWindowEnd (s : State) : State :=
  match s.lux.win with
  | none => s
  | some x =>
    if x.kind ≠ 0 || !s.present .LUX then s
    else
      let gs := (List.range s.luxN).filter fun g => s.f (F.LUX_G_SNS_STATE g) == 1 || x.failed.testBit g
      let codes := gs.flatMap fun g => (List.range 3).map fun c => (g, c, s.luxCode x g c (List.range 10))
      let s := gs.foldl (fun s g =>
        let l := codes.filter fun e => e.1 == g
        let bad := l.filter fun e => e.2.2 != 0
        let s := s.setF (F.LUX_G_STAT_LAST g) ((bad.getLast?.map (·.2.2)).getD 0)
        let s := (List.range 3).foldl (fun s c =>
          let (fm, fp) := s.luxFrac x g c
          (s.setF (F.LUX_G_MEAS_FM g c) (twos 16 fm)).setF (F.LUX_G_MEAS_FP g c) fp.toNat) s
        bad.foldl (fun s _ => (s.bump F.LUX_WIN_REJ_COUNT).raise 201) s) s
      let (any', s) := (List.range 3).foldl (fun (r : Bool × State) c =>
        let (u, s) := r.2.luxUpdate x c ((codes.filter fun e => e.2.1 == c && e.2.2 == 0).map (·.1))
        (r.1 || u, s)) (false, s)
      let s := if any' then (s.bump F.LUX_WIN_CNT_COUNT).raise 200 else s
      (s.setF F.LUX_STATUS_WINDOW 0).setLux fun l => { l with win := none }

/-! ### Calibration (R164, R165) -/

/-- LUX_CAL: a write that starts a procedure, at the first frame boundary after any window in progress has ended. -/
def luxCal (s : State) (kind groups frames : Nat) : State :=
  if s.on F.LUX_CAL_STAT_BUSY || kind = 0 || 2 < kind then s
  else (s.setF F.LUX_CAL_STAT_BUSY 1).setLux fun l => { l with calAsk := some (kind, groups, frames) }

/-- The trims an accepted procedure writes (Table 19.2, LUX). -/
def luxEdits (s : State) (x : LuxWin) (g : Nat) : List (Nat × List Byte) :=
  let o := 0x200 + 32 * g
  if x.kind = 1 then (List.range 3).map fun c => (o + 4 * c, leBytes 4 (luxMean x 0 g c).toNat)
  else
    let t := x.temps.getD g (0, 0)
    ((List.range 3).flatMap fun c =>
      [(o + 12 + 4 * c, leBytes 4 (luxSignal x g c).toNat),
       (o + 26 + 2 * c, leBytes 2 (f16 (s.lux.dose.getD (3 * g + c) 0)))]) ++
      [(o + 24, leBytes 2 (twos 16 (roundDiv t.1 t.2)))]

/-- No dark level has been accepted for a group.  The record counts the procedures, not their groups: which these were the device
keeps with its record.  [DESIGN CHOICE, log entry 195] -/
def luxNoDark (s : State) (g : Nat) : Bool := s.f (F.NVS_CALREC_CNT_COUNT 1) == 0 || !s.lux.darkOk.testBit g

/-- LUX_CAL_END (R165): the procedure ends and is written to the record, or refused with the first failure. [DEDUCED, log entry 51] -/
def luxCalEnd (s : State) : State :=
  match s.lux.win with
  | none => s
  | some x =>
    if x.kind = 0 || !s.present .LUX then s
    else
      let gs := (List.range s.luxN).filter fun g => x.groups.testBit g
      let order := if x.kind = 1 then [2, 7, 8] else [1, 2, 3, 4, 5, 7, 8]
      let res := gs.flatMap fun g => (List.range 3).map fun c =>
        let d := if x.kind = 2 && s.luxNoDark g then 1 else s.luxCode x g c order
        (g, if x.kind = 1 then 3 else c, d)
      let s := s.setLux fun l => { l with win := none }
      match res.find? fun e => e.2.2 != 0 with
      | some (g, c, d) =>
        ((((s.setF F.LUX_CAL_STAT_BUSY 0).setF F.LUX_CAL_STAT_CODE d).setF F.LUX_CAL_STAT_GROUP g).setF F.LUX_CAL_STAT_COMP c).raise
          207
      | none =>
        let s := if x.kind = 1 then s.setLux fun l => { l with darkAsk := x.groups } else s
        let (ok, s) := s.recRequest { kind := 2, cal := x.kind, time := s.calTime, edits := gs.flatMap (s.luxEdits x) }
        if ok then s
        else ((((s.setF F.LUX_CAL_STAT_BUSY 0).setF F.LUX_CAL_STAT_CODE 10).setF F.LUX_CAL_STAT_GROUP 0).setF
          F.LUX_CAL_STAT_COMP 0).raise 207

/-- GAIN of R163 by LPER: round(65,536 × (1 - e^(-2π × 0.05 × LPER))). -/
def luxGain (lper : Nat) : Nat := [0, 17668, 30573, 39999, 46884, 51912, 55585, 58268, 60227, 61659, 62704].getD lper 62704

/-- The loop gain follows LPER (R163). -/
def luxConstants (s : State) : State := if s.present .LUX then s.setF F.LUX_LOOP_GAIN (luxGain (s.f F.LUX_WIN_LPER)) else s

end State

end Sys2Proof.Machine
end

