-- ==== Sys2Proof/Machine/Drive.lean ====
section
/-! DEFINITION. The drive port (chapter 6): Hualer packets, bus management, the sub-frame write, SWAP and ROW symbols, first light,
the hard blank, derate, diagnosis and probes. -/

namespace Sys2Proof.Machine

namespace Hualer

/-- A packet (Table 06.1). -/
def packet (cmd daddr param : Nat) (payload : List Byte) : List Byte :=
  let head := [BitVec.ofNat 8 cmd, BitVec.ofNat 8 daddr] ++ beBytes 2 payload.length ++ beBytes 2 param
  [0xD5] ++ head ++ beBytes 2 (crc16 head).toNat ++ payload ++
    (if payload.isEmpty then [] else beBytes 2 (crc16 payload).toNat)

def cmd (b : List Byte) : Nat := numAt b 1 1
def payload (b : List Byte) : List Byte := slice b 9 (beVal (slice b 3 2))

/-- Do both CRCs of a returned packet match (R128)? -/
def crcOk (b : List Byte) : Bool :=
  let n := beVal (slice b 3 2)
  (crc16 (slice b 1 6)).toNat == beVal (slice b 7 2) &&
    (n == 0 || (crc16 (slice b 9 n)).toNat == beVal (slice b (9 + n) 2))

/-- Words of w bits concatenated from the first bit sent, padded to a whole byte (PWM_WRITE). -/
def packWords (w : Nat) (ws : List Nat) : List Byte :=
  let bits := w * ws.length
  beBytes (cdiv bits 8) (ws.foldl (fun a c => a * 2 ^ w + c % 2 ^ w) 0 * 2 ^ (8 * cdiv bits 8 - bits))

/-- Time of a packet of `n` bytes and its gap on a bus, in ns (R128, R140). -/
def packetNs (n : Nat) : Nat := 8 * (n + 2)

end Hualer

namespace State

def setDrv (s : State) (g : DrvSt → DrvSt) : State := { s with drv := g s.drv }

/-- The buses in use. -/
def busesOn (s : State) : List Nat := List.range (s.f F.SYS_UNITEN_BUSES)

/-- Send a packet on a bus and await its return. -/
def hualer (s : State) (b : Nat) (p : List Byte) (again : Bool := false) : State :=
  (s.setDrv fun d => { d with awaited := d.awaited ++ [(b, p, again)] }).emit (.hualer b p)

/-! ### Bus states (R142) -/

def busState (s : State) (n : Nat) : Nat := s.f (F.DRV_BUS_STAT_STATE n)

/-- BUSFLT and BUSFAULT: buses in use and not Running. -/
def noteFaults (s : State) : State :=
  let m := (s.busesOn.filter fun n => s.busState n != 2).foldl (fun m n => m + 2 ^ n) 0
  ((s.setF F.DRV_BUSFLT_LO_FLT m).setF F.DRV_BUSFLT_HI_FLT (m / 2 ^ 32)).setF F.DRV_STATUS_BUSFAULT (decide (m ≠ 0)).toNat

def setBus (s : State) (n st : Nat) : State := (s.setF (F.DRV_BUS_STAT_STATE n) st).noteFaults

/-- Configuration of the drivers: CFG_WRITE and SCAN_SET broadcasts with the values of a register file (R132, R136, R140). -/
def driverConfig (v : RegFile) (clearPor : Bool) : List (List Byte) :=
  let tdiv := max 1 (v.fld F.DRV_SCAN_TDIV)
  let cfg := fun (i x : Nat) => Hualer.packet 0x20 0x3F i (beBytes 4 x)
  [cfg 1 (v.fld F.DRV_PWM_WIDTH), cfg 2 (v.fld F.DRV_PWM_IOUT), cfg 3 (cdiv (4 * v.fld F.DRV_DIAG_MINW) tdiv),
   cfg 4 (v.fld F.DRV_DIAG_OPEN_TH + 256 * v.fld F.DRV_DIAG_SHORT_TH),
   Hualer.packet 0x40 0x3F (v.fld F.DRV_SCAN_NM1 + 256 * v.fld F.DRV_SCAN_PM1)
     (beBytes 4 (cdiv (4 * v.fld F.DRV_TIMING_DEAD) tdiv * 2 ^ 16 + v.fld F.DRV_SCAN_TDIV))] ++
    (if clearPor then [cfg 5 1] else [])

/-- Send the configuration on a bus. -/
def configure (s : State) (v : RegFile) (b : Nat) (clearPor : Bool) : State :=
  (driverConfig v clearPor).foldl (fun s p => s.hualer b p) s

/-- A packet is missing on a bus; the second in a row puts it in Fault (R142). -/
def missOne (s : State) (b : Nat) : State :=
  let n := tabAt s.drv.missing b 0 + 1
  let s := s.setDrv fun d => { d with missing := tabMod d.missing b fun _ => n }
  if 2 ≤ n ∧ s.busState b ≠ 3 then (s.setBus b 3).raise 171 else s

/-- BUS_ENUMERATION (R131, R142): the ASSIGN sent on bus b, by the retry or else now, returns with a count, the receive delay at the
centre of the passing range, or not at all. -/
def busEnumeration (s : State) (b : Nat) (found : Option Nat) (rtph : Nat) : State :=
  if !s.present .DRV || s.drv.startAt.isNone || !s.busesOn.contains b then s
  else
    let retry := s.drv.wasBad.contains b
    let bad := [3, 4].contains (s.busState b) || retry
    let s := if retry then s.setDrv fun d => { d with wasBad := d.wasBad.filter (· != b) } else s.emit (.hualer b (Hualer.packet 1 0 0 []))
    let s := match found with
      | none => s.missOne b
      | some n =>
        let s := s.setDrv fun d => { d with missing := tabMod d.missing b fun _ => 0 }
        let s := (s.setF (F.DRV_BUS_STAT_FOUND b) n).setF (F.DRV_BUS_STAT_RTPH b) rtph
        if n = s.f (F.DRV_BUS_STAT_EXPECT b) then (s.setBus b 2).raiseIf bad 172 else (s.setBus b 4).raise 170
    if s.on F.DRV_STATUS_RUN then s else s.configure s.regs b false

/-- ASSIGN_RETRY (R142): a bus in Fault enumerates again. -/
def assignRetry (s : State) (b : Nat) : State :=
  if !s.present .DRV || s.busState b ≠ 3 then s
  else ((s.setBus b 1).setDrv fun d => { d with wasBad := b :: d.wasBad }).emit (.hualer b (Hualer.packet 1 0 0 []))

/-- The packet at the head of a bus's awaited packets, and the rest. -/
def takeAwaited (s : State) (b : Nat) : Option (List Byte × Bool) × State :=
  match s.drv.awaited.find? fun x => x.1 == b with
  | none => (none, s)
  | some x => (some x.2, s.setDrv fun d => { d with awaited := d.awaited.erase x })

/-- RETURN_MISSING (R142). -/
def returnMissing (s : State) (b : Nat) : State :=
  match s.takeAwaited b with
  | (none, s) => s
  | (some _, s) => s.missOne b

/-! ### Lamp states (R148) -/

def mapBase (s : State) : Nat := s.f F.DRV_MAP_BASE_LO_BASE + 2 ^ 32 * s.f F.DRV_MAP_BASE_HI_BASE

/-- The state of a lamp: 0 OK, 1 unverified, 2 open, 3 short. -/
def lampState (s : State) (l : Nat) : Nat := leVal (s.dramRd (s.mapBase + l / 4) 1) / 2 ^ (2 * (l % 4)) % 4

def setLampState (s : State) (l st : Nat) : State :=
  let b := leVal (s.dramRd (s.mapBase + l / 4) 1)
  s.dramPut (s.mapBase + l / 4) (leBytes 1 (b - s.lampState l * 2 ^ (2 * (l % 4)) + st * 2 ^ (2 * (l % 4))))

/-- The counts of lamps in each state. -/
def noteLamps (s : State) : State :=
  let st := (List.range s.lamps).map s.lampState
  ((s.setF F.DRV_LAMPS_OPEN_COUNT (st.count 2)).setF F.DRV_LAMPS_SHORT_COUNT (st.count 3)).setF F.DRV_LAMPS_UNVER_COUNT (st.count 1)

/-- One result for a lamp: 0 passed, 1 not measured, 2 open, 3 short. [DEDUCED, log entry 54] -/
def lampResult (s : State) (l r : Nat) : State :=
  let last := s.drv.diagLast.lookup l
  let s := s.setDrv fun d => { d with diagLast := d.diagLast.filter fun x => x.1 != l }
  if r < 2 then s.setLampState l r
  else
    let s := s.setDrv fun d => { d with diagLast := (l, r) :: d.diagLast }
    if last = some r then
      let was := s.lampState l
      (s.setLampState l r).raiseIf (was != r) (176 + r)
    else s

/-- The row diagnosed in slot 0 of frame n, by the values in effect there; none when diagnosis is off. -/
def diagRowOf (s : State) (n : Nat) : Option Nat :=
  let v := s.viewAt n 0
  let rows := s.f F.DRV_SCAN_NM1 + 1
  let fr := n % 2 ^ 24
  if 0 < s.drv.diagLeft then some (rows - min rows s.drv.diagLeft)
  else if v.fld F.DRV_CTL_DIAG_EN = 0 then none
  else if fr % 256 = v.fld F.DRV_PROBE_PHASE then some (fr / 256 % rows)
  else some (fr % rows)

/-- Channel mask of 48 bits, bit 47 first, of a driver's channels that satisfy a condition. -/
def chanMask (p : Nat → Bool) : List Byte := beBytes 6 (((List.range 48).filter p).foldl (fun m c => m + 2 ^ c) 0)

/-- The lamp of a channel in a row, none where unused. -/
def chanLamp (s : State) (d : List Byte) (w b k ch r : Nat) : Option Nat :=
  if s.f (F.DRV_BUS_STAT_EXPECT b) ≤ k then none
  else
    let e := Img.drvChan d b k ch
    if !Img.chUsed e then none
    else let p := Img.chPixel d e r
         some (3 * (p.2.toNat * w + p.1.toNat) + Img.chComp e)

/-- DIAG_READ has returned: 18 bytes for each driver of a bus (R147, R148). -/
def takeDiag (s : State) (b : Nat) (body : List Byte) : State :=
  let d := s.drvD
  let w := Img.corW s.corD
  let r := s.drv.diagRow
  let s := (List.range (body.length / 18)).foldl (fun s k =>
    let m := fun (i ch : Nat) => (beVal (slice body (18 * k + 6 * i) 6)).testBit ch
    (List.range 48).foldl (fun s ch =>
      match s.chanLamp d w b k ch r with
      | none => s
      | some l =>
        if LampRec.dead (s.lampRec l) then s
        else s.lampResult l (if m 2 ch then 1 else if m 0 ch then 2 else if m 1 ch then 3 else 0)) s) s
  s.noteLamps

/-- STATUS_READ has returned: 16 bytes for each driver (R142). -/
def takeStatus (s : State) (b : Nat) (body : List Byte) : State :=
  (List.range (body.length / 16)).foldl (fun s k =>
    let x := slice body (16 * k) 16
    let fl := numAt x 0 1
    let s := s.setDrv fun d => { d with stat := (b * 32 + k, x) :: d.stat.filter fun y => y.1 != b * 32 + k }
    let s := if fl.testBit 5 then
        (s.setDrv fun d => { d with cfgDue := b :: d.cfgDue.filter (· != b), porDue := b :: d.porDue.filter (· != b) }).raise 176
      else s
    s.raiseIf (fl.testBit 0 || fl.testBit 1) 177) s

/-- Nanoseconds left before the falling edge of the next SWAP less 2 us (R138, R140). -/
def busLeft (s : State) : Nat :=
  let (n, k) := s.nextSlot
  let d : Int := ((s.rateAt n).slot n k : Int) - s.clk.wall
  (d / nsU + F.DRV_SYNCPH_PHASE.getS (RegFile.get (s.viewAt n k) R.DRV_SYNCPH) - 64 - 2000).toNat

/-- PACKET_RETURN (R141): the packet awaited on a bus returns with these bytes. -/
def packetReturn (s : State) (b : Nat) (bytes : List Byte) : State :=
  match s.takeAwaited b with
  | (none, s) => s
  | (some (p, again), s) =>
    let s := s.setDrv fun d => { d with missing := tabMod d.missing b fun _ => 0 }
    let read := [0x21, 0x30, 0x51].contains (Hualer.cmd p)
    if Hualer.crcOk bytes then
      if Hualer.cmd p = 0x30 then s.takeStatus b (Hualer.payload bytes)
      else if Hualer.cmd p = 0x51 then s.takeDiag b (Hualer.payload bytes)
      else s
    else if read then
      if again then (s.bump (F.DRV_BUS_READERR_COUNT b)).raise 175
      else if Hualer.packetNs p.length ≤ s.busLeft then s.hualer b p true
      else s.setDrv fun d => { d with held := d.held ++ [(b, p, true)] }
    else
      let s := (s.bump (F.DRV_BUS_CRC_COUNT b)).raise 173
      if !again && decide (Hualer.packetNs p.length ≤ s.busLeft) then (s.bump (F.DRV_BUS_RESEND_COUNT b)).hualer b p true else s

/-! ### The sub-frame write (R140, R143, R149) -/

/-- Is safe fill shown (R143, R215, R348)? [DEDUCED, log entry 55] -/
def safeFill (s : State) : Bool :=
  !s.on F.COR_STATUS_TABLES_OK || !s.on F.CMC_STATUS_ADMITTED || s.dsp.lossDir == 2

/-- Does a heavy commit take frame n: from B - 1 to B, or to J where the timing mode changes, and on while a region is not ready
(R39, R40, R236)? -/
def repeatsHeavy (s : State) (n : Nat) : Bool :=
  s.dsp.repeatFrom.any fun m => decide (m ≤ n) && (decide (n ≤ s.dsp.joinN.getD (m + 1)) || !s.cmt.regionsDue.isEmpty)

/-- Are the codes of the last frame shown repeated (R39, R40, R113, R236)? -/
def repeats (s : State) (n : Nat) : Bool := s.repeatsHeavy n || s.cor.load.any fun l => l.commit.isSome && l.heavy.isNone

/-- Probes of a probe frame: the lamps probed, and whether some were left over (R149). [DEDUCED, log entry 53] -/
def probePick (s : State) (n : Nat) (codes : List Nat) : List Nat × Bool :=
  let v := s.viewAt n 0
  match s.diagRowOf n with
  | none => ([], false)
  | some r =>
    if n % 256 ≠ v.fld F.DRV_PROBE_PHASE ∨ v.fld F.DRV_CTL_DIAG_EN = 0 then ([], false)
    else
      let cand := ((s.lampMap.filter fun e => e.2.2.2.1 == r).map fun e => e.2.2.2.2).mergeSort.filter fun l =>
        s.lampState l == 1 && decide (1 ≤ codes.getD l 0) && !(s.drv.debts.any fun x => x.1 == l && x.2 != 0)
      let order := cand.filter (fun l => decide (s.drv.lastProbe < l)) ++ cand.filter fun l => decide (l ≤ s.drv.lastProbe)
      let k := v.fld F.DRV_PROBE_PROBES
      (order.take k, decide (0 < k ∧ k < order.length))

/-- What a debt takes from a code: min(code, debt), and for a debt below 0 no more than the code can rise (R149). [DESIGN CHOICE, log
entry 188] [DESIGN CHOICE, log entry 188] -/
def debtStep (w code : Nat) (debt : Int) : Int := max (min (code : Int) debt) ((code : Int) - (2 ^ w - 1 : Nat))

/-- The codes of slot 0 after debts are repaid and lamps are probed; a change of width has cancelled the debts. [DEDUCED, log entry 53] -/
def probeCodes (s : State) (n w : Nat) (codes : List Nat) : List Nat × State :=
  let v := s.viewAt n 0
  let s := if s.drv.debtW = w then s else s.setDrv fun d => { d with debts := [], debtW := w }
  let (picked, left) := s.probePick n codes
  let paid := s.drv.debts.map fun x => (x.1, debtStep w (codes.getD x.1 0) x.2, x.2)
  let codes := paid.foldl (fun c x => setAt c x.1 fun (v : Nat) => ((v : Int) - x.2.1).toNat) codes
  let debts := (paid.map fun x => (x.1, x.2.2 - x.2.1)).filter fun x => x.2 != 0
  let minwt := cdiv (4 * v.fld F.DRV_DIAG_MINW) (max 1 (v.fld F.DRV_SCAN_TDIV))
  let c' := min ((v.fld F.DRV_SCAN_PM1 + 1) * minwt) (2 ^ w - 1)
  let new := picked.map fun l => (l, (c' : Int) - codes.getD l 0)
  let codes := picked.foldl (fun c l => setAt c l fun _ => c') codes
  let s := s.setDrv fun d => { d with debts := debts ++ new, lastProbe := picked.getLast?.getD d.lastProbe }
  (codes, (s.bumpBy F.DRV_PROBE_CNT_COUNT picked.length).raiseIf left 180)

/-- The lamp codes of sub-frame (n, k), before probes.  A repeated frame shows the slots of the one it repeats in turn. [DESIGN CHOICE,
log entry 47; DEDUCED, log entry 55; DESIGN CHOICE, log entry 189] -/
def slotCodesAt (s : State) (n k : Nat) : List Nat :=
  let v := s.viewAt n k
  let last := s.drv.slotCodes.getD (if s.repeats n then k % max 1 s.dsp.repeatS else k) []
  let last := if last.isEmpty then List.replicate s.lamps 0 else last
  if s.repeats n then last
  else match (s.cor.passes.find? fun x => x.n == n && x.slot == k).bind passCodes with
    | none => last
    | some codes =>
      if v.fld F.DRV_CTL_AUTOMASK = 1 then
        (List.range codes.length).map fun l => if s.lampState l = 3 then 0 else codes.getD l 0
      else codes

/-- The lamp codes of sub-frame (n, k): those of the slot to keep, and those sent.  In safe fill every used channel receives the grey
code, but a lamp masked dead by the tables has code 0 (R107, R143); in slot 0 debts are repaid and lamps are probed (R149). [DESIGN CHOICE, log entry 47; DEDUCED, log entry 55] -/
def frameCodes (s : State) (n k : Nat) : List Nat × List Nat × State :=
  let v := s.viewAt n k
  let w := v.fld F.DRV_PWM_WIDTH
  if s.safeFill then
    let dead := fun (l : Nat) => s.on F.COR_STATUS_TABLES_OK && LampRec.dead (s.lampRec l)
    let codes := (List.range s.lamps).map fun l => if dead l then 0 else levelCode w (v.fld F.DRV_SAFE_GREY)
    (codes, codes, s)
  else
    let codes := s.slotCodesAt n k
    let (out, s) := if k = 0 then s.probeCodes n w codes else (codes, s)
    (codes, out, s)

/-- The PWM_WRITE of a row on a bus. -/
def pwmPacket (s : State) (codes mon : List Nat) (w b r : Nat) : List Byte :=
  let d := s.drvD
  let tw := Img.corW s.corD
  let l := s.luxD
  let monAt := fun (k ch : Nat) => (List.range (3 * s.luxN)).find? fun i =>
    s.present .LUX && Img.luxAt l (i / 3) 9 1 == b && Img.luxAt l (i / 3) 10 1 == k && Img.luxAt l (i / 3) (11 + i % 3) 1 == ch
  let words := (List.range (s.f (F.DRV_BUS_STAT_EXPECT b))).flatMap fun k => (List.range 48).map fun ch =>
    match s.chanLamp d tw b k ch r with
    | some x => codes.getD x 0
    | none => match monAt k ch with
      | some i => mon.getD i 0
      | none => 0
  Hualer.packet 0x10 0x3F r (Hualer.packWords w words)

/-- A shutter point at slot k of frame n changes a staged DRV field. -/
def drvChanges (s : State) (n k : Nat) : Bool :=
  s.cmt.pend.any fun c => c.n == n && c.slot == k &&
    (Blk.DRV.rows.any fun r => let a := Blk.DRV.base + r.off; (s.reg a ^^^ RegFile.get c.snap a) &&& stMask a != 0)

/-- A release of the hard blank is due by the next slot boundary. -/
def releaseDue (s : State) : Bool :=
  let (n, k) := s.nextSlot
  s.drv.release.any fun t => decide (t ≤ s.clk.now + ((s.rateAt n).slot n k - s.clk.wall) / nsU)

/-- The read and diagnosis packets of a bus for the sub-frame (n, k), after those that wait; a newer one of a command takes the place of
one that waits (R140, R148). -/
def readPackets (s : State) (n k b : Nat) (arm : Option Nat) : List (List Byte × Bool) :=
  let dcount := s.f (F.DRV_BUS_STAT_EXPECT b)
  let d := s.drvD
  let w := Img.corW s.corD
  let ps := (if s.drv.readDue.isSome then [Hualer.packet 0x51 0x3F 0 (List.replicate (18 * dcount) 0)] else []) ++
    (match arm with
      | some r => [Hualer.packet 0x50 0x3F (r + 0x300) ((List.range dcount).flatMap fun p => chanMask fun ch =>
          (s.chanLamp d w b p ch r).any fun l => !LampRec.dead (s.lampRec l))]
      | none => []) ++
    (if k = 0 ∧ n % max 1 (s.f F.DRV_STATPER_FRAMES) = 0 then [Hualer.packet 0x30 0x3F 0 (List.replicate (16 * dcount) 0)] else [])
  ((s.drv.held.filter fun x => x.1 == b && !(ps.any fun p => Hualer.cmd p == Hualer.cmd x.2.1)).map (·.2)) ++ ps.map fun p => (p, false)

/-- Packets are sent on a bus while they fit in the time left; those that do not are returned. -/
def sendFit (s : State) (b used left : Nat) (ps : List (List Byte × Bool)) : List (List Byte × Bool) × State :=
  let r := ps.foldl (fun (x : Nat × List (List Byte × Bool) × State) p =>
    let t := x.1 + Hualer.packetNs p.1.length
    if t ≤ left then (t, x.2.1, x.2.2.hualer b p.1 p.2) else (x.1, x.2.1 ++ [p], x.2.2)) (used, [], s)
  r.2

/-- The row of a DIAG_ARM packet that was sent. -/
def armedRow (ps left : List (List Byte × Bool)) : Option Nat :=
  (ps.find? fun p => Hualer.cmd p.1 == 0x50 && !left.contains p).map fun p => beVal (slice p.1 5 2) % 32

/-- One bus in a sub-frame write (R140): the PWM_WRITEs, the configuration where it is due, then reads and diagnosis.  A PWM_WRITE that
does not fit is missed, any other packet waits.  The answer is the rows written and the row armed. [DESIGN CHOICE, log entry 190] -/
def busSend (s : State) (v : RegFile) (n k b left : Nat) (pk : List (List Byte)) (reconf : Bool) (arm : Option Nat) :
    Nat × Option Nat × State :=
  let t := Hualer.packetNs ((pk.headD []).length)
  let fit := if t = 0 then pk.length else min pk.length (left / t)
  let s := (pk.take fit).foldl (fun s p => s.hualer b p) s
  let s := (List.range (pk.length - fit)).foldl (fun s _ => (s.bump F.DRV_ROW_MISS_COUNT).raise 185) s
  let por := s.drv.porDue.contains b
  let ct := ((driverConfig v por).map fun p => Hualer.packetNs p.length).sum
  let (used, s) :=
    if !(reconf || s.drv.cfgDue.contains b) then (fit * t, s)
    else if fit * t + ct ≤ left then
      (fit * t + ct, (s.configure v b por).setDrv fun d =>
        { d with cfgDue := d.cfgDue.filter (· != b), porDue := d.porDue.filter (· != b) })
    else (fit * t, s.setDrv fun d => { d with cfgDue := b :: d.cfgDue.filter (· != b) })
  let ps := s.readPackets n k b arm
  let (rest, s) := s.sendFit b used left ps
  (fit, armedRow ps rest, s.setDrv fun d => { d with held := d.held.filter (fun x => x.1 != b) ++ rest.map fun p => (b, p) })

/-- DRIVE_WRITE_START (R140): the packets of the next sub-frame are sent on every bus in use. [DESIGN CHOICE, log entry 190] -/
def driveWrite (s : State) : State :=
  if !s.present .DRV || s.drv.startAt.isNone || !s.framed then s
  else
    let (n, k) := s.nextSlot
    if s.drv.written = some (n, k) then s
    else
      let (tail, hop, corw) := s.pipeAt n
      let r := s.rateAt n
      let s := if s.dsp.joinN.isSome then s else s.waitTo (min (r.driveWrite tail hop corw n k) (r.slot n k))
      let v := s.viewAt n k
      let w := v.fld F.DRV_PWM_WIDTH
      let rows := s.f F.DRV_SCAN_NM1 + 1
      let (keep, codes, s) := s.frameCodes n k
      let mon := s.luxCodes n k
      let left := s.busLeft
      let reconf := s.drvChanges n k || s.releaseDue || !s.on F.DRV_STATUS_RUN
      let arm := if k = 0 then s.diagRowOf n else none
      let m := s.lampMap
      let (back, armed, s) := s.busesOn.foldl (fun (x : List Nat × Option Nat × State) b =>
        let s := x.2.2
        let (fit, armed, s) := s.busSend v n k b left ((List.range rows).map fun i => s.pwmPacket codes mon w b i) reconf arm
        let back := (m.filter fun e => e.1 == b && decide (e.2.2.2.1 < fit)).foldl
          (fun l e => setAt l e.2.2.2.2 fun _ => codes.getD e.2.2.2.2 0) x.1
        (back, x.2.1.or armed, s)) (padTo' s.lamps s.drv.back, none, s)
      s.setDrv fun d => { d with
        back := back, mon := mon, monAvg := (List.range 3).map s.luxAvg, written := some (n, k), armed := armed.or d.armed,
        diagRow := d.readDue.getD d.diagRow, readDue := none, slotCodes := setAt d.slotCodes k fun _ => keep,
        diagLeft := if k = 0 then d.diagLeft - 1 else d.diagLeft }
where
  /-- A list of codes of `n` lamps. -/
  padTo' (n : Nat) (l : List Nat) : List Nat := l.take n ++ List.replicate (n - l.length) 0

/-! ### SWAP, ROW and the boundaries (R138, R143, R144) -/

/-- The hard blank is in force or waits for its release. -/
def blanked (s : State) : Bool := s.on F.DRV_CTL_BLANK || s.drv.release.isSome

/-- The sub-frame (n, k) begins: its SWAP, PHASE from the boundary (R138), unless the sync pair is held low, and the doses of the codes sent (R114, R144). [DEDUCED, log entry 46] -/
def showSub (s : State) (n k : Nat) : State :=
  let held := s.on F.DRV_STATUS_HBLANK
  let codes := s.drv.back
  let s := if held then s.setDrv fun d =>
      if k = 0 then { d with armed := none, readDue := d.armed.or d.readDue } else d
    else
      let s := if s.drv.armed = some 0 ∧ k = 0 then (s.emit (.sync 3)).setDrv fun d => { d with armed := none, readDue := some 0 } else s
      ((s.emit (.sync 1)).setDrv fun d => { d with front := d.back, back := d.front })
  let at' := ((s.clk.wall : Int) + s.fS F.DRV_SYNCPH_PHASE * nsU).toNat
  let s := s.setDrv fun d => { d with shown := some (n, k), rowK := 0, swapAt := at' }
  ((s.doseSubframe n codes).noteMeans codes).luxShown n s.drv.mon

/-- The first SWAP (R143): RUN, and event 169. -/
def firstLight (s : State) : State :=
  ((s.setF F.DRV_STATUS_RUN 1).setF F.DRV_STATUS_HBLANK 0).setDrv (fun d => { d with lightDue := false, release := none }) |>.raise 169

/-- FIRST_LIGHT at a frame boundary at least 2 ms after B0 (R143); under a hard blank it waits for the release. [DEDUCED, log entry 179] -/
def lightFrame (s : State) (n : Nat) : State :=
  if !s.present .DRV || s.on F.DRV_STATUS_RUN || !(s.drv.startAt.any fun t => decide (t + 2000000 ≤ s.clk.now)) then s
  else if s.drv.release.any (fun t => decide (t ≤ s.clk.now)) || !s.blanked then (s.firstLight).showSub n 0
  else s.setDrv fun d => { d with lightDue := true }

/-- A slot boundary at the drive port: a release of the hard blank that is due, and the SWAP (R138, R144). [DEDUCED, log entry 179] -/
def driveSlot (s : State) (n k : Nat) : State :=
  if !s.present .DRV || s.drv.startAt.isNone || s.f F.RPS_PWR_STAT_STATE ≠ 0 then s
  else
    let due := s.drv.release.any fun t => decide (t ≤ s.clk.now)
    if !s.on F.DRV_STATUS_RUN then
      if due && s.drv.lightDue then s.firstLight.showSub n k
      else if due then s.setDrv fun d => { d with release := none } else s
    else
      let s := if due then ((s.setF F.DRV_STATUS_HBLANK 0).setDrv fun d => { d with release := none }).raise 169 else s
      if s.drv.shown = some (n, k) then s else s.showSub n k

/-- ROW_PERIOD (R138): the next ROW symbol of the sub-frame, with a DIAG symbol before the row armed for diagnosis (R147). -/
def rowPeriod (s : State) : State :=
  let rows := s.f F.DRV_SCAN_NM1 + 1
  if !s.present .DRV || !s.on F.DRV_STATUS_RUN || s.on F.DRV_STATUS_HBLANK ||
      (s.f F.DRV_SCAN_PM1 + 1) * rows ≤ s.drv.rowK + 1 then s
  else
    let k := s.drv.rowK + 1
    let s := s.waitTo (s.drv.swapAt + k * s.f F.DRV_TROW_TROW * nsU)
    let s := s.setDrv fun d => { d with rowK := k }
    let first := s.drv.shown.any fun x => x.2 == 0
    let s := if first && s.drv.armed == some k then
        (s.emit (.sync 3)).setDrv fun d => { d with armed := none, readDue := some k } else s
    s.emit (.sync 2)

/-- HARD_BLANK: DRV_CTL.BLANK is written 1 (R144). -/
def hardBlank (s : State) : State :=
  if !s.present .DRV || s.on F.DRV_CTL_BLANK then s
  else (((s.luxSpoil.setF F.DRV_CTL_BLANK 1).setF F.DRV_STATUS_HBLANK 1).setDrv fun d => { d with release := none }).emit (.sync 0) |>.raise 168

/-- BLANK_RELEASE: DRV_CTL.BLANK is written 0 (R144). -/
def blankRelease (s : State) : State :=
  if !s.present .DRV || !s.on F.DRV_CTL_BLANK then s
  else (s.setF F.DRV_CTL_BLANK 0).setDrv fun d => { d with release := some (s.clk.now + s.rate.tsNs) }

/-- DIAG_NOW (R148). -/
def diagNow (s : State) : State :=
  if s.present .DRV then s.setDrv fun d => { d with diagLeft := s.f F.DRV_SCAN_NM1 + 1 } else s

/-! ### Derate (R145, R146) -/

/-- A received derate factor clamped to its range (R146). -/
def derateClamp (x : Nat) : Nat := max 6554 (min 16384 (x % 2 ^ 15))

/-- DERATE_UPDATE at a frame boundary after B0 (R145). [DEDUCED, log entry 83] -/
def derateFrame (s : State) : State :=
  if !s.present .DRV || !(s.drv.startAt.any fun t => decide (t < s.clk.now)) then s
  else
    let floor := s.f F.DRV_DERATE_FL_FLOOR
    let hot := s.boardHot (s.f F.DRV_DERATE_SENS_MASK)
    let target := match hot with
      | some t =>
        let past := (t - s.f F.DRV_DERATE_KNEE).toNat
        max (16384 - (past * s.f F.DRV_DERATE_SLOPE * 16384 + 8000) / 16000) floor
      | none => floor
    let s := match hot with
      | some t => (s.setF F.DRV_DERATE_STAT_NOSENS 0).setF F.DRV_DERATE_TEMP_T16 (twos 16 t)
      | none => (s.setF F.DRV_DERATE_STAT_NOSENS 1).raise 183
    let old := s.f F.DRV_DERATE_STAT_DRL
    let slew := s.f F.DRV_DERATE_SLEW
    let new := if old < target then min target (old + slew) else max target (old - slew)
    let s := (s.setF F.DRV_DERATE_STAT_TARGET target).setF F.DRV_DERATE_STAT_DRL new
    let s := if new = old then s else s.setLux fun l => { l with drlAt := some s.clk.now }
    (s.raiseIf (decide (old = 16384 ∧ new ≠ 16384)) 181).raiseIf (decide (new = floor ∧ old ≠ floor)) 182

/-! ### Shutter points (R136, R137, R143, R149) -/

/-- TROW and MINWT follow the values in effect; a change of width cancels the debts. -/
def driveConstants (s : State) (oldWidth : Nat) : State :=
  if !s.isTile then s
  else
    let pn := (s.f F.DRV_SCAN_PM1 + 1) * (s.f F.DRV_SCAN_NM1 + 1)
    let s := s.setF F.DRV_TROW_TROW ((s.rate.tsNs - s.f F.DRV_TIMING_TAIL) / pn)
    let s := s.setF F.DRV_TICK_MINWT (cdiv (4 * s.f F.DRV_DIAG_MINW) (max 1 (s.f F.DRV_SCAN_TDIV)))
    if s.f F.DRV_PWM_WIDTH = oldWidth ∨ s.f F.DRV_PWM_WIDTH = s.drv.debtW then s else s.setDrv fun d => { d with debts := [] }

/-- DRIVE_PORT_START at the first commit (R143). -/
def driveStart (s : State) : State :=
  if !s.isTile || s.drv.startAt.isSome then s
  else
    let s := (s.setDrv fun d => { d with startAt := some s.clk.now }).emit (.drivePinsLow false)
    s.busesOn.foldl (fun s b => s.setBus b 1) (s.emit (.sync 0))

end State

end Sys2Proof.Machine
end

