-- ==== Sys2Proof/Machine/PairTx.lean ====
section
/-! DEFINITION. Frames sent on the pair link (R330), and who is Primary and who is Secondary (Table 15.1). -/

namespace Sys2Proof.Machine

namespace State

def setPar (s : State) (g : ParSt → ParSt) : State := { s with par := g s.par }
def pairState (s : State) : Nat := s.f F.PAR_STATUS_PSTATE
def isPrimary (s : State) : Bool := s.present .PAR && (s.pairState == 1 || s.pairState == 2)
def isSecondary (s : State) : Bool := s.present .PAR && (s.pairState == 3 || s.pairState == 4)
def heard (s : State) : Bool := s.present .PAR && s.on F.PAR_STATUS_HB

/-- Does the Primary mirror to its partner: In Sync, or in Resync once the STATE frames have begun (R331, R344)? -/
def mirrors (s : State) : Bool :=
  s.isPrimary && s.heard && (s.f F.PAR_STATUS_PPSTATE == 3 || (s.f F.PAR_STATUS_PPSTATE == 4 && s.par.rsyncAt.isSome))

/-- The partner's address. -/
def partnerAddr (s : State) : Nat := if s.on F.PAR_CFG_END then 0 else 125

/-- Send an unnumbered pair frame. -/
def pairSend (s : State) (typ : Nat) (tspec payload : List Byte) : State :=
  s.sendBlock 8 (s.mkFrame typ 0 s.partnerAddr tspec payload).bytes

/-- Send a pair frame with the next TAG of its type, kept until acknowledged. -/
def pairSeq (s : State) (typ : Nat) (tspec payload : List Byte) : State :=
  let tag := (s.par.sentTag.getD (typ - 0x81) 0 + 1) % 4096
  let b := (s.mkFrame typ tag s.partnerAddr tspec payload).bytes
  let s := s.setPar fun p => { p with sentTag := setAt p.sentTag (typ - 0x81) fun _ => tag,
                                      unacked := p.unacked ++ [{ typ := typ, tag := tag, block := b }] }
  (if typ = 0x81 then s.setF F.PAR_MIRROR_SENT tag else s).sendBlock 8 b

/-- Bytes in frames of at most 2,000. -/
def pairStream (s : State) (typ : Nat) (tspec bytes : List Byte) : State :=
  (List.range (max 1 (cdiv bytes.length 2000))).foldl (fun s i => s.pairSeq typ tspec (slice bytes (2000 * i) 2000)) s

end State

end Sys2Proof.Machine
end

