-- ==== Sys2Proof/Machine/FrameTiming.lean ====
section
/-! DEFINITION. Hold and blank actions, ramps and the slot boundary (chapter 10). -/

namespace Sys2Proof.Machine

/-- Does boundary (n, k) lie at or after boundary (m, j)? -/
def atOrAfter (n k m j : Nat) : Bool := decide (m < n ∨ (m = n ∧ j ≤ k))

namespace State

def setDsp (s : State) (g : DspSt → DspSt) : State := { s with dsp := g s.dsp }

/-! ### Requests on a Sender (R229, R230) -/

/-- The TSPEC of an action frame (Table 10.4). -/
def actSpec (a : Action) : List Byte :=
  leBytes 2 a.aseq ++ [BitVec.ofNat 8 a.kind, BitVec.ofNat 8 a.rampM1] ++ leBytes 3 (a.n % 2 ^ 24) ++ [BitVec.ofNat 8 a.slot] ++
    leBytes 2 0

/-- An action frame to an address. -/
def actFrame (s : State) (dst : Nat) (a : Action) : List Byte := (s.mkFrame 0x30 0x100 dst (actSpec a) []).bytes

/-- Send an action on every chain port in use, and keep its second copy (R230). -/
def sendAction (s : State) (a : Action) : State :=
  let b := s.actFrame 127 a
  (s.sendAll s.portsOn b).setDsp fun d => { d with actCopies := d.actCopies ++ [b] }

/-- The register values, boundary and ASEQ an ACTION frame of the pair link carries (Table 15.3): [0] group 0 DSP_ACT or 1 REL_CMD,
[1] kind, [2] ramp or player, [3] slot, [4-7] seek, [8-10] frame, [12-13] ASEQ. -/
def pairAct (group : Nat) (a : Action) : List Byte :=
  [BitVec.ofNat 8 group, BitVec.ofNat 8 a.kind, BitVec.ofNat 8 (if group = 0 then a.rampM1 else a.player), BitVec.ofNat 8 a.slot] ++
    leBytes 4 a.seek ++ leBytes 3 (a.n % 2 ^ 24) ++ [0] ++ leBytes 2 a.aseq ++ leBytes 2 0

/-- A refused request. -/
def actRefuse (s : State) : State := s.setF F.DSP_ACT_STAT_RESULT 3

/-- HOLD_REQ, RELEASE_REQ, BLANK_REQ and UNBLANK_REQ: DSP_ACT is written with this KIND (R229). -/
def actRequest (s : State) (kind rampM1 : Nat) : State :=
  if !s.isSender then s
  else
    let s := (s.setF F.DSP_ACT_KIND kind).setF F.DSP_ACT_RAMPM1 rampM1
    let (sec, ns) := s.reqTime R.DSP_ACT_NS R.DSP_ACT_SL R.DSP_ACT_SH
    if 999999999 < ns ∨ s.isSecondary ∨ s.on F.DSP_STATUS_JOIN ∨ !s.timed then s.actRefuse
    else
      let (n, k, late) := s.effective sec ns
      let aseq := (s.dsp.aseq + 1) % 65536
      let a : Action := { kind := kind, rampM1 := rampM1, aseq := aseq, n := n, slot := k, late := late }
      let s := s.setDsp fun d => { d with aseq := aseq, asked := d.asked ++ [a], wallActs := d.wallActs ++ [a] }
      let s := ((((s.setF F.DSP_ACT_STAT_RESULT 1).setF F.DSP_ACT_STAT_LATE late.toNat).setF F.DSP_ACT_STAT_SLOT k).setF
        F.DSP_ACT_STAT_ASEQ aseq).setF F.DSP_ACT_FRM_FRAME (n % 2 ^ 24)
      let s := if late then (s.bump F.DSP_LATE_COUNT).raise 81 else s
      let s := s.sendAction a
      if s.mirrors then s.pairSeq 0x84 [] (pairAct 0 a) else s

/-- ACTION_SECOND_COPY (R230). -/
def actSecond (s : State) : State :=
  match s.dsp.actCopies with
  | [] => s
  | b :: bs => (s.setDsp fun d => { d with actCopies := bs }).sendAll s.portsOn b

/-! ### Actions at a Tile (R230, R231) -/

/-- The first slot boundary whose pass has not begun, at or after (n, k). -/
def passOpen (s : State) (n k : Nat) : Nat × Nat :=
  match s.cor.lastPass with
  | none => (n, k)
  | some (m, j) =>
    if atOrAfter m j n k then (if j + 1 < (s.rateAt m).slots then (m, j + 1) else (m + 1, 0)) else (n, k)

/-- A Tile takes an action that names frame n24 and slot k. [DEDUCED, log entry 84] -/
def actTake (s : State) (kind rampM1 aseq n24 k : Nat) : State :=
  match resolve s.frameNow n24 |>.or (some s.frameNow) with
  | none => s
  | some n =>
    let (n, k) := if (s.rateAt n).slots ≤ k then (n + 1, 0) else (n, k)
    let (m, j) := s.passOpen n k
    let late := decide ((m, j) ≠ (n, k))
    let a : Action := { kind := kind, rampM1 := rampM1, aseq := aseq, n := m, slot := j, late := late }
    let s := s.setDsp fun d => { d with lastAseq := some aseq }
    if kind ≤ 2 then s.setDsp fun d => { d with holdAct := some a }
    else s.setDsp fun d => { d with blankAct := some a, ramped := false }

/-- ACTION_RX (R230): a good action frame; only the first copy of an ASEQ ahead of the last is taken. -/
def actRx (s : State) (tspec : List Byte) : State :=
  let aseq := numAt tspec 0 2
  let d := fun (l : Nat) => (aseq + 65536 - l) % 65536
  if !s.isTile || !s.timed || !(s.dsp.lastAseq.all fun l => decide (1 ≤ d l ∧ d l ≤ 32767)) then s
  else s.actTake (numAt tspec 2 1) (numAt tspec 3 1 % 16) aseq (numAt tspec 4 3) (numAt tspec 7 1 % 8)

/-! ### Ramps (R233, R348) -/

/-- The step of a ramp over `frames` frames of S sub-frames. -/
def rampStepOf (frames slots : Nat) : Nat := cdiv 16384 (max 1 (frames * slots))

/-- One step of a factor. [DEDUCED, log entry 59] -/
def rampMove (up : Bool) (r step : Nat) : Nat := if up then min (r + step) 16384 else r - step

/-- RAMP of the pass of slot k of frame n: the ramps advance by one sub-frame. [DESIGN CHOICE, log entry 58] -/
def takeRamp (s : State) (n k : Nat) : Nat × State :=
  let slots := (s.rateAt n).slots
  let d := s.dsp
  let d := match d.blankAct with
    | some a => if atOrAfter n k a.n a.slot && !d.ramped then
        { d with ramped := true, rampStep := rampStepOf (a.rampM1 + 1) slots, rampUp := a.kind == 4 } else d
    | none => d
  let r := rampMove d.rampUp d.ramp d.rampStep
  let fin := decide (r = if d.rampUp then 16384 else 0)
  let loss := match d.lossDir with
    | 1 => rampMove false d.lossRamp (rampStepOf 4 slots)
    | 3 => rampMove true d.lossRamp (rampStepOf 4 slots)
    | _ => d.lossRamp
  let dir := if d.lossDir = 1 ∧ loss = 0 then 2 else if d.lossDir = 3 ∧ loss = 16384 then 0 else d.lossDir
  let d := { d with ramp := r, lossRamp := loss, lossDir := dir }
  let out := (rsh (r * loss : Nat) 14).toNat
  let s := (s.setDsp fun _ => d).setF F.DSP_RAMP_RAMP out
  (out, s.setF F.DSP_RAMP_STEP (if fin then 0 else d.rampStep))

/-- The ramp moves on by the sub-frame shown, and DSP_STATUS.BLANK follows it (R233). [DESIGN CHOICE, log entry 58] -/
def rampShown (s : State) : State :=
  let r := rampMove s.dsp.shownUp s.dsp.shown s.dsp.shownStep
  (s.setDsp fun d => { d with shown := r }).setF F.DSP_STATUS_BLANK
    (if r = 16384 then 0 else if r = 0 then 2 else if s.dsp.shownUp then 3 else 1)

/-- Is hold in force for the pass of slot k of frame n (R232)? -/
def heldAt (s : State) (n k : Nat) : Bool :=
  match s.dsp.holdAct with
  | some a => if atOrAfter n k a.n a.slot then a.kind == 1 else s.on F.DSP_STATUS_HOLD
  | none => s.on F.DSP_STATUS_HOLD

/-! ### Slot boundaries (R223, R232, R233, R235) -/

/-- A late action takes effect at a Tile: it is counted, and event 81 is raised (R231). [DEDUCED, log entry 84] -/
def lateAction (s : State) (a : Action) : State := if a.late && s.isTile then (s.bump F.DSP_LATE_COUNT).raise 81 else s

/-- Actions whose boundary has come are in force on the wall (R231). -/
def wallDue (s : State) (n k : Nat) : State :=
  let due := s.dsp.wallActs.filter fun a => atOrAfter n k a.n a.slot
  s.setDsp fun d => due.foldl (fun (d : DspSt) a => if a.kind ≤ 2 then { d with wallHold := a.kind == 1 } else { d with wallBlank := a.kind == 3 })
    { d with wallActs := d.wallActs.filter fun a => !atOrAfter n k a.n a.slot }

/-- Actions whose boundary has come. -/
def actionsDue (s : State) (n k : Nat) : State :=
  let s := match s.dsp.holdAct with
    | some a =>
      if atOrAfter n k a.n a.slot then
        (((s.setF F.DSP_STATUS_HOLD (a.kind == 1).toNat).setDsp fun d => { d with holdAct := none }).raise (81 + a.kind)).lateAction a
      else s
    | none => s
  let s := match s.dsp.blankAct with
    | some a =>
      if atOrAfter n k a.n a.slot then
        let s := if s.dsp.ramped then s
          else s.setDsp fun d => { d with rampStep := rampStepOf (a.rampM1 + 1) (s.rateAt n).slots, rampUp := a.kind == 4 }
        ((s.setDsp fun d => { d with blankAct := none, ramped := false, shownStep := d.rampStep, shownUp := d.rampUp }).raise (81 + a.kind)).lateAction a
      else s
    | none => s
  let s := if s.isTile && !s.repeatsHeavy n then s.rampShown else s
  let s := s.wallDue n k
  let done := s.dsp.asked.filter fun a => atOrAfter n k a.n a.slot
  let s := s.setDsp fun d => { d with asked := d.asked.filter fun a => !atOrAfter n k a.n a.slot }
  if done.isEmpty || s.f F.DSP_ACT_STAT_RESULT ≠ 1 || !s.dsp.asked.isEmpty then s else s.setF F.DSP_ACT_STAT_RESULT 2

/-- The next sub-frame of the old schedule while the join of R236 waits, none once J comes first. [DESIGN CHOICE, log entry 189] -/
def oldSlot (s : State) : Option (Nat × Nat × Nat) :=
  match s.dsp.oldRate, s.dsp.joinN with
  | some (num, den, slots), some j =>
    let r : Rate := ⟨num, den, slots⟩
    let i := s.clk.wall * num * slots / (den * secU)
    let i := if s.dsp.lastS ≠ some (i / slots, i % slots) ∧ s.clk.wall < r.slot (i / slots) (i % slots) + s.tickU then i else i + 1
    if r.slot (i / slots) (i % slots) < s.rate.frame j then some (i / slots, i % slots, r.slot (i / slots) (i % slots)) else none
  | _, _ => none

/-- SLOT_BOUNDARY: wall time reaches the next slot boundary. -/
def slotBoundary (s : State) : State :=
  if !s.framed then s
  else match s.oldSlot with
    | some (n, k, t) =>
      let s := (s.waitTo t).setDsp fun d => { d with lastS := some (n, k) }
      (s.setDrv fun d => { d with back := d.slotCodes.getD k d.back }).driveSlot n k
    | none =>
      let (n, k) := match s.dsp.joinN with
        | some j => if s.clk.wall < s.rate.frame j then (j, 0) else s.nextSlot
        | none => s.nextSlot
      let s := s.waitTo ((s.rateAt n).slot n k)
      let s := s.setDsp fun d => { d with lastS := some (n, k) }
      let s := ((s.setF F.DSP_FRAME_FRAME n).setF F.DSP_FRAME_SLOT k)
      let s := s.actionsDue n k
      s.driveSlot n k

/-- TSUB and U follow the timing in effect, and FAB_BUDGET (R225). -/
def timingConstants (s : State) : State :=
  if s.role = 0 then s
  else
    let r := s.rate
    let tail := s.f F.DSP_PIPE0_TAILPM
    let s := (s.setF F.DSP_TSUB_TSUB r.tsNs).setF F.DSP_U_U (r.uNs tail)
    s.setF F.FAB_BUDGET_BUDGET (if s.isSender then 1000000 * r.den * (1000 - tail) / (r.num * 1000)
      else r.slots * s.f F.DSP_PIPE1_CORW)

end State

end Sys2Proof.Machine
end

