-- ==== Sys2Proof/Machine/Reset.lean ====
section
/-! DEFINITION. Resets (R372 to R379): what each level clears, how requests merge and wait, and the release of a hold. -/

namespace Sys2Proof.Machine

namespace State

def setRps (s : State) (g : RpsSt → RpsSt) : State := { s with rps := g s.rps }
def setThm (s : State) (g : ThmSt → ThmSt) : State := { s with thm := g s.thm }
def setMgt (s : State) (g : MgtSt → MgtSt) : State := { s with mgt := g s.mgt }
def setCmc (s : State) (g : CmcSt → CmcSt) : State := { s with cmc := g s.cmc }
def setCmt (s : State) (g : CmtSt → CmtSt) : State := { s with cmt := g s.cmt }

def stage' (s : State) : Nat := s.f F.RPS_BOOT_STAGE

/-- Does a core run its resident image? -/
def coreUp (s : State) (c : Nat) : Bool := (s.f F.MGT_STATUS_RUNNING).testBit c

/-- THM_STATUS.MCOMP follows its four conditions (R407). -/
def noteMcomp (s : State) : State :=
  s.setF F.THM_STATUS_MCOMP
    (s.on F.NVS_STATUS_LOADED && s.coreUp 3 && decide (0 < s.f (F.THM_Z_NVALID 3)) && !s.rps.bscan).toNat

/-- Does the register keep its value (Table 17.1, and the owners' own rules)? [DEDUCED, log entry 75] -/
def keptReg (power aon kept : Bool) (a : Nat) : Bool :=
  let within := fun (b : Blk) => decide (b.base ≤ a ∧ a < b.base + b.extent)
  let sensors := decide (R.THM_Z 0 ≤ a ∧ a < R.THM_B_ID 0) || [R.THM_STATUS, R.THM_FAIL, R.THM_HOT].contains a
  if aon then false
  else if power then sensors || [R.RPS_WAKE, R.RPS_WAKE_STAT, R.RPS_AON].contains a
  else sensors || within .HCH || (kept && within .FMC) ||
    [R.RPS_CAUSE, R.RPS_LAST, R.RPS_GLITCH, R.RPS_DEFER, R.RPS_MERGE, R.RPS_WAKE, R.RPS_WAKE_STAT, R.RPS_AON, R.THM_MASK, R.THM_MREF,
     R.FMC_CTL, R.FMC_SCHED, R.FMC_SCRUB, R.FAB_AGE].contains a

/-- The newest valid pair snapshot in MRAM (R346): GEN and seconds, with the copy that holds it. -/
def snapNewest (s : State) : Option (Nat × Nat × Nat) :=
  let d := fun (k : Nat) => s.mramRd (0x40 + 16 * k) 16
  let ok := fun (k : Nat) =>
    let n := numAt (d k) 8 4
    n != 0 && decide (n ≤ 1048576) && numAt (d k) 12 4 == (crc32 (s.mramRd (0x700000 + 0x100000 * k) n)).toNat
  let pick := fun (k : Nat) => (numAt (d k) 0 4, numAt (d k) 4 4, k)
  match ok 0, ok 1 with
  | false, false => none
  | true, false => some (pick 0)
  | false, true => some (pick 1)
  | true, true => some (if numAt (d 0) 0 4 < numAt (d 1) 0 4 then pick 1 else pick 0)

/-- Registers whose reset value is from MRAM (Tables 03.9, 15.9, 16.10, 18.6), and SYS_IMG_SEL from the boot pointer. -/
def fromMram (s : State) (age : Bool) : State :=
  let s := s.setReg R.THM_SDREC (BitVec.ofNat 32 (leVal (s.mramRd 0x30 4)))
  let s := if age then s.setF F.FAB_AGE_INDEX (leVal (s.mramRd 0x20 8)) else s
  let s := (List.range 4).foldl (fun s c => s.setF (F.MGT_CORE_SVN_CNT c) (leVal (s.mramRd (0x10 + 2 * c) 2))) s
  let s := match s.snapNewest with
    | some (gen, sec, _) => (s.setF F.PAR_SNAP_GEN gen).setF F.PAR_SNAP_TIME_SEC sec
    | none => s
  s.setBoth F.SYS_IMG_SEL_SLOT (leVal (s.mramRd 0 4))

/-- Outputs return to the safe state of Table 17.5 (R385). -/
def safeOutputs (s : State) : State :=
  let s := (s.emit (.drivePinsLow true)).emit (.sync 0)
  let s := (List.range 9).foldl (fun s p => if (s.port p).idle then s else s.emit (.txIdle p true)) s
  (List.range 8).foldl (fun s t => if s.on (F.TIM_OUT_STAT_LEVEL t) then s.emit (.timedOut t false) else s) s

/-- The clearing of a system reset or power-on reset (R372, Table 17.1; R280 for CMT_STATUS; R373 for wall time). [DESIGN CHOICE, log entry 70; DEDUCED, log entry 73; DEDUCED, log entry 74] -/
def clearAll (s : State) (power aon kept merged : Bool) : State :=
  let s := if kept then s.safeOutputs.flushQueues else s.safeOutputs
  let lost := !s.cmt.pend.isEmpty || (merged && s.f F.CMT_STATUS_RESULT == 7)
  let tag := s.f F.CMT_STATUS_LASTTAG
  let timed := s.timed && !aon
  let held := s.f F.TIM_STATUS_TSTATE != 4
  let admitted := s.on F.CMC_STATUS_ADMITTED
  let calPorts := s.lan.cal.map fun c => ((List.range 9).find? c.ports.testBit).getD 0
  let loading := s.stage' == 1
  let restarts := s.f F.NVS_RESTARTS_COUNT
  let layout := (s.f F.FMC_CFG_ORDER, s.f F.FMC_CFG_RATE, s.f F.FMC_CFG_MASK)
  let seen := s.thm.seen % 2 ^ 12
  let die : Vector Nat 32 → Vector Nat 32 := fun v => ⟨⟨(List.range 32).map fun i => if i < 16 then tabAt v i 0 else 0⟩, by simp⟩
  let thm : ThmSt :=
    if aon then {} else { s.thm with scapN := none, scapLate := false, seen := seen, found := 0, bad := die s.thm.bad, good := die s.thm.good }
  let s : State :=
    { pending := s.pending, fuses := s.fuses, regs := s.regs.filter fun p => keptReg power aon kept p.1
      clk := if aon then {} else s.clk
      tim := { anyStep := timed }
      thm := thm
      fmc := if kept then s.fmc else {}
      cor := { block0 := if kept then s.cor.block0 else [] }
      lux := { dose := if kept then s.lux.dose else List.replicate 12 0, darkOk := s.lux.darkOk }
      rps := { s.rps with ask := none, waking := false, relay := false, chainReset := false, tones := 0, layout := layout,
                          bscan := s.rps.bscan && !power, tckAt := if aon then none else s.rps.tckAt }
      dram := if kept then s.dram else [], mram := s.mram, lineStore := if kept then s.lineStore else []
      outs := s.outs, free := s.free }
  let s := if power then s.setF F.THM_MASK_DIE 0 else s
  let s := if admitted && !power then s.setRps fun r => { r with owed := r.owed ++ [263] } else s
  let s := match calPorts with
    | some p => if power then s else
        ((s.setF F.LAN_CAL_STAT_CODE 7).setF F.LAN_CAL_STAT_PORT p).setRps fun r => { r with owed := r.owed ++ [224] }
    | none => s
  let s := ((s.setF F.THM_STATUS_STAGE 0).setF F.THM_STATUS_CAP 0).setF F.THM_FAIL_BOARD 0
  let s := (s.fromMram power).noteMcomp
  let s := s.setF F.TIM_STATUS_TSTATE (if timed then 4 else 0)
  let s := if timed && held then s.setRps fun r => { r with owed := r.owed ++ [277] } else s
  let s := if lost && !power then (s.setF F.CMT_STATUS_RESULT 7).setF F.CMT_STATUS_LASTTAG tag else s
  let s := if loading then (s.setF F.NVS_RESTARTS_COUNT (restarts + 1)).setRps fun r => { r with owed := r.owed ++ [38] } else s
  if kept then s.setF F.FMC_STATUS_KEPT 1 else s

/-- Is the frame memory kept through a system reset (R298)? -/
def keeps (s : State) (r : ResetReq) : Bool :=
  r.source == 6 || (r.keep && [1, 2, 3, 7, 8].contains r.source && s.on F.FMC_CTL_KEEP && !s.chansOn.isEmpty &&
    s.chansOn.all fun c => s.f (F.FMC_CH_STAT_STATE c) == 2)

/-- A core loses its working memory and inbound queue (R352); the Guard core the update session as well (R368). [DESIGN CHOICE, log entry 72; DEDUCED, log entry 140] -/
def coreLost (s : State) (c : Nat) : State :=
  if s.mgt.act.any fun a => a.core == c then s
  else
  let s := s.setF F.MGT_STATUS_RUNNING (s.f F.MGT_STATUS_RUNNING &&& (15 - 2 ^ c))
  let s := s.setMgt fun m => { m with queues := tabMod m.queues c fun _ => [], load := tabMod m.load c fun _ => [] }
  if c ≠ 3 then s
  else
    let s := if s.present .FAB && s.pstate != 0 then s.setF F.FAB_STATUS_PSTATE 3 else s
    let s := { ((s.setReg R.MGT_SESS 0).setReg R.MGT_SESS_BYTES 0) with ubuf := [] }
    let s := match s.mgt.act with
      | some a => s.setRps fun x => { x with cores := x.cores ||| 2 ^ a.core }
      | none => s
    (s.setMgt fun m => { m with act := none, total := 0 }).noteMcomp

/-- A heavy commit between its acceptance and its boundary is lost to a reset of any level (R42). -/
def loseHeavy (s : State) : State :=
  if s.cmt.pend.any (·.heavy) then
    (s.setCmt fun c => { c with pend := c.pend.filter fun x => !x.heavy, prepared := false, regionsDue := [] }).setFab fun f =>
      { f with frozen := false }
  else s

/-- Note a reset in RPS_CAUSE and RPS_LAST. -/
def noteReset (s : State) (level source cores : Nat) (kept merged : Bool) : State :=
  let s := if source < 10 then s.setF F.RPS_CAUSE_CAUSE (s.f F.RPS_CAUSE_CAUSE ||| 2 ^ source) else s
  ((((s.setF F.RPS_LAST_LEVEL level).setF F.RPS_LAST_SOURCE source).setF F.RPS_LAST_CORES cores).setF F.RPS_LAST_KEPT
    kept.toNat).setF F.RPS_LAST_MERGED merged.toNat

/-- A reset takes effect: a new one, or one that merges into the one begun within the last 10 ms (R377). [DESIGN CHOICE, log entry 186] -/
def takeReset (s : State) (r : ResetReq) : State :=
  let early := decide (1 ≤ s.stage' ∧ s.stage' ≤ 2)
  let busy := s.rps.held || s.rps.cores != 0 || early || (r.level != 1 && decide (3 ≤ s.stage' ∧ s.stage' ≤ 4))
  let merge := busy && decide (s.clk.now < s.rps.began + 10000000)
  let level := if merge then max r.level s.rps.level else r.level
  let kept := decide (level = 2) && (if r.level = 2 then s.keeps r else true) && (!merge || s.rps.level != 2 || s.rps.kept)
  let cores := if merge then r.cores ||| s.rps.cores else r.cores
  let s :=
    if r.level = 1 ∧ level = 1 ∧ !early then
      ((List.range 4).foldl (fun s c => if r.cores.testBit c then s.coreLost c else s) s.loseHeavy).setRps fun x =>
        { x with cores := x.cores ||| r.cores }
    else if r.level = 1 ∧ early ∧ !s.rps.held then (s.setRps fun x => { x with held := true }).setF F.RPS_BOOT_STAGE 0
    else if merge && r.level == 1 && s.rps.held then s
    else
      let s := s.clearAll (level == 3) r.aon kept merge
      let s := s.setRps fun x => { x with held := true, cores := 0, latch := x.latch && !r.aon }
      if level = 3 then (s.setF F.RPS_AON_PGCORE 0).emit (.pwrEn false) else s
  let s := s.noteReset level r.source (if level = 1 then cores else 0) kept merge
  let ev := match level with | 1 => 2 | 2 => 1 | _ => 0
  let s := s.setRps fun x => { x with
    began := if merge then x.began else s.clk.now, level := level, kept := kept
    owed := (if level = 1 ∧ !merge then x.owed else x.owed.filter fun e => decide (2 < e)) ++ [ev] ++ (if merge then [5] else []) }
  if merge then s.bump F.RPS_MERGE_COUNT else s

/-- RESET_REQUEST (R374 to R379): a request takes effect at once, or after the MRAM pulse in progress (R379). -/
def requestReset (s : State) (r : ResetReq) (pulse : Bool) : State :=
  if pulse && !r.aon then (s.bump F.RPS_DEFER_COUNT).setRps fun x => { x with deferred := x.deferred ++ [r] }
  else s.takeReset r

/-- The hold of a system reset or a power-on reset ends, and bring-up starts (R377, R386). -/
def startBringup (s : State) : State :=
  let s := s.setRps fun r => { r with held := false, released := s.clk.now }
  (((s.setF F.RPS_BOOT_STAGE 1).setF F.RPS_BOOT_MS 0).setF F.RPS_AON_PGCORE 1).emit (.pwrEn true)

end State

end Sys2Proof.Machine
end

