-- ==== Sys2Proof/Machine/Mailbox.lean ====
section
/-! DEFINITION. Mailbox messages (R355, R356): the windows, the inbound queues of the cores, and responses by the path of the request. -/

namespace Sys2Proof.Machine

namespace Msg

/-- Word 0 of a message (R355). -/
def header (m : Msg) : Nat := (m.words.headD 0).toNat
def svc (m : Msg) : Nat := m.header % 2 ^ 8
def cmd (m : Msg) : Nat := m.header / 2 ^ 8 % 2 ^ 8
def seq (m : Msg) : Nat := m.header / 2 ^ 26

/-- Payload word `i`, counted from 1 (Table 16.3). -/
def word (m : Msg) (i : Nat) : Nat := (m.words.getD i 0).toNat

/-- The payload bytes from word `i` onwards. -/
def bytesFrom (m : Msg) (i : Nat) : List Byte := (m.words.drop i).flatMap fun w => leBytes 4 w.toNat

/-- The number of words that LENW of a header allows, header included: LENW is 0 to 499. -/
def lenOf (h : Nat) : Nat := 1 + min (h / 2 ^ 16 % 2 ^ 10) 499

end Msg

/-- The words of a byte string, four bytes each. -/
def wordsOf (bs : List Byte) : List Word := (List.range (bs.length / 4)).map fun i => BitVec.ofNat 32 (numAt bs (4 * i) 4)

namespace State

/-- A core's inbound queue. -/
def mbox (s : State) (c : Nat) : List Msg := tabAt s.mgt.queues c []

/-- Set a core's inbound queue, with LEVEL. -/
def setMbox (s : State) (c : Nat) (q : List Msg) : State :=
  (s.setMgt fun m => { m with queues := tabMod m.queues c fun _ => q }).setF (F.MGT_MB_STAT_LEVEL c) q.length

/-- A message arrives at a core's queue, which holds 8: it is queued, or refused with event 50 (R356). [DEDUCED, log entry 97] -/
def mailboxIn (s : State) (c : Nat) (m : Msg) : Bool × State :=
  if (s.mbox c).length < 8 then (true, s.setMbox c (s.mbox c ++ [m]))
  else (false, (s.bump (F.MGT_MB_OVF_COUNT c)).raise 50)

/-- MAILBOX_SEND: a write to MGT_MWp_SEND takes the message of the window to a core (R356). -/
def mailboxSend (s : State) (p c : Nat) : State :=
  let s := s.setF (F.MGT_MW_SEND_CORE p) c
  let sst := s.f (F.MGT_MW_STAT_SST p)
  if sst = 1 ∨ sst = 2 then s
  else
    let n := Msg.lenOf (s.reg (R.MGT_MW_BUF p 0)).toNat
    let words := (List.range n).map fun i => s.reg (R.MGT_MW_BUF p i)
    let (ok, s) := s.mailboxIn c { path := p, words := words, ref := p }
    s.setF (F.MGT_MW_STAT_SST p) (if ok then 1 else 3)

/-- MAILBOX_RACK: a write to MGT_MWp_RACK releases the response (R356). [DEDUCED, log entry 100] -/
def mailboxRack (s : State) (p : Nat) : State := s.setF (F.MGT_MW_STAT_SST p) 0

/-- The response words to a message (R355). [DEDUCED, log entry 101] -/
def responseWords (m : Msg) (status detail : Nat) (extra : List Nat) : List Word :=
  BitVec.ofNat 32 (m.svc + m.cmd * 2 ^ 8 + (1 + extra.length) * 2 ^ 16 + m.seq * 2 ^ 26) ::
    BitVec.ofNat 32 (status + detail % 2 ^ 8 * 2 ^ 8) :: extra.map fun v => BitVec.ofNat 32 v

/-- A response leaves by the path of its request: the window's RBUF, an UPDATE frame to the partner, or the next REPLY (R356, R369). [DEDUCED, log entry 101] -/
def respond (s : State) (m : Msg) (ws : List Word) : State :=
  match m.path with
  | 2 => s.pairSend 0x40 [1] (ws.flatMap fun w => leBytes 4 w.toNat)
  | 3 => s.setMgt fun g => { g with responses := g.responses ++ [ws] }
  | _ =>
    let p := m.ref % 2
    let s := (List.range ws.length).foldl (fun s i => s.setReg (R.MGT_MW_RBUF p i) (ws.getD i 0)) s
    (s.setF (F.MGT_MW_STAT_RLENW p) (ws.length - 1)).setF (F.MGT_MW_STAT_SST p) 2

/-- Is a core in reset, or held for activation (R365)? -/
def coreHeld (s : State) (c : Nat) : Bool := s.rps.held || s.rps.cores.testBit c || s.mgt.act.any fun a => a.core == c

/-- A core takes the oldest message of its queue, which it serves in arrival order (R356). -/
def takeMsg (s : State) (c : Nat) : Option (Msg × State) :=
  match s.mbox c with
  | m :: q => if s.coreHeld c then none else some (m, s.setMbox c q)
  | [] => none

/-- Is the message one that core c answers: INFO at any core, the update service at the Guard core (R355, Table 16.1)? [DEDUCED, log entry 98; DEDUCED, log entry 99] -/
def msgKnown (c : Nat) (m : Msg) : Bool :=
  (m.svc == 0 && (m.cmd == 1 || m.cmd == 2)) || (m.svc == 1 && c == 3 && decide (1 ≤ m.cmd ∧ m.cmd ≤ 8))

/-- INFO_PING: the oldest message of core c, a PING, is answered (R355). [DEDUCED, log entry 98] -/
def infoPing (s : State) (c : Nat) : State :=
  match s.takeMsg c with
  | some (m, s') => if m.svc = 0 ∧ m.cmd = 1 then s'.respond m (responseWords m 0 0 []) else s
  | none => s

/-- INFO_VERSION: the oldest message of core c, a VERSION, is answered with the versions of the four cores (R355). [DEDUCED, log entry 98] -/
def infoVersion (s : State) (c : Nat) : State :=
  match s.takeMsg c with
  | some (m, s') =>
    if m.svc = 0 ∧ m.cmd = 2 then
      s'.respond m (responseWords m 0 0 ((List.range 4).map fun k => s.f (F.MGT_CORE_VER_VERSION k)))
    else s
  | none => s

/-- UNSUPPORTED_COMMAND: the oldest message of core c is of no service or command it has (R355). -/
def unsupportedCommand (s : State) (c : Nat) : State :=
  match s.takeMsg c with
  | some (m, s') => if msgKnown c m then s else s'.respond m (responseWords m 8 0 [])
  | none => s

end State

end Sys2Proof.Machine
end

