-- ==== Sys2Proof/Machine/Poll.lean ====
section
/-! DEFINITION. The poll master (R204 to R215, R335, R336): polling, replies, enumeration, admission, numbered REG and UPDATE frames,
and the poll state that the pair link carries. -/

namespace Sys2Proof.Machine

namespace State

/-! ### The master's records of its tiles -/

def tileIdx (p a : Nat) : Nat := p * 96 + a - 1
def tile (s : State) (p a : Nat) : TileSt := tabAt s.cmc.tiles (tileIdx p a) {}
def setTile (s : State) (p a : Nat) (g : TileSt → TileSt) : State := s.setCmc fun c => { c with tiles := tabMod c.tiles (tileIdx p a) g }
def poll (s : State) (p : Nat) : PortPoll := tabAt s.cmc.polls p {}
def setPoll (s : State) (p : Nat) (g : PortPoll → PortPoll) : State := s.setCmc fun c => { c with polls := tabMod c.polls p g }
def tileState (s : State) (p a : Nat) : Nat := s.f (F.CMC_T_TSTATE p a)

/-- Addresses on a port that are not Absent, ascending. -/
def tilesOn (s : State) (p : Nat) : List Nat := ((List.range 96).map (· + 1)).filter fun a => s.tileState p a != 0

/-- Every tile in state Admitted, as (port, address). -/
def admitted (s : State) : List (Nat × Nat) :=
  s.portsOn.flatMap fun p => ((s.tilesOn p).filter fun a => s.tileState p a == 2).map fun a => (p, a)

/-- Does this device act as poll master: the MASTER bit, with the Link core running (Table 16.7)? -/
def polls (s : State) : Bool :=
  s.isSender && s.on F.CMC_STATUS_MASTER && s.coreUp 1 && !s.rps.cores.testBit 1 && !s.rps.held

/-- Send a frame to a tile, directly or through the partner behind a RELAY frame (R336). -/
def toTile (s : State) (p : Nat) (far : Bool) (w : WFrame) : State :=
  if far && s.heard then (s.pairSend 0x87 [BitVec.ofNat 8 p, 0] []).sendBlock 8 w.bytes else s.sendBlock p w.bytes

/-- The per-tile fields of HANDOVER and POLLSTATE frames (Table 15.3): port, address, TSTATE, MISSES, EVACK, last REG and UPDATE TAGs,
and the unacknowledged frames. -/
def tileRec (s : State) (p a : Nat) : List Byte :=
  let t := s.tile p a
  [BitVec.ofNat 8 p, BitVec.ofNat 8 a, BitVec.ofNat 8 (s.tileState p a), BitVec.ofNat 8 (s.f (F.CMC_T_MISSES p a))] ++
    leBytes 4 t.evack ++ leBytes 2 t.regTag ++ leBytes 2 t.updTag ++ leBytes 2 t.unacked.length ++ [0, 0] ++
    t.unacked.flatMap fun u => padTo 2024 u.block

/-- Send a stream of poll state in frames of one type, its length in TSPEC bytes 8 to 11. [DESIGN CHOICE, log entry 105] -/
def sendPollState (s : State) (typ : Nat) (b : List Byte) : State := s.pairStream typ (leBytes 4 b.length) b

/-- A step of the poll master that may change a tile: a Primary tells its partner of a change in POLLSTATE (Table 15.3). -/
def withPollState (s : State) (p a : Nat) (g : State → State) : State :=
  let s' := g s
  if s'.isPrimary && s'.heard && s.tileRec p a != s'.tileRec p a then s'.sendPollState 0x86 (s'.tileRec p a) else s'

/-- Take per-tile records from a HANDOVER or POLLSTATE stream. -/
def takeTileRecs : Nat → List Byte → State → State
  | 0, _, s => s
  | n + 1, b, s =>
    if b.length < 16 then s
    else
      let (p, a, k) := (numAt b 0 1 % 8, numAt b 1 1, numAt b 12 2)
      let un := (List.range k).map fun i =>
        let x := slice b (16 + 2024 * i) 2024
        ({ typ := numAt x 0 1, tag := numAt x 2 2 % 4096, block := x } : Unacked)
      let s := if 1 ≤ a ∧ a ≤ 96 then
          ((s.setF (F.CMC_T_TSTATE p a) (numAt b 2 1)).setF (F.CMC_T_MISSES p a) (numAt b 3 1)).setTile p a fun t =>
            { t with evack := numAt b 4 4, regTag := numAt b 8 2, updTag := numAt b 10 2, unacked := un }
        else s
      takeTileRecs n (b.drop (16 + 2024 * k)) s

/-! ### Numbered frames (R208) -/

/-- Send a REG (0x50) or UPDATE (0x40) frame to a tile with the next TAG of its type; it stays until acknowledged. -/
def sendNumbered (s : State) (p a typ : Nat) (tspec payload : List Byte) : Nat × State :=
  let t := s.tile p a
  let tag := ((if typ = 0x50 then t.regTag else t.updTag) + 1) % 4096
  let w := s.mkFrame typ tag a tspec payload
  let s := s.setTile p a fun x => { x with
    regTag := if typ = 0x50 then tag else x.regTag, updTag := if typ = 0x50 then x.updTag else tag
    unacked := x.unacked ++ [{ typ := typ, tag := tag, block := w.bytes }] }
  (tag, s.toTile p t.farSide w)

/-- Is TAG `tag` acknowledged by last applied TAG `last`? -/
def tagAcked (tag last : Nat) : Bool := decide ((last + 4096 - tag) % 4096 < 2048)

/-- A tile becomes Lost (R207, R208). -/
def tileLost (s : State) (p a : Nat) : State :=
  if s.tileState p a = 4 then s
  else ((s.setF (F.CMC_T_TSTATE p a) 4).setTile p a fun t => { t with admitAt := none, passed := false, unacked := [] }).raise 249

/-- Is the block an UPDATE frame that carries an ACTIVATE (R369)? -/
def isActivate (b : List Byte) : Bool := numAt b 0 1 == 0x40 && numAt b 8 1 == 0 && numAt b 20 2 == 1 + 4 * 2 ^ 8

/-- SEQ_RESEND: two poll cycles have passed without acknowledgement; every unacknowledged frame is resent in order, and after four
resends of one frame the tile is Lost (R208). [DESIGN CHOICE, log entry 103] -/
def seqResend (s : State) (p a : Nat) : State :=
  let t := s.tile p a
  if !s.polls || t.unacked.isEmpty then s
  else s.withPollState p a fun s =>
    if t.unacked.any fun u => decide (4 ≤ u.resends) then (s.raise 267).tileLost p a
    else
      let s := t.unacked.foldl (fun s u =>
        let s := (s.bump (F.CMC_P_RESEND_COUNT p)).toTile p t.farSide (parseFrame u.block)
        if isActivate u.block then s.setTile p a fun x => { x with quietTo := s.clk.now + 100000000 } else s) s
      s.setTile p a fun x => { x with unacked := x.unacked.map fun u => { u with resends := u.resends + 1 } }

/-! ### Enumeration (R213, R335) -/

/-- The direction of this device's end: 0 from the head, 1 from the tail. -/
def ownDir (s : State) : Nat := if s.addr = 125 then 1 else 0

/-- Send an ENUM on a port, or on the far end through the partner. -/
def sendEnum (s : State) (p : Nat) (far : Bool) (count : Nat) : State :=
  let id := (s.poll p).enumId + 1
  let dir := if far then 1 - s.ownDir else s.ownDir
  let s := s.setPoll p fun x => { x with enumId := id, far := far, sentCount := count }
  (s.setF (F.CMC_P_STAT_ESTATE p) 1).toTile p far
    (s.mkFrame 0x03 0 126 ([0, BitVec.ofNat 8 dir, BitVec.ofNat 8 (if dir = 1 then count else 0), 0] ++ leBytes 4 id) [])

/-- The poll master enumerates a port in use. -/
def enumerate (s : State) (p : Nat) : State :=
  if !s.polls || !s.portOn p || (s.poll p).noEnum then s else s.sendEnum p false (s.poll p).complete

/-- ENUM_CMD: a write to CMC_ENUM enumerates the named ports. [DEDUCED, log entry 110] -/
def enumCmd (s : State) (ports : Nat) : State := (s.portsOn.filter ports.testBit).foldl enumerate s

/-- ENUM_TIMEOUT: no ENUM_END has come within 1 ms. -/
def enumTimeout (s : State) (p : Nat) : State :=
  if s.isSender && s.f (F.CMC_P_STAT_ESTATE p) == 1 then (s.setF (F.CMC_P_STAT_ESTATE p) 3).raise 245 else s

/-- A tile enters Identifying (R214). -/
def identify (s : State) (p a : Nat) : State :=
  (s.setF (F.CMC_T_TSTATE p a) 1).setTile p a fun t => { t with admitAt := none, passed := false }

/-- A tile is no longer found. -/
def absent (s : State) (p a : Nat) : State :=
  if s.tileState p a = 0 then s else (s.setReg (R.CMC_T p a) 0).setTile p a fun _ => {}

/-- Addresses reached from this device's own end and from the far end: the tile found at each enters Identifying (R214), and those that
no end reaches are Absent. -/
def tilesFound (s : State) (p : Nat) (near far : List Nat) : State :=
  (List.range 96).foldl (fun s i =>
    let a := i + 1
    if near.contains a || far.contains a then (s.identify p a).setTile p a fun t => { t with farSide := far.contains a }
    else s.absent p a) s

/-- ENUM_END_RX (R213, R335): the count comes back; in a pair whose ring does not close, the far end is enumerated through the
partner. [DEDUCED, log entry 106] -/
def enumEndRx (s : State) (p : Nat) (w : WFrame) : State :=
  let x := s.poll p
  let hop := numAt w.tspec 0 1
  if !s.polls || s.f (F.CMC_P_STAT_ESTATE p) ≠ 1 || numAt w.tspec 4 4 ≠ x.enumId % 2 ^ 32 then s
  else if 96 < hop then (s.setF (F.CMC_P_STAT_ESTATE p) 3).raise 245
  else
    let fromHead := fun (k : Nat) => (List.range k).map (· + 1)
    let fromTail := fun (c k : Nat) => (List.range (min k c)).map fun i => c - i
    let closed := w.src == 0 || w.src == 125
    let done := fun (s : State) => (s.setF (F.CMC_P_STAT_ESTATE p) 2).raise 244
    if x.far then
      let near := s.tilesOn p |>.filter fun a => !(s.tile p a).farSide
      let far := (if s.ownDir = 0 then fromTail x.sentCount hop else fromHead hop).filter fun a => !near.contains a
      done (s.tilesFound p near far)
    else
      let near := if s.ownDir = 0 then fromHead hop else fromTail x.sentCount hop
      let s := (s.setF (F.CMC_P_STAT_COUNT p) hop).setF (F.CMC_P_STAT_PARTNER p) closed.toNat
      if !closed && s.heard && decide (hop < x.complete) then
        let far := (if s.ownDir = 0 then fromTail x.complete (x.complete - hop) else fromHead (x.complete - hop)).filter fun a =>
          !near.contains a
        (done (s.tilesFound p near far)).sendEnum p true x.complete
      else done ((s.tilesFound p near []).setPoll p fun y => { y with complete := hop })

/-- A sender that is not the poll master answers an ENUM that reaches it with the HOP it received (R213). [DEDUCED, log entry 106] -/
def enumAnswer (s : State) (p : Nat) (w : WFrame) : State :=
  s.sendBlock p (s.mkFrame 0x04 0 w.src ((w.tspec.take 1) ++ [0, 0, 0] ++ slice w.tspec 4 4) []).bytes

/-! ### Admission (R214, R215) -/

/-- The first frame boundary at least `k` frames ahead. -/
def boundaryAhead (s : State) (k : Nat) : Nat :=
  (s.firstBoundary (s.clk.wall + k * s.rate.periodU) 0).1

/-- The present THM_SCAP as a REG frame's pair. -/
def scapPair (s : State) : List Byte := leBytes 4 R.THM_SCAP ++ leBytes 4 (s.reg R.THM_SCAP).toNat

/-- Write THM_SCAP of a tile. -/
def sendScap (s : State) (p a : Nat) : State := (s.sendNumbered p a 0x50 [1] s.scapPair).2

/-- An action addressed to a tile that is admitted at frame n states what is in force on the wall (R231). -/
def tellWall (s : State) (p a n kind : Nat) : State :=
  let aseq := (s.dsp.aseq + 1) % 65536
  let s := s.setDsp fun d => { d with aseq := aseq }
  s.toTile p (s.tile p a).farSide
    (s.mkFrame 0x30 0x100 a (actSpec { kind := kind, rampM1 := 0, aseq := aseq, n := n, slot := 0, late := false }) [])

/-- Admit a tile: ADMIT ACTION 1 with the first frame boundary at least two frames ahead, the wall's hold and blank
states at that boundary, and the wall cap (R215, R231, R403). -/
def admitTile (s : State) (p a : Nat) : State :=
  if !s.framed then s
  else
    let n := s.boundaryAhead 2
    let far := (s.tile p a).farSide
    let s := s.toTile p far (s.mkFrame 0x05 0 a ([1] ++ leBytes 3 (n % 2 ^ 24) ++ [0]) [])
    let s := s.setTile p a fun t => { t with admitAt := some n, passed := true }
    let s := (s.tellWall p a n (if s.dsp.wallHold then 1 else 2)).tellWall p a n (if s.dsp.wallBlank then 3 else 4)
    if s.f F.THM_SCAP_CAP = 0 then s else s.sendScap p a

/-- Quarantine a tile: ADMIT ACTION 2 with its REASON (R215). -/
def quarantine (s : State) (p a : Nat) : State :=
  let s := s.toTile p (s.tile p a).farSide (s.mkFrame 0x05 0 a [2, 0, 0, 0, BitVec.ofNat 8 (s.f (F.CMC_T_REASON p a))] [])
  ((s.setF (F.CMC_T_TSTATE p a) 3).setTile p a fun t => { t with admitAt := none, passed := false }).raise 247

/-- The failing checks of Table 09.6 for an identity record. -/
def failedChecks (s : State) (p a : Nat) (pay : List Byte) : List Nat :=
  let valid := s.on (F.CMC_REC3_VALID p a)
  let uid := (List.range 3).all fun i => numAt pay (32 + 4 * i) 4 == s.f (F.CMC_REC_UNITID p a i)
  let fw := (List.range 4).all fun i => numAt pay (48 + 4 * i) 4 == s.f (F.CMC_EXP_FW_VER i)
  let hash := (List.range 8).all fun i => numAt pay (64 + 4 * i) 4 == s.f (F.CMC_EXP_HASH_HASH i)
  let gen := numAt pay 0 4 == s.f F.CMT_GEN_GEN
  [(1, valid && !uid), (2, !valid), (3, !fw), (4, !hash), (5, !gen)].filterMap fun x => if x.2 then some x.1 else none

/-- The identity reply of an Identifying tile is checked (R214). -/
def checkIdentity (s : State) (p a : Nat) (pay : List Byte) : State :=
  let bad := s.failedChecks p a pay
  let s := (s.setF (F.CMC_T_QMASK p a) (bad.foldl (fun m r => m + 2 ^ (r - 1)) 0)).setF (F.CMC_T_REASON p a) (bad.headD 0)
  if bad.isEmpty then
    let s := s.setTile p a fun t => { t with passed := true }
    if s.on F.CMC_CTL_AUTOADMIT && (s.tile p a).admitAt.isNone then s.admitTile p a else s
  else (s.quarantine p a).raiseIf (bad.headD 0 == 1) 248

/-- ADMIT_CMD: CMC_ADMIT ACTION 1 admits a tile that has passed the checks. [DEDUCED, log entry 107] -/
def admitCmd (s : State) (p a : Nat) : State :=
  if !s.polls || s.tileState p a ≠ 1 || !(s.tile p a).passed || (s.tile p a).admitAt.isSome then s
  else s.withPollState p a fun s => s.admitTile p a

/-- QUARANTINE_CMD: CMC_ADMIT ACTION 2. -/
def quarantineCmd (s : State) (p a : Nat) : State :=
  if !s.polls || s.tileState p a = 0 then s else s.withPollState p a fun s => s.quarantine p a

/-- RECHECK_CMD: CMC_ADMIT ACTION 3. -/
def recheckCmd (s : State) (p a : Nat) : State :=
  if !s.polls || s.tileState p a = 0 then s else s.withPollState p a fun s => s.identify p a

/-- The tiles whose ADMIT names boundary n or an earlier one become Admitted (Table 09.7, event 246). -/
def admitFrame (s : State) (n : Nat) : State :=
  if !s.isSender then s
  else
    (s.portsOn.flatMap fun p => (s.tilesOn p).map fun a => (p, a)).foldl (fun s x =>
      if (s.tile x.1 x.2).admitAt.any fun m => decide (m ≤ n) then
        s.withPollState x.1 x.2 fun s =>
          ((s.setF (F.CMC_T_TSTATE x.1 x.2) 2).setTile x.1 x.2 fun t => { t with admitAt := none }).raise 246
      else s) s

/-! ### Polling (R204 to R207) -/

/-- Send polls of a port until OUT are outstanding or the cycle has none left. -/
def pump : Nat → State → Nat → State
  | 0, s, _ => s
  | fuel + 1, s, p =>
    let x := s.poll p
    match x.queue with
    | [] => s
    | a :: q =>
      if s.f F.CMC_POLL_OUTM1 + 1 ≤ x.out.length then s
      else if s.tileState p a = 0 then pump fuel (s.setPoll p fun y => { y with queue := q }) p
      else
        let kind := if s.tileState p a = 1 then 1 else 0
        let t := s.tile p a
        let s := s.toTile p t.farSide (s.mkFrame 0x01 x.tag a ([BitVec.ofNat 8 kind, 0] ++ leBytes 4 t.evack) [])
        let s := s.setPoll p fun y => { y with queue := q, out := y.out ++ [(x.tag, a, kind)], tag := (x.tag + 1) % 4096 }
        pump fuel (s.bump (F.CMC_P_POLLS_COUNT p)) p

/-- A poll cycle begins at a frame boundary n that is due, or is skipped on a port whose last cycle has not finished (R204). -/
def pollCycle (s : State) (n : Nat) : State :=
  if !s.polls then s
  else if !(s.cmc.fresh || n % (s.f F.CMC_POLL_CYCLEM1 + 1) == 0) then s
  else
    let first := s.cmc.fresh
    let s := s.portsOn.foldl (fun s p =>
      if !(s.poll p).queue.isEmpty || !(s.poll p).out.isEmpty then s.raise 251
      else pump 100 (s.setPoll p fun y => { y with queue := s.tilesOn p }) p) s
    let s := if first then s.admitted.foldl (fun s x => s.sendScap x.1 x.2) s else s
    s.setCmc fun c => { c with fresh := false }

/-- POLL_TIMEOUT: the oldest poll outstanding on a port has no good reply within TMO (R207). [DEDUCED, log entry 104] -/
def pollTimeout (s : State) (p : Nat) : State :=
  match (s.poll p).out with
  | [] => s
  | (_, a, _) :: rest =>
    let s := s.setPoll p fun y => { y with out := rest }
    if !s.polls then s
    else
      let s := if s.clk.now < (s.tile p a).quietTo then s
        else s.withPollState p a fun s =>
          let s := (s.bump (F.CMC_P_MISS_COUNT p)).bumpSat (F.CMC_T_MISSES p a)
          if s.f F.CMC_POLL_MISS ≤ s.f (F.CMC_T_MISSES p a) then s.tileLost p a else s
      pump 100 s p

/-- The Up bits of a tile have changed since its last reply (R213). -/
def upChanged (s : State) (p a up : Nat) : Bool := (s.tile p a).up.any fun u => u != up

/-- What a good reply of tile a tells the master (R206 to R210, R213, R214, R336). -/
def replyTake (s : State) (p a kind : Nat) (w : WFrame) : State :=
  let pay := w.payload
  let ts := numAt pay 12 1
  let up := ts / 4 % 4
  let change := s.upChanged p a up
  let s := if s.tileState p a = 4 then (s.identify p a).raise 250 else s
  let s := s.setF (F.CMC_T_MISSES p a) 0
  let (rack, uack) := (numAt w.tspec 6 2 % 4096, numAt w.tspec 8 2 % 4096)
  let far := s.heard && !ts.testBit (4 + s.ownDir)
  let s := s.setTile p a fun t => { t with
    drl := derateClamp (numAt pay 8 2), up := some up, farSide := if s.heard then far else false
    evack := (numAt w.tspec 2 4 + numAt w.tspec 1 1) % 2 ^ 32
    unacked := t.unacked.filter fun u => !tagAcked u.tag (if u.typ = 0x50 then rack else uack) }
  let s := if s.tileState p a = 1 ∧ kind = 1 then
      let s := if (s.tile p a).unacked.isEmpty ∧ !(s.tile p a).passed then
          s.setTile p a fun t => { t with regTag := rack, updTag := uack } else s
      if pay.length < 100 then s else s.checkIdentity p a pay
    else if s.tileState p a = 2 ∧ numAt pay 0 4 ≠ s.f F.CMT_GEN_GEN then s.identify p a
    else s
  if change then s.enumerate p else s

/-- REPLY_RX: a REPLY on port p answers an outstanding poll (R206, R207). [DEDUCED, log entry 104] -/
def replyRx (s : State) (p : Nat) (w : WFrame) : State :=
  match (s.poll p).out.find? fun x => x.1 == w.tag && x.2.1 == w.src with
  | none => s
  | some (t, a, kind) =>
    let s := s.setPoll p fun y => { y with out := y.out.erase (t, a, kind) }
    let s := s.withPollState p a fun s => s.replyTake p a kind w
    if s.polls then pump 100 s p else s

/-! ### The wall cap (R403) -/

/-- CAP_POLL: at a frame whose full count is a multiple of 64 the master reads THM_SCAPREQ of every admitted tile. [DEDUCED, log entry 89] -/
def capPoll (s : State) (n : Nat) : State :=
  if !s.polls || n % 64 ≠ 0 then s
  else s.admitted.foldl (fun s x =>
    let (tag, s) := s.sendNumbered x.1 x.2 0x50 [2] (leBytes 4 R.THM_SCAPREQ)
    s.setTile x.1 x.2 fun t => { t with scapTag := some tag }) s

/-- The wall cap: the lowest non-zero REQ of this device and its admitted tiles, 0 for none. -/
def wallCap (s : State) : Nat :=
  ((s.f F.THM_SCAPREQ_REQ :: s.admitted.map fun x => (s.tile x.1 x.2).scapReq).filter (· != 0)).foldl
    (fun m r => if m = 0 then r else min m r) 0

/-- The wall cap as THM_SCAP and to every admitted tile, when it has changed. [DEDUCED, log entry 89] -/
def capSpread (s : State) (write : State → Word → State) : State :=
  let cap := s.wallCap
  if !s.polls || !s.framed || cap == s.f F.THM_SCAP_CAP then s
  else
    let w := F.THM_SCAP_FRAME.put (F.THM_SCAP_CAP.put 0 cap) (s.boundaryAhead 4)
    let s := write s w
    s.admitted.foldl (fun s x => s.sendScap x.1 x.2) s

/-- A REGDATA frame answers a read of THM_SCAPREQ. -/
def regDataRx (s : State) (p : Nat) (w : WFrame) (write : State → Word → State) : State :=
  if w.src = 0 ∨ 96 < w.src ∨ (s.tile p w.src).scapTag ≠ some w.tag then s
  else
    let req := F.THM_SCAPREQ_REQ.get (BitVec.ofNat 32 (numAt w.payload 0 4))
    (s.setTile p w.src fun t => { t with scapTag := none, scapReq := req }).capSpread write

/-! ### Chain warm reset on the master (R380, R381) -/

/-- CHAIN_RESET_CMD: a write to RPS_CHRST on the poll master. -/
def chainResetCmd (s : State) (ports addr : Nat) : State :=
  if !s.polls then s
  else
    let ps := s.portsOn.filter ports.testBit
    let s := ps.foldl (fun s p =>
      let far := decide (1 ≤ addr ∧ addr ≤ 96) && (s.tile p addr).farSide
      (s.toTile p far (s.mkFrame 0x70 0 addr [1] [])).setPoll p fun x => { x with noEnum := true }) s
    s.raise 12

/-- CHAIN_RESET_ENUM: 25 ms after the frame was sent the ports are enumerated again. -/
def chainResetEnum (s : State) : State :=
  let ps := s.portsOn.filter fun p => (s.poll p).noEnum
  let s := ps.foldl (fun s p => s.setPoll p fun x => { x with noEnum := false }) s
  ps.foldl enumerate s

end State

end Sys2Proof.Machine
end

