-- ==== Sys2Proof/Machine/Thermal.lean ====
section
/-! DEFINITION. Thermal management (chapter 18): sensors, zones, comparisons, throttle stages, the slot cap, shutdown and its
release, masks, and ENTDAA on the I3C buses (R153, R395). -/

namespace Sys2Proof.Machine

namespace State

/-! ### Sensors (R394, R395, R399); die sensor d is sensor d, board sensor b is sensor 16 + b -/

def sensorState (i : Nat) : Fld := if i < 16 then F.THM_D_STATE i else F.THM_B_STATE (i - 16)
def sensorT16 (i : Nat) : Fld := if i < 16 then F.THM_D_T16 i else F.THM_B_T16 (i - 16)

/-- The sensors that exist: D0 to D11, and the present board sensors of a Tile that have been through ENTDAA. -/
def sensors (s : State) : List Nat :=
  List.range 12 ++ if s.isTile then
    ((List.range 16).filter fun b => s.on (F.THM_B_CFG_EN b) && s.thm.found.testBit b).map fun b => 16 + b
  else []

def masked (s : State) (i : Nat) : Bool := if i < 16 then (s.f F.THM_MASK_DIE).testBit i else (s.f F.THM_MASK_BOARD).testBit (i - 16)

/-- A sensor's state as its readings and its mask make it; THM_FAIL follows. [DEDUCED, log entry 82] -/
def noteSensor (s : State) (i : Nat) (failed : Bool) : State :=
  let st := if s.masked i then 3 else if failed then 2 else if s.thm.seen.testBit i then 1 else 0
  let s := s.setF (sensorState i) st
  let put := fun (m : Nat) (k : Nat) => if st = 2 then m ||| 2 ^ k else if m.testBit k then m - 2 ^ k else m
  if i < 16 then s.setF F.THM_FAIL_DIE (put (s.f F.THM_FAIL_DIE) i) else s.setF F.THM_FAIL_BOARD (put (s.f F.THM_FAIL_BOARD) (i - 16))

/-- Has the sensor failed and not recovered: three bad readings in a row, or no answer to ENTDAA? -/
def failing (s : State) (i : Nat) : Bool := decide (3 ≤ tabAt s.thm.bad i 0)

/-- A reading of a sensor: its T16, or none for one that did not complete. [DEDUCED, log entry 93] -/
def takeReading (s : State) (i : Nat) (reading : Option Int) : State :=
  let was := s.failing i
  match reading.filter fun t => decide (-640 ≤ t ∧ t ≤ 2400) with
  | some t =>
    let good := min 16 (tabAt s.thm.good i 0 + 1)
    let back := was && good == 16
    let s := s.setThm fun x => { x with
      good := tabMod x.good i fun _ => good, bad := if was && !back then x.bad else tabMod x.bad i fun _ => 0, seen := x.seen ||| 2 ^ i }
    ((s.setF (sensorT16 i) (twos 16 t)).noteSensor i (was && !back)).raiseIf (back && !s.masked i) 24
  | none =>
    let bad := min 3 (tabAt s.thm.bad i 0 + 1)
    let s := s.setThm fun x => { x with good := tabMod x.good i fun _ => 0, bad := tabMod x.bad i fun _ => bad }
    (s.noteSensor i (bad == 3)).raiseIf (!was && bad == 3 && !s.masked i) 23

/-- SENSOR_CONVERSION: a conversion of die sensor d, before the offset trim of the record (Table 19.2, TSOFF). -/
def sensorConversion (s : State) (d : Nat) (raw : Option Int) : State :=
  s.takeReading d (raw.map fun t => t + sgn 16 (leVal (s.recRead (0x1A0 + 2 * d) 2)))

/-- BOARD_SENSOR_READ: the two bytes read at REGIDX, first byte high, or none for a NACK or a timeout. -/
def boardSensorRead (s : State) (b : Nat) (bytes : Option Nat) : State :=
  if !s.sensors.contains (16 + b) then s
  else
    let s := s.emit (.i3c (s.f (F.THM_B_CFG_BUS b)) (s.f (F.THM_B_DADDR b)) (leBytes 1 (s.f (F.THM_B_CFG_REGIDX b))))
    s.takeReading (16 + b) (bytes.map fun v => if s.on (F.THM_B_CFG_FMT b) then sgn 16 v else sgn 16 v / 16)

/-- MASK_SET: a write to THM_MASK_SET (R399). [DEDUCED, log entry 82] -/
def maskSet (s : State) (w : Word) : State :=
  let i := F.THM_MASK_SET_SENSOR.get w
  let v := F.THM_MASK_SET_VALUE.get w == 1
  if F.THM_MASK_SET_KEY.get w ≠ 0x7E81 ∨ (12 ≤ i ∧ i < 16) ∨ s.masked i = v then s
  else
    let flip := fun (m : Nat) (k : Nat) => if v then m ||| 2 ^ k else m - 2 ^ k
    let s := if i < 16 then s.setF F.THM_MASK_DIE (flip (s.f F.THM_MASK_DIE) i)
      else s.setF F.THM_MASK_BOARD (flip (s.f F.THM_MASK_BOARD) (i - 16))
    let s := if i < 16 || s.sensors.contains i then s.noteSensor i (s.failing i) else s
    s.raise 25

/-! ### Zones (R396, R398) -/

/-- The zone of a sensor. -/
def zoneOf (s : State) (i : Nat) : Nat := if i < 16 then i / 3 else s.f (F.THM_B_CFG_ZONE (i - 16))

/-- The sensors of a zone that take part in its comparisons: Valid or Failed, not masked. -/
def zoneSensors (s : State) (z : Nat) : List Nat :=
  s.sensors.filter fun i => s.zoneOf i == z && (s.f (sensorState i) == 1 || s.f (sensorState i) == 2)

def sensorFailed (s : State) (i : Nat) : Bool := s.f (sensorState i) == 2
def zoneValid (s : State) (z : Nat) : Nat := ((s.zoneSensors z).filter fun i => !s.sensorFailed i).length

/-- The highest of a list of (sensor, value) pairs. -/
def hottest : List (Nat × Int) → Option (Nat × Int)
  | [] => none
  | x :: xs => match hottest xs with
    | some y => some (if x.2 < y.2 then y else x)
    | none => some x

/-- The value of a zone for warning and throttle, with its sensor: a Failed sensor reads as the maximum code. -/
def zoneValue (s : State) (z : Nat) : Option (Nat × Int) :=
  hottest ((s.zoneSensors z).map fun i => (i, if s.sensorFailed i then 0x7FFF else s.fS (sensorT16 i)))

/-- The Failed sensors of a zone that enter its shutdown comparison. -/
def zoneSubst (s : State) (z : Nat) : List Nat := if s.zoneValid z < 2 then (s.zoneSensors z).filter s.sensorFailed else []

/-- The value of a zone for shutdown, with its sensor. -/
def zoneShut (s : State) (z : Nat) : Option (Nat × Int) :=
  let sub := s.zoneSubst z
  hottest (((s.zoneSensors z).filter fun i => !s.sensorFailed i || sub.contains i).map fun i =>
    (i, if s.sensorFailed i then 0x7FFF else s.fS (sensorT16 i)))

/-- A threshold of a zone in 1/16 °C: comparison 0 warning, 1 throttle, 2 shutdown (Table 18.2). -/
def threshold (s : State) (z k : Nat) : Int :=
  16 * (((if z < 4 then s.reg R.THM_LIMD else s.reg R.THM_LIMB).toNat / 2 ^ (8 * k) % 256 : Nat) : Int)

def zoneOver (s : State) (z k : Nat) : Bool := (s.f (F.THM_Z_OVER z)).testBit k
def anyThrottle (s : State) : Bool := (List.range 8).any fun z => s.zoneOver z 1

/-- One sample of a comparison: it changes after 250 ms of samples beyond its level (R396). [DEDUCED, log entry 81] -/
def compare (s : State) (z k : Nat) (v : Option Int) : State :=
  let i := 3 * z + k
  let past := s.zoneOver z k
  let put := fun (s : State) (o : Bool) => s.setF (F.THM_Z_OVER z) (if o then s.f (F.THM_Z_OVER z) ||| 2 ^ k else
    if past then s.f (F.THM_Z_OVER z) - 2 ^ k else s.f (F.THM_Z_OVER z))
  let dwell := fun (s : State) (d : Nat) => s.setThm fun x => { x with dwell := tabMod x.dwell i fun _ => d }
  match v with
  | none => dwell (put s false) 0
  | some v =>
    let hit := if past then decide (v ≤ s.threshold z k - 80) else decide (s.threshold z k ≤ v)
    if !hit then dwell s 0
    else if tabAt s.thm.dwell i 0 + 1 < 251 then dwell s (tabAt s.thm.dwell i 0 + 1)
    else dwell (put s (!past)) 0

/-- One zone's sample: THM_Zz, the three comparisons, and events 16, 17 and 30. -/
def zoneStep (s : State) (z : Nat) : State :=
  let sub := s.zoneSubst z
  let told := sub.all fun i => s.thm.subst.testBit i
  let v := (s.zoneValue z).map (·.2)
  let s := (s.setF (F.THM_Z_VAL z) (twos 16 (v.getD 0))).setF (F.THM_Z_NVALID z) (s.zoneValid z)
  let warn := s.zoneOver z 0
  let s := ((s.compare z 0 v).compare z 1 v).compare z 2 ((s.zoneShut z).map (·.2))
  let s := (s.raiseIf (!warn && s.zoneOver z 0) 16).raiseIf (warn && !s.zoneOver z 0) 17
  s.raiseIf (!told) 30

/-- THM_HOT: the hottest Valid die and board readings. -/
def noteHot (s : State) : State :=
  let best := fun (p : Nat → Bool) => ((hottest ((s.sensors.filter fun i => p i && s.f (sensorState i) == 1).map fun i =>
    (i, s.fS (sensorT16 i)))).map (·.2)).getD 0
  (s.setF F.THM_HOT_DIE (twos 16 (best fun i => decide (i < 16)))).setF F.THM_HOT_BOARD (twos 16 (best fun i => decide (16 ≤ i)))

/-! ### Throttle stages (R400 to R404) -/

def bubblesUp (s : State) : State := s.setF F.FAB_THR_REQ (min 48 (s.f F.FAB_THR_REQ + 4))

/-- The stage as the throttle comparisons leave it: stage 1 begins with the first Over, a release is undone by a new Over, and stage 1
ends when nothing is left to undo.  A device held in reset has no stage. [DEDUCED, log entry 94] -/
def stageStep (s : State) (was : Bool) : State :=
  let any := s.anyThrottle
  let st := s.f F.THM_STATUS_STAGE
  if s.rps.held then s
  else if any && st == 0 then
    (((s.luxSpoil.setF F.THM_STATUS_STAGE 1).noteScrub).setCmt fun c => { c with dumpSusp := true }).raise 18
  else if any && !was && st == 2 then s.bubblesUp
  else if !any && st != 0 && s.f F.FAB_THR_REQ == 0 && s.f F.THM_SCAPREQ_REQ == 0 then
    ((s.setF F.THM_STATUS_STAGE 0).noteScrub).raise 20
  else s

/-- The release of a reset: bring-up starts, and with a throttle comparison still Over stage 1 is in force again (R400). -/
def releaseReset (s : State) : State := s.startBringup.stageStep false

/-- STAGE2_START (R401): stage 1 has lasted S2DLY with a throttle comparison still Over. -/
def stage2Start (s : State) : State :=
  if s.f F.THM_STATUS_STAGE ≠ 1 || !s.anyThrottle then s else ((s.setF F.THM_STATUS_STAGE 2).raise 19).bubblesUp

/-- BUBBLE_STEP (R401, R404): 250 ms have passed. [DEDUCED, log entry 94] -/
def bubbleStep (s : State) : State :=
  if s.anyThrottle then (if s.f F.THM_STATUS_STAGE = 2 then s.bubblesUp else s)
  else if s.f F.THM_STATUS_STAGE = 0 ∨ s.f F.THM_SCAPREQ_REQ ≠ 0 then s
  else (s.setF F.FAB_THR_REQ (s.f F.FAB_THR_REQ - 4)).stageStep false

/-- The slot counts of a cap, downward. -/
def capSeries : List Nat := [8, 6, 4, 3, 2, 1]

/-- SLOT_CAP_STEP (R402, R404): S2DLY has passed with THROTTLED set, or in release. -/
def slotCapStep (s : State) : State :=
  let sact := s.f F.DSP_STATUS_SACT
  let req := s.f F.THM_SCAPREQ_REQ
  if s.f F.THM_STATUS_STAGE = 0 then s
  else if s.anyThrottle then
    if !s.on F.FAB_STATUS_THROTTLED then s
    else match capSeries.find? fun k => decide (k < sact) with
      | some k => s.setF F.THM_SCAPREQ_REQ k
      | none => s
  else if req = 0 then s
  else
    let up := ((capSeries.filter fun k => decide (req < k)).getLast?).getD 0
    (s.setF F.THM_SCAPREQ_REQ (if up = 0 ∨ s.f F.DSP_MODE_SLOTS ≤ up then 0 else up)).stageStep false

/-- SCAP_WRITE (R403): THM_SCAP has been written. [DEDUCED, log entry 79] -/
def scapWrite (s : State) (w : Word) : State :=
  let cap := F.THM_SCAP_CAP.get w
  let s' := (s.setF F.THM_SCAP_CAP cap).setF F.THM_SCAP_FRAME (F.THM_SCAP_FRAME.get w)
  if s.role = 0 then s'
  else if !s.timed then s'.setThm fun t => { t with scapN := some 0, scapLate := false }
  else
    let first := s.frameNow + 2
    match (resolve s.frameNow (F.THM_SCAP_FRAME.get w)).filter fun n => decide (first ≤ n) with
    | some n => s'.setThm fun t => { t with scapN := some n, scapLate := false }
    | none => s'.setThm fun t => { t with scapN := some first, scapLate := true }

/-! ### Shutdown (R405, R406) -/

/-- The shutdown sequence once no MRAM pulse is in progress. -/
def shutdownTake (s : State) : State :=
  match (List.range 8).find? fun z => s.zoneOver z 2 with
  | none => s
  | some z =>
    let (i, t) := (s.zoneShut z).getD (0, 0)
    let w := min 255 (s.f F.THM_SDREC_COUNT + 1) + z * 2 ^ 8 + i * 2 ^ 11 + twos 16 t * 2 ^ 16
    let s := if s.mramOk then s.mramWr 0x30 (leBytes 4 w) else s
    let auto' := s.part7440 && s.isSender
    let s := s.takeReset { level := 2, source := 5, keep := false }
    let s := s.setRps fun r => { r with latch := true, autoRel := auto', owed := (r.owed.filter (· != 26)) ++ [26] }
    (s.setF F.RPS_AON_PGCORE 0).emit (.pwrEn false)

/-- A shutdown comparison is Over: the shutdown, at once or after the MRAM pulse in progress. -/
def shutdown (s : State) (pulse : Bool) : State :=
  if s.rps.latch || (List.range 8).all (fun z => !s.zoneOver z 2) then s
  else if pulse then
    (s.bump F.RPS_DEFER_COUNT).setRps fun x => { x with deferred := x.deferred ++ [{ level := 2, source := 5, keep := false }] }
  else s.shutdownTake

/-- MRAM_PULSE_END (R379): the resets and the shutdown that waited take effect. -/
def pulseEnd (s : State) : State :=
  s.rps.deferred.foldl (fun s r => if r.source = 5 then s.shutdownTake else s.takeReset r) (s.setRps fun x => { x with deferred := [] })

/-- ZONE_SAMPLE: one millisecond's zone values and comparisons; `pulse` tells of an MRAM write pulse in progress. -/
def zoneSample (s : State) (pulse : Bool) : State :=
  let was := s.anyThrottle
  let s := (List.range 8).foldl zoneStep s
  let sub := (List.range 8).flatMap s.zoneSubst
  let s := s.setThm fun t => { t with subst := sub.foldl (fun m i => m ||| 2 ^ i) 0 }
  let bits := fun (k : Nat) => ((List.range 8).filter fun z => s.zoneOver z k).foldl (fun m z => m + 2 ^ z) 0
  let s := ((s.setF F.THM_STATUS_WARN (bits 0)).setF F.THM_STATUS_THROT (bits 1)).noteHot.noteMcomp.recRepair
  (s.stageStep was).shutdown pulse

/-- SHUTDOWN_RELEASE (R406): on a Sender, zones 0 to 3 have stood at or below 103 °C for 10 s. -/
def shutdownRelease (s : State) : State :=
  let cool := (List.range 4).all fun z => (s.zoneSubst z).isEmpty && (s.zoneShut z).any fun x => decide (x.2 ≤ 16 * 103)
  if !s.rps.latch || !s.rps.autoRel || !cool then s
  else (s.setRps fun r => { r with latch := false, owed := r.owed ++ [27] }).releaseReset

/-! ### ENTDAA (R153, R154, R395) -/

/-- The dynamic address at or after `a` that MIPI I3C Basic does not reserve. -/
def i3cAddr : Nat → Nat → Nat
  | 0, a => a
  | n + 1, a => if [0x3E, 0x5E, 0x6E, 0x76, 0x7A, 0x7C, 0x7E, 0x7F].contains a then i3cAddr n (a + 1) else a

/-- The PID of a board sensor. -/
def boardPid (s : State) (b : Nat) : Nat := s.f (F.THM_B_ID_PIDL b) + 2 ^ 32 * s.f (F.THM_B_CFG_PIDH b)

/-- One target wins the arbitration and takes the next address. [PRESUMED, log entry 56] -/
def i3cAssign (s : State) (bus pid : Nat) : State :=
  let a := i3cAddr 8 (s.lux.next.getD bus 8)
  let s := s.setLux fun l => { l with next := setAt l.next bus fun _ => a + 1 }
  let s := (List.range 4).foldl (fun s g =>
    if s.present .LUX && decide (g < s.luxN) && s.luxBus g == bus && s.luxPid g == pid then s.luxFound g a else s) s
  (List.range 16).foldl (fun s b =>
    if s.on (F.THM_B_CFG_EN b) && s.f (F.THM_B_CFG_BUS b) == bus && s.boardPid b == pid then
      (s.setF (F.THM_B_DADDR b) a).setThm fun t => { t with found := t.found ||| 2 ^ b }
    else s) s

/-- I3C_ENTDAA: the PIDs of the targets without an address, in the order in which they win the arbitration. [DESIGN CHOICE, log entry 57] -/
def i3cEntdaa (s : State) (bus : Nat) (pids : List Nat) : State :=
  if !s.isTile then s
  else
    let first := !(tabAt s.lux.ran bus true)
    let s := s.setLux fun l => { l with ran := tabMod l.ran bus fun _ => true }
    let s := pids.foldl (fun s p => s.i3cAssign bus p) (s.emit (.i3c bus 0x7E []))
    let lost := (List.range 4).filter fun g =>
      s.present .LUX && decide (g < s.luxN) && s.luxBus g == bus && s.f (F.LUX_G_SNS_STATE g) != 1
    let s := lost.foldl luxFail s
    let s := s.raiseIf (first && !lost.isEmpty) 209
    (List.range 16).foldl (fun s b =>
      if s.on (F.THM_B_CFG_EN b) && s.f (F.THM_B_CFG_BUS b) == bus && !s.thm.found.testBit b then
        let was := s.failing (16 + b)
        let s := s.setThm fun t => { t with found := t.found ||| 2 ^ b, bad := tabMod t.bad (16 + b) fun _ => 3 }
        (s.noteSensor (16 + b) true).raiseIf (!was && !s.masked (16 + b)) 23
      else s) s

/-- SENSOR_RETRY: ENTDAA is retried for Failed group g. -/
def sensorRetry (s : State) (g : Nat) (answered : Bool) : State :=
  if !s.present .LUX || s.luxN ≤ g || s.f (F.LUX_G_SNS_STATE g) ≠ 2 then s
  else
    let s := s.emit (.i3c (s.luxBus g) 0x7E [])
    if answered then s.i3cAssign (s.luxBus g) (s.luxPid g) else s

/-- Board sensors that a commit has made absent are forgotten. -/
def boardsNote (s : State) : State :=
  (List.range 16).foldl (fun s b =>
    if s.on (F.THM_B_CFG_EN b) then s
    else
      let s := { s with regs := RegFile.set s.regs (R.THM_B b) 0 }
      let s := if (s.f F.THM_FAIL_BOARD).testBit b then s.setF F.THM_FAIL_BOARD (s.f F.THM_FAIL_BOARD - 2 ^ b) else s
      s.setThm fun t => { t with
        found := if t.found.testBit b then t.found - 2 ^ b else t.found
        bad := tabMod t.bad (16 + b) fun _ => 0, good := tabMod t.good (16 + b) fun _ => 0
        seen := if t.seen.testBit (16 + b) then t.seen - 2 ^ (16 + b) else t.seen }) s

end State

end Sys2Proof.Machine
end

