-- ==== Sys2Proof/Machine/Rules.lean ====
section
/-! DEFINITION. The state a commit would leave (R226, R275, R41), and the consistency rules of every chapter (R273, Table 12.1). -/

namespace Sys2Proof.Machine

/-- The first element that satisfies a condition, with its code. [DEDUCED, log entry 88] -/
def ruleIdx (code : Nat) (l : List Nat) (p : Nat → Bool) : Option (Nat × Nat) := (l.find? p).map fun i => (code, i)

/-- A rule without an index. -/
def ruleIf (code : Nat) (b : Bool) : Option (Nat × Nat) := if b then some (code, 0) else none

/-- The first rule that fails, in the order given. -/
def firstSome : List (Option (Nat × Nat)) → Option (Nat × Nat)
  | [] => none
  | some r :: _ => some r
  | none :: rs => firstSome rs

def outside (x lo hi : Nat) : Bool := decide (x < lo ∨ hi < x)
def sumOf (l : List Nat) : Nat := l.foldl (· + ·) 0

namespace State

/-! ### What a commit leaves -/

/-- NUM, DEN and SACT follow DSP_MODE and the slot cap (R221, R403). -/
def modeSet (s : State) : State :=
  match modeRate (s.f F.DSP_MODE_INDEX) with
  | some (num, den) =>
    ((s.setF F.DSP_NUM_NUM num).setF F.DSP_DEN_DEN den).setF F.DSP_STATUS_SACT
      (capped (s.f F.DSP_MODE_SLOTS) (s.f F.THM_STATUS_CAP))
  | none => s

/-- The snapshot's staged bits of the registers of blocks that satisfy a condition, but for fields the image fixes (R41). -/
def applyKept (act snap : RegFile) (keep : Blk → Bool) : RegFile :=
  (act ++ snap).foldl
    (fun r p =>
      let m := accMask p.1 fun f => f.acc == .st && f.img != 2
      if m = 0 || !((blkOf p.1).any keep) then r else r.set p.1 ((act.get p.1 &&& ~~~ m) ||| (snap.get p.1 &&& m))) act

/-- The stage view after a change of image: what the host staged stays, but for fields the image fixes (R41). -/
def stageKept (old new : RegFile) (keep : Blk → Bool) : RegFile :=
  (old ++ new).foldl
    (fun r p =>
      let m := accMask p.1 fun f => f.acc == .st && f.img != 2
      if m = 0 || !((blkOf p.1).any keep) then r else r.set p.1 ((new.get p.1 &&& ~~~ m) ||| (old.get p.1 &&& m))) new

/-- A change of the running image to a slot, with a commit's snapshot (R36, R41). -/
def imageSwap (s : State) (snap : RegFile) (slot : Nat) : State :=
  let now := fun (b : Blk) => s.present b
  let t := s.imgFields slot false
  let keep := fun (b : Blk) => now b && t.present b
  let gone := fun (a : Nat) => (blkOf a).any fun b => !keep b
  let u := { s with regs := RegFile.clear s.regs gone, stage := RegFile.clear s.stage gone }.imgFields slot false
  let u := (u.setF (F.SYS_IMG_STAT_STATE slot) 4).setF (F.SYS_IMG_STAT_STATE (1 - slot)) 2
  { u with regs := applyKept u.regs snap keep, stage := stageKept s.stage u.stage keep }

/-- Does a snapshot change the image, or the timing mode, of the view it would replace (R38, R221)? -/
def imageChange (base snap : RegFile) : Bool := base.fld F.SYS_IMG_SEL_SLOT != snap.fld F.SYS_IMG_SEL_SLOT
def indexChange (s : State) (base snap : RegFile) : Bool :=
  s.present .DSP && base.fld F.DSP_MODE_INDEX != snap.fld F.DSP_MODE_INDEX
def heavyChange (s : State) (base snap : RegFile) : Bool := imageChange base snap || s.indexChange base snap

/-- The state that a commit with this snapshot would leave, on the view in effect before it. -/
def candidate (s : State) (snap base : RegFile) : State :=
  let s := { s with regs := base }
  if imageChange base snap then (s.imageSwap snap (snap.fld F.SYS_IMG_SEL_SLOT)).modeSet
  else ({ s with regs := RegFile.applyStaged base snap }).modeSet

/-! ### Table 12.2 -/

/-- May the state of the slot named by a heavy commit stand (rule 0x02)? -/
def slotStands (s : State) (base snap : RegFile) : Bool :=
  let st := s.f (F.SYS_IMG_STAT_STATE (snap.fld F.SYS_IMG_SEL_SLOT))
  if imageChange base snap then st == 2 else (st == 2 || st == 4)

/-- The slot named by a heavy commit: fails its state or its revalidation, with the code of Table 02.8. -/
def slotFault (s : State) (base snap : RegFile) : Bool × Nat :=
  let k := snap.fld F.SYS_IMG_SEL_SLOT
  let (fail, _) := Img.validate (s.slotBytes k) s.part7440
  if s.slotStands base snap then (fail != 0, fail) else (true, s.f (F.SYS_IMG_STAT_FAIL k))

/-- Rule 0x01: the slot is not below the count in effect at D, or a slot other than 0 is named with a change of mode or image. -/
def rule01 (s : State) (x : Commit) : Bool :=
  let base := s.viewBy x.due
  let snap : RegFile := x.snap
  let modes := imageChange base x.snap || (s.present .DSP && base.fld F.DSP_MODE_INDEX != snap.fld F.DSP_MODE_INDEX) ||
    (s.present .DSP && base.fld F.DSP_MODE_SLOTS != snap.fld F.DSP_MODE_SLOTS)
  decide ((s.rateFor x.due).slots ≤ x.slot) || (x.slot != 0 && modes)

/-- Does D lie in the span of a pending heavy commit, or a pending D in the span of this one (rule 0x03)?  Boundaries
stand on ticks, so a tick is allowed for. -/
def spanClash (s : State) (heavy : Bool) (due : Nat) : Bool :=
  let p := s.rate.periodU
  let u := s.tickU
  s.cmt.pend.any fun c =>
    (heavy && decide (due ≤ c.due + 2 * p + u ∧ c.due ≤ due + p + u)) ||
      (c.heavy && decide (c.due ≤ due + 2 * p + u ∧ due ≤ c.due + p + u))

/-- Rule 0x05: staged fields outside their stated range that no block rule names. -/
def rule05 (c : State) : Bool :=
  (c.present .DRV && decide (4096 < c.f F.DRV_PROBE_PROBES)) ||
  (c.present .COR && (c.f F.COR_XSPI_CFG_CLK == 3 || decide (3 ≤ c.f F.COR_XSPI_CFG_SIZE))) ||
  (c.present .HST && (outside (c.f F.HST_PGR_CTL_LOG2) 4 12 || c.pair R.HST_PGR_RING_LO R.HST_PGR_RING_HI % 4096 != 0)) ||
  (c.ethOn && (outside (c.f F.TIM_ETX_CTL_LOG2) 4 12 || outside (c.f F.TIM_ERX_CTL_LOG2) 4 12 ||
    c.f F.TIM_ETX_BASE_LO_BASE % 2048 != 0 || c.f F.TIM_ERX_BASE_LO_BASE % 2048 != 0))

/-! ### Tables 04.7, 05.x, 06.x, 07.x -/

def srcW (c : State) (n : Nat) : Nat := c.f (F.SND_SRC_SIZE_WM1 n) + 1
def srcH (c : State) (n : Nat) : Nat := c.f (F.SND_SRC_SIZE_HM1 n) + 1
def srcsOn (c : State) : List Nat := (List.range 8).filter fun n => c.on (F.SND_SRC_CTL_EN n)
def srcRate (c : State) (n : Nat) : Nat := c.srcW n * c.srcH n * c.f (F.SND_SRC_RATE_RATE n)
def canW (c : State) : Nat := c.f F.SND_CANVAS_SIZE_WM1 + 1
def canH (c : State) : Nat := c.f F.SND_CANVAS_SIZE_HM1 + 1
def layers : List (Nat × Nat) := (List.range 8).flatMap fun k => (List.range 16).map fun l => (k, l)

/-- Lane rate in units of 10^9 bit/s, and the video payload of a direction in bit/s (Table 01.4), by the image's lane rate code.  The
P42 rate is a 42nd of the payload. -/
def laneGbps (code : Nat) : Nat := 7 * 2 ^ code
def laneVideo (code : Nat) : Nat := 26750000000 * 2 ^ code

/-- An enabled layer that breaks rule 0x47. -/
def layerBad (c : State) (k l : Nat) : Bool :=
  let n := c.f (F.SND_LYR_CTL_SRC k l)
  c.on (F.SND_LYR_CTL_EN k l) &&
    (!c.on (F.SND_SRC_CTL_EN n) ||
      decide (c.srcW n < c.f (F.SND_LYR_SRCPOS_SX0 k l) + c.f (F.SND_LYR_SRCSIZE_SWM1 k l) + 1) ||
      decide (c.srcH n < c.f (F.SND_LYR_SRCPOS_SY0 k l) + c.f (F.SND_LYR_SRCSIZE_SHM1 k l) + 1) ||
      decide (c.canW < c.f (F.SND_LYR_CANPOS_CX0 k l) + c.f (F.SND_LYR_CANSIZE_CWM1 k l) + 1) ||
      decide (c.canH < c.f (F.SND_LYR_CANPOS_CY0 k l) + c.f (F.SND_LYR_CANSIZE_CHM1 k l) + 1) ||
      outside (scaleK (c.f (F.SND_LYR_SRCSIZE_SWM1 k l) + 1) (c.f (F.SND_LYR_CANSIZE_CWM1 k l) + 1)) 256 262144 ||
      outside (scaleK (c.f (F.SND_LYR_SRCSIZE_SHM1 k l) + 1) (c.f (F.SND_LYR_CANSIZE_CHM1 k l) + 1)) 256 262144)

/-- An enabled placement entry that breaks rule 0x44. [DEDUCED, log entry 95] -/
def entryBad (c : State) (e : List Byte) : Bool :=
  !c.portOn (Plc.chain e) || outside (Plc.addr e) 1 96 || outside (Plc.w e) 1 4096 || outside (Plc.h e) 1 4096 ||
    decide (1048576 < Plc.w e * Plc.h e) || ((List.range 4).any fun i => decide (8 * 65536 ≤ (Plc.aff e i).natAbs)) ||
    Plc.mesh e % 64 != 0 || (slice e 40 24).any (· != 0)

/-- A source that breaks rule 0x48. -/
def srcBad (c : State) (n : Nat) : Bool :=
  let st := c.f (F.SND_SRC_STRIDE_STRIDE n)
  decide (5 ≤ c.f (F.SND_SRC_CTL_FMT n)) || c.f (F.SND_SRC_CTL_ENC n) == 3 || st % 64 != 0 ||
    decide (st < c.srcW n * fmtBytes (c.f (F.SND_SRC_CTL_FMT n))) || outside (c.f (F.SND_SRC_RATE_RATE n)) 1 240000

/-- Does a filter bank hold a phase whose taps do not sum to 16,384? [DEDUCED, log entry 88] -/
def filterBad (c : State) (b : Nat) : Bool :=
  (List.range 64).any fun ph => (List.range 8).foldl (fun (x : Int) k => x + tap c.regs b ph k) 0 != 16384

/-- The Sender rules 0x40 to 0x4C (Table 04.7). [DEDUCED, log entry 87; DEDUCED, log entry 117] -/
def rulesSnd (c : State) (cache : PlcCache) (eccBad : Bool) : Option (Nat × Nat) :=
  let es := Plc.enabled cache
  let r : Rate := { c.rate with slots := c.f F.DSP_MODE_SLOTS }
  let px := fun (l : List (Nat × List Byte)) => sumOf (l.map fun e => Plc.w e.2 * Plc.h e.2)
  let past := fun (pixels limit : Nat) => decide (limit * max 1 r.den < pixels * r.slots * r.num)
  let lim := laneVideo (c.f F.SYS_UNITEN_LANE)
  let count := c.f F.SND_PLC_COUNT_COUNT
  let meshes := ((List.range (cache.table.length / 64)).filter fun t => Plc.meshEn (Plc.entry cache t)).length
  let room := match c.region 3 with | some (_, n) => n | none => 0
  let base := c.f F.SND_PLC_BASE_LO_BASE + 2 ^ 32 * c.f F.SND_PLC_BASE_HI_BASE
  let inDram := c.dramIn base (64 * count) && (List.range (cache.table.length / 64)).all fun t =>
    !Plc.meshEn (Plc.entry cache t) || c.dramIn (Plc.mesh (Plc.entry cache t)) 1024
  let annBase := c.f F.SND_ANN_BASE_LO_BASE + 2 ^ 32 * c.f F.SND_ANN_BASE_HI_BASE
  let annSt := c.f F.SND_ANN_STRIDE_STRIDE
  firstSome [(ruleIf 0x40 (past (px es) 7200000000)),
  (ruleIf 0x41 (decide (40000000000000 < sumOf (c.srcsOn.map fun n => c.srcRate n * fmtBytes (c.f (F.SND_SRC_CTL_FMT n)))))),
  (ruleIf 0x42 (decide (6500000000000 < sumOf (c.srcsOn.map c.srcRate)))),
  (ruleIf 0x43 ((List.range 8).any fun p => past (42 * px (es.filter fun e => Plc.chain e.2 == p)) lim)),
  ((es.find? fun e => c.entryBad e.2).map fun e => (0x44, e.1)),
  ((es.find? fun e => es.any fun e' => decide (e'.1 < e.1) && Plc.chain e'.2 == Plc.chain e.2 && Plc.addr e'.2 == Plc.addr e.2).map
    fun e => (0x45, e.1)),
  (ruleIf 0x46 (decide (768 < count) || (List.range 8).any fun p => decide (96 < (es.filter fun e => Plc.chain e.2 == p).length))),
  ((layers.find? fun x => c.layerBad x.1 x.2).map fun x => (0x47, 16 * x.1 + x.2)),
  (ruleIdx 0x48 c.srcsOn c.srcBad),
  (ruleIf 0x48 (c.f F.SND_CANVAS_ENC == 3)),
  (ruleIdx 0x49 (List.range 4) c.filterBad),
  (ruleIf 0x4A (decide (room < 2 * (64 * count + 1024 * meshes)))),
  (ruleIf 0x4B (eccBad || !inDram)),
  ruleIf 0x4C (c.f F.SND_ANN_SLOTS_SLOTS != 0 && (annBase % 64 != 0 || annSt % 64 != 0 || decide (annSt < c.canW)))]

/-- The correction rules 0x50 to 0x58; `s` is the state before the commit. -/
def rulesCor (s c : State) : Option (Nat × Nat) :=
  let r : Rate := { c.rate with slots := c.f F.DSP_MODE_SLOTS }
  let tsel := fun (b : Nat) => c.f (F.COR_TSEL_SENSOR (b / 8)) / 2 ^ (4 * (b % 8)) % 16
  let loads := s.reg R.COR_GWY_SEL != c.reg R.COR_GWY_SEL || s.gwyBase (c.f F.COR_GWY_SEL_SET) != c.gwyBase (c.f F.COR_GWY_SEL_SET)
  firstSome [(ruleIf 0x50 (outside (c.f F.COR_PWM_WIDTH) 8 16 || c.f F.COR_PWM_WIDTH != c.f F.DRV_PWM_WIDTH)),
  (ruleIf 0x51 (c.f F.COR_PWM_DMODE == 3 || c.f F.COR_CTL_ENC == 3)),
  (ruleIf 0x52 ((List.range 8).any fun k => decide (16384 < c.f (F.COR_SLOT_CTL_BRIGHT k)))),
  (ruleIf 0x53 (decide (c.f F.COR_DOSE_CTL_IREF < 4096) || outside (c.f F.COR_DOSE_CMAX_CMAX) 16384 32767 ||
    c.f F.COR_DOSE_CTL_CPER == 0)),
  (ruleIf 0x54 ([0, 1].any fun k => c.gwyBase k % 65536 != 0 || decide (c.flashSize ≤ c.gwyBase k))),
  (ruleIf 0x55 ((List.range 8).any fun k => decide (Img.corBanks c.corD ≤ c.f (F.COR_SLOT_CTL_MBANK k)))),
  (ruleIdx 0x56 (List.range 64) fun b => !c.on (F.THM_B_CFG_EN (tsel b))),
  (ruleIf 0x57 (!s.on F.COR_STATUS_TABLES_OK && !loads)),
  ruleIf 0x58 (decide (1000000000 * max 1 r.den < c.tilePixels * r.slots * r.num))]

/-- Bits of the PWM_WRITE packets of a sub-frame on a bus (R140, R237). -/
def writeBits (c : State) (drivers : Nat) : Nat :=
  (c.f F.DRV_SCAN_NM1 + 1) * 8 * (13 + cdiv (48 * c.f F.DRV_PWM_WIDTH * drivers) 8)

def busDrivers (c : State) : List Nat := (List.range (c.f F.SYS_UNITEN_BUSES)).map fun b => Img.drvDrivers c.drvD b

/-- The drive rules 0x60 to 0x65. -/
def rulesDrv (c : State) : Option (Nat × Nat) :=
  let w := c.f F.DRV_PWM_WIDTH
  let p := c.f F.DRV_SCAN_PM1 + 1
  let tdiv := c.f F.DRV_SCAN_TDIV
  let ts := c.rate.tsNs
  let trow := (ts - c.f F.DRV_TIMING_TAIL) / (p * (c.f F.DRV_SCAN_NM1 + 1))
  let deadt := cdiv (4 * c.f F.DRV_TIMING_DEAD) (max 1 tdiv)
  let ds := c.busDrivers
  firstSome [(ruleIf 0x60 (outside w 8 16 || tdiv == 0)),
  (ruleIf 0x61 (decide (4 * trow < (deadt + cdiv (2 ^ w - 1) p) * tdiv) || outside trow 1000 250000 ||
    decide (c.f F.DRV_TIMING_TAIL < 500))),
  (ruleIdx 0x62 (List.range ds.length) fun b => decide (9 * ts < 10 * c.writeBits (ds.getD b 0))),
  (ruleIf 0x63 (outside (c.f F.DRV_DIAG_MINW) 40 2000)),
  (ruleIf 0x64 (decide (1600 < c.f F.DRV_DERATE_KNEE) || outside (c.f F.DRV_DERATE_SLOPE) 1 100 ||
    outside (c.f F.DRV_DERATE_FL_FLOOR) 6554 16384 || c.f F.DRV_DERATE_SLEW == 0)),
  ruleIf 0x65 (decide (50 < c.f F.DRV_SAFE_GREY) || decide (c.fS F.DRV_SYNCPH_PHASE < -1000 ∨ 1000 < c.fS F.DRV_SYNCPH_PHASE))]

/-- The monitor lamp rules 0x68 to 0x6C. -/
def rulesLux (c : State) : Option (Nat × Nat) :=
  let ph := c.f F.LUX_WIN_PH
  let lper := c.f F.LUX_WIN_LPER
  let num := max 1 c.rate.num
  let phase := 1000000000 * ph * c.rate.den
  let settle := 1000 * c.f F.LUX_SAMPLE_SETTLE * num
  let samples := if phase < settle then 0 else (phase - settle) / (1000 * max 1 (c.f F.LUX_SAMPLE_SPER) * num) + 1
  let frames10 := lper * c.rate.num
  firstSome [(ruleIf 0x68 (ph == 0 || outside lper 1 10 || decide (frames10 < 4 * ph * c.rate.den))),
  (ruleIf 0x69 (outside (c.f F.LUX_WIN_REF) 1 1000 || outside (c.f F.LUX_LOOP_STEPMAX) 1 256 ||
    decide (c.f F.LUX_LIMIT_SMAX < c.f F.LUX_LIMIT_SMIN))),
  (ruleIf 0x6A (decide (c.f F.LUX_SAMPLE_SPER < 100) || decide (samples < 4))),
  (ruleIf 0x6B (c.f F.LUX_CHECK1_LVK == 0 || c.f F.LUX_CHECK2_TWIN == 0 || c.f F.LUX_CHECK2_CTMIN == 0)),
  ruleIdx 0x6C (List.range c.luxN) fun g => c.on F.LUX_CTL_WIN_EN && !c.on (F.THM_B_CFG_EN (c.luxTsens g))]

/-! ### Tables 09.10, 10.6, 11.x -/

/-- The chain rules 0x70 to 0x73. -/
def rulesCmc (c : State) (cache : PlcCache) : Option (Nat × Nat) :=
  let es := Plc.enabled cache
  let r := c.rate
  let cyc := c.f F.CMC_POLL_CYCLEM1 + 1
  let rate := laneGbps (c.f F.SYS_UNITEN_LANE) * 1000000000
  let polls := fun (p : Nat) => (es.filter fun e => Plc.chain e.2 == p).length
  firstSome [(ruleIf 0x70 (c.isSender && c.portsOn.any fun p => decide (3 * rate * cyc * r.den < 4 * 4096 * 92 * polls p * r.num))),
  (ruleIf 0x71 (c.f F.CMC_POLL_MISS == 0 || outside (c.f F.CMC_POLL_TMO) 100 10000)),
  (ruleIf 0x72 ((List.range 8).any fun k => c.isTile && c.on (F.CMC_WP_CTL_EN k) &&
    ((List.range 4).all fun i => c.reg (R.CMC_WP_MASK k i) == 0))),
  ruleIdx 0x73 (List.range 8) fun q => c.on (F.CMC_RQ_CTL_EN q) &&
    (outside (c.f (F.CMC_RQ_CTL_LOG2 q)) 4 12 || c.f (F.CMC_RQ_BASE_LO_BASE q) % 2048 != 0 ||
      decide (c.dramSize ≤ c.f (F.CMC_RQ_BASE_LO_BASE q) + 2 ^ 32 * c.f (F.CMC_RQ_BASE_HI_BASE q)))]

/-- The frame timing rules 0x78 to 0x7D. [DEDUCED, log entry 117] -/
def rulesDsp (c : State) : Option (Nat × Nat) :=
  let m := modeRate (c.f F.DSP_MODE_INDEX)
  let slots := c.f F.DSP_MODE_SLOTS
  let (tail, hop, corw) := (c.f F.DSP_PIPE0_TAILPM, c.f F.DSP_PIPE0_HOP, c.f F.DSP_PIPE1_CORW)
  let r := c.rate
  let u := r.uNs tail
  let pairs := c.pathsOn.length
  let most := c.busDrivers.foldl max 0
  firstSome [(ruleIf 0x78 (match m with | none => true | some (num, den) => !slotsOk num den slots)),
  (ruleIf 0x79 (outside tail 20 500 || outside hop 10 500 || outside corw 20 5000 || decide (15 < c.f F.DSP_UPD_UDIVM1))),
  (ruleIf 0x7A (decide (1000 * tail * r.den < (hop + corw) * r.num) || decide (u < 1000 * corw))),
  (ruleIf 0x7B (c.isTile && decide (corw * 450 * pairs < c.tilePixels))),
  (ruleIf 0x7C (c.isTile && (decide (r.tsNs < c.writeBits most + 2000) || decide (1000000 * r.den * (1000 * r.slots - (1000 - tail)) <
    (c.writeBits most + 2000 + 1000 * (hop + corw)) * r.num * r.slots)))),
  ruleIdx 0x7D (List.range 8) fun t => c.on (F.DSP_TRIG_CTL_EN t) &&
    (outside (c.f (F.DSP_TRIG_WID_WIDTH t)) 16 (r.tsNs - 16) || decide (1000000000 * r.den ≤ (c.fS (F.DSP_TRIG_OFS_OFFSET t)).natAbs * r.num * r.slots) ||
      decide (c.f (F.DSP_TRIG_CTL_DIVM1 t) < c.f (F.DSP_TRIG_CTL_PHASE t)))]

/-- A timed output that breaks rule 0x84. -/
def outBad (c : State) (t : Nat) : Bool :=
  let per := c.outPeriod t
  let mode := c.f (F.TIM_OUT_CTL_MODE t)
  mode != 0 && (decide (c.f (F.TIM_OUT_WID_WID t) < 16) || decide (999999999 < c.f (F.TIM_OUT_START_NS_NS t)) ||
    (mode == 2 && decide (per < 32 * nsU ∨ per ≤ c.f (F.TIM_OUT_WID_WID t) * nsU)))

/-- The wall-time rules 0x80 to 0x86. -/
def rulesTim (c : State) : Option (Nat × Nat) :=
  let src := c.f F.TIM_SRC_SRC
  let enB := c.on F.TIM_SRC_EN_B
  let sref := c.on F.TIM_SREF_CTL_EN
  firstSome [(ruleIf 0x80 ((if c.isTile then src != 3 else decide (4 < src) || src == 3) ||
    (c.isSender && (src == 1 || (enB && (src == 2 || src == 4))) && !c.ethOn) || (src == 4 && !c.present .PAR))),
  (ruleIf 0x81 ((enB && src == 1 && c.f F.TIM_SRC_DOMA == c.f F.TIM_SRC_DOMB) ||
    decide (127 < c.f F.TIM_SRC_DOMA ∨ 127 < c.f F.TIM_SRC_DOMB))),
  (ruleIf 0x82 (outside (c.f F.TIM_STEP_THR) 100 1000000 || c.f F.TIM_STEP_LOCKTH == 0 ||
    decide (c.f F.TIM_STEP_THR < c.f F.TIM_STEP_LOCKTH) || outside (c.f F.TIM_SERVO_SLEWMAX) 100 100000 ||
    outside (c.f F.TIM_SERVO_BW) 1 255)),
  (ruleIf 0x83 (decide (c.fS F.TIM_CHAIN_LOGSYNC < -7 ∨ 1 < c.fS F.TIM_CHAIN_LOGSYNC ∨ c.fS F.TIM_CHAIN_LOGDELAY < -7 ∨
    4 < c.fS F.TIM_CHAIN_LOGDELAY))),
  (ruleIdx 0x84 (List.range 8) c.outBad),
  (ruleIf 0x85 ((sref && ((modeRate (c.f F.TIM_SREF_CTL_INDEX)).isNone || outside (c.f F.TIM_SREF_CTL_LINES) 1 4095 ||
    decide (500 < (c.fS F.TIM_SREF_LVL_QTH).natAbs ∨ 500 < (c.fS F.TIM_SREF_LVL_TTH).natAbs))) || (src == 2 && !sref))),
  ruleIf 0x86 (c.isSender && !c.on F.DSP_STATUS_RUN && !c.timed)]

/-! ### Tables 14.7, 15.8, 13.7, 18.x, 19.8 -/

/-- A source that breaks rule 0x89. -/
def bufBad (c : State) (n : Nat) : Bool :=
  let k := c.f (F.HST_SRC_CTL_NLBUF n)
  let base := c.bufAddr n 0
  let step := c.f (F.HST_SRC_LSTEP_STEP n)
  outside k 3 8 || base % 64 != 0 || step % 64 != 0 || decide (step < c.srcBytes n) ||
    !c.dramIn base ((k - 1) * step + c.srcBytes n) ||
    (c.f (F.SND_SRC_CTL_ORIGIN n) == 0 && c.f (F.HST_SRC_CTL_MODE n) == 0 &&
      (outside (c.f (F.HST_SRC_CTL_LOG2 n)) 4 12 || c.ringBase n % 4096 != 0))

/-- A player that breaks rule 0x8A. -/
def playerBad (c : State) (p : Nat) : Bool :=
  let n := c.f (F.REL_P_CTL_SRC p)
  let fs := c.f (F.REL_P_FSTRIDE_FSTRIDE p)
  c.on (F.REL_P_CTL_EN p) &&
    (!c.on (F.SND_SRC_CTL_EN n) || c.f (F.SND_SRC_CTL_ORIGIN n) == 0 || c.f (F.HST_SRC_CTL_MODE n) == 1 ||
      ((List.range p).any fun q => c.on (F.REL_P_CTL_EN q) && c.f (F.REL_P_CTL_SRC q) == n) ||
      fs % 64 != 0 || decide (fs < c.srcBytes n) || c.f (F.REL_P_FRAMES_FRAMES p) == 0 ||
      outside (c.f (F.REL_P_CTL_PREFETCH p)) 1 6 || decide (c.f (F.HST_SRC_CTL_NLBUF n) < c.f (F.REL_P_CTL_PREFETCH p) + 2))

/-- The host port and reel rules 0x88 to 0x8C. -/
def rulesHst (c : State) : Option (Nat × Nat) :=
  let pt := c.f F.REL_PT_BASE_LO_BASE + 2 ^ 32 * c.f F.REL_PT_BASE_HI_BASE
  let on := (List.range 8).filter fun p => c.on (F.REL_P_CTL_EN p)
  let reach := fun (p : Nat) => c.f (F.REL_P_START_LO_START p) + 2 ^ 32 * c.f (F.REL_P_START_HI_START p) +
    c.f (F.REL_P_FRAMES_FRAMES p) * c.f (F.REL_P_FSTRIDE_FSTRIDE p)
  firstSome [(ruleIf 0x88 (c.present .HST && c.present .SND && decide (c.f F.HST_LINK_CAPY * 1000000000 <
    sumOf (c.srcsOn.map fun n => c.srcRate n * fmtBytes (c.f (F.SND_SRC_CTL_FMT n)))))),
  (ruleIdx 0x89 (if c.present .HST && c.present .SND then c.srcsOn else []) c.bufBad),
  (ruleIf 0x8A (c.present .REL && on.any c.playerBad)),
  (ruleIf 0x8B (c.present .REL && !on.isEmpty && (pt % 65536 != 0 || !c.dramIn pt (2 ^ 25) || on.any fun p => decide (2 ^ 42 < reach p)))),
  ruleIf 0x8C (c.present .HST && (c.f F.HST_W2_BASE_LO_BASE + 2 ^ 32 * c.f F.HST_W2_BASE_HI_BASE) % 2 ^ 30 != 0)]

/-- The hash of a slot, zero unless it is Valid (Table 15.4). -/
def slotHash (s : State) (k : Nat) : List Byte :=
  if s.f (F.SYS_IMG_STAT_STATE k) = 2 then Img.hash (s.slotBytes k) else List.replicate 32 0

/-- The pair rules 0x90 to 0x92; `s` is the state before the commit. -/
def rulesPar (s c : State) (heavy : Bool) : Option (Nat × Nat) :=
  let (hb, loss, boot) := (c.f F.PAR_TMO_HBTMO, c.f F.PAR_TMO_LOSSTMO, c.f F.PAR_TMO_BOOTWAIT)
  firstSome [(ruleIf 0x90 (outside hb 2 20 || decide (loss < hb ∨ 100 < loss) || outside boot 100 10000)),
  (ruleIf 0x91 (heavy && s.heard && s.f F.PAR_STATUS_PPSTATE == 3 &&
    Img.hash (s.slotBytes (c.f F.SYS_IMG_SEL_SLOT)) != slice s.par.hb 52 32)),
  ruleIf 0x92 (c.f F.TIM_SRC_SRC == 0)]

/-- Rule 0x99: a table of the new image extends beyond the populated space of its DRAM_MASK. -/
def rule99 (s : State) (slot : Nat) : Bool :=
  let b := s.slotBytes slot
  let b := b.take (Img.length b)
  let size := ((List.range 4).filter (Img.dramMask b).testBit).length * s.f F.FMC_GEOM_CHGB * 2 ^ 30
  let lamps := 3 * Img.corW (Img.cor b) * Img.corH (Img.cor b)
  Img.role b == 2 && (decide (size < Img.corDoseBase (Img.cor b) + 8 * lamps) || decide (size < Img.corCplBase (Img.cor b) + 2 * lamps) ||
    decide (size < Img.drvMapBase (Img.drv b) + cdiv (2 * lamps) 8))

/-- The thermal rules 0xA0 to 0xA2. -/
def rulesThm (c : State) : Option (Nat × Nat) :=
  let (w, t, sh) := (c.f F.THM_LIMB_WARN, c.f F.THM_LIMB_THROT, c.f F.THM_LIMB_SHUT)
  let on := (List.range 16).filter fun b => c.on (F.THM_B_CFG_EN b)
  firstSome [(ruleIf 0xA0 (decide (t ≤ w ∨ sh ≤ t ∨ 125 < sh))),
  (ruleIf 0xA1 (c.isTile && on.any fun b => outside (c.f (F.THM_B_CFG_ZONE b)) 4 7 ||
    (List.range b).any fun d => c.on (F.THM_B_CFG_EN d) && c.boardPid d == c.boardPid b)),
  ruleIf 0xA2 (outside (c.f F.THM_STG_S2DLY) 250 10000)]

/-- R273: the first failing rule of a commit, in ascending order of code: its code, its index and the code of Table 02.8.  `tileHeavy` is
the HEAVY bit of a COMMIT received by a tile. -/
def checkRules (s : State) (x : Commit) (tileHeavy : Option Bool) (eccBad : Bool) : Option (Nat × Nat × Nat) :=
  let base := s.viewBy x.due
  let snap : RegFile := x.snap
  let heavy := s.heavyChange base x.snap
  let first : Option (Nat × Nat × Nat) :=
    if s.rule01 x then some (0x01, 0, 0)
    else if heavy && (s.slotFault base x.snap).1 then some (0x02, 0, (s.slotFault base x.snap).2)
    else if s.spanClash heavy x.due then some (0x03, 0, 0)
    else none
  match first with
  | some r => some r
  | none =>
    let c := s.candidate x.snap base
    let v := fun (f : Fld) => c.f f
    let r72 := c.present .FAB && (decide (v F.FAB_AVS_LIM_VMIN < 600 ∨ v F.FAB_AVS_LIM_VMAX < v F.FAB_AVS_LIM_VMIN ∨
      850 < v F.FAB_AVS_LIM_VMAX) || outside (v F.FAB_PLAN_MARGIN) 50 400)
    let r : Option (Nat × Nat) :=
      firstSome [(ruleIf 0x04 r72), (ruleIf 0x05 c.rule05), (ruleIf 0x06 (tileHeavy.any fun h => h != heavy)),
      (if c.present .SND then c.rulesSnd x.cache eccBad else none),
      (if c.present .COR then rulesCor s c else none),
      (if c.present .DRV then c.rulesDrv else none),
      (if c.present .LUX then c.rulesLux else none),
      (c.rulesCmc x.cache),
      (if c.present .DSP then c.rulesDsp else none),
      (c.rulesTim),
      (c.rulesHst),
      (if c.present .PAR then rulesPar s c heavy else none),
      (ruleIf 0x98 (s.present .FMC && s.rule98)),
      (ruleIf 0x99 (imageChange base x.snap && s.rule99 (snap.fld F.SYS_IMG_SEL_SLOT))),
      c.rulesThm,
      ruleIf 0xA8 (s.on F.NVS_STATUS_TRIM_INVALID && (s.f F.SYS_UNITEN_LANE != 0 || s.f F.SYS_UNITEN_PAIRR != 0))]
    r.map fun y => (y.1, y.2, 0)

/-- The revalidation of R34 in the check of a heavy commit: rule 0x02 comes to it where rule 0x01 passes and the named slot is Valid, and
it is recorded as every validation is. -/
def revalidate (s : State) (x : Commit) : State :=
  let base := s.viewBy x.due
  let snap : RegFile := x.snap
  let k := snap.fld F.SYS_IMG_SEL_SLOT
  if s.heavyChange base x.snap && !s.rule01 x && s.slotStands base x.snap then s.validateSlot k else s

/-- The refusal event of the owning block (R272; 0 where the owner has none). -/
def refusalEvent (code : Nat) : Nat :=
  if code < 0x40 then 0 else if code < 0x50 then 119 else if code < 0x60 then 155 else if code < 0x68 then 184
  else if code < 0x70 then 211 else if code < 0x78 then 268 else if code < 0x80 then 87 else if code < 0x88 then 291
  else if code < 0x90 then 141 else if code < 0x98 then 0 else if code < 0xA0 then 310 else if code < 0xA8 then 29 else 39

end State

end Sys2Proof.Machine
end

