-- ==== Sys2Proof/Machine/TileMac.lean ====
section
/-! DEFINITION. The chain MAC of a tile (R200 to R216, R348): the poll master's end, polls and replies, enumeration, admission, video
frames and their judgment, and wake patterns. -/

namespace Sys2Proof.Machine

namespace State

/-! ### The poll master's end (R211) -/

/-- A good frame from side `d` that claims the poll master: the tile takes that end, or the head where both claim within 1 ms. [DEDUCED, log entry 108; DESIGN CHOICE, log entry 109] -/
def masterHeard (s : State) (d : Nat) : State :=
  let now := s.clk.now
  let recent := (s.cmc.mstAt.getD (1 - d) none).any fun t => decide (now < t + 1000000)
  let told := s.cmc.clash
  let s := s.setCmc fun c => { c with mstAt := setAt c.mstAt d fun _ => some now, clash := recent }
  let side := if recent then 0 else d
  let old := s.f F.CMC_STATUS_MSTSIDE
  let change := s.cmc.mstSeen && old != side
  let first := !s.cmc.mstSeen
  let s := (s.setF F.CMC_STATUS_MSTSIDE side).setCmc fun c => { c with mstSeen := true }
  let s := (s.raiseIf (recent && !told) 260).raiseIf change 259
  if change || first then s.followMaster side else s

/-- A good frame has come from side `d` (Table 09.5, R211). -/
def goodFrame (s : State) (d : Nat) (w : WFrame) : State :=
  let s := s.setCmc fun c => { c with goodAt := setAt c.goodAt d fun _ => some s.clk.now }
  if w.sflags.testBit 1 && !w.sflags.testBit 2 then s.masterHeard d else s

/-! ### Replies (R200, R205, R206) -/

/-- A frame of the tile toward the end on side `d`. [DEDUCED, log entry 172] -/
def tileFrame (s : State) (d typ tag : Nat) (tspec payload : List Byte) : List Byte :=
  (s.mkFrame typ tag (if d = 0 then 0 else 125) tspec payload).bytes

/-- The bytes of an event record (R205). -/
def recBytes (r : EvRec) : List Byte := leBytes 2 r.ev ++ [0, 0] ++ leBytes 4 r.ns ++ leBytes 6 r.sec ++ [0, 0]

/-- GEN of the latest commit received and not yet applied, or CMT_GEN: one under check was received after those that are pending. -/
def latestGen (s : State) : Nat :=
  match (s.cmt.pend ++ s.cmt.checking).getLast? with
  | some c => c.gen.toNat
  | none => s.f F.CMT_GEN_GEN

/-- The status record of Table 09.5. -/
def statusRecord (s : State) : List Byte :=
  let near := fun (d : Nat) => (s.cmc.goodAt.getD d none).any fun t => decide (s.clk.now < t + 1000000)
  let ts := s.f F.CMC_STATUS_ADMITTED + 2 * (s.present .COR && s.on F.COR_STATUS_TABLES_OK).toNat + 4 * (s.portUp 0).toNat +
    8 * (s.portUp 1).toNat + 16 * (near 0).toNat + 32 * (near 1).toNat
  leBytes 4 (s.f F.CMT_GEN_GEN) ++ leBytes 4 s.latestGen ++ leBytes 2 (s.f F.DRV_DERATE_STAT_DRL) ++ leBytes 2 (s.f F.THM_HOT_BOARD) ++
    [BitVec.ofNat 8 ts, BitVec.ofNat 8 (s.f F.MGT_GSE_STAT_VERDICT)] ++ leBytes 3 s.cmc.lastOk ++ [BitVec.ofNat 8 s.cmc.kept] ++
    List.replicate 14 0

/-- The identity record of Table 09.5. -/
def identityRecord (s : State) : List Byte :=
  s.unitBytes ++ leBytes 4 (s.value R.SYS_ID).toNat ++ ((List.range 4).flatMap fun c => leBytes 4 (s.f (F.MGT_CORE_VER_VERSION c))) ++
    ((List.range 8).flatMap fun i => leBytes 4 (s.f (F.SYS_IMG_HASH_HASH i))) ++
    leBytes 4 (if s.present .COR then (s.value R.COR_GWY_ID).toNat else 0)

/-- The responses that fit into `room` bytes, and those that wait for a later reply (R369). -/
def takeResponses : Nat → List (List Word) → List Byte × List (List Word)
  | _, [] => ([], [])
  | room, r :: rs =>
    if 4 * r.length ≤ room then
      let (b, rest) := takeResponses (room - 4 * r.length) rs
      ((r.flatMap fun w => leBytes 4 w.toNat) ++ b, rest)
    else ([], r :: rs)

/-- Event records before EVACK are discarded (R206); a number less than 2^31 ahead, modulo 2^32, counts as later. [DESIGN CHOICE, log entry 91] -/
def takeEvack (s : State) (evack : Nat) : State :=
  let d := (evack + 2 ^ 32 - s.evSeq.toNat) % 2 ^ 32
  let k := if d < 2 ^ 31 then min d s.recs.length else 0
  { s with recs := s.recs.drop k, evSeq := s.evSeq + BitVec.ofNat 32 k }

/-- POLL_RX: a poll from side `d` is answered with a REPLY. -/
def pollRx (s : State) (d : Nat) (w : WFrame) : State :=
  let kind := numAt w.tspec 0 1
  let s := s.takeEvack (numAt w.tspec 2 4)
  let body := s.statusRecord ++ (if kind = 1 then s.identityRecord else []) ++ s.recs.flatMap recBytes
  let (extra, rest) := takeResponses (2000 - body.length) s.mgt.responses
  let spec := [BitVec.ofNat 8 kind, BitVec.ofNat 8 s.recs.length] ++ leBytes 4 s.evSeq.toNat ++ leBytes 2 s.cmc.regRx ++
    leBytes 2 s.cmc.updRx
  let b := s.tileFrame d 0x02 w.tag spec (body ++ extra)
  ((s.setMgt fun g => { g with responses := rest }).setCmc fun c => { c with kept := 0 }).setSub d b

/-! ### Enumeration and admission (R213, R215) -/

/-- ADMITTED is cleared. -/
def clearAdmitted (s : State) : State :=
  let s := s.setCmc fun c => { c with admitAt := none }
  if s.on F.CMC_STATUS_ADMITTED then (s.setF F.CMC_STATUS_ADMITTED 0).raise 263 else s

/-- ENUM_RX: the tile takes its address, and the last tile answers with ENUM_END (R213). -/
def enumRx (s : State) (d : Nat) (w : WFrame) : State :=
  let a := enumAddr w
  let s := if numAt w.tspec 1 1 = 1 then s.setF F.CMC_ADDR_COUNT (numAt w.tspec 2 1) else s
  let s := if a = s.addr then s
    else (((s.setF F.CMC_ADDR_ADDR a).setF F.CMC_STATUS_ADDRV (a != 126).toNat).raise 261).clearAdmitted
  if s.portUp (1 - numAt w.tspec 1 1 % 2) then s
  else s.setSub d (s.tileFrame d 0x04 0 ([BitVec.ofNat 8 (numAt w.tspec 0 1 + 1), 0, 0, 0] ++ slice w.tspec 4 4) [])

/-- ADMIT_RX: admitted at the FRAME named, or quarantined (R215); a boundary that lies behind never comes. -/
def admitRx (s : State) (w : WFrame) : State :=
  if numAt w.tspec 0 1 = 1 then
    match resolve s.nextFrame (numAt w.tspec 1 3) with
    | some n => s.setCmc fun c => { c with admitAt := some n }
    | none => s
  else s.clearAdmitted

/-- ADMIT_EFFECT at boundary n. -/
def admitDue (s : State) (n : Nat) : State :=
  if s.isTile && s.cmc.admitAt.any (fun m => decide (m ≤ n)) then
    let s := s.setCmc fun c => { c with admitAt := none }
    if s.on F.CMC_STATUS_ADMITTED then s else (s.setF F.CMC_STATUS_ADMITTED 1).raise 262
  else s

/-- UPDATE_RX: the message of an in-sequence UPDATE frame goes to the Guard core (R208, R369). [DEDUCED, log entry 97; DEDUCED, log entry 102; DEDUCED, log entry 202] -/
def updateRx (s : State) (w : WFrame) : State :=
  if w.tag ≠ (s.cmc.updRx + 1) % 4096 then s
  else
    let (ok, s) := s.mailboxIn 3 { path := 3, words := wordsOf w.payload, ref := w.tag }
    if ok then s.setCmc fun c => { c with updRx := w.tag } else s

/-! ### Video (R202, R203) -/

/-- VIDEO_RX: a good video frame addressed to this tile, from side `d`. -/
def videoRx (s : State) (d : Nat) (w : WFrame) : State :=
  let s := if w.vSuspect then s.bump (F.CMC_S_SUSPECT_COUNT d) else s
  let s := s.setCmc fun c => { c with got := true }
  let s := if s.dsp.lossDir = 1 ∨ s.dsp.lossDir = 2 then (s.setDsp fun x => { x with lossDir := 3 }).raise 319 else s
  let s := s.setDsp fun x => { x with lossCount := 0 }
  let fr := w.vFrame
  if s.framed && decide (s.f F.DSP_STATUS_SACT ≤ w.vSlot) then s
  else
    let newest := s.cmc.newest.getD fr
    let delta := sgn 24 (fr + 2 ^ 24 - newest)
    let old := s.cmc.vid.any fun v => v.side == d && v.frame == fr && v.slot == w.vSlot && v.tag == w.tag
    if delta < -7 || s.cmc.judged.contains (fr, w.vSlot) then (s.bump (F.CMC_S_STALE_COUNT d)).raise 257
    else if old then s.bump (F.CMC_S_DUP_COUNT d)
    else
      let top := if 0 < delta then fr else newest
      let v : RxVid := { side := d, frame := fr, slot := w.vSlot, tag := w.tag, suspect := w.vSuspect, pri := w.sflags.testBit 0,
                         drr := w.vDerate, bytes := w.payload }
      let live := fun (f : Nat) => decide (-7 ≤ sgn 24 (f + 2 ^ 24 - top))
      (s.setCmc fun c => { c with newest := some top, vid := (c.vid.filter fun x => live x.frame) ++ [v],
                                  judged := c.judged.filter fun x => live x.1 }).setF F.CMC_NEWEST_FRAME top

/-- The copies that fill the TAGs of a segment (R202), in order, with whether each came from the side that is not preferred; none
where a TAG is unfilled. -/
def fillTags (vs : List RxVid) (sides : List Nat) (pref : Nat) : Nat → Nat → Option (List (RxVid × Bool))
  | 0, _ => some []
  | n + 1, tag =>
    match sides.findSome? fun d => vs.find? fun v => v.side == d && v.tag == tag with
    | none => none
    | some v => (fillTags vs sides pref n (tag + 1)).map fun r => (v, v.side != pref) :: r

/-- Judge the segment of slot k of frame n (R202). -/
def judgeSegment (s : State) (n k : Nat) : State :=
  let fr := n % 2 ^ 24
  let vs := s.cmc.vid.filter fun v => v.frame == fr && v.slot == k
  let pri := fun (d : Nat) => vs.any fun v => v.side == d && v.pri
  let pref := if pri 1 && !pri 0 then 1 else 0
  let clean := fun (d : Nat) => vs.all fun v => v.side != d || !v.suspect
  let s := s.setCmc fun c => { c with
    vid := c.vid.filter fun v => !(v.frame == fr && v.slot == k), judged := c.judged ++ [(fr, k)] }
  match fillTags vs ([pref, 1 - pref].filter clean) pref (segFrames s.tilePixels) 0 with
  | some used =>
    let px := unpackP42 s.tilePixels (used.flatMap fun u => u.1.bytes)
    let drr := ((used.head?).map fun u => u.1.drr).getD 16384
    let s := s.setCor fun c => { c with segs := setAt c.segs k fun _ => px, drrs := setAt c.drrs k fun _ => derateClamp drr }
    let spare := vs.filter fun v => !used.any fun u => u.1 == v
    let s := spare.foldl (fun s v => s.bump (F.CMC_S_DUP_COUNT v.side)) (s.bump F.CMC_SEGOK_COUNT)
    let s := if used.any (·.2) then (s.bump F.CMC_SEGSEC_COUNT).raise 258 else s
    let got := if s.cmc.okSlots.1 = n then s.cmc.okSlots.2 + 1 else 1
    s.setCmc fun c => { c with okSlots := (n, got), lastOk := if got = (s.rateAt n).slots then fr else c.lastOk }
  | none =>
    let spare := vs.filter fun v => v.side != pref && vs.any fun u => u.side == pref && u.tag == v.tag
    let s := spare.foldl (fun s v => s.bump (F.CMC_S_DUP_COUNT v.side)) s
    ((s.bump F.CMC_SEGKEPT_COUNT).setCmc fun c => { c with kept := min 255 (c.kept + 1) }).raise 256

/-- RECEIVE_DEADLINE: the receive deadline of slot k of the frame in work; the segment is judged, unless the slot is held or the frame
is no update frame (R227, R232), and the correction pass starts (R103). -/
def receiveDeadline (s : State) (k : Nat) : State :=
  if !s.isTile || !s.framed then s
  else
    let n := s.frameNow + 1
    if (s.rateAt n).slots ≤ k then s
    else
      let s := s.waitTo (s.receiveAt n k)
      if s.repeatsHeavy n then s
      else
      let s := if s.heldAt n k || !s.updateFrame n then
          s.setCmc fun c => { c with vid := c.vid.filter fun v => !(v.frame == n % 2 ^ 24 && v.slot == k) }
        else s.judgeSegment n k
      let (ramp, s) := s.takeRamp n k
      s.passStart n k ramp

/-- VIDEO_LOSS at frame boundary n of an admitted tile in Run (R348): update frames with no good video are counted. [DEDUCED, log entry 59; DEDUCED, log entry 60] -/
def videoLoss (s : State) (n : Nat) : State :=
  let got := s.cmc.got
  let s := s.setCmc fun c => { c with got := false }
  if !s.isTile then s
  else if !s.on F.CMC_STATUS_ADMITTED || s.f F.RPS_BOOT_STAGE ≠ 6 then s.setDsp fun x => { x with lossCount := 0 }
  else if !s.updateFrame n then s
  else
    let c := if got then 0 else min 8 (s.dsp.lossCount + 1)
    let was := s.dsp.lossCount
    let s := s.setDsp fun x => { x with lossCount := c }
    if c = 8 ∧ was < 8 ∧ s.dsp.lossDir ≠ 2 then (s.setDsp fun x => { x with lossDir := 1 }).raise 319 else s

/-! ### Wake patterns (R216) -/

/-- Does a frame match wake pattern k? -/
def wakeMatch (s : State) (k : Nat) (b : List Byte) : Bool :=
  let bs := ((List.range 128).filter fun i => (s.reg (R.CMC_WP_MASK k (i / 32))).getLsbD (i % 32)).map fun i => b.getD i 0
  s.on (F.CMC_WP_CTL_EN k) && crc16 bs == BitVec.ofNat 16 (s.f (F.CMC_WP_CTL_CHECK k))

/-- The patterns a frame matches are counted; the result tells whether there was one, and whether one delivers in Run. [DEDUCED, log entry 118] -/
def wakePatterns (s : State) (b : List Byte) : Bool × Bool × State :=
  let ks := (List.range 8).filter fun k => s.wakeMatch k b
  (!ks.isEmpty, ks.any fun k => s.on (F.CMC_WP_CTL_USER k), ks.foldl (fun s k => (s.bump (F.CMC_WP_HIT_COUNT k)).raise 264) s)

end State

end Sys2Proof.Machine
end

