-- ==== Sys2Proof/Machine/Commit.lean ====
section
/-! DEFINITION. Commits (R269 to R280, R38 to R41, R236): requests, checks, COMMIT frames, catch-ups and the shutter point. -/

namespace Sys2Proof.Machine

namespace State

/-! ### Requests on a Sender (R269 to R272) -/

/-- The placement capture of R83 for a snapshot: the staged table, and the mesh of each entry that has one. -/
def capture (s : State) (snap : RegFile) : PlcCache :=
  if !s.present .SND then {}
  else
    let base := snap.fld F.SND_PLC_BASE_LO_BASE + 2 ^ 32 * snap.fld F.SND_PLC_BASE_HI_BASE
    let table := s.dramRd base (64 * snap.fld F.SND_PLC_COUNT_COUNT)
    let c : PlcCache := { table := table }
    let named := (List.range (table.length / 64)).filter fun t => Plc.meshEn (Plc.entry c t)
    { c with meshes := named.map fun t => (t, s.dramRd (Plc.mesh (Plc.entry c t)) 1024) }

/-- The reports of a capture's reads beyond populated DRAM (R289). [DEDUCED, log entry 77] -/
def captureNote (s : State) (snap : RegFile) (c : PlcCache) : State :=
  if !s.present .SND then s
  else
    let base := snap.fld F.SND_PLC_BASE_LO_BASE + 2 ^ 32 * snap.fld F.SND_PLC_BASE_HI_BASE
    c.meshes.foldl (fun s m => s.dramReadNote (Plc.mesh (Plc.entry c m.1)) 1024) (s.dramReadNote base (64 * snap.fld F.SND_PLC_COUNT_COUNT))

/-- The view that every pending commit leaves. -/
def viewLast (s : State) : RegFile := s.cmt.pend.foldl (fun r c => RegFile.applyStaged r c.snap) s.regs

/-- A request is refused without a rule (R270, R271). [DEDUCED, log entry 115] -/
def requestRefuse (s : State) (result : Nat) : State :=
  ((s.setF F.CMT_STATUS_RESULT result).bump F.CMT_REFUSED_COUNT).raise 66

/-- The end of a check in CMT_STATUS.RESULT, which a later request may already have taken over. -/
def checkResult (s : State) (result : Nat) : State :=
  if s.f F.CMT_STATUS_RESULT = 1 then s.setF F.CMT_STATUS_RESULT result else s

/-- A failing rule is reported (R272). -/
def ruleReport (s : State) (code idx fail tag : Nat) : State :=
  (((s.setF F.CMT_CHECK_CODE code).setF F.CMT_CHECK_FAIL fail).setF F.CMT_CHECK_TAG tag).setF F.CMT_CHECK_IDX_INDEX idx

/-- Raise the refusal event of the block that owns a rule. -/
def ruleEvent (s : State) (code : Nat) : State := if refusalEvent code = 0 then s else s.raise (refusalEvent code)

/-- Is the window of the boundary at `due` still open (R270)?  P is the frame period of the mode in effect there. [DEDUCED, log entry 115] -/
def windowOpen (s : State) (heavy : Bool) (due : Nat) : Bool :=
  decide (s.clk.wall ≤ due - 2 * (s.rateFor due).periodU - (if heavy then 20000000 else 300000) * nsU)

/-- The first boundary of slot k, from a count on, whose window is still open. -/
def openBoundary (s : State) (heavy : Bool) (k : Nat) : Nat → Nat → Nat × Nat
  | 0, t => s.firstBoundary t k
  | fuel + 1, t =>
    let d := s.firstBoundary t k
    if s.windowOpen heavy d.2 then d else openBoundary s heavy k fuel (d.2 + 1)

/-- D of a request (R270): its frame, its instant, and whether it is late; none where it comes too late. -/
def requestPoint (s : State) (heavy timed : Bool) (k : Nat) : Option (Nat × Nat × Bool) :=
  let q := s.clk.wall
  let t := countOf ((s.reg R.CMT_TGT_SL).toNat + 2 ^ 32 * s.f F.CMT_TGT_SH_SEC) (s.f F.CMT_TGT_NS_NS)
  if timed ∧ q < t then
    let d := s.firstBoundary t k
    let e := s.firstBoundary (d.2 + 1) k
    if s.windowOpen heavy d.2 then some (d.1, d.2, false)
    else if s.windowOpen heavy e.2 then some (e.1, e.2, true)
    else none
  else
    let d := s.openBoundary heavy k 16 (q + 1)
    some (d.1, d.2, false)

/-- COMMIT_REQUEST: a write to CMT_REQ. -/
def commitRequest (s : State) (w : Word) : State :=
  if !s.present .CMT then s
  else
    let s := s.setReg R.CMT_REQ w
    let tag := F.CMT_REQ_REQTAG.get w
    let k := F.CMT_REQ_SLOT.get w
    let snap : RegFile := s.stage
    let heavy := s.heavyChange s.viewLast snap
    let s := s.setF F.CMT_STATUS_LASTTAG tag
    if 999999999 < s.f F.CMT_TGT_NS_NS then (s.ruleReport 5 0 0 tag).requestRefuse 4
    else if !s.isSender || s.isSecondary || !s.framed || !s.cmt.checking.isEmpty || 4 ≤ s.cmt.pend.length || !s.coreUp 0 then
      s.requestRefuse 6
    else match s.requestPoint heavy (w.getLsbD 0) k with
      | none => s.requestRefuse 5
      | some (n, due, late) =>
        if s.cmt.pend.any fun c => decide (due ≤ c.due) then s.requestRefuse 6
        else
          let x : Commit := { gen := 0, n := n, slot := k, due := due, tag := tag, heavy := heavy, sent := false, catchup := false,
                              late := late, snap := snap, cache := s.capture snap }
          let s := s.captureNote snap x.cache
          let s := s.setF F.SND_STATUS_CAPTURE (s.present .SND).toNat
          (s.setF F.CMT_STATUS_RESULT 1).setCmt fun c => { c with checking := [x] }

/-- The COMMIT frame of a commit (Tables 09.2 and 12.3). -/
def commitFrame (s : State) (dst : Nat) (x : Commit) : WFrame :=
  s.mkFrame 0x20 0 dst
    (leBytes 4 x.gen.toNat ++ leBytes 3 (x.n % 2 ^ 24) ++
      [BitVec.ofNat 8 (x.slot + 8 * x.heavy.toNat + 16 * x.catchup.toNat), 0, 0])
    (leBytes 6 (secOf x.due) ++ leBytes 4 (nsOf x.due) ++ leBytes 2 x.tag ++ leBytes 4 0)

/-- The first copy of a COMMIT leaves every chain port in use, and its second copy is kept (R209, R276). -/
def sendCommit (s : State) (x : Commit) : State :=
  let b := (s.commitFrame 127 x).bytes
  (s.sendAll s.portsOn b).setCmt fun c => { c with copies := c.copies ++ [(none, b)] }

/-- COMMIT_SECOND_COPY (R209). -/
def commitSecond (s : State) : State :=
  match s.cmt.copies with
  | [] => s
  | (port, b) :: bs =>
    let gen := numAt b 8 4
    let s := s.setCmt fun c =>
      { c with copies := bs, pend := c.pend.map fun x => if port.isNone && x.gen.toNat == gen then { x with sent := true } else x }
    match port with
    | none => s.sendAll s.portsOn b
    | some p => s.toTile p (s.tile p (numAt b 4 1)).farSide (parseFrame b)

/-- Is a staged register mirrored between the members of a pair (Table 15.2)? -/
def mirrored (a : Nat) : Bool :=
  match blkOf a with
  | some .SYS => a == R.SYS_IMG_SEL
  | some .SND | some .REL | some .DSP => stMask a != 0
  | some .CMC => stMask a != 0 && !decide (0x246000 ≤ a ∧ a < 0x246080) && !decide (0x246100 ≤ a ∧ a < 0x246200)
  | _ => false

/-- (address, value) pairs of the mirrored registers of a register file that stand off their reset values, ascending. -/
def mirrorPairs (r : RegFile) : List (Nat × Word) := (r.filter fun p => mirrored p.1).map fun p => (p.1, p.2 &&& stMask p.1)

/-- The bytes of a placement cache, and of the mirrored part of a register file with it. [DESIGN CHOICE, log entry 163] -/
def cacheBytes (c : PlcCache) : List Byte :=
  leBytes 4 c.table.length ++ c.table ++ leBytes 2 c.meshes.length ++ c.meshes.flatMap fun m => leBytes 2 m.1 ++ padTo 1024 m.2
/-- [DESIGN CHOICE, log entry 76] -/
def snapBytes (r : RegFile) (c : PlcCache) : List Byte :=
  leBytes 4 (mirrorPairs r).length ++ ((mirrorPairs r).flatMap fun p => leBytes 4 p.1 ++ leBytes 4 p.2.toNat) ++ cacheBytes c

/-- Take the mirrored part of a register file and a placement cache from bytes; the rest is returned. [DESIGN CHOICE, log entry 76] -/
def snapParse (b : List Byte) : List (Nat × Word) × PlcCache × List Byte :=
  let k := numAt b 0 4
  let pairs := (List.range (min k (b.length / 8))).map fun i => (numAt b (4 + 8 * i) 4, BitVec.ofNat 32 (numAt b (8 + 8 * i) 4))
  let b := b.drop (4 + 8 * k)
  let t := numAt b 0 4
  let table := slice b 4 t
  let b := b.drop (4 + t)
  let m := numAt b 0 2
  let meshes := (List.range (min m 768)).map fun i => (numAt b (2 + 1026 * i) 2, slice b (4 + 1026 * i) 1024)
  (pairs, { table := table, meshes := meshes }, b.drop (2 + 1026 * m))

/-- A Primary sends the commit and the mirrored part of its snapshot to a partner that is heard (R276, R331). -/
def commitToPartner (s : State) (x : Commit) : State :=
  if s.mirrors then
    let w := s.commitFrame s.partnerAddr x
    let b := snapBytes x.snap x.cache
    (s.pairSeq 0x82 w.tspec w.payload).pairStream 0x83 (leBytes 4 x.gen.toNat ++ leBytes 4 b.length) b
  else s

/-- Does a commit change the memory layout (R299)? -/
def layoutChange (s : State) (base : RegFile) (x : Commit) : Bool :=
  let slot := RegFile.fld x.snap F.SYS_IMG_SEL_SLOT
  let b := s.slotBytes slot
  imageChange base x.snap &&
    (Img.dramOrder b != s.f F.FMC_CFG_ORDER || Img.dramRate b != s.f F.FMC_CFG_RATE || Img.dramMask b != s.f F.FMC_CFG_MASK)

/-- A commit joins the pending ones in the order of their shutter points (R271). -/
def pendInsert (x : Commit) : List Commit → List Commit
  | [] => [x]
  | c :: cs => if x.due < c.due then x :: c :: cs else c :: pendInsert x cs

/-- An accepted commit: events 64, 69 and 309, LATE and 67 (R270, R272, R299). [DEDUCED, log entry 114] -/
def acceptCommit (s : State) (x : Commit) : State :=
  let s := s.raise (if x.heavy then 69 else 64)
  let s := if x.late then ((s.setF F.CMT_STATUS_LATE 1).bump F.CMT_LATE_CNT_COUNT).raise 67 else s
  let s := if s.layoutChange s.viewLast x then (s.raise 309).setF F.FMC_STATUS_LAYOUT_RST 1 else s
  s.setCmt fun c => { c with pend := pendInsert x c.pend }

/-- COMMIT_CHECK_DONE: the check of a request ends (R272); `eccBad` tells of an uncorrectable DRAM error in the capture. -/
def commitCheckDone (s : State) (eccBad : Bool) : State :=
  match s.cmt.checking with
  | [] => s
  | x :: rest =>
    if !s.isSender then s
    else
      let s := ((s.setCmt fun c => { c with checking := rest }).setF F.SND_STATUS_CAPTURE 0).revalidate x
      match s.checkRules x none eccBad with
      | some (code, idx, fail) =>
        ((((s.ruleReport code idx fail x.tag).checkResult 4).bump F.CMT_REFUSED_COUNT).raise 66).ruleEvent code
      | none =>
        let x := { x with gen := s.reg R.CMT_GEN + BitVec.ofNat 32 (s.cmt.pend.length + 1) }
        (((s.checkResult 2).acceptCommit x).sendCommit x).commitToPartner x

/-! ### Commits at a Tile (R277) -/

/-- A commit that a tile refuses, misses or discards. -/
def tileRefuse (s : State) (ev : Nat) : State :=
  let s := if ev = 71 then s.setF F.CMT_STATUS_TREF 1 else s
  (s.bump F.CMT_REFUSED_COUNT).raise ev

/-- A pending commit is dropped without being applied.  With a heavy one that was in preparation its image's loads end; a running image
whose lamp records it had cleared loads them again. [DESIGN CHOICE, log entry 187] -/
def dropCommit (s : State) (x : Commit) : State :=
  if !x.heavy || !s.cmt.prepared then s
  else
    let wiped := s.cmt.tabReload
    let s := (s.setCmt fun c => { c with prepared := false, regionsDue := [], tabReload := false })
    if !wiped then s
    else ((s.setF F.COR_STATUS_LOADING 0).setLoad none).tableStart (s.f F.COR_GWY_SEL_SET) none false

/-- A catch-up COMMIT discards every pending commit whose GEN is not above its own, and each is counted (R277, Table 12.8). -/
def catchupDiscard (s : State) (gen : Word) : State :=
  let gone := s.cmt.pend.filter fun y => decide (y.gen.toNat ≤ gen.toNat)
  let s := s.setCmt fun c => { c with pend := c.pend.filter fun y => decide (gen.toNat < y.gen.toNat) }
  gone.foldl (fun s y => (s.dropCommit y).bump F.CMT_REFUSED_COUNT) s

/-- COMMIT_RX: a good COMMIT frame. [DEDUCED, log entry 85] -/
def commitRx (s : State) (w : WFrame) : State :=
  let gen : Word := BitVec.ofNat 32 (numAt w.tspec 0 4)
  let b := numAt w.tspec 7 1
  let catchup := b.testBit 4
  let held := s.reg R.CMT_GEN == gen || ((s.cmt.checking ++ s.cmt.pend).any fun c => c.gen == gen && c.catchup == catchup) ||
    s.cmt.seen == w.tspec ++ w.payload
  if !s.isTile || held then s
  else
    let s := s.setCmt fun c => { c with seen := w.tspec ++ w.payload }
    let s := if catchup then s.catchupDiscard gen else s
    if !s.framed then s.tileRefuse 71
    else match s.resolveBoundary (numAt w.tspec 4 3) (b % 8) with
      | none => s.tileRefuse 72
      | some (n, due) =>
        let k := b % 8
        let told := countOf (numAt w.payload 0 6) (numAt w.payload 6 4)
        let s := s.raiseIf (decide (1000 * nsU < due - told ∨ 1000 * nsU < told - due)) 73
        let x : Commit := { gen := gen, n := n, slot := k, due := due, tag := numAt w.payload 10 2, heavy := b.testBit 3, sent := false,
                            catchup := catchup, snap := s.stage, cache := {} }
        s.setCmt fun c => { c with checking := c.checking ++ [x] }

/-- TILE_COMMIT_CHECK_DONE: the check of the oldest received commit ends. -/
def tileCheckDone (s : State) : State :=
  match s.cmt.checking with
  | [] => s
  | x :: rest =>
    if !s.isTile then s
    else
      let s := (s.setCmt fun c => { c with checking := rest }).revalidate x
      match s.checkRules x (some x.heavy) false with
      | some (code, idx, fail) => ((s.ruleReport code idx fail x.tag).tileRefuse 71).ruleEvent code
      | none =>
        let p := (s.rateFor x.due).periodU
        if x.due < s.clk.wall + p * (if x.heavy then 2 else 1) then s.tileRefuse 72
        else if 4 ≤ s.cmt.pend.length then s.tileRefuse 71
        else
          let s := if s.layoutChange s.viewLast x then (s.raise 309).setF F.FMC_STATUS_LAYOUT_RST 1 else s
          s.setCmt fun c => { c with pend := pendInsert x c.pend }

/-! ### Catch-up (R278) -/

/-- CATCHUP_CMD: a write to CMT_CATCHUP sends a catch-up COMMIT to a tile. [DESIGN CHOICE, log entry 116] -/
def catchupCmd (s : State) (p a : Nat) : State :=
  let s := (s.setF F.CMT_CATCHUP_PORT p).setF F.CMT_CATCHUP_ADDR a
  if !s.polls || !s.framed || !s.portOn p || a = 0 || 96 < a then s
  else
    let (n, due) := s.firstBoundary (s.clk.wall + 2 * s.rate.periodU) 0
    let gen := s.reg R.CMT_GEN + BitVec.ofNat 32 (s.cmt.pend.filter fun c => decide (c.due ≤ due)).length
    let x : Commit := { gen := gen, n := n, slot := 0, due := due, tag := 0, heavy := false, sent := false, catchup := true,
                        snap := [], cache := {} }
    let b := (s.commitFrame a x).bytes
    (s.toTile p (s.tile p a).farSide (parseFrame b)).setCmt fun c => { c with copies := c.copies ++ [(some p, b)] }

/-! ### The shutter point (R275, R39 to R41, R236) -/

/-- SND_LOAD, SND_CHLOAD, KX and KY (R100, R86). [DESIGN CHOICE, log entry 205] -/
def loadFigures (s : State) : State :=
  if !s.present .SND then s
  else
    let es := Plc.enabled s.snd.cache
    let r := s.rate
    let up := fun (px : Nat) => px * s.f F.DSP_MODE_SLOTS * r.num
    let px := fun (l : List (Nat × List Byte)) => sumOf (l.map fun e => Plc.w e.2 * Plc.h e.2)
    let mega := 1000000 * max 1 r.den
    let lim := laneVideo (s.f F.SYS_UNITEN_LANE) * max 1 r.den
    let load := fun (p : Nat) => cdiv (1000 * 42 * up (px (es.filter fun e => Plc.chain e.2 == p))) lim
    let s := s.setF F.SND_LOAD0_CANVAS (cdiv (up (px es)) mega)
    let s := s.setF F.SND_LOAD0_INGEST_P (cdiv (sumOf (s.srcsOn.map s.srcRate)) 1000000000)
    let s := s.setF F.SND_LOAD1_INGEST_B
      (cdiv (sumOf (s.srcsOn.map fun n => s.srcRate n * fmtBytes (s.f (F.SND_SRC_CTL_FMT n)))) 1000000000)
    let s := (List.range 4).foldl (fun s i =>
      (s.setF (F.SND_CHLOAD_LOADA i) (load (2 * i))).setF (F.SND_CHLOAD_LOADB i) (load (2 * i + 1))) s
    layers.foldl (fun s x =>
      if !s.on (F.SND_LYR_CTL_EN x.1 x.2) then s
      else (s.setF (F.SND_LYR_KX_KX x.1 x.2)
          (scaleK (s.f (F.SND_LYR_SRCSIZE_SWM1 x.1 x.2) + 1) (s.f (F.SND_LYR_CANSIZE_CWM1 x.1 x.2) + 1))).setF
        (F.SND_LYR_KY_KY x.1 x.2) (scaleK (s.f (F.SND_LYR_SRCSIZE_SHM1 x.1 x.2) + 1) (s.f (F.SND_LYR_CANSIZE_CHM1 x.1 x.2) + 1))) s

/-- HST_LOAD follows the enabled sources (R314). -/
def hostLoad (s : State) : State :=
  if !s.present .HST then s
  else s.setF F.HST_LOAD_LOAD (cdiv (sumOf (s.srcsOn.map fun n => s.srcRate n * fmtBytes (s.f (F.SND_SRC_CTL_FMT n)))) 1000000000)

/-- Is any register of the timed output or trigger t different (R261)? -/
def outChanged (a b : RegFile) (t : Nat) : Bool :=
  [R.TIM_OUT_CTL t, R.TIM_OUT_START_NS t, R.TIM_OUT_START_SL t, R.TIM_OUT_START_SH t, R.TIM_OUT_PER_NS t, R.TIM_OUT_PER_FR t,
    R.TIM_OUT_WID t, R.DSP_TRIG_CTL t].any fun x => a.get x != b.get x

/-- The table load that a commit starts (R113): where the selected set or its base changes, or where its image is the device's first as
a Tile; a heavy commit that has cleared region 0x11 has started its own (R40). -/
def commitTables (old s : State) : State :=
  if !s.isTile || s.cmt.tabReload then s
  else
    let set := s.f F.COR_GWY_SEL_SET
    if !old.isTile || old.reg R.COR_GWY_SEL != s.reg R.COR_GWY_SEL || old.gwyBase set != s.gwyBase set then
      (s.setDsp fun d => { d with repeatS := old.f F.DSP_STATUS_SACT }).tableStart set (some s.clk.wall) false else s

/-- A change of DSP_MODE.INDEX at t_B (R236): the new mode takes effect, and the join waits for J. [DEDUCED, log entry 61] -/
def modeJoin (old s : State) (x : Commit) : State :=
  let n := firstFrom (fun n => decide (x.due ≤ s.placed (s.rate.frame n))) 4 (s.rate.frameOf x.due)
  let r := old.rate
  let s := ((s.setDsp fun d => { d with
    joinN := some n, oldRate := some (r.num, r.den, r.slots), repeatFrom := some 0, repeatS := r.slots }).setF F.DSP_STATUS_JOIN 1).triggersRest
  let s := s.setFab fun f => { f with frozen := true }
  ((s.setCmc fun c => { c with newest := none, judged := [], vid := [] }).setSegs fun _ => []).raise 80

/-- The effects of values that a shutter point has changed in the blocks that derive others from them. -/
def settleValues (old s : State) : State :=
  let s := if old.f F.DSP_STATUS_SACT = s.f F.DSP_STATUS_SACT then s else s.raise 86
  let s := ((((s.timingConstants.driveConstants (old.f F.DRV_PWM_WIDTH)).doseConstants).luxConstants).loadFigures).hostLoad
  let s := ((s.railLimits.reelEnable).boardsNote).triggersRest
  let s := (domainsFit old s).rateFit
  let s := (List.range 8).foldl (fun s t => if outChanged old.regs s.regs t then s.outProgram t else s) s
  commitTables old s

/-- The first commit takes effect: RUN, the drive port, the planner, and STAGE 6. [DEDUCED, log entry 90] -/
def firstCommit (s : State) : State :=
  if s.on F.DSP_STATUS_RUN then s
  else
    let s := (s.setF F.DSP_STATUS_RUN 1).setF F.RPS_BOOT_STAGE 6
    let s := if s.present .SND then s.setF F.SND_STATUS_RUN 1 else s
    let s := if s.present .COR then s.setF F.COR_STATUS_RUN 1 else s
    let s := if !s.present .FAB then s else if s.coreUp 3 then s.settle
      else if s.rps.cores.testBit 3 then s.setF F.FAB_STATUS_PSTATE 3 else s
    s.driveStart

/-- A commit takes effect at its shutter point (R275). -/
def applyCommit (s : State) (x : Commit) : State :=
  let snap : RegFile := x.snap
  let image := imageChange s.regs snap
  let index := s.indexChange s.regs snap
  let slot := snap.fld F.SYS_IMG_SEL_SLOT
  let old := s
  let s := if image then ((s.imageSwap snap slot).fabClear).modeSet else ({ s with regs := RegFile.applyStaged s.regs snap }).modeSet
  let s := s.setReg R.CMT_GEN (if x.catchup then x.gen else s.reg R.CMT_GEN + 1)
  let s := { s with snd := { s.snd with cache := if s.isSender then x.cache else s.snd.cache } }
  let s := s.raise 65
  let s := if s.isSender && s.f F.CMT_STATUS_RESULT == 2 && s.cmt.pend.isEmpty then s.setF F.CMT_STATUS_RESULT 3 else s
  let s := s.raiseIf x.catchup 76
  let s := s.firstCommit
  let s := if image then (List.range 9).foldl noteTx (s.mramTry 0 (leBytes 4 slot)).2 else s
  let s := settleValues old s
  let s := s.raiseIf (x.heavy && !s.cmt.regionsDue.isEmpty) 59
  let s := if index then modeJoin old s x else s
  if x.heavy then s.setCmt fun c => { c with prepared := false, tabReload := false } else s

/-- The next pending commit's shutter point is reached (SHUTTER_POINT, R275, R210, R299): it is taken off the pending list, and the
result tells whether it may be applied. -/
def takePending (s : State) : Option (Commit × State) :=
  match s.cmt.pend with
  | [] => none
  | x :: rest => some (x, (s.waitTo x.due).setCmt fun c => { c with pend := rest })

/-- A heavy commit that changes the memory layout: the boot pointer is written, and the device resets (R299). -/
def layoutReset (s : State) (x : Commit) : State :=
  let s := (s.mramTry 0 (leBytes 4 (RegFile.fld x.snap F.SYS_IMG_SEL_SLOT))).2
  s.takeReset { level := 2, source := 8, keep := false }

/-! ### Heavy commits before B (R39, R40) -/

/-- The line-store regions of the new image that are not equal in the old one. -/
def regionsNew (s : State) (slot : Nat) : List Nat :=
  let old := Img.regions s.runImg
  ((Img.regions (s.slotImg slot)).filter fun r => !old.contains r).map (·.1)

/-- The load of region 0x11 for an image that a heavy commit names, by the values that commit leaves (R40, R113). -/
def heavyTables (s : State) (x : Commit) : State :=
  let snap : RegFile := x.snap
  let c := s.candidate snap (s.viewBy (x.due - 1))
  if !s.isTile || !c.isTile then s
  else (s.setCmt fun m => { m with tabReload := true }).tableBegin
    { set := c.f F.COR_GWY_SEL_SET, commit := some x.due,
      heavy := some { slot := snap.fld F.SYS_IMG_SEL_SLOT, bases := [c.gwyBase 0, c.gwyBase 1], flash := c.flashSize,
                      alt := c.on F.COR_GWY_SEL_ALT_EN } }

/-- HEAVY_COMMIT_PREPARE at B - 2: the fabric stops taking frames, the planner freezes, and the regions of a new image that differ are
cleared; the load of region 0x11 starts (R39, R40, R113). [DEDUCED, log entry 77] -/
def heavyPrepare (s : State) : State :=
  match s.cmt.pend.find? (·.heavy) with
  | none => s
  | some x =>
    if s.cmt.prepared then s
    else
      let s := s.waitTo (x.due - 2 * s.rate.periodU)
      let image := imageChange s.regs x.snap
      let slot := RegFile.fld x.snap F.SYS_IMG_SEL_SLOT
      let due := if image then s.regionsNew slot else []
      let new := s.slotImg slot
      let s := due.foldl (fun s u => match regionIn new u with
        | some (a, n) => { s with lineStore := Mem.wipe s.lineStore a n }
        | none => s) s
      let s := s.setFab fun f => { f with frozen := true, work := [] }
      let s := (s.luxSpoil.setDsp fun d => { d with repeatFrom := some (x.n - 1), repeatS := s.rate.slots }).setCmt fun c => { c with prepared := true, regionsDue := due }
      if due.contains 0x11 then s.heavyTables x else s

/-- REGION_READY: the owning block has reloaded a region of the new image; once none is left the frames shown move on.  Region 0x11 is
ready when its load ends (R112). -/
def regionReady (s : State) (use : Nat) : State := if use = 0x11 ∧ s.cor.load.isSome then s else s.regionLoaded use

/-- Frame boundary n after a heavy commit's B, or after J where the mode changes: the planner re-enters Settling (R69), and with every
region ready the next frame is shown (R39, R40, R236). -/
def heavyFrame (s : State) (n : Nat) : State :=
  if s.cmt.prepared then s
  else match s.dsp.repeatFrom with
    | none => s
    | some m =>
      if n ≤ s.dsp.joinN.getD (m + 1) then s
      else
        let s := if !s.fab.frozen then s else if s.coreUp 3 then s.settle else s.setFab fun f => { f with frozen := false }
        if s.cmt.regionsDue.isEmpty then
          (s.setDsp fun d => { d with repeatFrom := none, joinN := none, oldRate := none }).setF F.DSP_STATUS_JOIN 0
        else s

end State

end Sys2Proof.Machine
end

