-- ==== Sys2Proof/Machine/Pair.lean ====
section
/-! DEFINITION. The pair (chapter 15): states, heartbeats, mirroring, commits and actions on the Secondary, handover, promotion, relays,
Resync and the pair snapshot; and the shutter point, which the pair and the tile share. -/

namespace Sys2Proof.Machine

/-- The addresses of the mirrored registers, ascending. -/
def mirrorAddrs : List Nat :=
  [Blk.SYS, .SND, .REL, .CMC, .DSP].flatMap fun b => ((List.range (b.extent / 4)).map fun i => b.base + 4 * i).filter State.mirrored

/-- R332: the CRC-32 over every mirrored field, unmirrored bits taken as 0. [DESIGN CHOICE, log entry 134] -/
def digestOf (r : RegFile) : Word := crc32 (mirrorAddrs.flatMap fun a => leBytes 4 (r.get a &&& stMask a).toNat)

/-- A register file with its mirrored bits taken from the pairs, and at reset where no pair names them. -/
def setMirrored (r : RegFile) (pairs : List (Nat × Word)) : RegFile :=
  let put := fun (r : RegFile) (a : Nat) (v : Word) => r.set a ((r.get a &&& ~~~ stMask a) ||| (v &&& stMask a))
  let r := r.foldl (fun r p => if State.mirrored p.1 then put r p.1 (resetWord p.1) else r) r
  pairs.foldl (fun r p => if State.mirrored p.1 then put r p.1 p.2 else r) r

namespace State

/-! ### States (R327) -/

/-- Chain ports in use that are in Up. -/
def upMask (s : State) : Nat := sumOf ((s.portsOn.filter s.portUp).map fun p => 2 ^ p)

/-- Resync begins again at step 1 (R344). -/
def resyncStart (s : State) : State :=
  ((s.setF F.PAR_STATUS_RSTEP 1).setF F.PAR_RSYNC_MS_MS 0).setPar fun p =>
    { p with joinAt := none, snap := [], state := [], hand := [], commit := none, rsyncAt := none, proofOk := true }

/-- The member enters a state of Table 15.1; a change of role is recorded with its cause (Table 15.9). -/
def pairTo (s : State) (st cause : Nat) : State :=
  let old := s.pairState
  let prim := fun (x : Nat) => x == 1 || x == 2
  let s := if old = st then s else ((s.setF F.PAR_STATUS_PSTATE st).senderRef).raise 312
  let s := if prim old == prim st then s
    else (s.setF F.PAR_LAST_FRAME (if s.framed then s.frameNow else 0)).setF F.PAR_LAST_CAUSE cause
  let s := s.setF F.CMC_STATUS_MASTER (prim st).toNat
  if st = 4 then s.resyncStart
  else
    let s := (s.setF F.PAR_STATUS_RSTEP 0).setF F.PAR_RSYNC_MS_MS 0
    let s := s.setPar fun p => { p with joinAt := none, refusedTold := false, rsyncAt := if prim old then p.rsyncAt else none }
    s.setF F.PAR_STATUS_ABD 0

/-- The member becomes Primary in Degraded; its first poll cycle begins at the next frame boundary (R328, R340, R341, R343). [DEDUCED, log entry 128; DEDUCED, log entry 130] -/
def pairDegraded (s : State) (cause : Nat) : State :=
  let s := (s.pairTo 2 cause).setCmc fun c => { c with fresh := true }
  if cause = 1 ∨ cause = 5 then (s.portsOn.filter s.portUp).foldl enumerate s else s

/-- The member enters Resync, sending ABD = 1 where it abdicates. -/
def pairResync (s : State) (cause : Nat) (abd : Bool) : State :=
  (s.setF F.PAR_STATUS_ABD abd.toNat).pairTo 4 cause

/-- An image with PAR enabled begins to run: the member enters Resync with no partner (R328). -/
def pairStart (s : State) : State :=
  let s := (s.setF F.CMC_ADDR_ADDR (if s.on F.PAR_CFG_END then 125 else 0)).pairTo 4 1
  (s.setF F.PAR_LAST_CAUSE 1).setReg R.PAR_DIGEST (digestOf s.regs)

/-! ### Heartbeats (R326, R330, Table 15.4) -/

/-- The HEARTBEAT payload. -/
def heartbeat (s : State) : List Byte :=
  [BitVec.ofNat 8 s.pairState, BitVec.ofNat 8 (s.f F.MGT_GSE_STAT_VERDICT),
    BitVec.ofNat 8 (s.f F.PAR_CFG_END + 2 * s.f F.PAR_CFG_PREF + 4 * s.f F.PAR_STATUS_ABD), BitVec.ofNat 8 (s.f F.TIM_STATUS_TSTATE)] ++
    leBytes 4 (s.f F.CMT_GEN_GEN) ++ leBytes 4 (s.f F.PAR_DIGEST_DIGEST) ++ leBytes 4 (s.f F.PAR_SNAP_GEN) ++
    leBytes 2 (tabAt s.par.rxTag 0 0) ++ [BitVec.ofNat 8 s.upMask, BitVec.ofNat 8 (s.f F.THM_STATUS_STAGE)] ++
    padTo 32 (Img.hash s.runImg) ++ padTo 32 (s.slotHash (1 - s.runSlot)) ++ List.replicate 12 0

/-- Step 3 of Resync ends when TSTATE reaches 3 (R344). -/
def timeStep (s : State) : State :=
  if s.pairState = 4 ∧ s.f F.PAR_STATUS_RSTEP = 3 ∧ s.f F.TIM_STATUS_TSTATE = 3 then s.setF F.PAR_STATUS_RSTEP 4 else s

/-- HEARTBEAT_SEND: every 1 ms. -/
def heartbeatSend (s : State) : State :=
  if !s.present .PAR then s
  else
    let s := s.timeStep
    let s := if s.pairState = 4 then s.bumpSat F.PAR_RSYNC_MS_MS else s
    s.pairSend 0x80 [] s.heartbeat

/-- The STATE stream (R344, step 2): the active view where it is newer than the snapshot, the stage view, and the pending commits. [DESIGN CHOICE, log entry 124] -/
def stateBytes (s : State) (snapGen : Nat) : List Byte :=
  let newer := decide (snapGen < s.f F.CMT_GEN_GEN)
  let act := if newer then leBytes 4 (s.f F.CMT_GEN_GEN) ++ snapBytes s.regs s.snd.cache else []
  [BitVec.ofNat 8 newer.toNat] ++ act ++ snapBytes s.stage {} ++ leBytes 2 s.cmt.pend.length ++
    s.cmt.pend.flatMap fun x =>
      leBytes 4 x.gen.toNat ++ leBytes 8 x.n ++ leBytes 10 x.due ++ leBytes 2 x.tag ++
        [BitVec.ofNat 8 x.slot, BitVec.ofNat 8 x.heavy.toNat] ++ snapBytes x.snap x.cache

/-- The Primary sends its newest valid pair snapshot and its state (R344, R346). -/
def sendState (s : State) : State :=
  let (gen, s) := match s.snapNewest with
    | some (gen, _, k) =>
      let b := s.mramRd (0x700000 + 0x100000 * k) (numAt (s.mramRd (0x40 + 16 * k) 16) 8 4)
      (gen, s.pairStream 0x83 (leBytes 4 gen ++ leBytes 4 b.length) b)
    | none => (0, s)
  let b := s.stateBytes gen
  (s.pairStream 0x88 (leBytes 4 b.length) b).setPar fun p => { p with rsyncAt := some s.clk.now, joinAt := none }

/-- The Primary names J and the GEN it will hold there (R344, step 4). [DESIGN CHOICE, log entry 123] -/
def nameJoin (s : State) : State :=
  let (j, due) := s.firstBoundary (s.clk.wall + 2 * s.rate.periodU) 0
  let gen := s.f F.CMT_GEN_GEN + (s.cmt.pend.filter fun c => decide (c.due ≤ due)).length
  (s.pairSeq 0x88 (leBytes 4 0) (leBytes 8 j ++ leBytes 4 gen)).setPar fun p => { p with joinAt := some j }

/-- Frames the partner has acknowledged: MIRROR by its TAG, the other types by any good heartbeat. [DEDUCED, log entry 119] -/
def pairAcks (s : State) (mirror : Nat) : State :=
  (s.setF F.PAR_MIRROR_ACKED mirror).setPar fun p =>
    { p with unacked := p.unacked.filter fun u => u.typ == 0x81 && !tagAcked u.tag mirror }

/-- What a Secondary in Resync does on a good heartbeat (R328, R344). [DESIGN CHOICE, log entry 122; DEDUCED, log entry 131] -/
def resyncHeard (s : State) (pp : Nat) (pref endBit : Bool) : State :=
  if s.on F.PAR_STATUS_ABD ∧ s.f F.MGT_GSE_STAT_VERDICT ≠ 0 then s
  else if pp = 1 ∨ pp = 2 then
    let s := if s.f F.PAR_STATUS_RSTEP ≤ 1 then
        (s.setF F.PAR_STATUS_RSTEP 2).setPar fun p => { p with rsyncAt := some (p.rsyncAt.getD s.clk.now) } else s
    let s := s.timeStep
    if s.f F.PAR_STATUS_RSTEP ≠ 5 then s
    else
      let same := s.f F.PAR_PGEN_GEN != s.f F.CMT_GEN_GEN || s.f F.PAR_PDIGEST_DIGEST == s.f F.PAR_DIGEST_DIGEST
      let ok := same && numAt s.par.hb 18 1 == s.upMask && s.f F.MGT_GSE_STAT_VERDICT == 0
      s.setPar fun p => { p with proofOk := p.proofOk && ok }
  else if pp = 4 ∧ s.f F.PAR_STATUS_RSTEP ≤ 1 then
    let own := s.on F.PAR_CFG_PREF
    if (own && !pref) || (own == pref && !endBit) then s.pairDegraded 1 else s
  else s

/-- What a Primary does on a good heartbeat: its partner's state, a second Primary, and Resync (R342, R344, R345). [DESIGN CHOICE, log entry 122] -/
def primaryHeard (s : State) (pp tstate endBit : Nat) : State :=
  if pp = 1 ∨ pp = 2 then
    let (own, his) := (s.f F.CMT_GEN_GEN, s.f F.PAR_PGEN_GEN)
    if his < own ∨ (his = own ∧ endBit = 1) then s else s.pairResync 6 false
  else if pp = 3 then
    (if s.pairState = 1 then s else s.pairTo 1 0).setPar fun p => { p with joinAt := none }
  else
    let s := if s.pairState = 2 then s else s.pairTo 2 0
    if pp ≠ 4 || s.par.hb.getD 2 0 &&& 4 != 0 then s
    else if s.par.rsyncAt.all fun t => decide (t + 2000000000 ≤ s.clk.now) then s.sendState
    else if tstate = 3 && s.framed && s.par.joinAt.all fun j => decide (j + 8 < s.frameNow) then s.nameJoin
    else s

/-- HEARTBEAT_RX (R326): a good heartbeat with this payload. [DEDUCED, log entry 120] -/
def heartbeatRx (s : State) (b : List Byte) : State :=
  if !s.present .PAR then s
  else
    let flags := numAt b 2 1
    let endErr := decide (flags % 2 = s.f F.PAR_CFG_END)
    let hashErr := slice b 20 32 != padTo 32 (Img.hash s.runImg)
    let s := (s.setF F.PAR_STATUS_ENDERR endErr.toNat).setF F.PAR_STATUS_HASHERR hashErr.toNat
    if endErr || hashErr then s
    else
      let first := !s.heard
      let s := ((((s.setF F.PAR_STATUS_HB 1).setF F.PAR_STATUS_PPSTATE (numAt b 0 1)).setF F.PAR_STATUS_PVERD (numAt b 1 1)).setF
        F.PAR_PGEN_GEN (numAt b 4 4)).setF F.PAR_PDIGEST_DIGEST (numAt b 8 4)
      let s := s.setPar fun p => { p with
        hb := b, sentTag := if first then List.replicate 8 0 else p.sentTag, rxTag := if first then .replicate 8 0 else p.rxTag
        unacked := if first then [] else p.unacked }
      let s := if first then s else s.pairAcks (numAt b 16 2 % 4096)
      let pp := numAt b 0 1
      if s.isPrimary then s.primaryHeard pp (numAt b 3 1) (flags % 2)
      else if s.pairState = 4 then s.resyncHeard pp (flags.testBit 1) (s.on F.PAR_CFG_END)
      else s

/-- PARTNER_LOST: no good heartbeat for HBTMO (R341, R347). [DEDUCED, log entry 127] -/
def partnerLost (s : State) : State :=
  if !s.heard then s
  else
    let s := (s.setF F.PAR_STATUS_HB 0).setPar fun p =>
      { p with unacked := [], relay := none, rsyncAt := if s.isPrimary then none else p.rsyncAt }
    if s.isPrimary then ((if s.pairState = 1 then s.pairTo 2 0 else s).bump F.PAR_LOSS_COUNT).raise 317
    else if s.pairState = 4 then s.resyncStart
    else s

/-- A good frame with MST = 1 from the partner's end has arrived on a chain port in use within LOSSTMO (R341, R342). -/
def masterTold (s : State) : Bool :=
  (s.cmc.mstAt.getD 0 none).any fun t => decide (s.clk.now < t + s.f F.PAR_TMO_LOSSTMO * 1000000)

/-- AUTOPROMOTE (R341): no heartbeat, and no frame with MST = 1 from the partner's end for LOSSTMO. -/
def autopromote (s : State) : State :=
  if s.present .PAR && s.pairState == 3 && !s.heard && s.on F.PAR_CFG_AUTOPROMOTE && !s.masterTold then
    ((s.pairDegraded 4).bump F.PAR_TAKEOVERS_COUNT).raise 316
  else s

/-- BOOTWAIT_EXPIRY (R328). -/
def bootwait (s : State) : State :=
  if s.present .PAR && s.pairState == 4 && !s.heard && s.on F.PAR_CFG_PREF then s.pairDegraded 1 else s

/-! ### Abdication (R339, R340, R212) -/

/-- At least three IDLE frames on every chain port in use (R212). -/
def sendIdles (s : State) : State :=
  let b := (s.mkFrame 0x0F 0 127 [] []).bytes
  ((s.sendAll s.portsOn b).sendAll s.portsOn b).sendAll s.portsOn b

/-- The poll state of every tile (Table 15.3). [DESIGN CHOICE, log entry 105] -/
def handoverBytes (s : State) : List Byte := s.portsOn.flatMap fun p => (s.tilesOn p).flatMap fun a => s.tileRec p a

/-- POLL_HANDOVER: the poll master abdicates to a partner that is In Sync: video and polls that wait to be sent are not sent any more
(R340, R212). -/
def pollHandover (s : State) : State :=
  if s.isPrimary && s.heard && s.f F.PAR_STATUS_PPSTATE == 3 then
    let s := (s.sendPollState 0x85 s.handoverBytes).raise 314
    let s := s.setCmc fun c => { c with polls := tabMap c.polls fun x => { x with queue := [] } }
    let s := (List.range 8).foldl (fun s p => s.lanP p fun l =>
      { l with txq := l.txq.filter fun b => numAt b 0 1 != 0x10 && (numAt b 0 1 != 0x01 || (numAt b 1 1).testBit 3) }) s
    ((s.setPar fun p => { p with abdAt := some s.clk.now }).pairResync 3 true).sendIdles
  else s

/-- The abdication that a verdict Abdicate asks of a Primary (R340). [DEDUCED, log entry 129] -/
def abdicate (s : State) : State :=
  if s.heard && s.f F.PAR_STATUS_PPSTATE == 3 then s.pollHandover
  else
    let s := if s.pairState = 1 then s.pairTo 2 0 else s
    let told := s.par.refusedTold
    ((s.bump F.PAR_REFUSED_COUNT).raiseIf (!told) 313).setPar fun p => { p with refusedTold := true }

/-- What the verdict does on a paired Sender (R339). [DEDUCED, log entry 128] -/
def verdictAct (s : State) (verdict : Nat) : State :=
  if !s.present .PAR || !s.isSender then s
  else if verdict = 2 then
    if s.isPrimary then s.abdicate
    else if s.pairState = 3 then s.pairResync 3 true
    else s
  else
    let s := s.setPar fun p => { p with refusedTold := false }
    if verdict = 0 ∧ s.pairState = 4 ∧ s.on F.PAR_STATUS_ABD then (s.setF F.PAR_STATUS_ABD 0).resyncStart else s

/-! ### Frames from the partner (R330, R331, R333) -/

/-- Is a numbered frame the next of its type to be applied?  A type whose last applied TAG no heartbeat reports may skip a TAG. [DEDUCED, log entry 119] -/
def pairNext (s : State) (typ tag : Nat) : Bool :=
  let last := tabAt s.par.rxTag (typ - 0x81) 0
  let d := (tag + 4096 - last) % 4096
  if typ = 0x81 then d == 1 else decide (1 ≤ d ∧ d < 2048)

/-- Apply a numbered frame in TAG order. -/
def pairApply (s : State) (typ tag : Nat) (g : State → State) : State :=
  if s.present .PAR && s.pairNext typ tag then g (s.setPar fun p => { p with rxTag := tabMod p.rxTag (typ - 0x81) fun _ => tag }) else s

/-- MIRROR_RX: stage writes to mirrored fields (R331). -/
def mirrorRx (s : State) (tag : Nat) (b : List Byte) : State :=
  s.pairApply 0x81 tag fun s =>
    if !s.isSecondary then s
    else
      let s := (List.range (min 250 (b.length / 8))).foldl (fun s i =>
        let a := numAt b (8 * i) 4 % 2 ^ 23
        if mirrored a then s.storeStage a (BitVec.ofNat 32 (numAt b (8 * i + 4) 4)) else s) s
      s.setF F.PAR_MIRROR_SENT tag

/-- PAIR_COMMIT_RX: the Primary's COMMIT waits for its snapshot. -/
def pairCommitRx (s : State) (tag : Nat) (tspec payload : List Byte) : State :=
  s.pairApply 0x82 tag fun s =>
    if s.isSecondary then s.setPar fun p => { p with commit := some (tspec, payload), snap := [] } else s

/-- The Secondary checks and schedules the Primary's commit, or enters Resync (R331). [DEDUCED, log entry 135] -/
def pairSchedule (s : State) (tspec payload b : List Byte) : State :=
  let (pairs, cache, _) := snapParse b
  let flags := numAt tspec 7 1
  let k := flags % 8
  match if s.framed then s.resolveBoundary (numAt tspec 4 3) k else none with
  | none => s.pairResync 0 false
  | some (n, due) =>
    let x : Commit := { gen := BitVec.ofNat 32 (numAt tspec 0 4), n := n, slot := k, due := due, tag := numAt payload 10 2
                        heavy := flags.testBit 3, sent := false, catchup := false, snap := setMirrored s.stage pairs, cache := cache }
    let late := decide (x.due < s.clk.wall + 2 * s.rate.periodU + 100000 * nsU)
    let s := s.revalidate x
    match s.checkRules x none false with
    | some (code, idx, fail) => (s.ruleReport code idx fail x.tag).pairResync 0 false
    | none =>
      if late || decide (4 ≤ s.cmt.pend.length) then s.pairResync 0 false
      else
        let s := s.acceptCommit x
        if s.pairState = 3 then s.sendCommit x else s

/-- Load mirrored registers into the given views (R344). -/
def loadMirrored (s : State) (pairs : List (Nat × Word)) (active stage : Bool) : State :=
  { s with regs := if active then setMirrored s.regs pairs else s.regs, stage := if stage then setMirrored s.stage pairs else s.stage }

/-- SNAPDATA_RX: the last frame completes the snapshot: of a commit, or of Resync (R331, R344). [DEDUCED, log entry 125] -/
def snapdataRx (s : State) (tag : Nat) (tspec payload : List Byte) : State :=
  s.pairApply 0x83 tag fun s =>
    if !s.isSecondary then s
    else
      let b := s.par.snap ++ payload
      if b.length < numAt tspec 4 4 then s.setPar fun p => { p with snap := b }
      else
        let s := s.setPar fun p => { p with snap := [] }
        match s.par.commit with
        | some (ts, pay) => (s.setPar fun p => { p with commit := none }).pairSchedule ts pay b
        | none =>
          let s := if s.pairState = 3 then s.pairResync 0 false else s
          let (pairs, cache, _) := snapParse b
          let s := s.loadMirrored pairs true true
          { s with snd := { s.snd with cache := cache } }

/-- PAIR_ACTION_RX: a mirrored action goes out on the chain ports with its ASEQ, or governs the reel at its boundary (R333). -/
def pairActionRx (s : State) (tag : Nat) (b : List Byte) : State :=
  s.pairApply 0x84 tag fun s =>
    if !s.isSecondary || !s.framed then s
    else
      let n := (resolve s.frameNow (numAt b 8 3)).getD s.frameNow
      let a : Action := { kind := numAt b 1 1, rampM1 := numAt b 2 1, aseq := numAt b 12 2, n := n, slot := numAt b 3 1, late := false
                          player := numAt b 2 1 % 8, seek := numAt b 4 4 }
      if numAt b 0 1 = 0 then
        let s := s.setDsp fun d => { d with aseq := a.aseq, wallActs := d.wallActs ++ [a] }
        if s.pairState = 3 then s.sendAction a else s
      else if s.present .REL then s.setHst fun h => { h with reelActs := h.reelActs ++ [a] }
      else s

/-- Take a frame of a HANDOVER or POLLSTATE stream: the poll state once it is whole. -/
def pollStream (s : State) (tspec payload : List Byte) : Bool × State :=
  let b := s.par.hand ++ payload
  if b.length < numAt tspec 0 4 then (false, s.setPar fun p => { p with hand := b })
  else (true, takeTileRecs 768 b (s.setPar fun p => { p with hand := [] }))

/-- HANDOVER_RX: the partner takes the poll state and becomes poll master (R212, R340). -/
def handoverRx (s : State) (tag : Nat) (tspec payload : List Byte) : State :=
  s.pairApply 0x85 tag fun s =>
    if s.pairState ≠ 3 then s
    else
      let (whole, s) := s.pollStream tspec payload
      if whole then ((s.pairDegraded 2).bump F.PAR_TAKEOVERS_COUNT).raise 314 else s

/-- POLLSTATE_RX. -/
def pollstateRx (s : State) (tag : Nat) (tspec payload : List Byte) : State :=
  s.pairApply 0x86 tag fun s => if s.isSecondary then (s.pollStream tspec payload).2 else s

/-- RELAY_RX: the next frame on the pair link is for a chain port (0) or from one (1) (R336). [DEDUCED, log entry 170] -/
def relayRx (s : State) (port dir : Nat) : State :=
  if s.present .PAR then s.setPar fun p => { p with relay := some (port % 8, dir) } else s

/-- Take one pending commit of a STATE stream. -/
def takePendings : Nat → List Byte → List Commit
  | 0, _ => []
  | k + 1, b =>
    let (pairs, cache, rest) := snapParse (b.drop 26)
    { gen := BitVec.ofNat 32 (numAt b 0 4), n := numAt b 4 8, slot := numAt b 24 1 % 8, due := numAt b 12 10, tag := numAt b 22 2,
      heavy := (numAt b 25 1).testBit 0, sent := true, catchup := false, snap := pairs, cache := cache } :: takePendings k rest

/-- STATE_RX: the resyncing member loads the Primary's state, or learns J (R344). [DESIGN CHOICE, log entry 123; DEDUCED, log entry 125] -/
def stateRx (s : State) (tag : Nat) (tspec payload : List Byte) : State :=
  s.pairApply 0x88 tag fun s =>
    if !s.isSecondary then s
    else if numAt tspec 0 4 = 0 then
      if s.pairState = 4 ∧ 4 ≤ s.f F.PAR_STATUS_RSTEP then
        s.setPar fun p => { p with joinAt := some (numAt payload 0 8), joinGen := numAt payload 8 4 }
      else s
    else
      let s := if s.pairState = 3 then s.pairResync 0 false else s
      let b := s.par.state ++ payload
      if b.length < numAt tspec 0 4 then s.setPar fun p => { p with state := b }
      else
        let s := s.setPar fun p => { p with state := [] }
        let (s, b) := if numAt b 0 1 = 0 then (s, b.drop 1)
          else
            let (pairs, cache, rest) := snapParse (b.drop 5)
            let s := s.loadMirrored pairs true true
            ({ s with snd := { s.snd with cache := cache } }, rest)
        let (pairs, _, b) := snapParse b
        let s := s.loadMirrored pairs false true
        let pend := (takePendings (min 4 (numAt b 0 2)) (b.drop 2)).map fun x => { x with snap := setMirrored s.stage x.snap }
        let s := s.setCmt fun c => { c with pend := pend.foldl (fun l x => pendInsert x l) [] }
        (s.setF F.PAR_STATUS_RSTEP 3).timeStep

/-- RESETREQ_RX: a system reset with the cause "pair partner" (R343). -/
def resetreqRx (s : State) (pulse : Bool) : State :=
  if s.present .PAR then s.requestReset { level := 2, source := 7 } pulse else s

/-- PAIR_RESEND: 2 ms have passed, and every unacknowledged frame is resent in order; the fourth resend of one frame breaks the sync
(R330). [DEDUCED, log entry 121] -/
def pairResend (s : State) : State :=
  if !s.present .PAR || s.par.unacked.isEmpty then s
  else
    let s := s.par.unacked.foldl (fun s u => (s.bump F.PAR_RESEND_COUNT).sendBlock 8 u.block) s
    let un : List Unacked := s.par.unacked.map fun u => { u with resends := u.resends + 1 }
    if un.any fun u => decide (4 ≤ u.resends) then
      let s := s.setPar fun p => { p with unacked := [] }
      if s.isPrimary then (if s.pairState = 1 then s.pairTo 2 0 else s)
      else if s.pairState = 3 then s.pairResync 0 false
      else s
    else s.setPar fun p => { p with unacked := un }

/-- RESYNC_TIMEOUT (R345): 2 s after step 1 began. -/
def resyncTimeout (s : State) : State :=
  if s.pairState = 4 ∧ s.par.rsyncAt.isSome then ((s.bump F.PAR_RSYNC_FAIL_COUNT).raise 318).resyncStart else s

/-! ### PAR_CMD (R343) -/

def parTake (s : State) : State :=
  if s.present .PAR && !s.heard && s.isSecondary then s.setPar fun p => { p with takeAsk := true } else s

def parResetPartner (s : State) : State := if s.present .PAR then s.pairSend 0x89 [] [] else s

def parRestartResync (s : State) : State := if s.isPrimary && s.heard then s.sendState else s

def parCmd (s : State) (kind : Nat) : State :=
  match kind with
  | 1 => s.parTake
  | 2 => s.parResetPartner
  | 3 => s.parRestartResync
  | _ => s

/-! ### Frame boundaries (R342 to R346) -/

/-- The copy of the pair snapshot not to be kept: the one that is not the newest valid. -/
def snapSpare (s : State) : Nat := match s.snapNewest with | some (_, _, k) => 1 - k | none => 0

/-- A pair snapshot copy is begun (R346). [DEDUCED, log entry 133] -/
def snapBegin (s : State) : State :=
  let gen := s.f F.CMT_GEN_GEN
  let due := match s.par.snapAt with
    | some (t, g) => decide (t + 10000000000 ≤ s.clk.now) && g != gen
    | none => gen != s.f F.PAR_SNAP_GEN
  if [1, 2, 3].contains s.pairState && due && s.par.snapBusy.isNone then
    s.setPar fun p => { p with snapAt := some (s.clk.now, gen), snapBusy := some s.snapSpare, snapCopy := snapBytes s.regs s.snd.cache }
  else s

/-- PAIR_SNAPSHOT_DONE: the copy is written, its descriptor last, and it becomes the newest valid one; a refused write leaves the
older copy valid (R346). -/
def snapDone (s : State) : State :=
  match s.par.snapBusy with
  | none => s
  | some k =>
    let b := s.par.snapCopy
    let gen := match s.par.snapAt with | some (_, g) => g | none => 0
    let s := s.setPar fun p => { p with snapBusy := none, snapCopy := [] }
    let sec := secOf s.clk.wall % 2 ^ 32
    let (ok, s) := s.mramTry (0x700000 + 0x100000 * k) b
    if !ok then s
    else
      let (ok, s) := s.mramTry (0x40 + 16 * k) (leBytes 4 gen ++ leBytes 4 sec ++ leBytes 4 b.length ++ leBytes 4 (crc32 b).toNat)
      if ok then (s.setF F.PAR_SNAP_GEN gen).setF F.PAR_SNAP_TIME_SEC sec else s

/-- Segments this member has dropped and abandoned (R344, step 5). -/
def segLosses (s : State) : Nat := s.f F.SND_SEG_DROP_COUNT + s.f F.SND_SEG_ABANDON_COUNT

/-- The join and its proof at frame boundary n (R344, steps 4 and 5). [DEDUCED, log entry 126] -/
def joinFrame (s : State) (n : Nat) : State :=
  match s.par.joinAt with
  | none => s
  | some j =>
    if s.pairState ≠ 4 then s
    else if n = j then
      let s := s.setReg R.CMT_GEN (BitVec.ofNat 32 s.par.joinGen)
      let s := s.setF F.PAR_DIGEST_DIGEST (digestOf s.regs).toNat
      (s.setF F.PAR_STATUS_RSTEP 5).setPar fun p => { p with base := s.segLosses, proofOk := true }
    else if n = j + 8 ∧ s.f F.PAR_STATUS_RSTEP = 5 then
      if s.par.proofOk && s.segLosses == s.par.base && s.heard then s.pairTo 3 0
      else (s.setF F.PAR_STATUS_RSTEP 4).setPar fun p => { p with joinAt := none }
    else s

/-- With the pair link down the tail member yields to a head that sends MST = 1 (R342). [DEDUCED, log entry 132] -/
def yieldFrame (s : State) : State :=
  if s.isPrimary && s.on F.PAR_CFG_END && !s.heard then
    s.setF F.CMC_STATUS_MASTER (!s.masterTold).toNat
  else s

/-- What frame boundary n does to the pair. -/
def pairFrame (s : State) (n : Nat) : State :=
  if !s.present .PAR then s
  else
    let s := if s.par.takeAsk then (s.setPar fun p => { p with takeAsk := false }).pairDegraded 5 else s
    ((s.joinFrame n).yieldFrame).snapBegin

/-! ### The shutter point (R275, R210, R331, R332) -/

/-- The pair follows a change of image that enables or disables PAR. [DEDUCED, log entry 126] -/
def pairFollow (old s : State) : State :=
  if !old.present .PAR && s.present .PAR then s.pairStart
  else if old.present .PAR && !s.present .PAR then ((s.setF F.CMC_STATUS_MASTER 1).setF F.CMC_ADDR_ADDR 0).setPar fun _ => {}
  else s

/-- SHUTTER_POINT: the next pending commit's shutter point is reached. -/
def shutterPoint (s : State) : State :=
  match s.takePending with
  | none => s
  | some (x, s) =>
    if s.isTile && !x.catchup && x.gen != s.reg R.CMT_GEN + 1 then (s.dropCommit x).tileRefuse 70
    else if s.present .PAR && s.pairState == 3 && x.gen != s.reg R.CMT_GEN + 1 then (s.dropCommit x).pairResync 0 false
    else if x.heavy && s.layoutChange s.regs x then s.layoutReset x
    else
      let t := (pairFollow s (s.applyCommit x)).setCmt fun c => { c with dumpTorn := c.dumpTorn + 1 }
      if t.present .PAR then t.setF F.PAR_DIGEST_DIGEST (digestOf t.regs).toNat else t

end State

end Sys2Proof.Machine
end

