-- ==== Sys2Proof/Machine/Mgt.lean ====
section
/-! DEFINITION. Management cores (chapter 16): firmware images and their boot, update sessions, activation, confirmation, watchdogs, and
the Goose (R337 to R339). -/

namespace Sys2Proof.Machine

namespace Fw

/-! Firmware images (R358, Table 16.2). -/

def core (b : List Byte) : Nat := numAt b 6 1
def version (b : List Byte) : Nat := numAt b 0xC 4
def svn (b : List Byte) : Nat := numAt b 0x10 2
def iface (b : List Byte) : Nat := numAt b 0x12 2
def req (b : List Byte) (c : Nat) : Nat := numAt b (0x14 + 2 * c) 2
def hofmt (b : List Byte) : Nat := numAt b 0x1C 2
def hoacc (b : List Byte) : Nat := numAt b 0x1E 2
def length (b : List Byte) : Nat := numAt b 0x20 4
def entry (b : List Byte) : Nat := numAt b 0x24 4
def loadsz (b : List Byte) : Nat := numAt b 0x28 4
def keyid (b : List Byte) : Nat := numAt b 0x2C 1

/-- MAGIC, FMT and the reserved bytes. -/
def headOk (b : List Byte) : Bool :=
  numAt b 0 4 == 0x57464C53 && numAt b 4 2 == 1 &&
    (slice b 9 3 ++ slice b 0x2D 3 ++ slice b 0x3C 4 ++ slice b 0xD0 48).all (· == 0)

/-- LENGTH, ENTRY and LOADSZ. [DEDUCED, log entry 141] -/
def sizeOk (b : List Byte) : Bool :=
  decide (1024 ≤ length b ∧ length b ≤ 458752 ∧ length b % 16 = 0 ∧ entry b < 458752 ∧ loadsz b ≤ length b - 256)

/-- KEYID, HASH and SIG. [DESIGN CHOICE, log entry 38] -/
def signed (b : List Byte) (revoked : BitVec 4) : Bool :=
  let h := sha384 (slice b 0 64 ++ slice b 0x100 (length b - 0x100))
  decide (keyid b < 4) && !revoked.getLsbD (keyid b) && slice b 0x40 48 == h && Config.ecdsaVerify (keyid b) h (slice b 0x70 96)

/-- Does the image read a hand-over record of this format? -/
def reads (b : List Byte) (fmt : Nat) : Bool := decide (hoacc b ≤ fmt ∧ fmt ≤ hofmt b)

end Fw

namespace State

/-! ### Booting a core (R353) -/

/-- MRAM area of a core's firmware image (Table 19.1), and the image in it. -/
def fwBase (c : Nat) : Nat := 0x500000 + 0x80000 * c
def fwImage (s : State) (c : Nat) : List Byte :=
  let b := s.mramRd (fwBase c) 458752
  b.take (Fw.length b)

/-- The check word and the signature of a core's image pass. -/
def fwBootOk (s : State) (c : Nat) : Bool :=
  let b := s.fwImage c
  let w := s.mramRd (fwBase c + 0x7FFF8) 8
  numAt w 0 4 == 0x4F4B4657 && numAt w 4 4 == (crc32 b).toNat && Fw.headOk b && Fw.sizeOk b && Fw.signed b s.fuses.revoked

/-- Set or clear the bit of a core in a four-bit field of MGT_STATUS. -/
def coreBit (s : State) (x : Fld) (c : Nat) (v : Bool) : State :=
  s.setF x ((s.f x &&& (15 - 2 ^ c)) + (if v then 2 ^ c else 0))

/-- A core boots: its resident image runs, or it stays loader-only with event 46 (R353, Table 16.1). [DEDUCED, log entry 138] -/
def bootCore (s : State) (c : Nat) : State :=
  let s := s.setMgt fun m => { m with cleanFrom := setAt m.cleanFrom c fun _ => s.clk.now }
  if s.fwBootOk c then
    let b := s.fwImage c
    let s := s.setMgt fun m => { m with load := tabMod m.load c fun _ => slice b 0x100 (Fw.loadsz b) }
    let s := (s.coreBit F.MGT_STATUS_RUNNING c true).coreBit F.MGT_STATUS_NEEDIMG c false
    let s := (((s.setF (F.MGT_CORE_VER_VERSION c) (Fw.version b)).setF (F.MGT_CORE_SVN_SVN c) (Fw.svn b)).setF
      (F.MGT_CORE_IFACE_IFACE c) (Fw.iface b)).setF (F.MGT_CORE_IFACE_HOFMT c) (Fw.hofmt b)
    let s := if s.f (F.MGT_CORE_SVN_CNT c) < Fw.svn b then s.coreBit F.MGT_STATUS_UNCONF c true else s
    if c = 3 then
      let s := s.noteMcomp
      if s.present .FAB && s.pstate == 3 && !s.on F.FAB_PLAN_CTL_HOLD && !s.fab.avsFault then s.settle else s
    else s
  else
    let s := (s.coreBit F.MGT_STATUS_RUNNING c false).coreBit F.MGT_STATUS_NEEDIMG c true
    let s := ((s.setF (F.MGT_CORE_VER_VERSION c) 0).setF (F.MGT_CORE_SVN_SVN c) 0).setReg (R.MGT_CORE_IFACE c) 0
    let s := if c = 3 then (if s.present .FAB then s.setF F.FAB_STATUS_PSTATE 0 else s).noteMcomp else s
    let s := if c = 2 && s.f F.TIM_STATUS_TSTATE != 4 then s.enterHoldover else s
    s.raise 46

/-- The cold start of a core's firmware (Table 16.7). [DEDUCED, log entry 137] -/
def coldStart (s : State) (c : Nat) : State :=
  match c with
  | 1 =>
    if !s.polls then s
    else
      let s := (s.portsOn.flatMap fun p => (s.tilesOn p).map fun a => (p, a)).foldl (fun s x => s.identify x.1 x.2) s
      s.portsOn.foldl enumerate s
  | 2 => (List.range 2).foldl (fun s d =>
      if s.f (F.TIM_DOM_STAT_DSTATE d) = 0 then s
      else ({ s with tim := { s.tim with doms := tabMod s.tim.doms d fun x => { ({} : Domain) with gm := x.gm } } }).domState d 1) s
  | 3 =>
    let s := s.setMgt fun m => { m with levels := .replicate 7 0, lower := .replicate 7 none, samples := [] }
    if s.present .FAB then s.setF F.FAB_AGE_INDEX (leVal (s.mramRd 0x20 8)) else s
  | _ => s

/-- A core leaves a core reset: it boots, and its firmware starts cold. [DEDUCED, log entry 136; DEDUCED, log entry 137] -/
def coreReturn (s : State) (c : Nat) : State :=
  let s := s.bootCore c
  if s.coreUp c then s.coldStart c else s

/-! ### The update service (R361 to R364) -/

def sessState (s : State) : Nat := s.f F.MGT_SESS_STATE
def sessHeld (s : State) : Bool := s.on F.MGT_SESS_HELD
def sessTarget (s : State) : Nat := s.f F.MGT_SESS_TARGET

/-- The structure slot that an update session writes: the one not running. [DEDUCED, log entry 142] -/
def targetSlot (s : State) : Nat := 1 - s.runSlot

/-- R32: slot writes are refused from the acceptance of a heavy commit until its shutter point has passed. [DEDUCED, log entry 143] -/
def slotsLocked (s : State) : Bool := s.cmt.pend.any (·.heavy)

/-- Answer an update command, its status recorded in MGT_SESS_STAT. -/
def answer (s : State) (m : Msg) (status detail : Nat) (extra : List Nat) : State :=
  ((s.setF F.MGT_SESS_STAT_STATUS status).setF F.MGT_SESS_STAT_DETAIL detail).respond m (responseWords m status detail extra)

/-- The session ends: the lock is released and a slot it wrote is revalidated (R362, R363). -/
def endSession (s : State) : State :=
  let s := if s.sessHeld && s.sessTarget == 4 then s.validateSlot s.targetSlot else s
  ({ ((s.setReg R.MGT_SESS 0).setReg R.MGT_SESS_BYTES 0) with ubuf := [] }).setMgt fun m => { m with total := 0 }

/-- Serve the oldest message of the Guard core where it is update command `cmd`; commands of a session are the holder's alone
(R361). [DEDUCED, log entry 99; DEDUCED, log entry 112] -/
def serve (s : State) (cmd : Nat) (holder : Bool) (g : Msg → State → State) : State :=
  match s.takeMsg 3 with
  | none => s
  | some (m, s') =>
    if m.svc ≠ 1 ∨ m.cmd ≠ cmd then s
    else if holder && !s'.sessHeld then s'.answer m 3 0 []
    else if holder && m.path != s'.f F.MGT_SESS_PATH then s'.answer m 2 0 []
    else
      let own := s'.sessHeld && m.path == s'.f F.MGT_SESS_PATH
      g m (if own then s'.setMgt fun x => { x with heardAt := s'.clk.now } else s')

/-- UPDATE_OPEN. [DESIGN CHOICE, log entry 111] -/
def updateOpen (s : State) : State :=
  s.serve 1 false fun m s =>
    let target := m.word 1 % 8
    let total := m.word 2
    if s.sessHeld then
      ((s.bump F.MGT_BUSY_CNT_COUNT).raise 41).answer m 1 (s.f F.MGT_SESS_PATH) [s.f F.MGT_SESS_SESSTAG]
    else if 4 < target ∨ (if target = 4 then 2097152 else 458752) < total then s.answer m 4 0 []
    else if target = 4 ∧ s.slotsLocked then s.answer m 9 0 []
    else
      let s := (((((s.setReg R.MGT_SESS 0).setF F.MGT_SESS_STATE 1).setF F.MGT_SESS_HELD 1).setF F.MGT_SESS_PATH m.path).setF
        F.MGT_SESS_TARGET target).setF F.MGT_SESS_SESSTAG (m.word 1 / 2 ^ 16)
      let s := { (s.setReg R.MGT_SESS_BYTES 0) with ubuf := [] }
      let s := s.setMgt fun x => { x with total := total, heardAt := s.clk.now }
      let s := if target = 4 then s.slotWriting s.targetSlot else s
      (s.raise 40).answer m 0 0 []

/-- UPDATE_WRITE. [DEDUCED, log entry 143] -/
def updateWrite (s : State) : State :=
  s.serve 2 true fun m s =>
    let off := m.word 1
    let data := m.bytesFrom 2
    if !([1, 2, 5].contains s.sessState) then s.answer m 3 0 []
    else if off % 4 ≠ 0 ∨ s.mgt.total < off + data.length then s.answer m 4 0 []
    else if s.sessTarget = 4 ∧ s.slotsLocked then s.answer m 9 0 []
    else
      let (ok, s) := if s.sessTarget = 4 then s.mramTry (slotBase s.targetSlot + off) data
        else (true, { s with ubuf := Mem.write s.ubuf off data })
      if !ok then (s.raise 51).answer m 7 0 []
      else
        let s := (s.setF F.MGT_SESS_STATE 1).setF F.MGT_SESS_COLD 0
        let s := s.setF F.MGT_SESS_BYTES_BYTES (max (s.f F.MGT_SESS_BYTES_BYTES) (if data.isEmpty then 0 else off + data.length))
        s.answer m 0 0 []

/-- The image in the update buffer. -/
def ubufImage (s : State) : List Byte := Mem.read s.ubuf 0 (min s.mgt.total 458752)

/-- Compatibility of an image for core c with the other cores' running images (R360). -/
def fwCompatible (s : State) (c : Nat) (b : List Byte) : Bool :=
  ((List.range 4).filter (· != c)).all fun a =>
    decide (Fw.req b a ≤ s.f (F.MGT_CORE_IFACE_IFACE a)) && (!s.coreUp a || decide (Fw.req (s.fwImage a) c ≤ Fw.iface b))

/-- The checks of Table 16.5 for TARGET c: 0 passes. [DEDUCED, log entry 141] -/
def fwCode (s : State) (c : Nat) (b : List Byte) : Nat :=
  if !Fw.headOk b then 1
  else if Fw.length b ≠ s.f F.MGT_SESS_BYTES_BYTES ∨ Fw.length b ≠ s.mgt.total ∨ !Fw.sizeOk b then 2
  else if Fw.core b ≠ c then 3
  else if !(numAt b 7 1).testBit (if s.part7440 then 0 else 1) || decide (0xB0 < numAt b 8 1) then 4
  else if !((slice b 0x30 12).all (· == 0) || slice b 0x30 12 == s.unitBytes) then 5
  else if !Fw.signed b s.fuses.revoked then 6
  else if Fw.svn b < s.f (F.MGT_CORE_SVN_CNT c) then 7
  else if !s.fwCompatible c b then 8
  else 0

/-- COLD of an image (R364). -/
def fwCold (s : State) (c : Nat) (b : List Byte) : Bool := !s.coreUp c || !Fw.reads b (s.f (F.MGT_CORE_IFACE_HOFMT c))

/-- UPDATE_VERIFY. [DEDUCED, log entry 144] -/
def updateVerify (s : State) : State :=
  s.serve 3 true fun m s =>
    if s.sessState ≠ 1 then s.answer m 3 0 []
    else
      let t := s.sessTarget
      let (code, cold, s) :=
        if t = 4 then
          let s := s.validateSlot s.targetSlot
          (s.f (F.SYS_IMG_STAT_FAIL s.targetSlot) + (if s.slotEmpty s.targetSlot then 1 else 0), false,
            s.slotWriting s.targetSlot)
        else (s.fwCode t s.ubufImage, s.fwCold t s.ubufImage, s)
      let s := s.setF F.MGT_SESS_COLD cold.toNat
      if code = 0 then (s.setF F.MGT_SESS_STATE 2).answer m 0 0 [cold.toNat]
      else ((s.setF F.MGT_SESS_STATE 5).raise 43).answer m 5 code [cold.toNat]

/-- The core of an activation is held in core reset: its working memory and queue are lost; the Guard's session and buffer stay
(R365, Table 16.6). -/
def holdCore (s : State) (c : Nat) : State :=
  let s := (s.coreBit F.MGT_STATUS_RUNNING c false).setMbox c []
  let s := s.setMgt fun m => { m with load := tabMod m.load c fun _ => [] }
  if c = 3 then (if s.present .FAB && s.pstate != 0 then s.setF F.FAB_STATUS_PSTATE 3 else s).noteMcomp else s

/-- UPDATE_ACTIVATE (R365). -/
def updateActivate (s : State) : State :=
  s.serve 4 true fun m s =>
    let c := s.sessTarget
    if s.sessState ≠ 2 ∨ c = 4 then s.answer m 3 0 []
    else
      let b := s.ubufImage
      let refuse := fun (st d : Nat) (s : State) => (s.raise 48).answer m st d []
      if Fw.svn b < s.f (F.MGT_CORE_SVN_CNT c) then refuse 6 7 s
      else if !s.fwCompatible c b then refuse 6 8 s
      else if s.fwCold c b ∧ m.word 1 % 2 = 0 then refuse 6 9 s
      else if s.slotsLocked ∨ s.mgt.act.isSome then refuse 6 10 s
      else if !s.mramOk then refuse 7 0 (s.mramRefuse.raise 51)
      else
        let fmt := if s.coreUp c then some (s.f (F.MGT_CORE_IFACE_HOFMT c)) else none
        let s := (s.setF F.MGT_SESS_STATE 3).answer m 0 0 []
        let s := s.setF F.RPS_CAUSE_CAUSE (s.f F.RPS_CAUSE_CAUSE ||| 2 ^ 9)
        let s := s.setMgt fun x =>
          { x with act := some { core := c, image := b }, handover := setAt x.handover c fun _ => fmt }
        (s.holdCore c).mramWr (fwBase c + 0x7FFF8) (List.replicate 8 0)

/-- ACTIVATION_COMPLETE (Table 16.6, R366): the image and its check word are written, and the core boots and resumes or starts
cold. [DEDUCED, log entry 139] -/
def activationComplete (s : State) (pulse : Bool) : State :=
  match s.mgt.act with
  | none => s
  | some a =>
    let c := a.core
    let loader := (s.f F.MGT_STATUS_NEEDIMG).testBit c
    let s := s.setMgt fun m => { m with act := none }
    let s := s.setRps fun r => { r with cores := r.cores &&& (15 - 2 ^ c) }
    let (ok, s) := s.mramTry (fwBase c) a.image
    let s := if ok then s.mramWr (fwBase c + 0x7FFF8) (leBytes 4 0x4F4B4657 ++ leBytes 4 (crc32 a.image).toNat) else s.raise 51
    let s := s.bootCore c
    if !s.coreUp c then (if s.sessHeld then s.setF F.MGT_SESS_STATE 5 else s.setReg R.MGT_SESS 0)
    else
      let warm := (s.mgt.handover.getD c none).any (Fw.reads a.image)
      let s := s.setMgt fun m => { m with handover := setAt m.handover c fun _ => none }
      let s := if warm then s else (s.coldStart c).raise 47
      let s := ((if s.sessHeld then s.setF F.MGT_SESS_STATE 4 else s.setReg R.MGT_SESS 0).coreBit F.MGT_STATUS_UNCONF c true).raise 44
      if loader && c == 0 then s.requestReset { level := 2, source := 9, keep := false } pulse else s

/-- Confirmation of core c: CNT advances, and UNCONF clears (R367); not where MRAM writes are refused. -/
def confirmCore (s : State) (c : Nat) : Bool × State :=
  let svn := s.f (F.MGT_CORE_SVN_SVN c)
  if s.f (F.MGT_CORE_SVN_CNT c) < svn then
    let (ok, s) := s.mramTry (0x10 + 2 * c) (leBytes 2 svn)
    if ok then (true, ((s.setF (F.MGT_CORE_SVN_CNT c) svn).coreBit F.MGT_STATUS_UNCONF c false).raise 45) else (false, s.raise 51)
  else (true, (s.coreBit F.MGT_STATUS_UNCONF c false).raise 45)

/-- UPDATE_CONFIRM. [DEDUCED, log entry 113; DEDUCED, log entry 145] -/
def updateConfirm (s : State) : State :=
  s.serve 5 true fun m s =>
    if s.sessState ≠ 4 then s.answer m 3 0 []
    else
      let (ok, s) := s.confirmCore s.sessTarget
      if ok then s.endSession.answer m 0 0 [] else s.answer m 7 0 []

/-- ABORT and CLOSE: every state except Activating returns to Idle (R362). -/
def sessionStop (s : State) (cmd : Nat) : State :=
  s.serve cmd true fun m s => if s.sessState = 3 then s.answer m 3 0 [] else s.endSession.answer m 0 0 []

def updateAbort (s : State) : State := s.sessionStop 6
def updateClose (s : State) : State := s.sessionStop 8

/-- UPDATE_STATUS. -/
def updateStatus (s : State) : State :=
  s.serve 7 false fun m s => s.answer m 0 0 [(s.reg R.MGT_SESS).toNat, (s.reg R.MGT_SESS_BYTES).toNat]

/-- SESSION_TIMEOUT: 10 s without a message from the holder; an activation that is running completes (R362). -/
def sessionTimeout (s : State) : State :=
  if !s.sessHeld then s
  else
    let s := (s.bump F.MGT_SESS_CNT_COUNT).raise 42
    if s.sessState = 3 then (s.setReg R.MGT_SESS 0).setF F.MGT_SESS_STATE 3 else s.endSession

/-- AUTOCONFIRM: 60 s of Run without a watchdog expiry of core c (R367). -/
def autoconfirm (s : State) (c : Nat) : State :=
  if s.on F.MGT_CONF_CTL_AUTOCONF && (s.f F.MGT_STATUS_UNCONF).testBit c && s.coreUp c then
    (s.ticks ((s.mgt.cleanFrom.getD c 0 + 60000000000 - s.clk.now + 1) / 2)).confirmCore c |>.2
  else s

/-- A message in an UPDATE frame goes to the Guard core (R369); the result tells whether it was queued. -/
def updateMsg (s : State) (path tag : Nat) (payload : List Byte) : Bool × State :=
  s.mailboxIn 3 { path := path, words := wordsOf payload, ref := tag }

/-! ### The Goose (R337 to R339) -/

/-- What a counter that reads may clear has counted over the last `w` ns, from samples newest first. [DESIGN CHOICE, log entry 147] -/
def growth (now w : Nat) (x : GooseSample → Nat) : List GooseSample → Nat
  | a :: b :: l => if now ≤ b.at' + w then (if x b ≤ x a then x a - x b else x a) + growth now w x (b :: l) else 0
  | _ => 0

/-- The present sample. [DESIGN CHOICE, log entry 147] -/
def gooseSample (s : State) : GooseSample :=
  { at' := s.clk.now, susp := s.f F.FAB_SUSPECT_COUNT, ce := sumOf ((List.range 4).map fun c => s.f (F.FMC_CH_CE_COUNT c))
    ue := sumOf ((List.range 4).map fun c => s.f (F.FMC_CH_UE_COUNT c)), crc := (List.range 8).map fun p => s.f (F.LAN_P_CRCERR_COUNT p) }

/-- The highest level of each check whose condition holds (Table 15.5); `plls` tells that the time PLL is locked and the reference
crystal present. -/
def gooseNow (s : State) (plls : Bool) : List Nat :=
  let now := s.clk.now
  let sec := 1000000000
  let l := s.mgt.samples
  let grow := fun (w : Nat) (x : GooseSample → Nat) => growth now w x l
  let lim := fun (f : Fld) => s.f f
  let level := fun (a d : Bool) => if a then 2 else if d then 1 else 0
  let paired := s.heard
  let ue10 := grow (10 * sec) (·.ue)
  let exp := (s.mgt.expiries.filter fun e => decide (now ≤ e.1 + 60 * sec)).length
  let ts := s.f F.TIM_STATUS_TSTATE
  let out := fun (up : Nat) => (s.portsOn.filter fun p => !up.testBit p).length
  let chFail := s.chansOn.any fun c => (s.f F.FMC_STATUS_FAILED).testBit c
  [level (s.present .FAB && decide (lim F.MGT_GSE_LIM0_SUSPMAX ≤ grow sec (·.susp))) (s.on F.FAB_STATUS_RES_HIGH),
    level (decide (lim F.MGT_GSE_LIM0_UEMAX ≤ ue10) || chFail) (decide (lim F.MGT_GSE_LIM1_CEMAX < grow sec (·.ce) ∨ 0 < ue10)),
    level (decide (2 ≤ exp)) (decide (1 ≤ exp)),
    level (!plls || (s.role != 0 && !s.on F.LAN_CLK_LOCK)) (s.isSender && s.portsOn.any fun p => (s.port p).clkRate == 0),
    level (paired && ts == 4 && numAt s.par.hb 3 1 == 3 &&
      s.mgt.lostAt.any fun t => decide (t + lim F.MGT_GSE_LIM0_TLOST * sec < now)) (ts == 2 || ts == 4),
    level (s.f F.THM_STATUS_STAGE == 2) (s.f F.THM_STATUS_WARN != 0),
    level (paired && decide (out (numAt s.par.hb 18 1) < out s.upMask)) (decide (0 < out s.upMask) ||
      s.portsOn.any fun p => decide (lim F.MGT_GSE_LIM1_LANEMAX < grow sec fun x => x.crc.getD p 0))]

/-- One check moves to its condition's level: up at once, down one level after 10 s (R337). -/
def gooseMove (s : State) (i level : Nat) : State :=
  let old := tabAt s.mgt.levels i 0
  let put := fun (s : State) (v : Nat) (since : Option Nat) => s.setMgt fun m =>
    { m with levels := tabMod m.levels i fun _ => v, lower := tabMod m.lower i fun _ => since }
  let enter := fun (s : State) (v : Nat) => if v = 1 then s.raise 61 else if v = 2 then s.raise 62 else s
  if !(s.f F.MGT_GSE_EN_EN).testBit i then put s 0 none
  else if old < level then enter (put s level none) level
  else if level = old then put s old none
  else match tabAt s.mgt.lower i none with
    | none => put s old (some s.clk.now)
    | some t =>
      if t + 10000000000 ≤ s.clk.now then enter (put s (old - 1) (if level < old - 1 then some s.clk.now else none)) (old - 1) else s

/-- The verdict is set, with event 60 on a change. [DEDUCED, log entry 146] -/
def setVerdict (s : State) (v : Nat) : State :=
  if s.f F.MGT_GSE_STAT_VERDICT = v then s
  else ((s.setF F.MGT_GSE_STAT_VERDICT v).bump F.MGT_GSE_CHG_COUNT).raise 60

/-- GOOSE_EVAL: every 100 ms of Run on the Guard core. [DESIGN CHOICE, log entry 148] -/
def gooseEval (s : State) (plls : Bool) : State :=
  if !s.coreUp 3 || s.coreHeld 3 || s.f F.RPS_PWR_STAT_STATE != 0 then s
  else
    let lost := if s.f F.TIM_STATUS_TSTATE = 4 then some (s.mgt.lostAt.getD s.clk.now) else none
    let s := s.setMgt fun m => { m with samples := (s.gooseSample :: m.samples).take 102, lostAt := lost }
    let now := s.gooseNow plls
    let s := (List.range 7).foldl (fun s i => s.gooseMove i (now.getD i 0)) s
    let bits := fun (k : Nat) => sumOf (((List.range 7).filter fun i => decide (k ≤ tabAt s.mgt.levels i 0)).map fun i => 2 ^ i)
    let s := ((s.setF F.MGT_GSE_STAT_DCAUSE (bits 1)).setF F.MGT_GSE_STAT_ACAUSE (bits 2)).setF F.MGT_GSE_STAT_WDFORCE 0
    let v := s.mgt.levels.toList.foldl max 0
    (s.setVerdict v).verdictAct v

/-- WATCHDOG_EXPIRY: the watchdog of core c (R354, R338, R367). -/
def watchdogExpiry (s : State) (c : Nat) (pulse : Bool) : State :=
  if !s.coreUp c || s.f (F.MGT_WD_CTL_PERIOD c) == 0 then s
  else
    let s := (s.bump (F.MGT_WD_CNT_COUNT c)).raise 49
    let s := s.raiseIf ((s.f F.MGT_STATUS_UNCONF).testBit c) 52
    let s := s.setMgt fun m => { m with
      cleanFrom := setAt m.cleanFrom c fun _ => s.clk.now
      expiries := (s.clk.now, c) :: m.expiries.filter fun e => decide (s.clk.now ≤ e.1 + 60000000000) }
    let s := if c = 3 then (((s.setF F.MGT_GSE_STAT_WDFORCE 1).raise 63).setVerdict 2).verdictAct 2 else s
    s.requestReset { level := 1, source := 3, cores := 2 ^ c } pulse

end State

end Sys2Proof.Machine
end

