-- ==== Sys2Proof/Machine/Boot.lean ====
section
/-! DEFINITION. Supplies, reset pins, the release of resets, bring-up, and the power states (chapter 17). -/

namespace Sys2Proof.Machine

namespace State

/-! ### Bring-up (R386) -/

/-- Bring-up ends: STAGE 5, its time, and the events that waited for EVT (R393). [DESIGN CHOICE, log entry 78] -/
def bringupEnd (s : State) : State :=
  let s := (s.setF F.RPS_BOOT_STAGE 5).setF F.RPS_BOOT_MS (min ((s.clk.now - s.rps.released) / 1000000) 0xFFFF)
  let owed := s.rps.owed
  owed.foldl raise (s.setRps fun r => { r with owed := [], waking := false })

/-- Step 4 begins once no channel trains, and bring-up ends once no table load runs. [DESIGN CHOICE, log entry 72; DEDUCED, log entry 149] -/
def bringupGo (s : State) : State :=
  let s :=
    if s.stage' = 3 ∧ s.chansOn.all (fun c => s.f (F.FMC_CH_STAT_STATE c) != 1) then
      let s := (s.setF F.RPS_BOOT_STAGE 4).doseRestore s.rps.kept
      s.tableStart (s.f F.COR_GWY_SEL_SET) none s.rps.kept
    else s
  if s.stage' = 4 ∧ s.cor.load.isNone then s.bringupEnd else s

/-- The memory as the image runs: kept through the reset where its layout is the same, retrained after Standby, else trained anew
(R36, R297, R298, R299). [DEDUCED, log entry 28] -/
def bringupMemory (s : State) : State :=
  if s.rps.kept && s.rps.layout == (s.f F.FMC_CFG_ORDER, s.f F.FMC_CFG_RATE, s.f F.FMC_CFG_MASK) then
    if s.chansOn.any fun c => s.f (F.FMC_CH_STAT_STATE c) == 3 then s.leaveSelfRefresh else s
  else
    let cfg := s.reg R.FMC_CFG
    let s := if s.rps.kept then ((s.fmcReset.setReg R.FMC_CFG cfg).rtSizes).setRps fun r => { r with kept := false } else s
    s.startTraining

/-- The values that blocks derive from the registers the image has set. -/
def bringupDerive (s : State) : State :=
  let s := (((s.timingConstants.driveConstants (s.f F.DRV_PWM_WIDTH)).luxConstants).loadFigures).hostLoad
  ((s.railLimits).reelEnable).boardsNote

/-- The image of a valid slot is run (R36). -/
def runImage (s : State) (slot : Nat) (fallback : Bool) : State :=
  let s := ((s.imgFields slot fallback).setF (F.SYS_IMG_STAT_STATE slot) 4).fabClear
  let s := (s.bringupMemory.bringupDerive).hostInService true
  let s := (List.range 8).foldl (fun s t => if outChanged [] s.regs t then s.outProgram t else s) s
  let s := if !s.isSender then s
    else if s.present .PAR then s.pairStart
    else (s.setF F.CMC_STATUS_MASTER 1).setF F.CMC_ADDR_ADDR 0
  (List.range 9).foldl noteTx s

/-- The structure image load (R35). -/
def imageLoad (s : State) : State :=
  let boot := leVal (s.mramRd 0 4) % 2
  let s := s.setF F.RPS_BOOT_STAGE 3
  if !s.coreUp 0 then ((List.range 9).foldl noteTx (s.hostInService false)).bringupEnd
  else
    let s := s.validateSlot boot
    if s.slotValid boot then ((s.validateSlot (1 - boot)).runImage boot false).bringupGo
    else
      let s := s.validateSlot (1 - boot)
      if s.slotValid (1 - boot) then ((s.raise 57).runImage (1 - boot) true).bringupGo
      else ((List.range 9).foldl noteTx ((s.raise 58).hostInService false)).bringupEnd

/-- RECORD_LOAD_DONE: step 1 ends, and the cores are started (R414). -/
def recordLoadDone (s : State) : State :=
  if s.stage' = 1 ∧ !s.rps.held then s.recLoad.noteMcomp.recRepair.setF F.RPS_BOOT_STAGE 2 else s

/-- CORE_BOOT_DONE: step 2 ends (R353), and the structure image load runs. -/
def coreBootDone (s : State) : State :=
  if s.stage' = 2 ∧ !s.rps.held then ((List.range 4).foldl bootCore s).imageLoad else s

/-- CHANNEL_TRAINING_DONE (R296, R297). -/
def channelDone (s : State) (c : Nat) (ranks2 : Bool) (rowb fail : Nat) (pulse : Bool) : State :=
  let (bad, s) := s.trainingDone c ranks2 rowb fail
  if bad then s.requestReset { level := 2, source := 4, keep := false } pulse else s.bringupGo

/-! ### Supplies and reset pins (R376 to R384) -/

/-- POWER_ON (R383): the rails, the crystal and PG_CORE qualify, and the power-on reset is released. [DEDUCED, log entry 154] -/
def powerOn (s : State) : State :=
  if s.rps.held && s.rps.level == 3 && !s.rps.latch then (s.setF F.RPS_AON_VIN_OK 1).releaseReset else s

/-- RAIL_FAIL (R430): a monitored rail, or VDD_AON itself. -/
def railFail (s : State) (aon pulse : Bool) : State :=
  s.requestReset { level := 3, source := 0, keep := false, aon := aon } pulse

/-- BROWNOUT (R384). -/
def brownout (s : State) (pulse : Bool) : State :=
  let s := (s.setF F.RPS_AON_BROWNOUT 1).setF F.RPS_AON_VIN_OK 0
  (s.setRps fun r => { r with owed := (r.owed.filter (· != 11)) ++ [11] }).requestReset { level := 3, source := 0, keep := false } pulse

/-- RST_N_ASSERT (R376): RST_N has been low for `ns`. -/
def rstNAssert (s : State) (ns : Nat) (pulse : Bool) : State :=
  if ns < 1000 then (s.bump F.RPS_GLITCH_COUNT).raise 4 else s.requestReset { level := 2, source := 1 } pulse

/-- PERST_ASSERT (R378): PERST_N fell and has been low for `ns`. -/
def perstAssert (s : State) (ns : Nat) (pulse : Bool) : State :=
  if s.part7440 && !s.isTile && (s.on F.HST_LINK_UP || decide (1000 ≤ ns)) then s.requestReset { level := 2, source := 2 } pulse else s

/-- The reset that a source of Table 17.2 requests. [DESIGN CHOICE, log entry 186] -/
def sourceReset (source : Nat) (coreLevel : Bool) (cores : Nat) (noKeep : Bool) : ResetReq :=
  { level := if source = 0 then 3 else if source = 3 ∨ (coreLevel ∧ (source = 8 ∨ source = 9)) then 1 else 2
    source := source, cores := cores, keep := !(noKeep || [0, 4, 5, 9].contains source) }

/-- RESET_REQUEST (R374, R377, R379): a thermal shutdown is taken with its latch. -/
def resetRequest (s : State) (source : Nat) (coreLevel : Bool) (cores : Nat) (noKeep pulse : Bool) : State :=
  if source = 5 then s.shutdown pulse else s.requestReset (sourceReset source coreLevel cores noKeep) pulse

/-- RPS_RST is written (R375). -/
def rstWrite (s : State) (w : Word) (pulse : Bool) : State :=
  let s := s.setReg R.RPS_RST (w &&& 0xFFFF01F3)
  if F.RPS_RST_KEY.get w ≠ 0xA5C3 then s
  else match F.RPS_RST_LEVEL.get w with
    | 1 => s.requestReset { level := 1, source := 8, cores := F.RPS_RST_CORES.get w } pulse
    | 2 => s.requestReset { level := 2, source := 8, keep := F.RPS_RST_NOKEEP.get w = 0 } pulse
    | _ => s

/-- A wake whose PG_CORE is high: bring-up as after a kept system reset (R392). -/
def wakeUp (s : State) : State :=
  let s := s.ticks 1
  let tones := s.rps.tones
  let owed := (s.rps.owed.filter (· != 9)) ++ [9]
  let s := ((s.clearAll false false true false).setF F.TIM_STATUS_SBY 1).noteReset 2 15 0 true false
  let s := s.setRps fun r => { r with level := 2, kept := true, began := s.clk.now, owed := owed, tones := tones, waking := true, cores := 0 }
  s.releaseReset

/-- RESET_RELEASE (R377, R386): the hold of the reset ends. [DEDUCED, log entry 154] -/
def resetRelease (s : State) : State :=
  if s.f F.RPS_PWR_STAT_STATE = 2 ∧ s.rps.waking then s.wakeUp
  else if s.rps.latch then s
  else if s.rps.held then (s.setF F.RPS_AON_VIN_OK 1).releaseReset
  else if s.rps.cores = 0 then s
  else
    let cores := (List.range 4).filter fun c => s.rps.cores.testBit c && !s.mgt.act.any fun a => a.core == c
    let s := cores.foldl coreReturn (s.setRps fun r => { r with cores := 0 })
    if s.stage' < 5 then s
    else
      let owed := s.rps.owed
      owed.foldl raise (s.setRps fun r => { r with owed := [] })

/-- CHAIN_RESET_ENTER (R380). -/
def chainResetEnter (s : State) (pulse : Bool) : State :=
  if !s.isSender && s.rps.chainReset then
    (s.setRps fun r => { r with chainReset := false, owed := (r.owed.filter (· != 12)) ++ [12] }).requestReset
      { level := 2, source := 6 } pulse
  else s

/-! ### Power states (R387 to R392) -/

/-- Is the device in Standby, its group 4 rails off? -/
def asleep (s : State) : Bool := s.f F.RPS_PWR_STAT_STATE == 2

def dozing (s : State) : Bool := s.f F.RPS_PWR_STAT_STATE == 1

/-- A power-state request is refused (R388). -/
def pwrRefuse (s : State) (code : Nat) : State :=
  ((s.setF F.RPS_PWR_STAT_RESULT 3).setF F.RPS_PWR_STAT_CODE code).raise 6

/-- The drive port holds its sync pair low (R389, step 1). -/
def darken (s : State) : State :=
  if !s.present .DRV then s
  else ((s.setF F.DRV_STATUS_HBLANK 1).setDrv fun d => { d with release := none }).emit (.sync 0)

/-- Entry to Doze (R389). -/
def dozeEnter (s : State) : State :=
  let s := (s.darken.setFab fun f => { f with work := [] }).selfRefresh true
  let s := (s.setF F.RPS_PWR_STAT_STATE 1).setF F.RPS_PWR_STAT_RESULT 2
  let s := s.setRps fun r => { r with ask := none, relay := false, waking := false }
  let s := ((List.range 9).foldl txHalt s).rxTo 1 0
  (s.singleMode 0 true).raise 7

/-- The island takes the count over at the first tick of its 50 MHz counter (R263), with the crystal's rate error as it last measured it,
a value of the crystal. [DESIGN CHOICE, log entry 200] -/
def islandTake (s : State) : State :=
  let (v, s) := s.takeFree 32
  { s with clk := { s.clk with now := cdiv s.clk.now 20 * 20, err := sgn 32 v } }

/-- Entry to Standby (R390). [DEDUCED, log entry 153] -/
def standbyEnter (s : State) : State :=
  let s := s.darken
  let s := if s.isTile then (List.range 98).foldl (fun s _ => s.ckptChunk) s.ckptStart else s
  let s := s.selfRefresh false
  let s := if s.isSender then s.linkDown else s
  let s := (s.setF F.RPS_PWR_STAT_STATE 2).setF F.RPS_PWR_STAT_RESULT 2
  let s := s.setRps fun r => { r with ask := none, relay := false, waking := false }
  let s := (List.range 9).foldl txHalt s
  let s := s.islandTake
  (s.setF F.RPS_AON_PGCORE 0).emit (.pwrEn false)

def powerEnter (s : State) (req : Nat) : State := if req = 1 then s.dozeEnter else s.standbyEnter

/-- DOZE_REQ, STANDBY_REQ and POWER_CANCEL: RPS_PWR_REQ is written (R388). [DEDUCED, log entry 151] -/
def powerRequest (s : State) (req : Nat) : State :=
  let s := s.setF F.RPS_PWR_REQ_REQ req
  if req = 0 then s
  else if req = 3 then
    if s.rps.ask.isSome then (s.setRps fun r => { r with ask := none }).setF F.RPS_PWR_STAT_RESULT 0 else s
  else if req = 1 ∧ !s.isTile then s.pwrRefuse 1
  else if s.sessState = 3 then s.pwrRefuse 2
  else if !s.cmt.pend.isEmpty then s.pwrRefuse 3
  else if s.rps.latch ∨ s.rps.waking then s.pwrRefuse 4
  else
    let (sec, ns) := s.reqTime R.RPS_PWR_NS R.RPS_PWR_SL R.RPS_PWR_SH
    if 999999999 < ns then s.pwrRefuse 5
    else
      let s := (s.setF F.RPS_PWR_STAT_RESULT 1).setF F.RPS_PWR_STAT_CODE 0
      if !s.framed then s.powerEnter req
      else
        let t := countOf sec ns
        let n := if t ≤ s.clk.wall then s.frameNow + 1
          else firstFrom (fun n => decide (t ≤ s.rate.frame n)) 4 (s.rate.frameOf t)
        s.setRps fun r => { r with ask := some (req, n) }

/-- Frame boundary n: a power-state entry that is due, and the return of a dozing tile whose ports have come up (R388, R389). -/
def powerFrame (s : State) (n : Nat) : State :=
  if s.dozing && s.rps.waking then
    if s.portUp 0 && (!s.on (F.LAN_P_STAT_CLKDET 1) || s.portUp 1) then
      let s := (s.setF F.RPS_PWR_STAT_STATE 0).setRps fun r => { r with waking := false }
      let s := s.leaveSelfRefresh
      let s := if s.present .DRV && !s.on F.DRV_CTL_BLANK then s.setDrv fun d => { d with release := some s.clk.now } else s
      s.raise 8
    else s
  else match s.rps.ask with
    | some (req, m) => if m ≤ n then s.powerEnter req else s
    | none => s

/-- A wake pattern at a dozing tile: port 0 is relayed onto port 1 (R389, R216). -/
def dozeWake (s : State) : State :=
  if s.dozing && !s.rps.relay && !s.rps.waking then ((s.setRps fun r => { r with relay := true }).singleMode 1 true).noteTx 1 else s

/-- DOZE_RELAY_END: RELAY ms have passed, or the clock of port 0 has stopped; both ports return to the image's rate (R389). -/
def dozeRelayEnd (s : State) : State :=
  if s.dozing && s.rps.relay then
    let s := s.setRps fun r => { r with relay := false, waking := true }
    ((s.singleMode 0 false).singleMode 1 false).noteTx 0
  else s

/-- RPS_DOZE is written on a Sender: the ports it names are fed in single-lane mode (R389). [DEDUCED, log entry 152] -/
def dozePorts (s : State) : State :=
  if s.isSender then s.portsOn.foldl (fun s p => s.singleMode p ((s.f F.RPS_DOZE_PORTS).testBit p)) s else s

/-- The tone driver of the ports in a mask starts or stops. -/
def toneOut (s : State) (ports : Nat) (on' : Bool) : State :=
  ((List.range 8).filter ports.testBit).foldl (fun s p => s.emit (.tone p on')) s

/-- WAKE (R391): an enabled source of the island. -/
def wake (s : State) (src : Nat) : State :=
  let able := (s.f F.RPS_WAKE_EN).testBit src && (src != 2 || (s.isSender && s.on F.TIM_SREF_CTL_EN))
  if !s.asleep || !able then s
  else
    let seen := if s.rps.waking then s.f F.RPS_WAKE_STAT_SRC else 0
    let s := s.setF F.RPS_WAKE_STAT_SRC (seen ||| 2 ^ src)
    let s := if src = 1 then
        let s := s.setF F.RPS_AON_TONE 1
        if s.isTile then (s.setRps fun r => { r with tones := 3 }).toneOut 3 true else s
      else s
    let s := if src = 2 then s.setF F.RPS_AON_SREF 1 else s
    if s.rps.waking then s else (s.setRps fun r => { r with waking := true }).emit (.pwrEn true)

/-- WAKE_FAIL (R392): event 10 is owed until EVT next runs. [DEDUCED, log entry 150] -/
def wakeFail (s : State) : State :=
  if s.asleep && s.rps.waking then
    (s.setRps fun r => { r with waking := false, owed := (r.owed.filter (· != 10)) ++ [10] }).emit (.pwrEn false)
  else s

/-- WAKE_TONE_CEASE: a tile stops relaying the tone (R391). -/
def toneCease (s : State) : State :=
  if s.rps.tones = 0 then s.setF F.RPS_AON_TONE 0
  else if s.isSender then s
  else ((s.setF F.RPS_AON_TONE 0).toneOut s.rps.tones false).setRps fun r => { r with tones := 0 }

/-- A relayed tone stops once the transmitters leave electrical idle (R391). -/
def toneStop (s : State) : State :=
  if s.rps.tones ≠ 0 ∧ !s.isSender ∧ s.portsOn.any (fun p => !(s.port p).idle) then
    (s.toneOut s.rps.tones false).setRps fun r => { r with tones := 0 }
  else s

/-- TONE_GO: RPS_TONE_GO is written on a Sender (R391). -/
def toneGo (s : State) (ports : Nat) : State :=
  let s := s.setF F.RPS_TONE_GO_PORTS ports
  if !s.isSender then s
  else
    let m := sumOf ((s.portsOn.filter ports.testBit).map fun p => 2 ^ p)
    (s.setRps fun r => { r with tones := r.tones ||| m }).toneOut m true

/-- TONE_END: MS ms have passed; the tone stops, and the lanes of its ports start (R391). -/
def toneEnd (s : State) : State :=
  if !s.isSender || s.rps.tones == 0 then s
  else
    let m := s.rps.tones
    let s := (s.toneOut m false).setRps fun r => { r with tones := 0 }
    (((List.range 8).filter m.testBit).foldl txonSet s).raise 13

/-- PLL_LOCK with what the return of the transmitters ends. -/
def pllLocked (s : State) : State := s.pllLock.toneStop

/-- BOUNDARY_SCAN_INSTRUCTION (R407): the JTAG port enters or leaves a boundary-scan test instruction; TCK toggles for it.  [DESIGN
CHOICE, log entry 211] -/
def boundaryScan (s : State) (enter : Bool) : State :=
  (s.setRps fun r => { r with bscan := enter, tckAt := some s.clk.now }).noteMcomp

end State

end Sys2Proof.Machine
end

