-- ==== Sys2Proof/Machine/Dump.lean ====
section
/-! DEFINITION. Peek and the state dump (R282 to R285, Tables 12.6 and 12.7). -/

namespace Sys2Proof.Machine

/-- One dump section: code, the block it belongs to, address, index and data. -/
structure Section where
  code : Nat
  blk : Blk
  addr : Nat := 0
  index : Nat := 0
  data : List Byte
deriving DecidableEq, Repr

/-- The BLOCK code of a block's BLK_ID (Table 20.1). [DESIGN CHOICE, log entry 158] -/
def Blk.code (b : Blk) : Nat := RegFile.fld [] ⟨b.base, 0, 16⟩

/-- A byte list padded with zeros to the next 16-byte boundary (R284). -/
def pad16 (bs : List Byte) : List Byte := padTo (16 * cdiv bs.length 16) bs

/-- The bytes of a section: its 16-byte header, its data and the pad. -/
def Section.bytes (x : Section) : List Byte :=
  pad16 (leBytes 2 x.code ++ leBytes 2 x.blk.code ++ leBytes 4 x.addr ++ leBytes 4 x.data.length ++ leBytes 4 x.index ++ x.data)

namespace State

/-! ### Peek (R282) -/

/-- PEEK: a write to CMT_PEEK_ADDR starts the read. -/
def peekStart (s : State) (a : Nat) : State :=
  if s.present .CMT then (s.setF F.CMT_PEEK_ADDR_ADDR a).setF F.CMT_PEEK_ADDR_BUSY 1 else s

/-- PEEK_DONE: the word without side effect; an absent block or a misaligned address gives 0 and event 3. [DESIGN CHOICE, log entry 17] -/
def peekDone (s : State) : State :=
  if !s.present .CMT || !s.on F.CMT_PEEK_ADDR_BUSY then s
  else
    let a := s.f F.CMT_PEEK_ADDR_ADDR
    let s' := s.setF F.CMT_PEEK_ADDR_BUSY 0
    if a % 4 ≠ 0 ∨ !s.reaches (view a).2 then (s'.setReg R.CMT_PEEK_DATA 0).raise 3
    else s'.setReg R.CMT_PEEK_DATA (s.peekAt a)

/-! ### Sections of a dump (Table 12.7) -/

/-- The blocks that answer, in address order. -/
def blocksOn (s : State) : List Blk := Blk.all.filter s.present

/-- The words of a block over its extent. -/
def blockWords (b : Blk) (g : Nat → Word) : List Byte := (List.range (b.extent / 4)).flatMap fun i => leBytes 4 (g (b.base + 4 * i)).toNat

/-- Sections 0x0001 and 0x0002: active and stage image of each block. -/
def regSections (s : State) : List Section :=
  s.blocksOn.flatMap fun b =>
    [{ code := 1, blk := b, addr := b.base, data := blockWords b s.value },
     { code := 2, blk := b, addr := b.base + 2 ^ 23, data := blockWords b s.stageValue }]

/-- Sections 0x0003 and 0x0004: the pending commits and the stage images they hold. -/
def pendSections (s : State) : List Section :=
  let k := s.cmt.pend.length
  { code := 3, blk := .CMT, index := k
    data := (List.range k).flatMap fun i => (List.range 5).flatMap fun o => leBytes 4 (s.pendWord i (4 * o)).toNat } ::
  (List.range k).flatMap fun i =>
    let snap : RegFile := ((s.cmt.pend[i]?).map (·.snap)).getD []
    s.blocksOn.map fun b =>
      { code := 4, blk := b, addr := b.base + 2 ^ 23, index := i
        data := blockWords b fun a => if s.hiddenReg a then 0 else snap.get a &&& stMask a }

/-- The 16 bytes of a capture entry. -/
def capBytes (e : CapEntry) : List Byte :=
  leBytes 6 e.sec ++ leBytes 4 e.ns ++ [BitVec.ofNat 8 e.rise.toNat] ++ List.replicate 5 0

/-- Section 0x0017: the mailbox queues (R357). -/
def mailboxDump (s : State) : List Byte :=
  (List.range 4).flatMap fun c =>
    let q := s.mbox c
    let paths := (List.range q.length).foldl (fun a i => a + ((q[i]?).map (·.path)).getD 0 % 4 * 4 ^ i) 0
    leBytes 2 q.length ++ leBytes 2 paths ++ List.replicate 12 0 ++
      q.flatMap fun m => padTo 2000 (m.words.flatMap fun w => leBytes 4 w.toNat)

/-- The cells' local SRAM in a dump, as it stands. [DESIGN CHOICE, log entry 34] -/
def sramDump (s : State) : List Byte :=
  (List.range 1024).flatMap fun c => (List.range 4096).flatMap fun w => leBytes 4 (s.sramAt c w).1

/-- The sections that SEL selects, in the order of their codes. [DEDUCED, log entry 157; DESIGN CHOICE, log entry 158] -/
def dumpSections (s : State) : List Section :=
  let sel := fun (b : Nat) => (s.f F.CMT_DUMP_CTL_SEL).testBit b
  let part := fun (b : Nat) (l : List Section) => if sel b then l else []
  part 0 s.regSections ++ part 1 s.pendSections ++
    part 2 [{ code := 0x10, blk := .FAB, data := padTo 786432 (Img.cellprog s.runImg) }] ++
    part 3 [{ code := 0x11, blk := .FAB, data := s.sramDump }] ++
    part 4 [{ code := 0x12, blk := .TIM,
              data := s.tim.queues.toList.flatMap fun q => padTo 1024 (q.flatMap fun e => padTo 16 (tsBytes e)) }] ++
    part 5 [{ code := 0x13, blk := .TIM, data := s.tim.caps.toList.flatMap fun q => padTo 256 (q.flatMap capBytes) }] ++
    part 6 [{ code := 0x14, blk := .FMC, data := s.predictorDump }] ++
    part 7 (if s.isTile then [{ code := 0x15, blk := .EVT, index := s.evSeq.toNat, data := s.recs.flatMap recBytes }] else []) ++
    part 8 (if s.isSender then [{ code := 0x16, blk := .SND, index := s.snd.cache.table.length / 64
                                  data := s.snd.cache.table ++ s.snd.cache.meshes.flatMap fun m => padTo 1024 m.2 }] else []) ++
    part 9 [{ code := 0x17, blk := .MGT, data := s.mailboxDump }]

/-- The 64-byte header of Table 12.6 with its CRC field as given. [DEDUCED, log entry 164] -/
def dumpHeader (s : State) (sections len flags : Nat) (crc : Word) : List Byte :=
  leBytes 4 0x44584C53 ++ leBytes 2 1 ++ leBytes 2 sections ++ leBytes 4 len ++ leBytes 4 s.cmt.dumpGen.toNat ++
    leBytes 4 (s.reg R.CMT_GEN).toNat ++ leBytes 6 (secOf s.cmt.dumpAt) ++ leBytes 4 (nsOf s.cmt.dumpAt) ++ leBytes 2 flags ++
    leBytes 12 s.fuses.unitId.toNat ++ leBytes 4 (s.value R.SYS_ID).toNat ++ leBytes 4 (s.f F.CMT_DUMP_CTL_SEL) ++
    leBytes 1 s.role ++ List.replicate 7 0 ++ leBytes 4 crc.toNat

/-- The bytes of the sections put one after another, with the offset at which each begins after the header. [DESIGN CHOICE, log entry 155] -/
def dumpBody (l : List Section) : List Byte × List Nat :=
  l.foldl (fun r x => (r.1 ++ x.bytes, r.2 ++ [r.1.length])) ([], [])

/-! ### The dump (R283) -/

/-- CMT_DUMP_GO START: ignored while a dump runs. [DEDUCED, log entry 156] -/
def dumpStart (s : State) : State :=
  if !s.present .CMT then s
  else
    let s := s.setF F.CMT_DUMP_GO_START 1
    if s.f F.CMT_DUMP_STAT_STATE = 1 then s
    else
      (s.setReg R.CMT_DUMP_STAT 1).setCmt fun c => { c with
        dumpGen := s.reg R.CMT_GEN, dumpAt := s.clk.wall, dumpTorn := 0, dumpAbort := false, dumpSusp := s.on F.THM_STATUS_STAGE }

/-- CMT_DUMP_GO ABORT: the dump stops at the next section. -/
def dumpAbort (s : State) : State :=
  if !s.present .CMT then s
  else
    let s := s.setF F.CMT_DUMP_GO_ABORT 1
    if s.f F.CMT_DUMP_STAT_STATE = 1 then s.setCmt fun c => { c with dumpAbort := true } else s

/-- The bytes go to host memory or to local DRAM; the result tells of a write error. [DESIGN CHOICE, log entry 161] -/
def dumpPut (s : State) (bytes : List Byte) : Bool × State :=
  let base := s.f F.CMT_DUMP_BASE_LO_BASE / 64 * 64
  if s.isSender && s.on F.CMT_DUMP_CTL_TARGET then
    if s.present .HST && s.hst.pcie.bme && !s.hst.pcie.d3hot then
      (false, s.emit (.hostWrite (base + 2 ^ 32 * s.f F.CMT_DUMP_BASE_HI_BASE) bytes))
    else (true, s)
  else (false, s.dramWr (base + 2 ^ 32 * (s.f F.CMT_DUMP_BASE_HI_BASE % 2 ^ 8)) bytes)

/-- DUMP_COMPLETE: the dump ends, cut at the limit, after `done` sections where it was aborted, or by a write error.  Its register
sections are those of the second run where one shutter point passed, and torn where two did. [DESIGN CHOICE, log entry 17; DESIGN CHOICE, log entry 155; DESIGN CHOICE, log entry 159; DEDUCED, log entry 160; DEDUCED, log entry 162; DEDUCED, log entry 165] -/
def dumpComplete (s : State) (done : Nat) (err : Bool) : State :=
  if !s.present .CMT || s.f F.CMT_DUMP_STAT_STATE ≠ 1 || (s.on F.THM_STATUS_STAGE && !s.cmt.dumpAbort) then s
  else
    let all := s.dumpSections
    let stop := s.cmt.dumpAbort && decide (done < all.length)
    let (body, offs) := dumpBody (if stop then all.take done else all)
    let lim := s.f F.CMT_DUMP_LEN_LEN
    let trunc := decide (lim < 64 + body.length)
    let torn := decide (s.f F.CMT_DUMP_CTL_SEL % 4 ≠ 0 ∧ 2 ≤ s.cmt.dumpTorn)
    let body := body.take (lim - 64)
    let len := min lim (64 + body.length)
    let n := (offs.filter fun o => decide (64 + o < lim)).length
    let flags := torn.toNat + 2 * trunc.toNat + 4 * s.cmt.dumpSusp.toNat
    let crc := crc32 ((s.dumpHeader n len flags 0 ++ body).take lim)
    let bytes := (s.dumpHeader n len flags crc ++ body).take lim
    let (bad, s) := s.dumpPut bytes
    let bad := bad || err
    let stopped := stop || trunc || bad
    let s := (((s.setF F.CMT_DUMP_STAT_STATE (if stopped then 3 else 2)).setF F.CMT_DUMP_STAT_TORN torn.toNat).setF
      F.CMT_DUMP_STAT_TRUNC trunc.toNat).setF F.CMT_DUMP_STAT_ERR bad.toNat
    let s := (s.setF F.CMT_DUMP_BYTES_BYTES len).setCmt fun c => { c with dump := bytes }
    s.raise (if stopped || torn then 75 else 74)

end State

end Sys2Proof.Machine
end

