-- ==== Sys2Proof/Machine/Frame.lean ====
section
/-! DEFINITION. The work of every block at a frame boundary (R222). -/

namespace Sys2Proof.Machine

namespace State

/-- The registers of the boundary taken: DSP_LASTB (Table 10.9). -/
def noteBoundary (s : State) : State :=
  ((s.setF F.DSP_LASTB_NS_NS (nsOf s.clk.wall)).setF F.DSP_LASTB_SL_SEC (secOf s.clk.wall)).setF F.DSP_LASTB_SH_SEC
    (secOf s.clk.wall / 2 ^ 32)

/-- SCAP_APPLY (R403): at FRAME the capped slot count takes effect, and the boundary counts as a shutter point for R225;
events 21 and 22 are raised as it does. [DEDUCED, log entry 79] -/
def scapFrame (s : State) (n : Nat) : State :=
  if s.role = 0 || !(s.thm.scapN.any fun m => decide (m ≤ n)) then s
  else
    let cap := s.f F.THM_SCAP_CAP
    let s := (s.raiseIf (s.f F.THM_STATUS_CAP != cap) 21).raiseIf s.thm.scapLate 22
    let t := (s.setThm fun t => { t with scapN := none, scapLate := false }).setF F.THM_STATUS_CAP cap
    s.settleValues (t.setF F.DSP_STATUS_SACT (capped (t.f F.DSP_MODE_SLOTS) cap))

/-- Does this sender work on frame n + 1 at boundary n: not in pair Off or Resync before its join (R334, R344)? -/
def dealsAt (s : State) (n : Nat) : Bool :=
  !s.present .PAR || [1, 2, 3].contains s.pairState || (s.pairState == 4 && s.par.joinAt.any fun j => decide (j ≤ n))

/-- SOURCE_LATCH at boundary n and the fabric's start on frame n + 1 (R80, R95, R227), under the values of frame n + 1 (R226). -/
def senderFrame (s : State) (n : Nat) : State :=
  let due := s.cmt.pend.any fun c => s.dueBy c (n + 1) 0
  if !s.present .SND || !(s.on F.DSP_STATUS_RUN || due) || !s.updateFrame (n + 1) || s.repeatsHeavy (n + 1) ||
      !s.cmt.regionsDue.isEmpty || !s.dealsAt n then s
  else
    let s := if due then s.withView (s.viewAt (n + 1) 0) fun s => s.latchSources n else s.latchSources n
    s.dealFrame (n + 1)

/-- FRAME_BOUNDARY: wall time reaches the next frame boundary, and the work of every block at it is taken up (R222). -/
def frameBoundary (s : State) : State :=
  if !s.framed then s
  else
    let n := s.nextFrame
    let s := s.waitTo (s.rate.frame n)
    if s.stepHere n then s.stepDue
    else
    let s := (s.setDsp fun d => { d with lastN := some n }).noteBoundary
    let s := (s.scapFrame n).powerFrame n
    if s.f F.RPS_PWR_STAT_STATE ≠ 0 then s
    else
      let s := (((s.admitDue n).admitFrame n).heavyFrame n).pairFrame n
      let s := s.senderFrame n
      let s := (((s.derateFrame.lightFrame n).luxFrame n).tableFrame).videoLoss n
      let s := (s.pollCycle n).capPoll n
      let s := if n % 64 = 0 then s.capSpread scapWrite else s
      s.sweepFrame.provFrame

end State

end Sys2Proof.Machine
end

