-- ==== Sys2Proof/Machine/RegWrite.lean ====
section
/-! DEFINITION. Writes to the register space with the triggers that registers carry: what a write to a live register starts, the
mirroring of stage writes (R329, R331), and REG frames of the chain (R208). -/

namespace Sys2Proof.Machine

namespace State

/-! ### Triggers -/

/-- REL_CMD with a player and a KIND (R319); a Primary mirrors the action it schedules (R333). -/
def reelWrite (s : State) (p kind : Nat) : State :=
  if !s.present .REL then s
  else
    let s := (s.setF F.REL_CMD_PLAYER p).setF F.REL_CMD_KIND kind
    let (a, s) := s.reelCmd p kind
    match a with
    | some a => if s.mirrors then s.pairSeq 0x84 [] (pairAct 1 a) else s
    | none => s

/-- LAN_Pp_CTL is written with v: each changed bit acts (Table 08.7). [DEDUCED, log entry 68] -/
def laneCtlWrite (s : State) (p : Nat) (v : Word) : State :=
  let a := R.LAN_P_CTL p
  if !s.laneOn p then s
  else
    let loop := (F.LAN_P_CTL_LOOP p).get v
    let s := if loop = s.f (F.LAN_P_CTL_LOOP p) then s else if loop = 0 then s.loopExit p else s.loopEnter p loop
    let s := if (F.LAN_P_CTL_TPAT p).get v = s.f (F.LAN_P_CTL_TPAT p) then s
      else if s.on (F.LAN_P_CTL_TPAT p) then s.setF (F.LAN_P_CTL_TPAT p) 0 else s.testPattern p
    let bit := fun (s : State) (x : Fld) => if s.refusedBits a v &&& bitMask x.lo x.width = 0 then (s.setF x (x.get v)).noteTx p else s
    let s := bit (bit s (F.LAN_P_CTL_EIDLE p)) (F.LAN_P_CTL_TXON p)
    if (F.LAN_P_CTL_PROV p).get v = s.f (F.LAN_P_CTL_PROV p) then s else s.provSet p ((F.LAN_P_CTL_PROV p).get v != 0)

/-- FAB_PLAN_CTL.HOLD is written (R69). -/
def planHoldWrite (s : State) (hold : Bool) : State :=
  if s.present .FAB then (s.setF F.FAB_PLAN_CTL_HOLD hold.toNat).planHold hold else s

/-- CMC_ADMIT is written. -/
def admitWrite (s : State) (p a action : Nat) : State :=
  let s := ((s.setF F.CMC_ADMIT_PORT p).setF F.CMC_ADMIT_ADDR a).setF F.CMC_ADMIT_ACTION action
  match action with
  | 1 => s.admitCmd p a
  | 2 => s.quarantineCmd p a
  | 3 => s.recheckCmd p a
  | _ => s

/-- HST_SRCn_CTL.RUN or HST_PGR_CTL.RUN is written (R311, R316). -/
def ringWrite (s : State) (n : Nat) (run : Bool) : State :=
  if !s.present .HST then s
  else
    let was := s.on (ringRunF n)
    (s.setF (ringRunF n) run.toNat).ringRunWritten n was run

/-- NVS_WCMD is written (R418). -/
def wcmdKey (s : State) (op key : Nat) : State :=
  let s := (s.setF F.NVS_WCMD_OP op).setF F.NVS_WCMD_KEY key
  match op with
  | 1 => s.optionWrite key
  | 2 => s.recordImageWrite key
  | _ => s

/-- DRV_CTL.BLANK is written (R144). -/
def blankWrite (s : State) (on' : Bool) : State := if on' then s.hardBlank else s.blankRelease

/-- Registers whose write acts on the value held before it: the state after the write, none for every other register. -/
def ownWrite (s : State) (a : Nat) (v : Word) : Option State :=
  if R.LAN_P_CTL 0 ≤ a ∧ a ≤ R.LAN_P_CTL 8 ∧ (a - R.LAN_P_CTL 0) % 128 = 0 then
    some (s.laneCtlWrite ((a - R.LAN_P_CTL 0) / 128) v)
  else if a = R.THM_SCAP then some (s.scapWrite v)
  else if a = R.FAB_PLAN_CTL then some (s.planHoldWrite (F.FAB_PLAN_CTL_HOLD.get v != 0))
  else if R.HST_SRC_CTL 0 ≤ a ∧ a ≤ R.HST_SRC_CTL 7 ∧ (a - R.HST_SRC_CTL 0) % 64 = 0 then
    some (s.ringWrite ((a - R.HST_SRC_CTL 0) / 64) ((F.HST_SRC_CTL_RUN 0).get v != 0))
  else if a = R.HST_PGR_CTL then some (s.ringWrite 8 (F.HST_PGR_CTL_RUN.get v != 0))
  else if a = R.RPS_RST then some (s.rstWrite v false)
  else if a = R.DRV_CTL then some (s.blankWrite (F.DRV_CTL_BLANK.get v != 0))
  else none

/-- What a write of v to the live fields of the register at a starts, once they hold it. -/
def trigger (s : State) (a : Nat) (v : Word) : State :=
  if a = R.SYS_IMG_CHECK then s.imgCheck (F.SYS_IMG_CHECK_SLOT.get v)
  else if a = R.FAB_CPR_ADDR then s.cprRead
  else if a = R.COR_TBL_ADDR then s.tblRead
  else if a = R.COR_DOSE_LAMP then s.lampRead
  else if a = R.DRV_DIAG_NOW then (if F.DRV_DIAG_NOW_GO.get v = 1 then s.diagNow else s)
  else if a = R.LUX_CAL then s.luxCal (F.LUX_CAL_KIND.get v) (F.LUX_CAL_GROUPS.get v) (F.LUX_CAL_FRAMES.get v)
  else if a = R.LAN_CAL then s.calStart (F.LAN_CAL_PORTS.get v)
  else if R.LAN_P_EQMODE 0 ≤ a ∧ a < R.LAN_P_EQMODE 8 + 128 then s.eqFixed ((a - R.LAN_P_CTL 0) / 128)
  else if a = R.CMC_ENUM then s.enumCmd (F.CMC_ENUM_PORTS.get v)
  else if a = R.CMC_ADMIT then s.admitWrite (F.CMC_ADMIT_PORT.get v) (F.CMC_ADMIT_ADDR.get v) (F.CMC_ADMIT_ACTION.get v)
  else if a = R.DSP_ACT then
    let k := F.DSP_ACT_KIND.get v
    if 1 ≤ k ∧ k ≤ 4 then s.actRequest k (F.DSP_ACT_RAMPM1.get v) else s
  else if a = R.TIM_CMD then s.timCmd v
  else if R.TIM_CAP_POP 0 ≤ a ∧ a ≤ R.TIM_CAP_POP 3 ∧ (a - R.TIM_CAP_POP 0) % 32 = 0 then
    s.capturePop ((a - R.TIM_CAP_POP 0) / 32)
  else if a = R.CMT_REQ then s.commitRequest v
  else if a = R.CMT_CATCHUP then s.catchupCmd (F.CMT_CATCHUP_PORT.get v) (F.CMT_CATCHUP_ADDR.get v)
  else if a = R.CMT_PEEK_ADDR then s.peekStart (F.CMT_PEEK_ADDR_ADDR.get v)
  else if a = R.CMT_DUMP_GO then
    let s := if F.CMT_DUMP_GO_START.get v = 1 then s.dumpStart else s
    if F.CMT_DUMP_GO_ABORT.get v = 1 then s.dumpAbort else s
  else if a = R.FMC_CTL then s.noteScrub
  else if R.HST_SRC_PEERDONE 0 ≤ a ∧ a ≤ R.HST_SRC_PEERDONE 7 ∧ (a - R.HST_SRC_PEERDONE 0) % 64 = 0 then
    s.peerDoorbell ((a - R.HST_SRC_PEERDONE 0) / 64) ((F.HST_SRC_PEERDONE_INDEX 0).get v)
  else if a = R.REL_CMD then s.reelWrite (F.REL_CMD_PLAYER.get v) (F.REL_CMD_KIND.get v)
  else if a = R.PAR_CMD then s.parCmd (F.PAR_CMD_KIND.get v)
  else if a = R.MGT_MW_SEND 0 then s.mailboxSend 0 ((F.MGT_MW_SEND_CORE 0).get v)
  else if a = R.MGT_MW_SEND 1 then s.mailboxSend 1 ((F.MGT_MW_SEND_CORE 1).get v)
  else if a = R.MGT_MW_RACK 0 then s.mailboxRack 0
  else if a = R.MGT_MW_RACK 1 then s.mailboxRack 1
  else if a = R.RPS_CHRST then s.chainResetCmd (F.RPS_CHRST_PORTS.get v) (F.RPS_CHRST_ADDR.get v)
  else if a = R.RPS_PWR_REQ then s.powerRequest (F.RPS_PWR_REQ_REQ.get v)
  else if a = R.RPS_TONE_GO then s.toneGo (F.RPS_TONE_GO_PORTS.get v)
  else if a = R.RPS_DOZE then s.dozePorts
  else if a = R.THM_MASK_SET then s.maskSet v
  else if a = R.NVS_WCMD then s.wcmdKey (F.NVS_WCMD_OP.get v) (F.NVS_WCMD_KEY.get v)
  else if a = R.NVS_WIN_DATA then s.winDataWrite v
  else if a = R.NVS_CALMARK then s.calMark (F.NVS_CALMARK_KIND.get v)
  else s

/-! ### Writes -/

/-- A stage-view write (R10): dropped at a Secondary for a mirrored field, forwarded by a Primary (R329, R331). -/
def stageWrite (s : State) (a : Nat) (v : Word) : State :=
  if s.hiddenReg a || stMask a = 0 then s
  else if mirrored a && s.isSecondary then (s.bump F.PAR_MIRROR_DROP_COUNT).raise 315
  else
    let s := s.storeStage a v
    if mirrored a && s.mirrors then s.pairSeq 0x81 [] (leBytes 4 (a + 2 ^ 23) ++ leBytes 4 v.toNat) else s

/-- An active-view write to a register that is not hidden (R10, R12, R268). [DESIGN CHOICE, log entry 6] -/
def liveWrite (s : State) (path : Path) (a : Nat) (v : Word) : State :=
  match regRow a with
  | none => s
  | some r =>
    if s.hiddenReg a then s
    else match s.ownWrite a v with
      | some t =>
        let st := r.mask fun f => f.acc == .st
        if (v ^^^ s.reg a) &&& st ≠ 0 then t.liveWriteErr path a else t
      | none =>
        let s := s.storeLive path a r v
        s.trigger a v

/-- A 32-bit write at a 4-byte-aligned address (R4, R7, R10, R11, R425). -/
def write32 (s : State) (path : Path) (addr : Nat) (v : Word) : State :=
  let (st, a) := view addr
  if !s.reaches a then s.raise 3 else if st then s.stageWrite a v else s.liveWrite path a v

/-- A write command: a 64-bit write is two 32-bit writes, the lower address first (R8); after the last word of the space comes
the first. [DESIGN CHOICE, log entry 203] -/
def busWrite (s : State) (path : Path) (addr : Nat) (wide : Bool) (v : BitVec 64) : State :=
  let s := s.write32 path addr (v.setWidth 32)
  if wide then s.write32 path ((addr + 4) % 2 ^ 24) ((v >>> 32).setWidth 32) else s

/-- An access of the wrong size or at an address that is not a multiple of 4: dropped, reads as zeros, and event 3 (R8). -/
def misaligned (s : State) (path : Path) (addr : Nat) (write : Bool) : State :=
  (if write then s else s.emit (.readData path addr 0)).raise 3

/-- An access at any address: aligned, or misaligned. [DESIGN CHOICE, log entry 6] -/
def busAccess (s : State) (path : Path) (addr : Nat) (wide : Bool) (write : Option (BitVec 64)) : State :=
  if addr % 4 ≠ 0 then s.misaligned path addr write.isSome
  else match write with
    | some v => s.busWrite path addr wide v
    | none => s.busRead path addr wide

/-! ### REG frames at a tile (R198, R208) -/

/-- The value of one address of a REG read, and the state after it. -/
def regRead (s : State) (addr : Nat) : Word × State := if addr % 4 ≠ 0 then (0, s.raise 3) else s.read32 (addr % 2 ^ 24)

/-- A REG frame from side d: acted on when its TAG is one above the last applied; a write stores its pairs, a read is answered with
REGDATA. [DESIGN CHOICE, log entry 204] -/
def regRx (s : State) (d : Nat) (w : WFrame) : State :=
  if w.tag ≠ (s.cmc.regRx + 1) % 4096 then s
  else
    let s := s.setCmc fun c => { c with regRx := w.tag }
    if numAt w.tspec 0 1 = 1 then
      (List.range (w.payload.length / 8)).foldl (fun s i =>
        s.busAccess .frame (numAt w.payload (8 * i) 4 % 2 ^ 24) false (some (BitVec.ofNat 64 (numAt w.payload (8 * i + 4) 4)))) s
    else
      let (vals, s) := (List.range (w.payload.length / 4)).foldl (fun (r : List Byte × State) i =>
        let (v, s) := r.2.regRead (numAt w.payload (4 * i) 4)
        (r.1 ++ leBytes 4 v.toNat, s)) ([], s)
      s.setSub d (s.tileFrame d 0x51 w.tag [] vals)

end State

end Sys2Proof.Machine
end

