-- ==== Sys2Proof/Machine/MacRx.lean ====
section
/-! DEFINITION. What a device does with a block that its lanes have received (R196, R198, R211 to R217, R330, R336). -/

namespace Sys2Proof.Machine

namespace State

/-! ### Counters and time messages -/

/-- The counters and events of a block that is not good (R196): chain ports of a Sender, the sides of any other device; the pair link
has events only. [DEDUCED, log entry 169] -/
def badFrame (s : State) (p : Nat) (j : Judged) : State :=
  let count := fun (s : State) (snd til : Fld) => if s.isSender then (if p < 8 then s.bump snd else s) else s.bump til
  match j with
  | .fcsError => (count s (F.CMC_P_FCS_COUNT p) (F.CMC_S_FCS_COUNT p)).raise 253
  | .headerError => (count s (F.CMC_P_HCRC_COUNT p) (F.CMC_S_HCRC_COUNT p)).raise 254
  | .poisoned => (if s.isSender then s else s.bump (F.CMC_S_POISON_COUNT p)).raise 255
  | .malformed => (count s (F.CMC_P_MALF_COUNT p) (F.CMC_S_MALF_COUNT p)).raise 265
  | .free | .good => s

/-- An Announce on port p (R247). -/
def announceRx (s : State) (p : Nat) (m : List Byte) : State :=
  match s.domainOf p (Ptp.domain m) with
  | some d => s.takeAnnounce d m
  | none => s

/-- An Announce that arrives on port p: on the Ethernet port (9) in its frame, else as the message of its TIME frame (R245, R247). -/
def announceIn (s : State) (p : Nat) (b : List Byte) : State :=
  if p ≠ 9 then s.announceRx p b
  else if !s.ethOn then s
  else
    let s := s.bump F.TIM_ETH_RXF_COUNT
    match (s.ptpOf b).filter fun m => Ptp.mtype m == 11 with
    | some m => s.announceRx 9 m
    | none => s

/-- A TIME frame on port p, by its TAG (R247). -/
def timeRx (s : State) (p : Nat) (w : WFrame) : State :=
  let flags := numAt w.tspec 2 1
  match w.tag with
  | 0x000 => s.syncRx p w.payload (flags.testBit 1) (flags.testBit 3)
  | 0x001 => if w.dst = s.addr then s.delayReqRx p w else s
  | 0x009 => if w.dst = s.addr then s.delayRespRx p w.payload else s
  | 0x00B => s.announceRx p w.payload
  | 0x100 => s.actRx w.tspec
  | 0x101 => s.stepNoticeRx w
  | _ => s

/-! ### Tiles and devices with no role (R198, R216) -/

/-- Is the Link core at work (Table 16.7)? -/
def linkUp (s : State) : Bool := s.coreUp 1 && !s.coreHeld 1

/-- A good frame at a dozing tile: a wake pattern makes it leave Doze (R216, R389). -/
def dozeRx (s : State) (b : List Byte) : State :=
  let (hit, _, s) := s.wakePatterns b
  if hit then s.dozeWake else s

/-- A good frame in Run: every wake pattern it matches counts, and a USER frame that matches one with USER = 1 goes to the Control
core's mailbox (R216). [DEDUCED, log entry 173] -/
def userRx (s : State) (b : List Byte) (w : WFrame) : State :=
  if !s.isTile then s
  else
    let (_, user, s) := s.wakePatterns b
    if decide (0xF0 ≤ w.typ) && user && (w.dst == s.addr || w.dst == 127) then
      (s.mailboxIn 0 { path := 3, words := wordsOf w.payload, ref := w.tag }).2
    else s

/-- A good frame from side d of a Tile or a device with no role, acted on by its TYPE (R198, R20). [DESIGN CHOICE, log entry 96] -/
def tileRx (s : State) (d : Nat) (b : List Byte) (w : WFrame) : State :=
  let s := (s.bumpWide (R.CMC_S_RXF d) (R.CMC_S_RXF_H d) 1).goodFrame d w
  if s.dozing then s.dozeRx b
  else
    let s := s.userRx b w
    let mine := w.dst == s.addr
    let any := mine || w.dst == 127
    let cmd := s.fromMaster d w
    match w.typ with
    | 0x01 => if mine && cmd && !s.coreHeld 1 then s.pollRx d w else s
    | 0x03 => if cmd then s.enumRx d w else s
    | 0x05 => if s.isTile && mine && cmd && s.linkUp then s.admitRx w else s
    | 0x10 => if s.isTile && mine then s.videoRx d w else s
    | 0x20 => if s.isTile && any then s.commitRx w else s
    | 0x30 => if any then s.timeRx d w else s
    | 0x40 => if mine && cmd && !s.coreHeld 1 then s.updateRx w else s
    | 0x50 => if s.isTile && mine && cmd && s.linkUp then s.regRx d w else s
    | 0x70 => if any && cmd then s.setRps fun r => { r with chainReset := true } else s
    | _ => s

/-! ### Receive filters of a Sender (R217) -/

/-- The first filter that matches a frame of a port (8 the pair link), and its queue. -/
def filterOf (s : State) (p : Nat) (w : WFrame) : Option Nat :=
  ((List.range 16).find? fun k =>
    s.on (F.CMC_FLT_A_EN k) && (s.f (F.CMC_FLT_A_PORTS k)).testBit p &&
      (s.f (F.CMC_FLT_A_TYPE k) ^^^ w.typ) &&& s.f (F.CMC_FLT_A_TMASK k) == 0 &&
      (s.f (F.CMC_FLT_B_TAG k) ^^^ w.tag) &&& s.f (F.CMC_FLT_B_TGMASK k) == 0).map fun k => s.f (F.CMC_FLT_A_QUEUE k)

/-- A receive queue entry of 2,048 bytes. -/
def queueEntry (s : State) (p : Nat) (b : List Byte) : List Byte :=
  padTo 2048 (padTo 2024 b ++ leBytes 4 p ++ leBytes 6 (secOf s.clk.wall) ++ leBytes 4 (nsOf s.clk.wall))

/-- Put a frame into a receive queue; queues 0 to 3 are read by the management cores at once. [DEDUCED, log entry 167] -/
def queuePut (s : State) (q p : Nat) (b : List Byte) : State :=
  if !s.on (F.CMC_RQ_CTL_EN q) then s
  else
    let log2 := s.f (F.CMC_RQ_CTL_LOG2 q)
    let head := s.f (F.CMC_RQ_HEAD_HEAD q) % 2 ^ log2
    if ringFull log2 head (s.f (F.CMC_RQ_TAIL_TAIL q)) then (s.bump (F.CMC_RQ_DROP_COUNT q)).raise 252
    else
      let base := s.f (F.CMC_RQ_BASE_LO_BASE q) + 2 ^ 32 * s.f (F.CMC_RQ_BASE_HI_BASE q)
      let s := s.dramWr (base + 2048 * head) (s.queueEntry p b)
      let next := (head + 1) % 2 ^ log2
      let s := s.setF (F.CMC_RQ_HEAD_HEAD q) next
      if q < 4 then s.setF (F.CMC_RQ_TAIL_TAIL q) next else s

/-- Steer a good frame of a Sender through the filters. [DEDUCED, log entry 168] -/
def steer (s : State) (p : Nat) (b : List Byte) (w : WFrame) : State :=
  match s.filterOf p w with
  | some q => s.queuePut q p b
  | none => if p < 8 then s.bump (F.CMC_P_UNM_COUNT p) else s

/-! ### Chain ports of a Sender -/

/-- A frame a tile answered with, which reached port p of this device or of its partner (R206, R213, R214, R336). [DESIGN CHOICE, log entry 96] -/
def answerRx (s : State) (p : Nat) (w : WFrame) : State :=
  match w.typ with
  | 0x02 => s.replyRx p w
  | 0x04 => s.enumEndRx p w
  | 0x51 => s.regDataRx p w scapWrite
  | _ => s

/-- Is a frame an answer of a tile? -/
def isAnswer (w : WFrame) : Bool := w.typ == 0x02 || w.typ == 0x04 || w.typ == 0x51

/-- Is the answer one this device waits for itself: it polls, or it has abdicated within the last 1 ms with that poll outstanding
(R212)? -/
def awaits (s : State) (p : Nat) (w : WFrame) : Bool :=
  s.polls || (w.typ == 0x02 && (s.par.abdAt.any fun t => decide (s.clk.now ≤ t + 1000000)) &&
    (s.poll p).out.any fun x => x.1 == w.tag && x.2.1 == w.src)

/-- A good frame on chain port p of a Sender; an answer to a relayed frame goes back over the pair link (R336). -/
def senderRx (s : State) (p : Nat) (b : List Byte) (w : WFrame) : State :=
  let s := if w.sflags.testBit 1 && !w.sflags.testBit 2 then
      s.setCmc fun c => { c with mstAt := setAt c.mstAt 0 fun _ => some s.clk.now } else s
  if w.typ = 0x03 then (if s.polls then s else s.enumAnswer p w)
  else
    let s := s.steer p b w
    if isAnswer w && w.dst == s.addr then
      if s.awaits p w then s.answerRx p w
      else if s.heard then (s.pairSend 0x87 [BitVec.ofNat 8 p, 1] []).sendBlock 8 b
      else s
    else if w.typ = 0x30 ∧ (w.tag = 0x000 ∨ w.tag = 0x001) then s.timeRx p w
    else s

/-! ### The pair link (Table 15.3) -/

/-- The frame that a RELAY frame announced: onto a chain port with RLY = 1, or from one (R336). [DEDUCED, log entry 170] -/
def relayedRx (s : State) (p dir : Nat) (w : WFrame) : State :=
  if dir = 0 then (if s.portOn p then s.sendBlock p { w with sflags := w.sflags ||| 8 }.bytes else s)
  else s.answerRx p w

/-- A good frame on the pair link. -/
def pairRx (s : State) (b : List Byte) (w : WFrame) : State :=
  let relay := s.par.relay
  let s := s.setPar fun p => { p with relay := none }
  match relay, decide (0x80 ≤ w.typ ∧ w.typ ≤ 0x8F) with
  | some (p, dir), false => (s.steer 8 b w).relayedRx p dir w
  | _, _ =>
    let s := s.steer 8 b w
    match w.typ with
    | 0x30 => s.timeRx 8 w
    | 0x40 => if numAt w.tspec 0 1 = 0 then (s.updateMsg 2 w.tag w.payload).2 else s
    | 0x80 => s.heartbeatRx w.payload
    | 0x81 => s.mirrorRx w.tag w.payload
    | 0x82 => s.pairCommitRx w.tag w.tspec w.payload
    | 0x83 => s.snapdataRx w.tag w.tspec w.payload
    | 0x84 => s.pairActionRx w.tag w.payload
    | 0x85 => s.handoverRx w.tag w.tspec w.payload
    | 0x86 => s.pollstateRx w.tag w.tspec w.payload
    | 0x87 => s.relayRx (numAt w.tspec 0 1) (numAt w.tspec 1 1)
    | 0x88 => s.stateRx w.tag w.tspec w.payload
    | 0x89 => s.resetreqRx false
    | _ => s

/-! ### Blocks -/

/-- W × H of a tile for a block addressed to it (R201). [DEDUCED, log entry 171] -/
def pixelsFor (s : State) (b : List Byte) : Option Nat :=
  if s.isTile && numAt b 4 1 % 128 == s.addr then some s.tilePixels else none

/-- A whole port block received on port p is judged and acted on (R196). [DESIGN CHOICE, log entry 66] -/
def blockRx (s : State) (p : Nat) (b : List Byte) (bad : Bool) : State :=
  match judge b bad (s.pixelsFor b) with
  | .good =>
    let w := parseFrame b
    if p = 8 then s.pairRx b w else if s.isSender then s.senderRx p b w else s.tileRx p b w
  | j => s.badFrame p j

/-- LANE_BLOCK_RX: a lane block is received; a whole port block is acted on, and a port that enters Up is enumerated (R213). -/
def laneBlockRx (s : State) (p l : Nat) (bits : BitVec 4096) (skew : Nat) (recentre : Bool) : State :=
  let was := s.portUp p
  let (r, s) := s.laneRx p l bits skew recentre
  let s := if !was && s.portUp p && decide (p < 8) then s.enumerate p else s
  match r with
  | some (b, bad) => s.blockRx p b bad
  | none => s

end State

end Sys2Proof.Machine
end

