-- ==== Sys2Proof/Machine/Runs.lean ====
section
/-! DEFINITION. The end of runs and of the fabric's frame (R59 to R63, R91, R93): what a finished run hands to its owner. -/

namespace Sys2Proof.Machine

namespace State

/-- The run in a path, none where the path is idle. -/
def runOf (s : State) (p : Nat) : Option Run := (s.path p).run

/-- Hand a finished run's output to its segment (Sender) or its pass (Tile). -/
def runOut (s : State) (r : Run) (annBad : List Nat) : State :=
  if s.isSender then
    let px := s.senderRun r annBad
    let s := s.mapSegs (segOf r) fun x => { x with outs := x.outs ++ [(r.idx, px)] }
    match s.snd.segs.find? (segOf r) with
    | some x => s.noteLevel x.port
    | none => s
  else s.mapPass r.n r.slot fun x => { x with outs := x.outs ++ [(r.idx, s.tileRun r)] }

/-- Where a suspect run went wrong: FAB_LAST_ERR and FAB_LAST_FRM name it, and its own last mismatch (R60). -/
def suspectNote (s : State) (cell : Option Nat) (idx n k : Nat) : State :=
  let s := match cell with | some c => s.setF F.FAB_LAST_ERR_CELL c | none => s
  (((s.setF F.FAB_LAST_ERR_RUN idx).setF F.FAB_LAST_ERR_SUSPECT 1).setF F.FAB_LAST_FRM_FRAME n).setF F.FAB_LAST_FRM_SLOT k

/-- The run in path p is suspect (R60). -/
def runSuspect (s : State) (p : Nat) (r : Run) : State :=
  let s := ((s.bump F.FAB_SUSPECT_COUNT).suspectNote (s.path p).lastCell r.idx r.n r.slot).raise 89
  if s.isSender then s.mapSegs (segOf r) fun x => { x with suspect := true }
  else s.mapPass r.n r.slot fun x => { x with suspect := true }

/-- DRAM errors met by a run (R91, R93): `srcErrs` source words and the plane bytes of the pixels `annBad` failed their check, and so did
every word beyond the populated space (R289).  The answer tells whether a source word did. -/
def runErrors (s : State) (r : Run) (srcErrs : Nat) (annBad : List Nat) : Bool × State :=
  if !s.isSender then (false, s)
  else
    let (words, plane) := s.farReads r
    let k := srcErrs + words.length + (annBad ++ plane.map Prod.fst).eraseDups.length
    let far : List Nat := words.map (64 * ·) ++ plane.map Prod.snd
    let s := far.foldl (fun s a => s.outOfRange (max a s.dramSize) false) s
    (decide (0 < srcErrs + words.length), if k = 0 then s else (s.bumpBy F.SND_DRAM_ERR_COUNT k).raise 120)

/-- A path is free again and takes the next run. -/
def pathFree (s : State) (p : Nat) : State := (s.setPath p fun _ => {}).dealRuns

/-- RUN_COMPLETE (R59): the last token of the run in path p has left it.  `srcErrs` source words failed their ECC check, and
`annBad` lists the run's pixels whose plane byte did. -/
def runComplete (s : State) (p srcErrs : Nat) (annBad : List Nat) : State :=
  match s.runOf p with
  | none => s
  | some r =>
    if (s.path p).replay then s
    else
      let (err, s) := s.drainPath p
      let (bad, s) := s.runErrors r srcErrs annBad
      if err || bad then
        s.setPath p fun x => { run := x.run, replay := true, lastCell := x.lastCell, readBad := x.readBad }
      else (s.runOut r annBad).pathFree p

/-- RECOMPUTE_COMPLETE (R59, R60): the replay of the run in path p ends; it fails while a word the run read waits to be reloaded (R63). -/
def recomputeComplete (s : State) (p srcErrs : Nat) (annBad : List Nat) : State :=
  match s.runOf p with
  | none => s
  | some r =>
    if !(s.path p).replay then s
    else
      let (err, s) := s.drainPath p
      let (bad, s) := s.runErrors r srcErrs annBad
      let err := err || (s.path p).readBad.any fun c => s.fab.reload.contains c
      if err || bad then ((s.runSuspect p r).runOut r annBad).pathFree p
      else (((s.bump F.FAB_RETRY_OK_COUNT).raise 88).runOut r annBad).pathFree p

/-- The runs of frame n (and, on a Tile, of slot k) that have not finished. -/
def openRuns (s : State) (n : Nat) (k : Option Nat) : List Run :=
  ((s.fab.paths.toList.filterMap (·.run)) ++ s.fab.work).filter fun r => r.n == n && k.all fun i => i == r.slot

/-- FABRIC_DEADLINE (R62): the deadline of the frame in work on a Sender, or of slot k of it on a Tile.  The tokens of abandoned runs
leave their paths with them; FAB_LATE counts a frame once. -/
def fabricDeadline (s : State) (k : Nat) : State :=
  if !s.present .FAB || !s.framed then s
  else
    let n := s.frameNow + 1
    let (tail, hop, corw) := s.pipeAt n
    let r := s.rateAt n
    let t := if s.isSender then r.transmit tail n (r.slots - 1) else r.correct tail hop corw n k
    let s := s.waitTo (min t (r.frame n))
    let open' := s.openRuns n (if s.isSender then none else some k)
    if open'.isEmpty then s
    else
      let s := if s.fab.lateN = some n then s
        else ((s.bump F.FAB_LATE_COUNT).setFab fun f => { f with lateN := some n, late := true }).raise 90
      let gone := (List.range 16).filter fun p => (s.path p).run.any fun y => open'.contains y
      let cell := gone.findSome? fun p => (s.path p).lastCell
      let s := (s.emptyPaths gone).setFab fun f => { f with
        work := f.work.filter fun x => !open'.contains x,
        paths := tabMap f.paths fun x => if x.run.any fun y => open'.contains y then {} else x }
      let s := if s.isSender then
          (s.snd.segs.filter fun x => x.n == n && !segDone x && open'.any fun y => segOf y x).foldl (fun s x => s.abandonSeg x) s
        else
          let s := s.mapPass n k fun x => { x with suspect := true }
          ((s.bump F.FAB_SUSPECT_COUNT).suspectNote cell ((open'.map (·.idx)).headD 0) n k).raise 89
      s.dealRuns

end State

end Sys2Proof.Machine
end

