-- ==== Sys2Proof/Machine/Entry.lean ====
section
/-! DEFINITION. What the meanings of the commands share: the gate of Standby, commands that write a register of a block, the Hatch
UART (R370), and the refusal of I3C requests (R153). -/

namespace Sys2Proof.Machine

/-- The RPS_RST word of a keyed write (R375). -/
def rstWord (level cores : Nat) (noKeep : Bool) : Word :=
  F.RPS_RST_KEY.put (F.RPS_RST_NOKEEP.put (F.RPS_RST_CORES.put (F.RPS_RST_LEVEL.put 0 level) cores) noKeep.toNat) 0xA5C3

/-- A frame of the Hatch UART as sent (R370): 0x7E, the bytes and their CRC-16 with 0x7E and 0x7D escaped, 0x7E. -/
def uartFrame (bs : List Byte) : List Byte :=
  let body := bs ++ beBytes 2 (crc16 bs).toNat
  0x7E :: (body.flatMap fun b => if b = 0x7E ∨ b = 0x7D then [0x7D, b ^^^ 0x20] else [b]) ++ [0x7E]

namespace State

/-- A command that the block serves only while it is powered: in Standby only the island is (R390). [DEDUCED, log entry 178] -/
def awake (s : State) (g : State → State) : State := if s.asleep then s else g s

/-- A command that is a write to a register of block b: an absent block drops it and event 3 is raised (R4). -/
def atBlk (s : State) (b : Blk) (g : State → State) : State := if s.present b then g s else s.raise 3

/-- Does the Hatch accept register operations (R370)? -/
def hatchOpen (s : State) : Bool := !s.on F.HCH_CTL_LOCK

/-- HATCH_READ: the reply is the 4-byte value; at a misaligned or absent address it is zero (R4, R8). [DESIGN CHOICE, log entry 175; DESIGN CHOICE, log entry 204] -/
def hatchRead (s : State) (addr : Nat) : State :=
  if !s.hatchOpen then s
  else
    let (w, s) := if addr % 4 ≠ 0 then (0, s.raise 3) else s.read32 (addr % 2 ^ 24)
    s.emit (.uart (uartFrame (leBytes 4 w.toNat)))

/-- HATCH_WRITE: the reply is empty. [DESIGN CHOICE, log entry 175; DESIGN CHOICE, log entry 204] -/
def hatchWrite (s : State) (addr : Nat) (v : Word) : State :=
  if !s.hatchOpen then s
  else (s.busAccess .hatch (addr % 2 ^ 24) false (some (v.setWidth 64))).emit (.uart (uartFrame []))

/-- HATCH_MAILBOX: the message goes through window 1. [DESIGN CHOICE, log entry 175] -/
def hatchMailbox (s : State) (c : Nat) (words : List Word) : State :=
  let s := (List.range (min words.length 500)).foldl (fun s i => s.setReg (R.MGT_MW_BUF 1 i) (words.getD i 0)) s
  s.mailboxSend 1 c

/-- IBI_HOT_JOIN_REQUEST: an In-Band Interrupt or Hot-Join request is refused with a NACK (R153). [DEDUCED, log entry 176] -/
def ibiRequest (s : State) (bus : Nat) : State := if s.isTile then s.emit (.i3cNack bus) else s

end State

end Sys2Proof.Machine
end

