-- ==== Sys2Proof/Machine/CmdChain.lean ====
section
/-! DEFINITION. Meanings of the commands of the chain MAC. -/

namespace Sys2Proof.Machine

/-- POLL_TIMEOUT (R207): A poll with no good reply within TMO is missed, and MISS misses make the tile Lost. -/
def execPollTimeout (port : Fin 8) (s : State) : Host.Outcome State Fault Refusal :=
  s.finish (s.awake fun s => s.pollTimeout port.val)

/-- SEQ_RESEND (R208): unacknowledged REG and UPDATE frames are resent after two cycles, and abandoned after four resends. -/
def execSeqResend (port : Fin 8) (addrM1 : Fin 96) (s : State) : Host.Outcome State Fault Refusal :=
  s.finish (s.awake fun s => s.seqResend port.val (addrM1.val + 1))

/-- ENUM_TIMEOUT (R213): no ENUM_END arrives within 1 ms, and event 245 is raised. -/
def execEnumTimeout (port : Fin 8) (s : State) : Host.Outcome State Fault Refusal :=
  s.finish (s.awake fun s => s.enumTimeout port.val)

/-- ENUM_CMD (R213): A write to CMC_ENUM enumerates the named ports. -/
def execEnumCmd (path : Path) (value : Word) (s : State) : Host.Outcome State Fault Refusal :=
  s.finish (s.awake fun s => s.write32 path R.CMC_ENUM value)

/-- ADMIT_CMD (R214): CMC_ADMIT ACTION 1 admits an Identifying tile. -/
def execAdmitCmd (port : Fin 8) (addrM1 : Fin 96) (s : State) : Host.Outcome State Fault Refusal :=
  s.finish (s.awake fun s => s.admitWrite port.val (addrM1.val + 1) 1)

/-- QUARANTINE_CMD (R215): CMC_ADMIT ACTION 2 quarantines a tile. -/
def execQuarantineCmd (port : Fin 8) (addrM1 : Fin 96) (s : State) : Host.Outcome State Fault Refusal :=
  s.finish (s.awake fun s => s.admitWrite port.val (addrM1.val + 1) 2)

/-- RECHECK_CMD (R214): CMC_ADMIT ACTION 3 puts a tile back through identification. -/
def execRecheckCmd (port : Fin 8) (addrM1 : Fin 96) (s : State) : Host.Outcome State Fault Refusal :=
  s.finish (s.awake fun s => s.admitWrite port.val (addrM1.val + 1) 3)

/-- CATCHUP_CMD (R278): A write to CMT_CATCHUP sends a catch-up COMMIT to the named tile. -/
def execCatchupCmd (port : Fin 8) (addrM1 : Fin 96) (s : State) : Host.Outcome State Fault Refusal :=
  s.finish (s.awake fun s => s.atBlk .CMT fun s => s.catchupCmd port.val (addrM1.val + 1))

/-- COMMIT_SECOND_COPY (R209): at least 100 µs after the first copy, a second COMMIT copy is sent. -/
def execCommitSecondCopy (s : State) : Host.Outcome State Fault Refusal :=
  s.finish (s.awake fun s => s.commitSecond)

/-- POLL_HANDOVER (R212): an abdicating master stops polling, sets ABD and sends IDLE, and the partner takes the poll master
role. -/
def execPollHandover (s : State) : Host.Outcome State Fault Refusal :=
  s.finish (s.awake fun s => s.pollHandover)

/-- CHAIN_RESET_CMD (R380): A write to RPS_CHRST sends a RESET frame to the named tiles. -/
def execChainResetCmd (path : Path) (value : Word) (s : State) : Host.Outcome State Fault Refusal :=
  s.finish (s.awake fun s => s.write32 path R.RPS_CHRST value)

/-- CHAIN_RESET_ENUM (R381): 25 ms after a chain warm reset, the master enumerates the ports. -/
def execChainResetEnum (s : State) : Host.Outcome State Fault Refusal :=
  s.finish (s.awake fun s => s.chainResetEnum)

end Sys2Proof.Machine
end

