-- ==== Sys2Proof/Machine/CmdCommit.lean ====
section
/-! DEFINITION. Meanings of the commands of commits, peek and dump. -/

namespace Sys2Proof.Machine

/-- COMMIT_REQUEST (R270): A CMT_REQ write takes a snapshot, chooses D and starts the consistency check, or is refused. -/
def execCommitRequest (path : Path) (value : Word) (s : State) : Host.Outcome State Fault Refusal :=
  s.finish (s.awake fun s => s.write32 path R.CMT_REQ value)

/-- COMMIT_CHECK_DONE (R272): the consistency check ends: the commit is pending and its COMMIT sent, or it is refused. -/
def execCommitCheckDone (eccBad : Bool) (s : State) : Host.Outcome State Fault Refusal :=
  s.finish (s.awake fun s => s.commitCheckDone eccBad)

/-- TILE_COMMIT_CHECK_DONE (R277): A tile's check ends and the commit is made pending, refused or left unapplied. -/
def execTileCommitCheckDone (s : State) : Host.Outcome State Fault Refusal :=
  s.finish (s.awake fun s => s.tileCheckDone)

/-- PEEK (R282): A write to CMT_PEEK_ADDR starts a side-effect-free read. -/
def execPeek (path : Path) (value : Word) (s : State) : Host.Outcome State Fault Refusal :=
  s.finish (s.awake fun s => s.write32 path R.CMT_PEEK_ADDR value)

/-- PEEK_DONE (R282): CMT_PEEK_DATA holds the result and BUSY clears. -/
def execPeekDone (s : State) : Host.Outcome State Fault Refusal :=
  s.finish (s.awake fun s => s.peekDone)

/-- DUMP_START (R283): CMT_DUMP_GO START begins a state dump of the selected sections. -/
def execDumpStart (s : State) : Host.Outcome State Fault Refusal :=
  s.finish (s.awake fun s => s.atBlk .CMT fun s => s.dumpStart)

/-- DUMP_ABORT (R283): CMT_DUMP_GO ABORT stops the dump at the next section. -/
def execDumpAbort (s : State) : Host.Outcome State Fault Refusal :=
  s.finish (s.awake fun s => s.atBlk .CMT fun s => s.dumpAbort)

/-- DUMP_COMPLETE (R283): A dump ends, done, torn or truncated, with event 74 or 75. -/
def execDumpComplete (done : Nat) (err : Bool) (s : State) : Host.Outcome State Fault Refusal :=
  s.finish (s.awake fun s => s.dumpComplete done err)

/-- DPORT_READ (R285): A read of CMT_DPORT_DATA returns a dump word and advances the offset. -/
def execDportRead (path : Path) (s : State) : Host.Outcome State Fault Refusal :=
  s.finish (s.awake fun s => s.busAccess path R.CMT_DPORT_DATA false none)

end Sys2Proof.Machine
end

