-- ==== Sys2Proof/Machine/CmdCorrection.lean ====
section
/-! DEFINITION. Meanings of the commands of the tile's segments, correction tables, compensation sweeps and dose checkpoints. -/

namespace Sys2Proof.Machine

/-- RECEIVE_DEADLINE (R202): at a slot's receive deadline the tile judges each segment from its two sides, then accepts or keeps
it. -/
def execReceiveDeadline (slot : Fin 8) (s : State) : Host.Outcome State Fault Refusal :=
  s.finish (s.awake fun s => s.receiveDeadline slot.val)

/-- TABLE_BLOCK_READ (R112): A set block arrives from flash and is CRC-checked, re-read once, or replaced by default records. -/
def execTableBlockRead (bytes : List Byte) (s : State) : Host.Outcome State Fault Refusal :=
  s.finish (s.awake fun s => (s.tableBlock bytes).bringupGo)

/-- TABLE_LOAD_TIMEOUT (R112): A flash read does not complete within 200 ms, and the load fails with code 7. -/
def execTableLoadTimeout (s : State) : Host.Outcome State Fault Refusal :=
  s.finish (s.awake fun s => s.tableTimeout.bringupGo)

/-- TABLE_LOAD_COMPLETE (R112): the load ends, with TABLES_OK and RESULT set or a retry on the other set. -/
def execTableLoadComplete (s : State) : Host.Outcome State Fault Refusal :=
  s.finish (s.awake fun s => s.tableComplete.bringupGo)

/-- SWEEP_START (R117): every CPER seconds a compensation sweep starts, latching the scales and rewriting every CPL entry. -/
def execSweepStart (s : State) : Host.Outcome State Fault Refusal :=
  s.finish (s.awake fun s => s.sweepStart)

/-- SWEEP_END (R117): A compensation sweep completes, with event 154 if it overran. -/
def execSweepEnd (s : State) : Host.Outcome State Fault Refusal :=
  s.finish (s.awake fun s => s.sweepEnd)

/-- CHECKPOINT_START (R121): at the first frame boundary at or after each whole minute a dose checkpoint begins with a new SEQ.
-/
def execCheckpointStart (s : State) : Host.Outcome State Fault Refusal :=
  s.finish (s.awake fun s => s.ckptStart)

/-- CHECKPOINT_CHUNK_DONE (R121): A chunk's codes and its descriptor are written, and the old slot becomes the spare. -/
def execCheckpointChunkDone (s : State) : Host.Outcome State Fault Refusal :=
  s.finish (s.awake fun s => s.ckptChunk)

/-- CHECKPOINT_SKIP (R121): A checkpoint deferred beyond 300 s, or one whose write fails, is skipped and counted. -/
def execCheckpointSkip (s : State) : Host.Outcome State Fault Refusal :=
  s.finish (s.awake fun s => s.ckptSkip)

/-- TBL_READ (R109): A write to COR_TBL_ADDR starts a read of a correction-table word. -/
def execTblRead (path : Path) (value : Word) (s : State) : Host.Outcome State Fault Refusal :=
  s.finish (s.awake fun s => s.write32 path R.COR_TBL_ADDR value)

/-- TBL_READ_DONE (R109): COR_TBL_DATA becomes valid and BUSY clears. -/
def execTblReadDone (s : State) : Host.Outcome State Fault Refusal :=
  s.finish (s.awake fun s => s.tblReadDone)

/-- DOSE_LAMP_READ (R114): A write to COR_DOSE_LAMP starts a read of one lamp's dose and CPL. -/
def execDoseLampRead (path : Path) (value : Word) (s : State) : Host.Outcome State Fault Refusal :=
  s.finish (s.awake fun s => s.write32 path R.COR_DOSE_LAMP value)

/-- DOSE_LAMP_READ_DONE (R114): the dose and CPL of the lamp become valid and BUSY clears. -/
def execDoseLampReadDone (s : State) : Host.Outcome State Fault Refusal :=
  s.finish (s.awake fun s => s.lampReadDone)

end Sys2Proof.Machine
end

