-- ==== Sys2Proof/Machine/CmdDrive.lean ====
section
/-! DEFINITION. Meanings of the commands of the drive port. -/

namespace Sys2Proof.Machine

/-- DRIVE_WRITE_START (R140): at a sub-frame's write start, the PWM, configuration, resend, diagnosis and status packets are
sent on each bus. -/
def execDriveWriteStart (s : State) : Host.Outcome State Fault Refusal :=
  s.finish (s.awake fun s => s.driveWrite)

/-- ROW_PERIOD (R138): A ROW symbol is sent at k × Trow after the SWAP. -/
def execRowPeriod (s : State) : Host.Outcome State Fault Refusal :=
  s.finish (s.awake fun s => s.rowPeriod)

/-- PACKET_RETURN (R141): A packet returns on DRV_RTn: write CRCs are checked and resent, and read slots are taken. -/
def execPacketReturn (bus : Fin 64) (bytes : List Byte) (s : State) : Host.Outcome State Fault Refusal :=
  s.finish (s.awake fun s => s.packetReturn bus.val bytes)

/-- RETURN_MISSING (R142): A packet has not returned within 4 µs of its expected time, and two in a row put the bus in Fault. -/
def execReturnMissing (bus : Fin 64) (s : State) : Host.Outcome State Fault Refusal :=
  s.finish (s.awake fun s => s.returnMissing bus.val)

/-- BUS_ENUMERATION (R142): an ASSIGN is sent and receive delays are searched; the returned count sets Running or Mismatch. -/
def execBusEnumeration (bus : Fin 64) (found : Option (Fin 64)) (rtph : BitVec 6)
    (s : State) : Host.Outcome State Fault Refusal :=
  s.finish (s.awake fun s => s.busEnumeration bus.val (found.map (·.val)) rtph.toNat)

/-- ASSIGN_RETRY (R142): A bus in Fault retries ASSIGN once per second. -/
def execAssignRetry (bus : Fin 64) (s : State) : Host.Outcome State Fault Refusal :=
  s.finish (s.awake fun s => s.assignRetry bus.val)

/-- HARD_BLANK (R144): writing DRV_CTL.BLANK = 1 pulls the sync pair low within 1 µs. -/
def execHardBlank (s : State) : Host.Outcome State Fault Refusal :=
  s.finish (s.awake fun s => s.atBlk .DRV fun s => s.hardBlank)

/-- BLANK_RELEASE (R144): writing DRV_CTL.BLANK = 0 schedules release at a slot boundary at least one sub-frame later. -/
def execBlankRelease (s : State) : Host.Outcome State Fault Refusal :=
  s.finish (s.awake fun s => s.atBlk .DRV fun s => s.blankRelease)

/-- DIAG_NOW (R148): A write to DRV_DIAG_NOW diagnoses every row over the next N frames. -/
def execDiagNow (s : State) : Host.Outcome State Fault Refusal :=
  s.finish (s.awake fun s => s.atBlk .DRV fun s => (s.setF F.DRV_DIAG_NOW_GO 1).diagNow)

end Sys2Proof.Machine
end

