-- ==== Sys2Proof/Machine/CmdFabric.lean ====
section
/-! DEFINITION. Meanings of the commands of the pixel fabric and the margin planner. -/

namespace Sys2Proof.Machine

/-- CELL_TOKEN (R53): A cell takes a token, runs its program on it with residue checks, and offers the token onward. -/
def execCellToken (cell : Fin 1024) (prims : List CellPrim) (upsetsIn : List (List (BitVec 24) × BitVec 48))
    (upsetsOut : List (BitVec 48)) (s : State) : Host.Outcome State Fault Refusal :=
  s.finish (s.awake fun s => s.cellToken cell.val (cellOps prims upsetsIn upsetsOut))

/-- RUN_COMPLETE (R59): A run's last token leaves its path, and a run with an error bit is replayed once. -/
def execRunComplete (path : Fin 16) (srcErrs : Nat) (annBad : List Nat) (s : State) : Host.Outcome State Fault Refusal :=
  s.finish (s.awake fun s => s.runComplete path.val srcErrs annBad)

/-- RECOMPUTE_COMPLETE (R60): A replayed run ends and either passes, with event 88, or is marked suspect, with event 89. -/
def execRecomputeComplete (path : Fin 16) (srcErrs : Nat) (annBad : List Nat) (s : State) : Host.Outcome State Fault Refusal :=
  s.finish (s.awake fun s => s.recomputeComplete path.val srcErrs annBad)

/-- SRAM_RELOAD (R63): after a double-bit error, the owning block reloads the cell's local SRAM from the line store. -/
def execSramReload (cell : Fin 1024) (s : State) : Host.Outcome State Fault Refusal :=
  s.finish (s.awake fun s => s.sramReload cell.val)

/-- FABRIC_DEADLINE (R62): A frame's fabric deadline arrives: unfinished runs are abandoned, FAB_LATE increments and event 90 is
raised. -/
def execFabricDeadline (slot : Fin 8) (s : State) : Host.Outcome State Fault Refusal :=
  s.finish (s.awake fun s => s.fabricDeadline slot.val)

/-- RESIDUE_SECOND_END (R64): at the end of each second, track mismatch counts are compared with the limit, and RES_HIGH and
event 99 follow. -/
def execResidueSecondEnd (s : State) : Host.Outcome State Fault Refusal :=
  s.finish (s.awake fun s => s.residueSecond)

/-- RING_GATE_END (R65): A speed-ring gate ends: COUNT and EXPECT are updated and the ring's range is judged. -/
def execRingGateEnd (track : Fin 16) (count : BitVec 16) (s : State) : Host.Outcome State Fault Refusal :=
  s.finish (s.awake fun s => s.ringGate track.val count.toNat)

/-- AGE_DAY_END (R66): A 24-hour average of slowdown is formed and the running maximum age index is updated. -/
def execAgeDayEnd (s : State) : Host.Outcome State Fault Refusal :=
  s.finish (s.awake fun s => s.ageDay)

/-- AGE_HOURLY_SAVE (R66): once per hour of Run time, the Guard core writes the age index to MRAM. -/
def execAgeHourlySave (s : State) : Host.Outcome State Fault Refusal :=
  s.finish (s.awake fun s => s.ageSave)

/-- PLANNER_FRAME_END (R70): A frame's busy time ends: slack is computed, and a late frame steps the voltage up by 25 mV. -/
def execPlannerFrameEnd (busy rate : Nat) (s : State) : Host.Outcome State Fault Refusal :=
  s.finish (s.awake fun s => s.plannerFrame busy rate)

/-- PLANNER_WINDOW_END (R70): A 64-frame window ends: the voltage is stepped, LIMIT and APPLIED are updated, and AT_MAX and
THROTTLED are set or cleared. -/
def execPlannerWindowEnd (s : State) : Host.Outcome State Fault Refusal :=
  s.finish (s.awake fun s => s.plannerWindow)

/-- AVS_READBACK (R73): 100 µs after a write the rail is read back, and a failure or a mismatch beyond 10 mV is counted. -/
def execAvsReadback (ok : Bool) (mv status : Nat) (s : State) : Host.Outcome State Fault Refusal :=
  s.finish (s.awake fun s => s.avsReadback ok mv status)

/-- AVS_RETRY (R73): in AVSBus fault Hold a read is retried every 100 ms, and one success returns the planner to Settling. -/
def execAvsRetry (ok : Bool) (mv status : Nat) (s : State) : Host.Outcome State Fault Refusal :=
  s.finish (s.awake fun s => s.avsRetry ok mv status)

/-- PLAN_HOLD_SET (R69): writing FAB_PLAN_CTL.HOLD = 1 forces the planner into Hold. -/
def execPlanHoldSet (s : State) : Host.Outcome State Fault Refusal :=
  s.finish (s.awake fun s => s.atBlk .FAB fun s => s.planHoldWrite true)

/-- PLAN_HOLD_CLEAR (R69): writing FAB_PLAN_CTL.HOLD = 0 returns the planner through Settling. -/
def execPlanHoldClear (s : State) : Host.Outcome State Fault Refusal :=
  s.finish (s.awake fun s => s.atBlk .FAB fun s => s.planHoldWrite false)

/-- CPR_READ (R52): A write to FAB_CPR_ADDR starts a readback of a program word or a local SRAM word between tokens. -/
def execCprRead (path : Path) (value : Word) (s : State) : Host.Outcome State Fault Refusal :=
  s.finish (s.awake fun s => s.write32 path R.FAB_CPR_ADDR value)

/-- CPR_READ_DONE (R52): the cell readback completes, the data registers hold the word and BUSY clears. -/
def execCprReadDone (s : State) : Host.Outcome State Fault Refusal :=
  s.finish (s.awake fun s => s.cprReadDone)

end Sys2Proof.Machine
end

