-- ==== Sys2Proof/Machine/CmdFrame.lean ====
section
/-! DEFINITION. Meanings of the commands of frame, slot and shutter boundaries, hold and blank actions, camera triggers. -/

namespace Sys2Proof.Machine

/-- FRAME_BOUNDARY (R222): wall time reaches a frame boundary, and the per-frame work of every block is taken up. -/
def execFrameBoundary (s : State) : Host.Outcome State Fault Refusal :=
  s.finish (s.awake fun s => s.frameBoundary)

/-- SLOT_BOUNDARY (R223): wall time reaches a slot boundary: SWAP is sent and hold, blank, ramp and dose handling advance. -/
def execSlotBoundary (s : State) : Host.Outcome State Fault Refusal :=
  s.finish (s.awake fun s => s.slotBoundary)

/-- SHUTTER_POINT (R275): at D the snapshot replaces the active values, CMT_GEN increments and event 65 is raised. -/
def execShutterPoint (s : State) : Host.Outcome State Fault Refusal :=
  s.finish (s.awake fun s => s.shutterPoint)

/-- HEAVY_COMMIT_PREPARE (R39): at B − 2 of a heavy commit the fabric stops, new regions are cleared and the new fabric programs
begin to load. -/
def execHeavyCommitPrepare (s : State) : Host.Outcome State Fault Refusal :=
  s.finish (s.awake fun s => s.heavyPrepare)

/-- REGION_READY (R40): A line-store region reloaded for a heavy commit becomes ready, and held output resumes. -/
def execRegionReady (use : BitVec 8) (s : State) : Host.Outcome State Fault Refusal :=
  s.finish (s.awake fun s => s.regionReady use.toNat)

/-- HOLD_REQ (R229): DSP_ACT KIND 1 schedules a hold at a chosen slot boundary. -/
def execHoldReq (s : State) : Host.Outcome State Fault Refusal :=
  s.finish (s.awake fun s => s.atBlk .DSP fun s => s.actRequest 1 0)

/-- RELEASE_REQ (R229): DSP_ACT KIND 2 schedules a release of hold. -/
def execReleaseReq (s : State) : Host.Outcome State Fault Refusal :=
  s.finish (s.awake fun s => s.atBlk .DSP fun s => s.actRequest 2 0)

/-- BLANK_REQ (R229): DSP_ACT KIND 3 schedules a blank ramp. -/
def execBlankReq (rampM1 : Fin 16) (s : State) : Host.Outcome State Fault Refusal :=
  s.finish (s.awake fun s => s.atBlk .DSP fun s => s.actRequest 3 rampM1.val)

/-- UNBLANK_REQ (R229): DSP_ACT KIND 4 schedules an unblank ramp. -/
def execUnblankReq (rampM1 : Fin 16) (s : State) : Host.Outcome State Fault Refusal :=
  s.finish (s.awake fun s => s.atBlk .DSP fun s => s.actRequest 4 rampM1.val)

/-- ACTION_SECOND_COPY (R230): 50 µs after the first, a second action frame copy is sent. -/
def execActionSecondCopy (s : State) : Host.Outcome State Fault Refusal :=
  s.finish (s.awake fun s => s.actSecond)

/-- TRIGGER_EDGE (R228): A camera trigger goes active at D(n, SLOT) + OFFSET and inactive WIDTH later. -/
def execTriggerEdge (output : Fin 8) (s : State) : Host.Outcome State Fault Refusal :=
  s.finish (s.awake fun s => s.triggerEdge output.val)

end Sys2Proof.Machine
end

