-- ==== Sys2Proof/Machine/CmdHost.lean ====
section
/-! DEFINITION. Meanings of the commands of the host port and the reel store. -/

namespace Sys2Proof.Machine

/-- MSIX_HOLDOFF_END (R321): when a vector's hold-off expires, the raises merged during it are sent as one MSI-X message. -/
def execMsixHoldoffEnd (vector : Fin 64) (s : State) : Host.Outcome State Fault Refusal :=
  s.finish (s.awake fun s => s.holdoffEnd vector.val)

/-- LINK_TRAINED (R314): the PCI Express link trains or retrains, and CAPY is recomputed against HST_LOAD. -/
def execLinkTrained (speed : Fin 8) (width : Fin 32) (s : State) : Host.Outcome State Fault Refusal :=
  s.finish (s.awake fun s => s.linkTrained speed.val width.val)

/-- LINK_DOWN (R308): A hot reset or link-down resets the HST fields and stops every ring. -/
def execLinkDown (s : State) : Host.Outcome State Fault Refusal :=
  s.finish (s.awake fun s => s.linkDown)

/-- FUNCTION_LEVEL_RESET (R308): A function-level reset resets configuration space and the rings, and raises event 140. -/
def execFunctionLevelReset (s : State) : Host.Outcome State Fault Refusal :=
  s.finish (s.awake fun s => s.functionLevelReset)

/-- BAR2_ACCESS (R307): A host or peer memory request to BAR2 maps to local DRAM. -/
def execBar2Access (offset : BitVec 40) (write : Option (List (Option Byte))) (len : Fin 4097) (poisoned : Bool)
    (s : State) : Host.Outcome State Fault Refusal :=
  s.finish (s.awake fun s => s.bar2Access offset.toNat write len.val poisoned)

/-- CONFIGURATION_REQUEST (R305): A PCI Express configuration request is answered with Configuration Request Retry Status until
an image has run or is found absent; otherwise it is served, setting for example Bus Master Enable, the BAR2 size, the MSI-X
function mask or D3hot. -/
def execConfigurationRequest (op : CfgOp) (s : State) : Host.Outcome State Fault Refusal :=
  s.finish (s.awake fun s => s.configRequest op)

/-- MSIX_TABLE_ACCESS (R321): A BAR4 access to the MSI-X table or PBA changes a vector's address, data or mask, and may release
a pending message. -/
def execMsixTableAccess (offset : BitVec 12) (write : Option Word) (s : State) : Host.Outcome State Fault Refusal :=
  s.finish (s.awake fun s => s.msixTable offset.toNat write)

/-- RING_RUN (R311): writing HST_SRCn_CTL.RUN = 1 starts or restarts a source ring at TAIL. -/
def execRingRun (ring : Fin 9) (s : State) : Host.Outcome State Fault Refusal :=
  s.finish (s.awake fun s => s.atBlk .HST fun s => s.ringWrite ring.val true)

/-- RING_STOP (R311): writing RUN = 0 lets the current descriptor finish and stops the ring. -/
def execRingStop (ring : Fin 9) (s : State) : Host.Outcome State Fault Refusal :=
  s.finish (s.awake fun s => s.atBlk .HST fun s => s.ringWrite ring.val false)

/-- DESCRIPTOR_FETCH (R311): with a free buffer available, the device reads the next descriptor and its frame. -/
def execDescriptorFetch (ring : Fin 9) (bytes : List Byte) (s : State) : Host.Outcome State Fault Refusal :=
  s.finish (s.awake fun s => s.descriptorFetch ring.val bytes)

/-- BUFFER_COMPLETE (R311): A frame is wholly in DRAM: the buffer becomes newest and the descriptor is written back. -/
def execBufferComplete (ring : Fin 9) (data : List Byte) (s : State) : Host.Outcome State Fault Refusal :=
  s.finish (s.awake fun s => s.bufferComplete ring.val data)

/-- RING_HALT (R312): A PCIe error or a bad descriptor halts the ring with STATE 2. -/
def execRingHalt (ring : Fin 9) (code : Fin 8) (onDesc : Bool) (s : State) : Host.Outcome State Fault Refusal :=
  s.finish (s.awake fun s => s.ringHalt ring.val code.val onDesc)

/-- PEER_DOORBELL (R313): A write to HST_SRCn_PEERDONE completes buffer NEXT, or is refused. -/
def execPeerDoorbell (source : Fin 8) (index : Fin 8) (s : State) : Host.Outcome State Fault Refusal :=
  s.finish (s.awake fun s => s.atBlk .HST fun s => (s.setF (F.HST_SRC_PEERDONE_INDEX source.val) index.val).peerDoorbell source.val index.val)

/-- PAGING_COPY (R316): A paging COPY descriptor copies host data into local DRAM. -/
def execPagingCopy (data : List Byte) (s : State) : Host.Outcome State Fault Refusal :=
  s.finish (s.awake fun s => s.pagingCopy data)

/-- PAGING_MAP (R316): A paging MAP descriptor writes a page entry after every earlier COPY. -/
def execPagingMap (s : State) : Host.Outcome State Fault Refusal :=
  s.finish (s.awake fun s => s.pagingMap)

/-- REEL_FETCH_DONE (R318): A prefetched clip frame completes in a buffer, or fails on a page fault. -/
def execReelFetchDone (player : Fin 8) (data : List Byte) (failed : Option Nat) (s : State) : Host.Outcome State Fault Refusal :=
  s.finish (s.awake fun s => s.reelFetch player.val data failed)

/-- REEL_PLAY (R319): REL_CMD KIND 1 schedules play for a player. -/
def execReelPlay (player : Fin 8) (s : State) : Host.Outcome State Fault Refusal :=
  s.finish (s.awake fun s => s.atBlk .REL fun s => s.reelWrite player.val 1)

/-- REEL_PAUSE (R319): REL_CMD KIND 2 schedules pause for a player. -/
def execReelPause (player : Fin 8) (s : State) : Host.Outcome State Fault Refusal :=
  s.finish (s.awake fun s => s.atBlk .REL fun s => s.reelWrite player.val 2)

/-- REEL_SEEK (R319): REL_CMD KIND 3 schedules a seek to REL_SEEK. -/
def execReelSeek (player : Fin 8) (s : State) : Host.Outcome State Fault Refusal :=
  s.finish (s.awake fun s => s.atBlk .REL fun s => s.reelWrite player.val 3)

end Sys2Proof.Machine
end

