-- ==== Sys2Proof/Machine/CmdLane.lean ====
section
/-! DEFINITION. Meanings of the commands of the chain lanes. -/

namespace Sys2Proof.Machine

/-- LANE_BLOCK_TX (R177): A lane block is sent, with seed selection, scrambling, stuffing and padding. -/
def execLaneBlockTx (port : Fin 9) (lane : Fin 4) (s : State) : Host.Outcome State Fault Refusal :=
  s.finish (s.awake fun s => s.laneBlockTx port.val lane.val)

/-- LANE_BLOCK_RX (R174): A lane block is received: alignment, unstuffing, descrambling and CRC are applied and it is repeated
onward. -/
def execLaneBlockRx (port : Fin 9) (lane : Fin 4) (bits : BitVec 4096) (skew : Nat) (recentre : Bool)
    (s : State) : Host.Outcome State Fault Refusal :=
  s.finish (s.awake fun s => s.laneBlockRx port.val lane.val bits skew recentre)

/-- CLOCK_PRESENT (R180): A forwarded clock has had 10 µs of edges, and the port enters Train. -/
def execClockPresent (port : Fin 9) (prov : Bool) (s : State) : Host.Outcome State Fault Refusal :=
  s.finish (s.awake fun s => State.noRoleSource s (s.clockPresent port.val prov))

/-- CLOCK_LOST (R180): A forwarded clock is lost, the port goes Idle and the PLL holds or switches. -/
def execClockLost (port : Fin 9) (s : State) : Host.Outcome State Fault Refusal :=
  s.finish (s.awake fun s => State.noRoleSource s (s.clockLost port.val))

/-- EQ_TRAIN_DONE (R185): the equaliser sweep ends with the widest eye, and the port enters Align. -/
def execEqTrainDone (port : Fin 9) (widths : List (List Nat)) (s : State) : Host.Outcome State Fault Refusal :=
  s.finish (s.awake fun s => s.eqTrainDone port.val widths)

/-- EQ_ADAPT (R185): once a second in Up, the neighbouring equaliser codes are measured in continuous mode. -/
def execEqAdapt (port : Fin 9) (lane : Fin 4) (now below above : BitVec 8) (s : State) : Host.Outcome State Fault Refusal :=
  s.finish (s.awake fun s => s.eqAdapt port.val lane.val now.toNat below.toNat above.toNat)

/-- PLL_LOCK (R182): the tile clock PLL locks, and ports 0 and 1 leave electrical idle. -/
def execPllLock (s : State) : Host.Outcome State Fault Refusal :=
  s.finish (s.awake fun s => s.pllLocked)

/-- PLL_REVERT (R182): after 1 s of port 0 clock, the PLL reverts to port 0. -/
def execPllRevert (s : State) : Host.Outcome State Fault Refusal :=
  s.finish (s.awake fun s => s.pllRevert)

/-- NO_CLOCK_TIMEOUT (R182): after 100 ms with no clock, LOCK clears and the transmitters enter electrical idle. -/
def execNoClockTimeout (s : State) : Host.Outcome State Fault Refusal :=
  s.finish (s.awake fun s => s.noClock)

/-- OFFSET_CAL_START (R186): A non-zero write to LAN_CAL starts an offset calibration of the named ports. -/
def execOffsetCalStart (path : Path) (value : Word) (s : State) : Host.Outcome State Fault Refusal :=
  s.finish (s.awake fun s => s.write32 path R.LAN_CAL value)

/-- OFFSET_CAL_WINDOW_END (R187): A calibration window ends: it is checked, and the search steps or the procedure is accepted or
refused. -/
def execOffsetCalWindowEnd (stats : List LaneStat) (s : State) : Host.Outcome State Fault Refusal :=
  s.finish (s.awake fun s => s.calWindow stats)

/-- LOOP_ENTER (R188): setting LOOP to a non-zero value enters a test loop at the next block boundary. -/
def execLoopEnter (port : Fin 9) (modeM1 : Fin 3) (s : State) : Host.Outcome State Fault Refusal :=
  s.finish (s.awake fun s => s.loopEnter port.val (modeM1.val + 1))

/-- LOOP_EXIT (R188): setting LOOP to 0 leaves the test loop and restarts receive from Train. -/
def execLoopExit (port : Fin 9) (s : State) : Host.Outcome State Fault Refusal :=
  s.finish (s.awake fun s => s.loopExit port.val)

/-- TEST_PATTERN_SET (R189): setting TPAT fills payloads with PRBS31 and checks them at the receiver. -/
def execTestPatternSet (port : Fin 9) (s : State) : Host.Outcome State Fault Refusal :=
  s.finish (s.awake fun s => s.testPattern port.val)

/-- EIDLE_SET (R170): setting EIDLE returns the transmitter to electrical idle at the next block boundary. -/
def execEidleSet (port : Fin 9) (s : State) : Host.Outcome State Fault Refusal :=
  s.finish (s.awake fun s => s.eidleSet port.val)

/-- TXON_SET (R170): setting TXON takes a Sender port out of electrical idle. -/
def execTxonSet (port : Fin 9) (s : State) : Host.Outcome State Fault Refusal :=
  s.finish (s.awake fun s => s.txonSet port.val)

/-- PROV_SET (R191): writing PROV changes the port between the provisioning rate and the image rate at the next frame boundary.
-/
def execProvSet (port : Fin 9) (on : Bool) (s : State) : Host.Outcome State Fault Refusal :=
  s.finish (s.awake fun s => s.provSet port.val on)

/-- ELECTRICAL_IDLE_END (R191): after 100 µs of electrical idle for a provisioning-rate change or for leaving single-lane mode,
the port's transmitters restart at the new rate. -/
def execElectricalIdleEnd (port : Fin 9) (s : State) : Host.Outcome State Fault Refusal :=
  s.finish (s.awake fun s => s.idleEnd port.val)

/-- REPLY_SUBSTITUTE (R200): A tile's pending REPLY, REGDATA or ENUM_END replaces the first free block toward the device it
answers. -/
def execReplySubstitute (port : Fin 9) (s : State) : Host.Outcome State Fault Refusal :=
  s.finish (s.awake fun s => s.replySubstitute port.val)

end Sys2Proof.Machine
end

