-- ==== Sys2Proof/Machine/CmdLux.lean ====
section
/-! DEFINITION. Meanings of the commands of the monitor lamps and the I3C buses. -/

namespace Sys2Proof.Machine

/-- I3C_ENTDAA (R153): ENTDAA assigns dynamic addresses on an I3C bus, and sensors are matched by PID. -/
def execI3cEntdaa (bus : Fin 2) (pids : List (BitVec 48)) (s : State) : Host.Outcome State Fault Refusal :=
  s.finish (s.awake fun s => s.i3cEntdaa bus.val (pids.map (·.toNat)))

/-- IBI_HOT_JOIN_REQUEST (R153): A target on an I3C bus raises an In-Band Interrupt or Hot-Join request, and the device refuses
it with a NACK. -/
def execIbiHotJoinRequest (bus : Fin 2) (s : State) : Host.Outcome State Fault Refusal :=
  s.finish (s.awake fun s => s.ibiRequest bus.val)

/-- SENSOR_RETRY (R154): every 10 s, ENTDAA is retried for a Failed monitor sensor. -/
def execSensorRetry (group : Fin 4) (answered : Bool) (s : State) : Host.Outcome State Fault Refusal :=
  s.finish (s.awake fun s => s.sensorRetry group.val answered)

/-- LUX_WINDOW_START (R157): A measurement window begins at the frame boundary after each multiple of LPER. -/
def execLuxWindowStart (s : State) : Host.Outcome State Fault Refusal :=
  s.finish (s.awake fun s => s.luxWindowStart)

/-- LUX_SAMPLE (R157): every SPER µs after SETTLE, each OK group's sensor is read and its statistics accumulate. -/
def execLuxSample (group : Fin 4) (r g b : BitVec 24) (s : State) : Host.Outcome State Fault Refusal :=
  s.finish (s.awake fun s => s.luxSample group.val [r.toNat, g.toNat, b.toNat])

/-- LUX_SENSOR_READ_FAIL (R154): A sensor read is NACKed or times out at 200 µs, and three in a row make the group Failed. -/
def execLuxSensorReadFail (group : Fin 4) (s : State) : Host.Outcome State Fault Refusal :=
  s.finish (s.awake fun s => s.luxReadFail group.val)

/-- LUX_WINDOW_END (R162): A window ends: the input checks run, S* is computed and the model scale is stepped. -/
def execLuxWindowEnd (s : State) : Host.Outcome State Fault Refusal :=
  s.finish (s.awake fun s => s.luxWindowEnd)

/-- LUX_CAL (R164): A write to LUX_CAL starts a dark-level or reference procedure after any window ends. -/
def execLuxCal (path : Path) (value : Word) (s : State) : Host.Outcome State Fault Refusal :=
  s.finish (s.awake fun s => s.write32 path R.LUX_CAL value)

/-- LUX_CAL_END (R165): A calibration procedure ends, and is written to the record or refused. -/
def execLuxCalEnd (s : State) : Host.Outcome State Fault Refusal :=
  s.finish (s.awake fun s => s.luxCalEnd)

end Sys2Proof.Machine
end

