-- ==== Sys2Proof/Machine/CmdMemory.lean ====
section
/-! DEFINITION. Meanings of the commands of the frame memory controller. -/

namespace Sys2Proof.Machine

/-- REFRESH_INTERVAL (R294): every tREFIpb a bank's refresh debt rises, and a debt of 9 forces a refresh. -/
def execRefreshInterval (chan : Fin 4) (rank : Fin 2) (bank : Fin 16) (paid : Nat)
    (s : State) : Host.Outcome State Fault Refusal :=
  s.finish (s.awake fun s => s.refreshInterval chan.val rank.val bank.val paid)

/-- REFRESH_RATE_POLL (R294): every 16 ms mode register 4 is read and the refresh rate rescaled. -/
def execRefreshRatePoll (chan : Fin 4) (code : Fin 32) (s : State) : Host.Outcome State Fault Refusal :=
  s.finish (s.awake fun s => s.refreshRatePoll chan.val code.val)

/-- DRAM_ACCESS_DONE (R300): A DRAM access completes, with ECC judged and out-of-range accesses handled. -/
def execDramAccessDone (chan : Fin 4) (ns : Nat) (addrs : List (BitVec 40)) (data : List (Option (BitVec 512)))
    (clients : List (Option (Fin 3))) (ecc : Ecc) (s : State) : Host.Outcome State Fault Refusal :=
  s.finish (s.awake fun s => State.reactEcc (s.dramAccess chan.val ns (dramReqs addrs data clients) ecc))

/-- ROW_IDLE_CLOSE (R292): an open row is closed after IDLE ns with no request. -/
def execRowIdleClose (chan : Fin 4) (rank : Fin 2) (bank : Fin 16) (s : State) : Host.Outcome State Fault Refusal :=
  s.finish (s.awake fun s => s.rowIdleClose chan.val rank.val bank.val)

/-- SCRUB_READ (R301): the scrub reads a granule and writes back corrected data. -/
def execScrubRead (ecc : Ecc) (overwritten : Bool) (s : State) : Host.Outcome State Fault Refusal :=
  s.finish (s.awake fun s => State.reactEcc (s.scrubRead ecc overwritten))

/-- RT_FIFO_STARVE (R295): A real-time FIFO runs empty or full, and event 301 is raised. -/
def execRtFifoStarve (client : Fin 3) (s : State) : Host.Outcome State Fault Refusal :=
  s.finish (s.awake fun s => s.rtStarve client.val)

end Sys2Proof.Machine
end

