-- ==== Sys2Proof/Machine/CmdMgt.lean ====
section
/-! DEFINITION. Meanings of the commands of the Goose, mailboxes and the update service. -/

namespace Sys2Proof.Machine

/-- GOOSE_EVAL (R337): every 100 ms the Goose evaluates its checks and forms the verdict, which may trigger abdication. -/
def execGooseEval (plls : Bool) (s : State) : Host.Outcome State Fault Refusal :=
  s.finish (s.awake fun s => s.gooseEval plls)

/-- WATCHDOG_EXPIRY (R354): A core watchdog expires and resets the core, forcing Abdicate for the Guard core. -/
def execWatchdogExpiry (core : Fin 4) (pulse : Bool) (s : State) : Host.Outcome State Fault Refusal :=
  s.finish (s.awake fun s => s.watchdogExpiry core.val pulse)

/-- MAILBOX_SEND (R356): A write to MGT_MWp_SEND queues the message for the core, or refuses it when the queue is full. -/
def execMailboxSend (window : Fin 2) (core : Fin 4) (s : State) : Host.Outcome State Fault Refusal :=
  s.finish (s.awake fun s => s.mailboxSend window.val core.val)

/-- MAILBOX_RACK (R356): A write to MGT_MWp_RACK releases the response and returns SST to 0. -/
def execMailboxRack (window : Fin 2) (s : State) : Host.Outcome State Fault Refusal :=
  s.finish (s.awake fun s => (s.setF (F.MGT_MW_RACK_ACK window.val) 1).mailboxRack window.val)

/-- INFO_PING (R355): the INFO PING command returns OK. -/
def execInfoPing (core : Fin 4) (s : State) : Host.Outcome State Fault Refusal :=
  s.finish (s.awake fun s => s.infoPing core.val)

/-- INFO_VERSION (R355): the INFO VERSION command returns the versions of the four cores. -/
def execInfoVersion (core : Fin 4) (s : State) : Host.Outcome State Fault Refusal :=
  s.finish (s.awake fun s => s.infoVersion core.val)

/-- UNSUPPORTED_COMMAND (R355): A mailbox message with an SVC or CMD that the core does not support is answered with STATUS 8.
-/
def execUnsupportedCommand (core : Fin 4) (s : State) : Host.Outcome State Fault Refusal :=
  s.finish (s.awake fun s => s.unsupportedCommand core.val)

/-- UPDATE_OPEN (R361): OPEN takes the session lock, or is answered BUSY. -/
def execUpdateOpen (s : State) : Host.Outcome State Fault Refusal :=
  s.finish (s.awake fun s => s.updateOpen)

/-- UPDATE_WRITE (R361): WRITE stores data into the update buffer or the target slot. -/
def execUpdateWrite (s : State) : Host.Outcome State Fault Refusal :=
  s.finish (s.awake fun s => s.updateWrite)

/-- UPDATE_VERIFY (R364): VERIFY checks the image against Table 16.5. -/
def execUpdateVerify (s : State) : Host.Outcome State Fault Refusal :=
  s.finish (s.awake fun s => s.updateVerify)

/-- UPDATE_ACTIVATE (R365): ACTIVATE writes the image to MRAM and restarts the core, or is refused. -/
def execUpdateActivate (s : State) : Host.Outcome State Fault Refusal :=
  s.finish (s.awake fun s => s.updateActivate)

/-- ACTIVATION_COMPLETE (R366): the new firmware restores or cold-starts, and the session becomes Unconfirmed. -/
def execActivationComplete (pulse : Bool) (s : State) : Host.Outcome State Fault Refusal :=
  s.finish (s.awake fun s => s.activationComplete pulse)

/-- UPDATE_CONFIRM (R367): CONFIRM advances the anti-rollback counter and clears UNCONF. -/
def execUpdateConfirm (s : State) : Host.Outcome State Fault Refusal :=
  s.finish (s.awake fun s => s.updateConfirm)

/-- UPDATE_ABORT (R362): ABORT ends the session. -/
def execUpdateAbort (s : State) : Host.Outcome State Fault Refusal :=
  s.finish (s.awake fun s => s.updateAbort)

/-- UPDATE_STATUS (R361): STATUS returns the session state and byte count. -/
def execUpdateStatus (s : State) : Host.Outcome State Fault Refusal :=
  s.finish (s.awake fun s => s.updateStatus)

/-- UPDATE_CLOSE (R362): CLOSE releases the lock. -/
def execUpdateClose (s : State) : Host.Outcome State Fault Refusal :=
  s.finish (s.awake fun s => s.updateClose)

/-- SESSION_TIMEOUT (R362): 10 s with no message from the holder ends the session. -/
def execSessionTimeout (s : State) : Host.Outcome State Fault Refusal :=
  s.finish (s.awake fun s => s.sessionTimeout)

/-- AUTOCONFIRM (R367): after 60 s of Run with no watchdog expiry, an unconfirmed image is confirmed. -/
def execAutoconfirm (core : Fin 4) (s : State) : Host.Outcome State Fault Refusal :=
  s.finish (s.awake fun s => s.autoconfirm core.val)

end Sys2Proof.Machine
end

