-- ==== Sys2Proof/Machine/CmdNvs.lean ====
section
/-! DEFINITION. Meanings of the commands of trims, options and the record. -/

namespace Sys2Proof.Machine

/-- OPTION_WRITE (R418): NVS_WCMD OP 1 writes new option words in a record copy. -/
def execOptionWrite (key : BitVec 16) (s : State) : Host.Outcome State Fault Refusal :=
  s.finish (s.awake fun s => s.wcmdKey 1 key.toNat)

/-- RECORD_IMAGE_WRITE (R418): NVS_WCMD OP 2 writes the staged record image. -/
def execRecordImageWrite (key : BitVec 16) (s : State) : Host.Outcome State Fault Refusal :=
  s.finish (s.awake fun s => s.wcmdKey 2 key.toNat)

/-- RECORD_COPY_DONE (R413): A record copy write completes and becomes the copy in use, or fails. -/
def execRecordCopyDone (ok : Bool) (s : State) : Host.Outcome State Fault Refusal :=
  s.finish (s.awake fun s => s.recordCopyDone ok)

/-- WIN_DATA_WRITE (R418): A write to NVS_WIN_DATA stores a staging word and advances the offset. -/
def execWinDataWrite (path : Path) (value : Word) (s : State) : Host.Outcome State Fault Refusal :=
  s.finish (s.awake fun s => s.write32 path R.NVS_WIN_DATA value)

/-- RD_DATA_READ (R418): A read of NVS_RD_DATA returns a record word and advances the offset. -/
def execRdDataRead (path : Path) (s : State) : Host.Outcome State Fault Refusal :=
  s.finish (s.awake fun s => s.busAccess path R.NVS_RD_DATA false none)

/-- CALMARK (R420): NVS_CALMARK KIND 3 checks the last table load and counts the lamp-table calibration. -/
def execCalmark (s : State) : Host.Outcome State Fault Refusal :=
  s.finish (s.awake fun s => (s.setF F.NVS_CALMARK_KIND 3).calMark 3)

end Sys2Proof.Machine
end

