-- ==== Sys2Proof/Machine/CmdPair.lean ====
section
/-! DEFINITION. Meanings of the commands of the pair of senders. -/

namespace Sys2Proof.Machine

/-- HEARTBEAT_SEND (R330): every 1 ms the PAR hardware sends a HEARTBEAT. -/
def execHeartbeatSend (s : State) : Host.Outcome State Fault Refusal :=
  s.finish (s.awake fun s => s.heartbeatSend)

/-- HEARTBEAT_RX (R326): A partner heartbeat updates partner state and is checked for END and hash agreement. -/
def execHeartbeatRx (payload : List Byte) (s : State) : Host.Outcome State Fault Refusal :=
  s.finish (s.awake fun s => s.heartbeatRx payload)

/-- PARTNER_LOST (R341): no heartbeat within HBTMO: a Primary enters Degraded, and an In Sync member may promote itself. -/
def execPartnerLost (s : State) : Host.Outcome State Fault Refusal :=
  s.finish (s.awake fun s => s.partnerLost)

/-- AUTOPROMOTE (R341): an In Sync member that hears no heartbeat and no MST frame for LOSSTMO promotes itself to Degraded. -/
def execAutopromote (s : State) : Host.Outcome State Fault Refusal :=
  s.finish (s.awake fun s => s.autopromote)

/-- BOOTWAIT_EXPIRY (R328): no partner is heard within BOOTWAIT, and a member with PREF = 1 enters Degraded. -/
def execBootwaitExpiry (s : State) : Host.Outcome State Fault Refusal :=
  s.finish (s.awake fun s => s.bootwait)

/-- MIRROR_RX (R331): A Secondary applies MIRROR stage writes in TAG order. -/
def execMirrorRx (tag : BitVec 12) (payload : List Byte) (s : State) : Host.Outcome State Fault Refusal :=
  s.finish (s.awake fun s => s.mirrorRx tag.toNat payload)

/-- PAIR_COMMIT_RX (R331): A Secondary receives the Primary's COMMIT and the SNAPDATA that follows it. -/
def execPairCommitRx (tag : BitVec 12) (tspec payload : List Byte) (s : State) : Host.Outcome State Fault Refusal :=
  s.finish (s.awake fun s => s.pairCommitRx tag.toNat tspec payload)

/-- SNAPDATA_RX (R331): the last SNAPDATA frame completes the snapshot, and the Secondary checks and schedules the commit. -/
def execSnapdataRx (tag : BitVec 12) (tspec payload : List Byte) (s : State) : Host.Outcome State Fault Refusal :=
  s.finish (s.awake fun s => s.snapdataRx tag.toNat tspec payload)

/-- PAIR_ACTION_RX (R333): A Secondary sends a mirrored hold or blank action, or applies a reel action. -/
def execPairActionRx (tag : BitVec 12) (payload : List Byte) (s : State) : Host.Outcome State Fault Refusal :=
  s.finish (s.awake fun s => s.pairActionRx tag.toNat payload)

/-- HANDOVER_RX (R212): the partner takes the poll state and becomes poll master. -/
def execHandoverRx (tag : BitVec 12) (tspec payload : List Byte) (s : State) : Host.Outcome State Fault Refusal :=
  s.finish (s.awake fun s => s.handoverRx tag.toNat tspec payload)

/-- POLLSTATE_RX (R341): A Secondary stores the per-tile poll state it receives. -/
def execPollstateRx (tag : BitVec 12) (tspec payload : List Byte) (s : State) : Host.Outcome State Fault Refusal :=
  s.finish (s.awake fun s => s.pollstateRx tag.toNat tspec payload)

/-- RELAY_RX (R336): A relay frame routes the next frame between the pair link and a chain port. -/
def execRelayRx (port : Fin 8) (dir : Fin 2) (s : State) : Host.Outcome State Fault Refusal :=
  s.finish (s.awake fun s => s.relayRx port.val dir.val)

/-- STATE_RX (R344): A resyncing member loads the Primary's state into both views. -/
def execStateRx (tag : BitVec 12) (tspec payload : List Byte) (s : State) : Host.Outcome State Fault Refusal :=
  s.finish (s.awake fun s => s.stateRx tag.toNat tspec payload)

/-- RESETREQ_RX (R343): A RESETREQ from the partner causes a system reset. -/
def execResetreqRx (pulse : Bool) (s : State) : Host.Outcome State Fault Refusal :=
  s.finish (s.awake fun s => s.resetreqRx pulse)

/-- PAIR_RESEND (R330): an unacknowledged pair frame is resent after 2 ms, and the fourth resend breaks sync. -/
def execPairResend (s : State) : Host.Outcome State Fault Refusal :=
  s.finish (s.awake fun s => s.pairResend)

/-- RESYNC_TIMEOUT (R345): resync is not complete 2 s after step 1 began, and it restarts. -/
def execResyncTimeout (s : State) : Host.Outcome State Fault Refusal :=
  s.finish (s.awake fun s => s.resyncTimeout)

/-- PAR_TAKE (R343): PAR_CMD KIND 1 enters Degraded when no partner is heard. -/
def execParTake (s : State) : Host.Outcome State Fault Refusal :=
  s.finish (s.awake fun s => s.atBlk .PAR fun s => (s.setF F.PAR_CMD_KIND 1).parTake)

/-- PAR_RESET_PARTNER (R343): PAR_CMD KIND 2 sends a RESETREQ. -/
def execParResetPartner (s : State) : Host.Outcome State Fault Refusal :=
  s.finish (s.awake fun s => s.atBlk .PAR fun s => (s.setF F.PAR_CMD_KIND 2).parResetPartner)

/-- PAR_RESTART_RESYNC (R343): PAR_CMD KIND 3 restarts the partner's Resync. -/
def execParRestartResync (s : State) : Host.Outcome State Fault Refusal :=
  s.finish (s.awake fun s => s.atBlk .PAR fun s => (s.setF F.PAR_CMD_KIND 3).parRestartResync)

/-- PAIR_SNAPSHOT_DONE (R346): A pair snapshot copy finishes with its descriptor written, and it becomes the newest valid
snapshot reported in PAR_SNAP and in the heartbeat. -/
def execPairSnapshotDone (s : State) : Host.Outcome State Fault Refusal :=
  s.finish (s.awake fun s => s.snapDone)

end Sys2Proof.Machine
end

