-- ==== Sys2Proof/Machine/CmdPower.lean ====
section
/-! DEFINITION. Meanings of the commands of Doze, Standby and the wake tone. -/

namespace Sys2Proof.Machine

/-- DOZE_REQ (R388): RPS_PWR_REQ REQ 1 schedules entry to Doze, or is refused. -/
def execDozeReq (s : State) : Host.Outcome State Fault Refusal :=
  s.finish (s.awake fun s => s.powerRequest 1)

/-- STANDBY_REQ (R388): RPS_PWR_REQ REQ 2 schedules entry to Standby, or is refused. -/
def execStandbyReq (s : State) : Host.Outcome State Fault Refusal :=
  s.finish (s.awake fun s => s.powerRequest 2)

/-- POWER_CANCEL (R388): RPS_PWR_REQ REQ 3 cancels an entry not yet begun. -/
def execPowerCancel (s : State) : Host.Outcome State Fault Refusal :=
  s.finish (s.awake fun s => s.powerRequest 3)

/-- DOZE_RELAY_END (R389): after RELAY ms a woken tile returns its ports to the image rate and resumes. -/
def execDozeRelayEnd (s : State) : Host.Outcome State Fault Refusal :=
  s.finish (s.awake fun s => s.dozeRelayEnd)

/-- WAKE (R391): an enabled wake source in Standby raises PWR_EN. -/
def execWake (source : Fin 4) (s : State) : Host.Outcome State Fault Refusal :=
  s.finish (s.wake source.val)

/-- WAKE_FAIL (R392): PG_CORE is not high within 20 ms of a wake, and the device stays in Standby. -/
def execWakeFail (s : State) : Host.Outcome State Fault Refusal :=
  s.finish (s.wakeFail)

/-- TONE_GO (R391): A write to RPS_TONE_GO sends the wake tone on the named ports. -/
def execToneGo (path : Path) (value : Word) (s : State) : Host.Outcome State Fault Refusal :=
  s.finish (s.awake fun s => s.write32 path R.RPS_TONE_GO value)

/-- TONE_END (R391): the tone duration ends, the lanes start and event 13 is raised. -/
def execToneEnd (s : State) : Host.Outcome State Fault Refusal :=
  s.finish (s.awake fun s => s.toneEnd)

/-- WAKE_TONE_CEASE (R391): 100 µs after the incoming wake tone ceases, a tile stops relaying it on the clock lanes of its
ports. -/
def execWakeToneCease (s : State) : Host.Outcome State Fault Refusal :=
  s.finish (s.toneCease)

end Sys2Proof.Machine
end

