-- ==== Sys2Proof/Machine/CmdRegister.lean ====
section
/-! DEFINITION. Meanings of the commands of register accesses, the Hatch UART and boundary scan. -/

namespace Sys2Proof.Machine

/-- REGISTER_WRITE (R268): A write to a register that has no row of its own: a live field takes effect, a staged field takes the
write under R10, and W1C bits clear. -/
def execRegisterWrite (path : Path) (addr : BitVec 24) (wide : Bool) (value : BitVec 64)
    (s : State) : Host.Outcome State Fault Refusal :=
  s.finish (s.awake fun s => s.busAccess path addr.toNat wide (some value))

/-- ABSENT_BLOCK_ACCESS (R4): an access to an absent or disabled block, or outside every extent, reads zero, drops writes and
raises event 3. -/
def execAbsentBlockAccess (path : Path) (addr : BitVec 24) (wide : Bool) (write : Option (BitVec 64))
    (s : State) : Host.Outcome State Fault Refusal :=
  s.finish (s.awake fun s => s.busAccess path addr.toNat wide write)

/-- MISALIGNED_ACCESS (R8): an access of the wrong size or alignment is dropped, reads zero and raises event 3. -/
def execMisalignedAccess (path : Path) (addr : BitVec 24) (write : Bool) (s : State) : Host.Outcome State Fault Refusal :=
  s.finish (s.awake fun s => s.misaligned path addr.toNat write)

/-- RC_READ (R12): A read of an RC register returns its value and clears it to zero. -/
def execRcRead (path : Path) (addr : BitVec 24) (wide : Bool) (s : State) : Host.Outcome State Fault Refusal :=
  s.finish (s.awake fun s => s.busAccess path addr.toNat wide none)

/-- COUNTER_LOW_READ (R14): A read of the low word of a wide counter returns it, latches the high part and clears the counter.
-/
def execCounterLowRead (path : Path) (addr : BitVec 24) (wide : Bool) (s : State) : Host.Outcome State Fault Refusal :=
  s.finish (s.awake fun s => s.busAccess path addr.toNat wide none)

/-- TIM_NOW_READ (R241): A read of TIM_NOW_NS returns the nanoseconds and latches the seconds and fraction of the same instant.
-/
def execTimNowRead (path : Path) (wide : Bool) (s : State) : Host.Outcome State Fault Refusal :=
  s.finish (s.awake fun s => s.busAccess path R.TIM_NOW_NS wide none)

/-- HATCH_READ (R370): A Hatch UART frame with operation 1 reads a register. -/
def execHatchRead (addr : Word) (s : State) : Host.Outcome State Fault Refusal :=
  s.finish (s.awake fun s => s.hatchRead addr.toNat)

/-- HATCH_WRITE (R370): A Hatch UART frame with operation 2 writes a register. -/
def execHatchWrite (addr value : Word) (s : State) : Host.Outcome State Fault Refusal :=
  s.finish (s.awake fun s => s.hatchWrite addr.toNat value)

/-- HATCH_MAILBOX (R370): A Hatch UART frame with operation 3 sends a mailbox message through window 1. -/
def execHatchMailbox (core : Fin 4) (words : List Word) (s : State) : Host.Outcome State Fault Refusal :=
  s.finish (s.awake fun s => s.hatchMailbox core.val words)

/-- HATCH_BAD_FRAME (R370): A Hatch UART frame with a bad CRC gets no reply and increments HCH_UERR. -/
def execHatchBadFrame (s : State) : Host.Outcome State Fault Refusal :=
  s.finish (s.awake fun s => s.bump F.HCH_UERR_COUNT)

/-- BOUNDARY_SCAN_INSTRUCTION (R407): the Hatch JTAG port enters or leaves a boundary-scan test instruction, which clears or
restores MCOMP and so changes whether MRAM writes are permitted. -/
def execBoundaryScanInstruction (enter : Bool) (s : State) : Host.Outcome State Fault Refusal :=
  s.finish (s.boundaryScan enter)

end Sys2Proof.Machine
end

