-- ==== Sys2Proof/Machine/CmdReset.lean ====
section
/-! DEFINITION. Meanings of the commands of resets, power-up and bring-up. -/

namespace Sys2Proof.Machine

/-- POWER_ON (R383): supplies rise in group order, and the internal power-on reset is released once the rails, the crystal and
PG_CORE qualify. -/
def execPowerOn (s : State) : Host.Outcome State Fault Refusal :=
  s.finish (s.powerOn)

/-- RAIL_FAIL (R430): A monitored rail stays below its reset threshold for 2 µs, which causes a power-on reset. -/
def execRailFail (aon pulse : Bool) (s : State) : Host.Outcome State Fault Refusal :=
  s.finish (s.railFail aon pulse)

/-- BROWNOUT (R384): VIN_SENSE falls below the reference: no new MRAM pulse starts, BROWNOUT is set, and a power-on reset
follows when the pulse in progress ends. -/
def execBrownout (pulse : Bool) (s : State) : Host.Outcome State Fault Refusal :=
  s.finish (s.brownout pulse)

/-- RST_N_ASSERT (R376): RST_N goes low: a pulse under 1 µs is counted as a glitch, and a longer low requests a held system
reset. -/
def execRstNAssert (ns : Nat) (pulse : Bool) (s : State) : Host.Outcome State Fault Refusal :=
  s.finish (s.rstNAssert ns pulse)

/-- PERST_ASSERT (R378): PERST_N falls or stays low on a Sender or role-less SLX-7440 and requests a held system reset. -/
def execPerstAssert (ns : Nat) (pulse : Bool) (s : State) : Host.Outcome State Fault Refusal :=
  s.finish (s.awake fun s => s.perstAssert ns pulse)

/-- RESET_REQUEST (R377): A reset request of any source starts a reset, or merges into one begun within 10 ms, after any MRAM
write pulse ends. -/
def execResetRequest (source : Fin 10) (coreLevel : Bool) (cores : BitVec 4) (noKeep pulse : Bool)
    (s : State) : Host.Outcome State Fault Refusal :=
  s.finish (s.awake fun s => s.resetRequest source.val coreLevel cores.toNat noKeep pulse)

/-- RESET_RELEASE (R386): once the reset hold ends, bring-up starts by loading the options and trims. -/
def execResetRelease (s : State) : Host.Outcome State Fault Refusal :=
  s.finish (s.resetRelease)

/-- CORE_RESET_CMD (R375): A keyed RPS_RST write with LEVEL 1 resets the named cores. -/
def execCoreResetCmd (cores : BitVec 4) (pulse : Bool) (s : State) : Host.Outcome State Fault Refusal :=
  s.finish (s.awake fun s => s.rstWrite (rstWord 1 cores.toNat false) pulse)

/-- SYSTEM_RESET_CMD (R375): A keyed RPS_RST write with LEVEL 2 requests a system reset, kept unless NOKEEP is set. -/
def execSystemResetCmd (noKeep pulse : Bool) (s : State) : Host.Outcome State Fault Refusal :=
  s.finish (s.awake fun s => s.rstWrite (rstWord 2 0 noKeep) pulse)

/-- RECORD_LOAD_DONE (R414): the record load completes, LOADED is set and the cores are started. -/
def execRecordLoadDone (s : State) : Host.Outcome State Fault Refusal :=
  s.finish (s.awake fun s => s.recordLoadDone)

/-- CORE_BOOT_DONE (R353): the cores finish booting, and the Control core begins the structure image load. -/
def execCoreBootDone (s : State) : Host.Outcome State Fault Refusal :=
  s.finish (s.awake fun s => s.coreBootDone)

/-- CHANNEL_TRAINING_DONE (R296): training of a memory channel ends, and the channel enters Ready or Failed. -/
def execChannelTrainingDone (chan : Fin 4) (ranks2 : Bool) (rowb : Fin 4) (fail : BitVec 8) (pulse : Bool)
    (s : State) : Host.Outcome State Fault Refusal :=
  s.finish (s.awake fun s => s.channelDone chan.val ranks2 rowb.val fail.toNat pulse)

/-- IMG_CHECK (R34): A write to SYS_IMG_CHECK revalidates the named slot and updates its status. -/
def execImgCheck (slot : Fin 2) (s : State) : Host.Outcome State Fault Refusal :=
  s.finish (s.awake fun s => (s.setF F.SYS_IMG_CHECK_SLOT slot.val).imgCheck slot.val)

/-- MRAM_PULSE_END (R379): an MRAM write pulse in progress ends, and a reset or shutdown deferred behind it takes effect. -/
def execMramPulseEnd (s : State) : Host.Outcome State Fault Refusal :=
  s.finish (s.awake fun s => s.pulseEnd)

/-- CHAIN_RESET_ENTER (R380): 100 µs after the RESET frame, the tile enters a kept system reset. -/
def execChainResetEnter (pulse : Bool) (s : State) : Host.Outcome State Fault Refusal :=
  s.finish (s.awake fun s => s.chainResetEnter pulse)

end Sys2Proof.Machine
end

