-- ==== Sys2Proof/Machine/CmdSender.lean ====
section
/-! DEFINITION. Meanings of the commands of the sender pipeline. -/

namespace Sys2Proof.Machine

/-- SEGMENT_START (R98): the chain MAC begins a segment once the FIFO holds the whole segment or the prefetch threshold. -/
def execSegmentStart (port : Fin 8) (s : State) : Host.Outcome State Fault Refusal :=
  s.finish (s.awake fun s => s.segmentStart port.val)

/-- FIFO_UNDERRUN (R99): the output FIFO runs empty mid-frame: the frame is poisoned, the segment discarded and STEP raised. -/
def execFifoUnderrun (port : Fin 8) (s : State) : Host.Outcome State Fault Refusal :=
  s.finish (s.awake fun s => s.fifoUnderrun port.val)

/-- TRANSMIT_DEADLINE (R97): at a slot's transmit deadline, unbegun segments are dropped and segments in progress are poisoned.
-/
def execTransmitDeadline (slot : Fin 8) (s : State) : Host.Outcome State Fault Refusal :=
  s.finish (s.awake fun s => s.transmitDeadline slot.val)

end Sys2Proof.Machine
end

