-- ==== Sys2Proof/Machine/CmdThermal.lean ====
section
/-! DEFINITION. Meanings of the commands of thermal management. -/

namespace Sys2Proof.Machine

/-- SENSOR_CONVERSION (R395): each die sensor converts every 1 ms, and bad readings lead towards Failed. -/
def execSensorConversion (sensor : Fin 12) (raw : Option Int) (s : State) : Host.Outcome State Fault Refusal :=
  s.finish (s.awake fun s => s.sensorConversion sensor.val raw)

/-- BOARD_SENSOR_READ (R395): each board sensor is read every 10 ms over I3C. -/
def execBoardSensorRead (sensor : Fin 16) (bytes : Option (BitVec 16)) (s : State) : Host.Outcome State Fault Refusal :=
  s.finish (s.awake fun s => s.boardSensorRead sensor.val (bytes.map (·.toNat)))

/-- ZONE_SAMPLE (R396): every 1 ms the zone values are formed and the comparisons sampled with their dwell. -/
def execZoneSample (pulse : Bool) (s : State) : Host.Outcome State Fault Refusal :=
  s.finish (s.awake fun s => s.zoneSample pulse)

/-- STAGE2_START (R401): stage 1 has lasted S2DLY with throttle still Over, so stage 2 begins and bubbles are requested. -/
def execStage2Start (s : State) : Host.Outcome State Fault Refusal :=
  s.finish (s.awake fun s => s.stage2Start)

/-- BUBBLE_STEP (R401): every 250 ms the bubble request is raised by 4 in stage 2, or lowered by 4 in release. -/
def execBubbleStep (s : State) : Host.Outcome State Fault Refusal :=
  s.finish (s.awake fun s => s.bubbleStep)

/-- SLOT_CAP_STEP (R402): after S2DLY of THROTTLED the slot-cap request steps down, or steps up in release. -/
def execSlotCapStep (s : State) : Host.Outcome State Fault Refusal :=
  s.finish (s.awake fun s => s.slotCapStep)

/-- SCAP_WRITE (R403): A write to THM_SCAP sets the slot cap to apply at FRAME. -/
def execScapWrite (path : Path) (value : Word) (s : State) : Host.Outcome State Fault Refusal :=
  s.finish (s.awake fun s => s.write32 path R.THM_SCAP value)

/-- SHUTDOWN_RELEASE (R406): A Sender is released from shutdown after 10 s with every zone at or below 103 °C. -/
def execShutdownRelease (s : State) : Host.Outcome State Fault Refusal :=
  s.finish (s.awake fun s => s.shutdownRelease)

/-- MASK_SET (R399): A keyed THM_MASK_SET write masks or unmasks a sensor. -/
def execMaskSet (path : Path) (value : Word) (s : State) : Host.Outcome State Fault Refusal :=
  s.finish (s.awake fun s => s.write32 path R.THM_MASK_SET value)

end Sys2Proof.Machine
end

