-- ==== Sys2Proof/Machine/CmdTime.lean ====
section
/-! DEFINITION. Meanings of the commands of wall time, PTP and the Ethernet port. -/

namespace Sys2Proof.Machine

/-- SYNC_SEND (R247): A sender sends a one-step Sync on every chain port in use every 2^LOGSYNC s. -/
def execSyncSend (s : State) : Host.Outcome State Fault Refusal :=
  s.finish (s.awake fun s => s.syncSend)

/-- ANNOUNCE_SEND (R247): A sender sends an Announce every 1 s. -/
def execAnnounceSend (s : State) : Host.Outcome State Fault Refusal :=
  s.finish (s.awake fun s => s.announceSend)

/-- DELAY_REQ_SEND (R248): A tile sends a Delay_Req at its address slot within each delay interval. -/
def execDelayReqSend (port : Fin 9) (s : State) : Host.Outcome State Fault Refusal :=
  s.finish (s.awake fun s => s.delayReqSend port.val)

/-- ANNOUNCE_RX (R245): an Announce updates the domain's time transmitter selection. -/
def execAnnounceRx (port : Fin 10) (msg : List Byte) (s : State) : Host.Outcome State Fault Refusal :=
  s.finish (s.awake fun s => s.announceIn port.val msg)

/-- PTP_ETH_RX (R245): A PTP event message arrives on the Ethernet port and is timestamped and handled by its domain. -/
def execPtpEthRx (frame : List Byte) (s : State) : Host.Outcome State Fault Refusal :=
  s.finish (s.awake fun s => s.ptpEth frame)

/-- DOMAIN_HOLDOVER (R243): A domain has had no valid measurement for 4 sync intervals, or has lost its reference, and enters
Holdover. -/
def execDomainHoldover (dom : Fin 2) (s : State) : Host.Outcome State Fault Refusal :=
  s.finish (s.awake fun s => s.holdover dom.val)

/-- HOLDMAX_EXPIRY (R244): TSTATE stays 4 beyond HOLDMAX, and event 289 is raised. -/
def execHoldmaxExpiry (s : State) : Host.Outcome State Fault Refusal :=
  s.finish (s.awake fun s => s.holdmax)

/-- TIME_SET (R244): TIM_CMD SET loads TIM_SET into the counter when permitted. -/
def execTimeSet (s : State) : Host.Outcome State Fault Refusal :=
  s.finish (s.awake fun s => (s.setF F.TIM_CMD_CMD 1).timCmd 1)

/-- STEP_ACCEPT (R256): TIM_CMD ACCEPT applies the refused step held in TIM_STEP_PEND. -/
def execStepAccept (s : State) : Host.Outcome State Fault Refusal :=
  s.finish (s.awake fun s => (s.setF F.TIM_CMD_CMD 2).timCmd 2)

/-- ETH_FRAME_RX (R246): A non-PTP Ethernet frame to the device is written to the receive ring, or dropped when the ring is
full. -/
def execEthFrameRx (bytes : List Byte) (good : Bool) (s : State) : Host.Outcome State Fault Refusal :=
  s.finish (s.awake fun s => s.ethFrameRx bytes good)

/-- ETH_TX (R246): entries between TAIL and HEAD of the transmit ring are sent with an added FCS. -/
def execEthTx (s : State) : Host.Outcome State Fault Refusal :=
  s.finish (s.awake fun s => s.ethTx)

/-- ETHERNET_LINK_CHANGE (R245): the 25GBASE-R or 10GBASE-R port gains or loses block lock, which updates ETH_UP and LINK and
raises event 284. -/
def execEthernetLinkChange (up : Bool) (s : State) : Host.Outcome State Fault Refusal :=
  s.finish (s.awake fun s => s.ethLink up)

/-- ETH_DELAY_REQ_SEND (R245): as a PTP time receiver on the Ethernet port, the sender sends its periodic Delay_Req or
Pdelay_Req. -/
def execEthDelayReqSend (s : State) : Host.Outcome State Fault Refusal :=
  s.finish (s.awake fun s => s.ethDelayReq)

/-- STEP_NOTICE_SECOND_COPY (R258): 50 µs after the first step notice, the sender sends the second copy on every chain port and
the pair link. -/
def execStepNoticeSecondCopy (s : State) : Host.Outcome State Fault Refusal :=
  s.finish (s.awake fun s => s.noticeSecond)

/-- SREF_EDGE (R259): A qualified sync reference line edge measures phase and may acquire the frame start. -/
def execSrefEdge (lowNs : Nat) (s : State) : Host.Outcome State Fault Refusal :=
  s.finish (s.awake fun s => s.srefEdge lowNs)

/-- SREF_LOST (R259): after 3 line periods without an edge the reference is lost, and event 285 is raised. -/
def execSrefLost (s : State) : Host.Outcome State Fault Refusal :=
  s.finish (s.awake fun s => s.srefLost)

/-- OUTPUT_EDGE (R261): A timed output changes level at its programmed instant. -/
def execOutputEdge (output : Fin 8) (s : State) : Host.Outcome State Fault Refusal :=
  s.finish (s.awake fun s => s.outputEdge output.val)

/-- CAPTURE_EDGE (R262): A selected input edge is stamped into the capture FIFO, or dropped when the FIFO is full. -/
def execCaptureEdge (input : Fin 4) (rise : Bool) (s : State) : Host.Outcome State Fault Refusal :=
  s.finish (s.awake fun s => s.captureEdge input.val rise)

/-- CAPTURE_POP (R262): A write to TIM_CAPc_POP removes the oldest capture entry. -/
def execCapturePop (input : Fin 4) (s : State) : Host.Outcome State Fault Refusal :=
  s.finish (s.awake fun s => (s.setF (F.TIM_CAP_POP_POP input.val) 1).capturePop input.val)

end Sys2Proof.Machine
end

