-- ==== Sys2Proof/Machine/Dispatch.lean ====
section
/-! DEFINITION. One arm for each command: a direct call of its meaning. -/

namespace Sys2Proof.Machine

def exec (i : Instr) (s : State) : Host.Outcome State Fault Refusal :=
  match i with
  | .registerWrite path addr wide value => Sys2Proof.Machine.execRegisterWrite path addr wide value s
  | .absentBlockAccess path addr wide write => Sys2Proof.Machine.execAbsentBlockAccess path addr wide write s
  | .misalignedAccess path addr write => Sys2Proof.Machine.execMisalignedAccess path addr write s
  | .rcRead path addr wide => Sys2Proof.Machine.execRcRead path addr wide s
  | .counterLowRead path addr wide => Sys2Proof.Machine.execCounterLowRead path addr wide s
  | .timNowRead path wide => Sys2Proof.Machine.execTimNowRead path wide s
  | .msixHoldoffEnd vector => Sys2Proof.Machine.execMsixHoldoffEnd vector s
  | .powerOn => Sys2Proof.Machine.execPowerOn s
  | .railFail aon pulse => Sys2Proof.Machine.execRailFail aon pulse s
  | .brownout pulse => Sys2Proof.Machine.execBrownout pulse s
  | .rstNAssert ns pulse => Sys2Proof.Machine.execRstNAssert ns pulse s
  | .perstAssert ns pulse => Sys2Proof.Machine.execPerstAssert ns pulse s
  | .resetRequest source coreLevel cores noKeep pulse => Sys2Proof.Machine.execResetRequest source coreLevel cores noKeep pulse s
  | .resetRelease => Sys2Proof.Machine.execResetRelease s
  | .coreResetCmd cores pulse => Sys2Proof.Machine.execCoreResetCmd cores pulse s
  | .systemResetCmd noKeep pulse => Sys2Proof.Machine.execSystemResetCmd noKeep pulse s
  | .recordLoadDone => Sys2Proof.Machine.execRecordLoadDone s
  | .coreBootDone => Sys2Proof.Machine.execCoreBootDone s
  | .channelTrainingDone chan ranks2 rowb fail pulse => Sys2Proof.Machine.execChannelTrainingDone chan ranks2 rowb fail pulse s
  | .imgCheck slot => Sys2Proof.Machine.execImgCheck slot s
  | .frameBoundary => Sys2Proof.Machine.execFrameBoundary s
  | .slotBoundary => Sys2Proof.Machine.execSlotBoundary s
  | .shutterPoint => Sys2Proof.Machine.execShutterPoint s
  | .heavyCommitPrepare => Sys2Proof.Machine.execHeavyCommitPrepare s
  | .regionReady use => Sys2Proof.Machine.execRegionReady use s
  | .cellToken cell prims upsetsIn upsetsOut => Sys2Proof.Machine.execCellToken cell prims upsetsIn upsetsOut s
  | .runComplete path srcErrs annBad => Sys2Proof.Machine.execRunComplete path srcErrs annBad s
  | .recomputeComplete path srcErrs annBad => Sys2Proof.Machine.execRecomputeComplete path srcErrs annBad s
  | .sramReload cell => Sys2Proof.Machine.execSramReload cell s
  | .fabricDeadline slot => Sys2Proof.Machine.execFabricDeadline slot s
  | .residueSecondEnd => Sys2Proof.Machine.execResidueSecondEnd s
  | .ringGateEnd track count => Sys2Proof.Machine.execRingGateEnd track count s
  | .ageDayEnd => Sys2Proof.Machine.execAgeDayEnd s
  | .ageHourlySave => Sys2Proof.Machine.execAgeHourlySave s
  | .plannerFrameEnd busy rate => Sys2Proof.Machine.execPlannerFrameEnd busy rate s
  | .plannerWindowEnd => Sys2Proof.Machine.execPlannerWindowEnd s
  | .avsReadback ok mv status => Sys2Proof.Machine.execAvsReadback ok mv status s
  | .avsRetry ok mv status => Sys2Proof.Machine.execAvsRetry ok mv status s
  | .planHoldSet => Sys2Proof.Machine.execPlanHoldSet s
  | .planHoldClear => Sys2Proof.Machine.execPlanHoldClear s
  | .cprRead path value => Sys2Proof.Machine.execCprRead path value s
  | .cprReadDone => Sys2Proof.Machine.execCprReadDone s
  | .segmentStart port => Sys2Proof.Machine.execSegmentStart port s
  | .fifoUnderrun port => Sys2Proof.Machine.execFifoUnderrun port s
  | .transmitDeadline slot => Sys2Proof.Machine.execTransmitDeadline slot s
  | .receiveDeadline slot => Sys2Proof.Machine.execReceiveDeadline slot s
  | .driveWriteStart => Sys2Proof.Machine.execDriveWriteStart s
  | .tableBlockRead bytes => Sys2Proof.Machine.execTableBlockRead bytes s
  | .tableLoadTimeout => Sys2Proof.Machine.execTableLoadTimeout s
  | .tableLoadComplete => Sys2Proof.Machine.execTableLoadComplete s
  | .sweepStart => Sys2Proof.Machine.execSweepStart s
  | .sweepEnd => Sys2Proof.Machine.execSweepEnd s
  | .checkpointStart => Sys2Proof.Machine.execCheckpointStart s
  | .checkpointChunkDone => Sys2Proof.Machine.execCheckpointChunkDone s
  | .checkpointSkip => Sys2Proof.Machine.execCheckpointSkip s
  | .tblRead path value => Sys2Proof.Machine.execTblRead path value s
  | .tblReadDone => Sys2Proof.Machine.execTblReadDone s
  | .doseLampRead path value => Sys2Proof.Machine.execDoseLampRead path value s
  | .doseLampReadDone => Sys2Proof.Machine.execDoseLampReadDone s
  | .rowPeriod => Sys2Proof.Machine.execRowPeriod s
  | .packetReturn bus bytes => Sys2Proof.Machine.execPacketReturn bus bytes s
  | .returnMissing bus => Sys2Proof.Machine.execReturnMissing bus s
  | .busEnumeration bus found rtph => Sys2Proof.Machine.execBusEnumeration bus found rtph s
  | .assignRetry bus => Sys2Proof.Machine.execAssignRetry bus s
  | .hardBlank => Sys2Proof.Machine.execHardBlank s
  | .blankRelease => Sys2Proof.Machine.execBlankRelease s
  | .diagNow => Sys2Proof.Machine.execDiagNow s
  | .i3cEntdaa bus pids => Sys2Proof.Machine.execI3cEntdaa bus pids s
  | .sensorRetry group answered => Sys2Proof.Machine.execSensorRetry group answered s
  | .luxWindowStart => Sys2Proof.Machine.execLuxWindowStart s
  | .luxSample group r g b => Sys2Proof.Machine.execLuxSample group r g b s
  | .luxSensorReadFail group => Sys2Proof.Machine.execLuxSensorReadFail group s
  | .luxWindowEnd => Sys2Proof.Machine.execLuxWindowEnd s
  | .luxCal path value => Sys2Proof.Machine.execLuxCal path value s
  | .luxCalEnd => Sys2Proof.Machine.execLuxCalEnd s
  | .laneBlockTx port lane => Sys2Proof.Machine.execLaneBlockTx port lane s
  | .laneBlockRx port lane bits skew recentre => Sys2Proof.Machine.execLaneBlockRx port lane bits skew recentre s
  | .clockPresent port prov => Sys2Proof.Machine.execClockPresent port prov s
  | .clockLost port => Sys2Proof.Machine.execClockLost port s
  | .eqTrainDone port widths => Sys2Proof.Machine.execEqTrainDone port widths s
  | .eqAdapt port lane now below above => Sys2Proof.Machine.execEqAdapt port lane now below above s
  | .pllLock => Sys2Proof.Machine.execPllLock s
  | .pllRevert => Sys2Proof.Machine.execPllRevert s
  | .noClockTimeout => Sys2Proof.Machine.execNoClockTimeout s
  | .offsetCalStart path value => Sys2Proof.Machine.execOffsetCalStart path value s
  | .offsetCalWindowEnd stats => Sys2Proof.Machine.execOffsetCalWindowEnd stats s
  | .loopEnter port modeM1 => Sys2Proof.Machine.execLoopEnter port modeM1 s
  | .loopExit port => Sys2Proof.Machine.execLoopExit port s
  | .testPatternSet port => Sys2Proof.Machine.execTestPatternSet port s
  | .eidleSet port => Sys2Proof.Machine.execEidleSet port s
  | .txonSet port => Sys2Proof.Machine.execTxonSet port s
  | .provSet port on => Sys2Proof.Machine.execProvSet port on s
  | .chainResetEnter pulse => Sys2Proof.Machine.execChainResetEnter pulse s
  | .replySubstitute port => Sys2Proof.Machine.execReplySubstitute port s
  | .pollTimeout port => Sys2Proof.Machine.execPollTimeout port s
  | .seqResend port addrM1 => Sys2Proof.Machine.execSeqResend port addrM1 s
  | .enumTimeout port => Sys2Proof.Machine.execEnumTimeout port s
  | .enumCmd path value => Sys2Proof.Machine.execEnumCmd path value s
  | .admitCmd port addrM1 => Sys2Proof.Machine.execAdmitCmd port addrM1 s
  | .quarantineCmd port addrM1 => Sys2Proof.Machine.execQuarantineCmd port addrM1 s
  | .recheckCmd port addrM1 => Sys2Proof.Machine.execRecheckCmd port addrM1 s
  | .catchupCmd port addrM1 => Sys2Proof.Machine.execCatchupCmd port addrM1 s
  | .commitSecondCopy => Sys2Proof.Machine.execCommitSecondCopy s
  | .pollHandover => Sys2Proof.Machine.execPollHandover s
  | .holdReq => Sys2Proof.Machine.execHoldReq s
  | .releaseReq => Sys2Proof.Machine.execReleaseReq s
  | .blankReq rampM1 => Sys2Proof.Machine.execBlankReq rampM1 s
  | .unblankReq rampM1 => Sys2Proof.Machine.execUnblankReq rampM1 s
  | .actionSecondCopy => Sys2Proof.Machine.execActionSecondCopy s
  | .triggerEdge output => Sys2Proof.Machine.execTriggerEdge output s
  | .syncSend => Sys2Proof.Machine.execSyncSend s
  | .announceSend => Sys2Proof.Machine.execAnnounceSend s
  | .delayReqSend port => Sys2Proof.Machine.execDelayReqSend port s
  | .announceRx port msg => Sys2Proof.Machine.execAnnounceRx port msg s
  | .ptpEthRx frame => Sys2Proof.Machine.execPtpEthRx frame s
  | .domainHoldover dom => Sys2Proof.Machine.execDomainHoldover dom s
  | .holdmaxExpiry => Sys2Proof.Machine.execHoldmaxExpiry s
  | .timeSet => Sys2Proof.Machine.execTimeSet s
  | .stepAccept => Sys2Proof.Machine.execStepAccept s
  | .ethFrameRx bytes good => Sys2Proof.Machine.execEthFrameRx bytes good s
  | .ethTx => Sys2Proof.Machine.execEthTx s
  | .srefEdge lowNs => Sys2Proof.Machine.execSrefEdge lowNs s
  | .srefLost => Sys2Proof.Machine.execSrefLost s
  | .outputEdge output => Sys2Proof.Machine.execOutputEdge output s
  | .captureEdge input rise => Sys2Proof.Machine.execCaptureEdge input rise s
  | .capturePop input => Sys2Proof.Machine.execCapturePop input s
  | .commitRequest path value => Sys2Proof.Machine.execCommitRequest path value s
  | .commitCheckDone eccBad => Sys2Proof.Machine.execCommitCheckDone eccBad s
  | .tileCommitCheckDone => Sys2Proof.Machine.execTileCommitCheckDone s
  | .peek path value => Sys2Proof.Machine.execPeek path value s
  | .peekDone => Sys2Proof.Machine.execPeekDone s
  | .dumpStart => Sys2Proof.Machine.execDumpStart s
  | .dumpAbort => Sys2Proof.Machine.execDumpAbort s
  | .dumpComplete done err => Sys2Proof.Machine.execDumpComplete done err s
  | .dportRead path => Sys2Proof.Machine.execDportRead path s
  | .refreshInterval chan rank bank paid => Sys2Proof.Machine.execRefreshInterval chan rank bank paid s
  | .refreshRatePoll chan code => Sys2Proof.Machine.execRefreshRatePoll chan code s
  | .dramAccessDone chan ns addrs data clients ecc => Sys2Proof.Machine.execDramAccessDone chan ns addrs data clients ecc s
  | .rowIdleClose chan rank bank => Sys2Proof.Machine.execRowIdleClose chan rank bank s
  | .scrubRead ecc overwritten => Sys2Proof.Machine.execScrubRead ecc overwritten s
  | .rtFifoStarve client => Sys2Proof.Machine.execRtFifoStarve client s
  | .linkTrained speed width => Sys2Proof.Machine.execLinkTrained speed width s
  | .linkDown => Sys2Proof.Machine.execLinkDown s
  | .functionLevelReset => Sys2Proof.Machine.execFunctionLevelReset s
  | .bar2Access offset write len poisoned => Sys2Proof.Machine.execBar2Access offset write len poisoned s
  | .ringRun ring => Sys2Proof.Machine.execRingRun ring s
  | .ringStop ring => Sys2Proof.Machine.execRingStop ring s
  | .descriptorFetch ring bytes => Sys2Proof.Machine.execDescriptorFetch ring bytes s
  | .bufferComplete ring data => Sys2Proof.Machine.execBufferComplete ring data s
  | .ringHalt ring code onDesc => Sys2Proof.Machine.execRingHalt ring code onDesc s
  | .peerDoorbell source index => Sys2Proof.Machine.execPeerDoorbell source index s
  | .pagingCopy data => Sys2Proof.Machine.execPagingCopy data s
  | .pagingMap => Sys2Proof.Machine.execPagingMap s
  | .reelFetchDone player data failed => Sys2Proof.Machine.execReelFetchDone player data failed s
  | .reelPlay player => Sys2Proof.Machine.execReelPlay player s
  | .reelPause player => Sys2Proof.Machine.execReelPause player s
  | .reelSeek player => Sys2Proof.Machine.execReelSeek player s
  | .heartbeatSend => Sys2Proof.Machine.execHeartbeatSend s
  | .heartbeatRx payload => Sys2Proof.Machine.execHeartbeatRx payload s
  | .partnerLost => Sys2Proof.Machine.execPartnerLost s
  | .autopromote => Sys2Proof.Machine.execAutopromote s
  | .bootwaitExpiry => Sys2Proof.Machine.execBootwaitExpiry s
  | .mirrorRx tag payload => Sys2Proof.Machine.execMirrorRx tag payload s
  | .pairCommitRx tag tspec payload => Sys2Proof.Machine.execPairCommitRx tag tspec payload s
  | .snapdataRx tag tspec payload => Sys2Proof.Machine.execSnapdataRx tag tspec payload s
  | .pairActionRx tag payload => Sys2Proof.Machine.execPairActionRx tag payload s
  | .handoverRx tag tspec payload => Sys2Proof.Machine.execHandoverRx tag tspec payload s
  | .pollstateRx tag tspec payload => Sys2Proof.Machine.execPollstateRx tag tspec payload s
  | .relayRx port dir => Sys2Proof.Machine.execRelayRx port dir s
  | .stateRx tag tspec payload => Sys2Proof.Machine.execStateRx tag tspec payload s
  | .resetreqRx pulse => Sys2Proof.Machine.execResetreqRx pulse s
  | .pairResend => Sys2Proof.Machine.execPairResend s
  | .resyncTimeout => Sys2Proof.Machine.execResyncTimeout s
  | .parTake => Sys2Proof.Machine.execParTake s
  | .parResetPartner => Sys2Proof.Machine.execParResetPartner s
  | .parRestartResync => Sys2Proof.Machine.execParRestartResync s
  | .gooseEval plls => Sys2Proof.Machine.execGooseEval plls s
  | .watchdogExpiry core pulse => Sys2Proof.Machine.execWatchdogExpiry core pulse s
  | .mailboxSend window core => Sys2Proof.Machine.execMailboxSend window core s
  | .mailboxRack window => Sys2Proof.Machine.execMailboxRack window s
  | .infoPing core => Sys2Proof.Machine.execInfoPing core s
  | .infoVersion core => Sys2Proof.Machine.execInfoVersion core s
  | .updateOpen => Sys2Proof.Machine.execUpdateOpen s
  | .updateWrite => Sys2Proof.Machine.execUpdateWrite s
  | .updateVerify => Sys2Proof.Machine.execUpdateVerify s
  | .updateActivate => Sys2Proof.Machine.execUpdateActivate s
  | .activationComplete pulse => Sys2Proof.Machine.execActivationComplete pulse s
  | .updateConfirm => Sys2Proof.Machine.execUpdateConfirm s
  | .updateAbort => Sys2Proof.Machine.execUpdateAbort s
  | .updateStatus => Sys2Proof.Machine.execUpdateStatus s
  | .updateClose => Sys2Proof.Machine.execUpdateClose s
  | .sessionTimeout => Sys2Proof.Machine.execSessionTimeout s
  | .autoconfirm core => Sys2Proof.Machine.execAutoconfirm core s
  | .hatchRead addr => Sys2Proof.Machine.execHatchRead addr s
  | .hatchWrite addr value => Sys2Proof.Machine.execHatchWrite addr value s
  | .hatchMailbox core words => Sys2Proof.Machine.execHatchMailbox core words s
  | .chainResetCmd path value => Sys2Proof.Machine.execChainResetCmd path value s
  | .chainResetEnum => Sys2Proof.Machine.execChainResetEnum s
  | .dozeReq => Sys2Proof.Machine.execDozeReq s
  | .standbyReq => Sys2Proof.Machine.execStandbyReq s
  | .powerCancel => Sys2Proof.Machine.execPowerCancel s
  | .dozeRelayEnd => Sys2Proof.Machine.execDozeRelayEnd s
  | .wake source => Sys2Proof.Machine.execWake source s
  | .wakeFail => Sys2Proof.Machine.execWakeFail s
  | .toneGo path value => Sys2Proof.Machine.execToneGo path value s
  | .toneEnd => Sys2Proof.Machine.execToneEnd s
  | .sensorConversion sensor raw => Sys2Proof.Machine.execSensorConversion sensor raw s
  | .boardSensorRead sensor bytes => Sys2Proof.Machine.execBoardSensorRead sensor bytes s
  | .zoneSample pulse => Sys2Proof.Machine.execZoneSample pulse s
  | .stage2Start => Sys2Proof.Machine.execStage2Start s
  | .bubbleStep => Sys2Proof.Machine.execBubbleStep s
  | .slotCapStep => Sys2Proof.Machine.execSlotCapStep s
  | .scapWrite path value => Sys2Proof.Machine.execScapWrite path value s
  | .shutdownRelease => Sys2Proof.Machine.execShutdownRelease s
  | .maskSet path value => Sys2Proof.Machine.execMaskSet path value s
  | .optionWrite key => Sys2Proof.Machine.execOptionWrite key s
  | .recordImageWrite key => Sys2Proof.Machine.execRecordImageWrite key s
  | .recordCopyDone ok => Sys2Proof.Machine.execRecordCopyDone ok s
  | .winDataWrite path value => Sys2Proof.Machine.execWinDataWrite path value s
  | .rdDataRead path => Sys2Proof.Machine.execRdDataRead path s
  | .calmark => Sys2Proof.Machine.execCalmark s
  | .mramPulseEnd => Sys2Proof.Machine.execMramPulseEnd s
  | .ethernetLinkChange up => Sys2Proof.Machine.execEthernetLinkChange up s
  | .ethDelayReqSend => Sys2Proof.Machine.execEthDelayReqSend s
  | .stepNoticeSecondCopy => Sys2Proof.Machine.execStepNoticeSecondCopy s
  | .electricalIdleEnd port => Sys2Proof.Machine.execElectricalIdleEnd port s
  | .pairSnapshotDone => Sys2Proof.Machine.execPairSnapshotDone s
  | .configurationRequest op => Sys2Proof.Machine.execConfigurationRequest op s
  | .msixTableAccess offset write => Sys2Proof.Machine.execMsixTableAccess offset write s
  | .ibiHotJoinRequest bus => Sys2Proof.Machine.execIbiHotJoinRequest bus s
  | .unsupportedCommand core => Sys2Proof.Machine.execUnsupportedCommand core s
  | .hatchBadFrame => Sys2Proof.Machine.execHatchBadFrame s
  | .wakeToneCease => Sys2Proof.Machine.execWakeToneCease s
  | .boundaryScanInstruction enter => Sys2Proof.Machine.execBoundaryScanInstruction enter s

end Sys2Proof.Machine
end

