-- ==== Sys2Proof/Machine/Step.lean ====
section
/-! DEFINITION. One step: the command at the front of the queue is executed with the queue's rest; on an empty queue one tick of
domain 19 passes (DESIGN CHOICE, assumption 3). -/

namespace Sys2Proof.Machine

/-- Take the command at the front of the queue; on an empty queue let one tick of wall time pass. [DESIGN CHOICE, log entry 3; DESIGN CHOICE, log entry 185] -/
def step (s : State) : Host.Outcome State Fault Refusal :=
  match s.pending with
  | c :: rest => exec c { s with pending := rest }
  | [] => .next (s.ticks 1)

/-- The state with the command that a word spells put at the front of its queue; no row of the table gives bits, so no word spells
one and the state is unchanged. -/
def State.withFetchWord (s : State) (nbits w : Nat) : State :=
  match decodeTableWord nbits w with
  | some c => { s with pending := c :: s.pending }
  | none => s

end Sys2Proof.Machine
end

