-- ==== Sys2Proof/Safety.lean ====
section
/-! DEFINITION. What claims are stated in terms of: a command completes with a condition on the state it leaves, what it leaves as
it was, a safe run, and the canonical form of a state. -/

namespace Sys2Proof.Machine

/-- The command answers a next state, and that state meets a condition. -/
def Completes (c : Instr) (s : State) (P : State → Prop) : Prop := ∃ t, exec c s = .next t ∧ P t

/-- The registers that raising an event may write: those of the event router and CMC_EVDROP. -/
def evReg (a : Nat) : Bool := decide (0x360000 ≤ a ∧ a < 0x360900) || a == R.CMC_EVDROP

/-- The status bit of an event in EVT_STAT0 to EVT_STAT9 (R321). -/
def State.evBit (s : State) (n : Nat) : Bool := (s.reg (R.EVT_STAT (n / 32))).getLsbD (n % 32)

/-- From `s` to `t` every register outside those that satisfy `own` and those an event may write holds its word; the stage view,
the holding registers and every byte of every memory are as they were. -/
structure Frame (own : Nat → Bool) (s t : State) : Prop where
  regs : ∀ a, own a = false → evReg a = false → t.reg a = s.reg a
  stage : t.stage = s.stage
  latch : t.latch = s.latch
  dram : ∀ a, Mem.get t.dram a = Mem.get s.dram a
  mram : ∀ a, Mem.get t.mram a = Mem.get s.mram a
  lineStore : ∀ a, Mem.get t.lineStore a = Mem.get s.lineStore a
  ubuf : ∀ a, Mem.get t.ubuf a = Mem.get s.ubuf a

/-- No register at all. -/
def noReg : Nat → Bool := fun _ => false

/-- The registers of a block (Table 20.1). -/
def inBlk (b : Blk) : Nat → Bool := fun a => decide (b.base ≤ a ∧ a < b.base + b.extent)

/-- A run: one step after another, each answering a next state. -/
inductive Runs : State → State → Prop where
  | here (s : State) : Runs s s
  | step {s t u : State} : step s = .next t → Runs t u → Runs s u

/-- A state from which the block goes on: its step answers a next state. -/
def Safe (s : State) : Prop := ∃ t, step s = .next t

/-- The canonical form of every sparse store of the state. -/
def State.wf (s : State) : Bool :=
  RegFile.wf s.regs && RegFile.wf s.stage && Mem.wf s.dram && Mem.wf s.mram && Mem.wf s.lineStore && Mem.wf s.ubuf

/-- The device is awake, in no reset, and has ended its bring-up. -/
def State.steady (s : State) : Bool := !s.asleep && !s.rps.held && s.rps.cores == 0 && decide (5 ≤ s.stage')

/-- Nothing but the passing of a boundary is due at the next frame: no commit or action waits, no load, ramp-up, step of the count,
change of the slot cap, sampling window or change of the power state is under way, the device polls no chain and takes part in no pair. -/
structure NothingDue (s : State) : Prop where
  framed : s.framed = true
  power : s.f F.RPS_PWR_STAT_STATE = 0 ∧ s.rps.ask = none
  steps : s.tim.stepAt = none
  cap : s.thm.scapN = none
  admits : s.cmc.admitAt = none ∧ ∀ p a, (s.tile p a).admitAt = none
  commits : s.cmt.pend = [] ∧ s.dsp.repeatFrom = none ∧ s.dsp.joinN = none
  actions : s.dsp.asked = [] ∧ s.dsp.holdAct = none ∧ s.dsp.blankAct = none
  drive : s.drv.startAt = none
  load : s.cor.load = none
  pair : s.present .PAR = false
  polls : s.polls = false
  run : s.isSender = true → s.on F.DSP_STATUS_RUN = false
  ports : ∀ p, (s.port p).provAsk = none
  lux : s.lux.winAsk = none ∧ s.lux.calAsk = none

/-- The blocks that every system reset returns to the reset values of their registers, whatever it keeps (Table 17.1). -/
def resetBlocks : List Blk := [.SND, .REL, .COR, .DRV, .LUX, .LAN, .CMC, .TIM, .DSP, .HST]

/-- From `s` the device has entered the reset of a level that a source asked for: it is held, RPS_LAST and RPS_CAUSE say so, the
blocks are at their reset values (LAN_CAL_STAT says so where the reset ended a lane calibration), no commit waits, the drive pins have gone low, and the MRAM is as it was (R372, R374, Table 17.1). -/
structure InReset (level source : Nat) (s t : State) : Prop where
  held : t.rps.held = true
  level : t.rps.level = level ∧ t.f F.RPS_LAST_LEVEL = level ∧ t.f F.RPS_LAST_SOURCE = source
  cause : (t.f F.RPS_CAUSE_CAUSE).testBit source = true
  regs : ∀ b ∈ resetBlocks, ∀ a, inBlk b a = true → a ≠ R.TIM_STATUS →
    (a = R.LAN_CAL_STAT → s.lan.cal = none) → t.reg a = resetWord a
  pend : t.cmt.pend = []
  mram : t.mram = s.mram
  drives : .drivePinsLow true ∈ t.outs

/-- A message waits at the front of the queue of a core that takes messages, from one of the two mailbox windows (R357, R360). -/
structure Asks (core : Nat) (m : Msg) (q : List Msg) (s : State) : Prop where
  awake : s.asleep = false
  front : s.mbox core = m :: q
  free : s.coreHeld core = false
  window : m.path < 2 ∧ m.ref = m.path

/-- The message has been taken from its core's queue and answered in its window: the header, the words that follow it, their number
and the state of the window (R357, Table 16.4). -/
structure Answered (core : Nat) (m : Msg) (q : List Msg) (words : List Nat) (t : State) : Prop where
  queue : t.mbox core = q
  done : t.f (F.MGT_MW_STAT_SST m.path) = 2
  length : t.f (F.MGT_MW_STAT_RLENW m.path) = words.length
  header : t.reg (R.MGT_MW_RBUF m.path 0) = BitVec.ofNat 32 (m.svc + m.cmd * 2 ^ 8 + words.length * 2 ^ 16 + m.seq * 2 ^ 26)
  words : ∀ i w, words[i]? = some w → t.reg (R.MGT_MW_RBUF m.path (i + 1)) = BitVec.ofNat 32 w

/-- The commands that the always-on supply serves, and so a device in Standby (R390, R392, R430). -/
def alwaysOn : Instr → Bool
  | .powerOn | .railFail .. | .brownout _ | .rstNAssert .. | .resetRelease | .wake _ | .wakeFail | .wakeToneCease
  | .boundaryScanInstruction _ => true
  | _ => false

/-- The device's identity as the register space shows it: the fuses, SYS_ID, the unit ID and the capabilities of the part. -/
structure Identity (d : Fuses) (s : State) : Prop where
  fuses : s.fuses = d
  id : s.value R.SYS_ID = BitVec.ofNat 32 ((if d.part7440 then 0x7440 else 0x7420) + 0xB0 * 2 ^ 16)
  caps : s.value R.SYS_CAPS = if d.part7440 then 0x000FFF1F else 0x00030300
  unitId : ∀ i, i < 3 → s.value (R.SYS_UNITID i) = (d.unitId >>> (32 * i)).setWidth 32

/-- A device in Standby where no command of the always-on supply waits: all but its queue and its clock is that of `d`. -/
structure Standby (d : State) (s : State) : Prop where
  asleep : s.asleep = true
  waits : ∀ c ∈ s.pending, alwaysOn c = false
  same : { s with pending := d.pending, clk := d.clk } = d

end Sys2Proof.Machine
end

