-- ==== Sys2Proof/Certificates/Slice0/Obligations.lean ====
section
/-! DEFINITION. The statements for the provers. -/

open Sys2Proof Sys2Proof.Machine

/-- O1: with command c at the front of its queue, a step is exec of c on the state with the queue's rest. -/
def Obligations.StepRunsTheFrontCommand : Prop :=
  ∀ (c : Instr) (rest : List Instr) (s : State), s.pending = c :: rest → step s = exec c { s with pending := rest }

/-- O2: on an empty queue one tick of domain 19 passes (the model's choice, log entry 3): 2 ns of elapsed time, one tick of wall time,
and nothing else; and no word of the table spells a command. -/
def Obligations.EmptyQueueTicks : Prop :=
  ∀ s : State, s.pending = [] →
    (∃ t, step s = .next t ∧ t.clk.now = s.clk.now + 2 ∧ t.clk.wall = s.clk.wall + s.tickU ∧ { t with clk := s.clk } = s) ∧
    ∀ nbits w, decodeTableWord nbits w = none ∧ s.withFetchWord nbits w = s

/-- O3: every command completes from every state, leaving the queue and the fuses as they were: no command faults or is refused. -/
def Obligations.EveryCommandCompletes : Prop :=
  ∀ (c : Instr) (s : State), Completes c s fun t => t.pending = s.pending ∧ t.fuses = s.fuses

/-- O4: whatever a step does, the part number and the unit ID read as before, SYS_CAPS reads as the part number gives it, and the
queue loses its front command and nothing else. -/
def Obligations.EveryStepKeepsIdentity : Prop :=
  ∀ (d : Fuses) (s s' : State), Identity d s → step s = .next s' → Identity d s' ∧ s'.pending = s.pending.tail

/-- O5: the state after reset has the identity of its fuses, an empty queue, and every sparse store in canonical form.
Where the spec leaves a point open it rests on the model's choices of log entries 1, 182. -/
def Obligations.ResetIdentity : Prop :=
  Identity State.reset.fuses State.reset ∧ State.reset.pending = [] ∧ State.reset.wf = true

/-- O6: while a device is in Standby and no command of the always-on supply waits, every step leaves it in Standby with every
register, every byte of every memory and everything put out as before.
Where the spec leaves a point open it rests on the model's choices of log entry 178. -/
def Obligations.EveryStepKeepsStandby : Prop :=
  ∀ (d : State) (s s' : State), Standby d s → step s = .next s' → Standby d s'

/-- O7: (1) a state in Standby exists for every state of the rest: the status register is what makes it so.
(2) in Standby each command that waits for power completes with no effect.
Where the spec leaves a point open it rests on the model's choices of log entry 178. -/
def Obligations.StandbyServesOnlyTheIsland : Prop :=
  (∀ s : State, s.pending = [] → Standby (s.setF F.RPS_PWR_STAT_STATE 2) (s.setF F.RPS_PWR_STAT_STATE 2) ∧
    (State.reset.asleep = false)) ∧
  (∀ (c : Instr) (s : State), s.asleep = true → alwaysOn c = false → exec c s = .next s)

/-- O8: a stage-view write stages the staged bits of its register and leaves the value in use, and at a Secondary a mirrored
field drops it; the stage view answers what was staged and zero for a live field, the active view the value in use.  An active-view write
to staged fields is dropped: it is counted, and while LIVE_WR_ERR is 0 it is recorded with its address and path and raises event 68.  In
a register that holds live fields too these take the written value (where software can write them), and the write counts only where a staged bit differs.  Where CMT is
absent nothing is recorded. -/
def Obligations.StagedFields : Prop :=
  ∀ (path : Path) (a : Nat) (v : BitVec 64) (m w : Word) (s : State), s.asleep = false → a < 2 ^ 23 → a % 4 = 0 → s.reaches a = true →
    s.hiddenReg a = false → m = stMask a &&& ~~~ s.hiddenBits a → w = v.setWidth 32 →
    (State.mirrored a = false ∨ s.isSecondary = false →
      Completes (.registerWrite path (BitVec.ofNat 24 (2 ^ 23 + a)) false v) s fun t =>
        (∀ b, b ≠ R.PAR_MIRROR → t.reg b = s.reg b) ∧
        (∀ b, RegFile.get t.stage b = if b = a then (RegFile.get s.stage a &&& ~~~ m) ||| (w &&& m) else RegFile.get s.stage b) ∧
        t.peekAt (2 ^ 23 + a) = w &&& m ∧ t.latch = s.latch ∧ t.dram = s.dram ∧ t.mram = s.mram ∧ t.lineStore = s.lineStore ∧
        t.ubuf = s.ubuf ∧ t.outs = s.outs) ∧
    (State.mirrored a = true → s.isSecondary = true →
      Completes (.registerWrite path (BitVec.ofNat 24 (2 ^ 23 + a)) false v) s fun t =>
        t.f F.PAR_MIRROR_DROP_COUNT = (s.f F.PAR_MIRROR_DROP_COUNT + 1) % 2 ^ F.PAR_MIRROR_DROP_COUNT.width ∧ t.evBit 315 = true ∧
        Frame (fun b => b == R.PAR_MIRROR_DROP) s t) ∧
    Completes (.rcRead path (BitVec.ofNat 24 (2 ^ 23 + a)) false) s (fun t =>
      t.outs = s.outs ++ [.readData path (2 ^ 23 + a) (RegFile.get s.stage a &&& m)] ∧ Frame noReg s t) ∧
    (stMask a ≠ 0 → Completes (.rcRead path (BitVec.ofNat 24 a) false) s fun t =>
      ∃ x, t.outs = s.outs ++ [.readData path a x] ∧ x &&& m = s.reg a &&& m) ∧
    (∀ r, regRow a = some r → (r.fields.all fun f => f.acc == .st || f.acc == .ro) = true → r.fields ≠ [] →
      ((r.fields.all fun f => f.acc == .st) = true ∨ (w ^^^ s.reg a) &&& stMask a ≠ 0) →
      (s.present .CMT = false → exec (.registerWrite path (BitVec.ofNat 24 a) false v) s = .next s) ∧
      (s.present .CMT = true → Completes (.registerWrite path (BitVec.ofNat 24 a) false v) s fun t =>
        t.f F.CMT_LWE_CNT_COUNT = (s.f F.CMT_LWE_CNT_COUNT + 1) % 2 ^ 32 ∧ t.f F.CMT_STATUS_LIVE_WR_ERR = 1 ∧
        (s.f F.CMT_STATUS_LIVE_WR_ERR = 0 → t.f F.CMT_LWE_ADDR_ADDR = a ∧
          t.f F.CMT_LWE_ADDR_PATH = [Path.host, .hatch, .core, .frame].idxOf path ∧ t.evBit 68 = true) ∧
        (s.f F.CMT_STATUS_LIVE_WR_ERR = 1 → (∀ b, b ≠ R.CMT_LWE_CNT → t.reg b = s.reg b) ∧ t.outs = s.outs) ∧
        Frame (fun b => b == R.CMT_LWE_CNT || b == R.CMT_STATUS || b == R.CMT_LWE_ADDR) s t)) ∧
    (∀ r, regRow a = some r → (r.fields.all fun f => f.acc == .st || f.acc == .ro) = true →
      (r.fields.any fun f => f.acc == .ro) = true → (w ^^^ s.reg a) &&& stMask a = 0 →
      exec (.registerWrite path (BitVec.ofNat 24 a) false v) s = .next s) ∧
    (∀ l : Fld, (a = R.DRV_CTL ∧ l = F.DRV_CTL_BLANK ∨ (∃ n : Fin 8, a = R.HST_SRC_CTL n ∧ l = F.HST_SRC_CTL_RUN n) ∨
        a = R.HST_PGR_CTL ∧ l = F.HST_PGR_CTL_RUN) →
      Completes (.registerWrite path (BitVec.ofNat 24 a) false v) s fun t =>
        t.f l = l.get w ∧ t.reg a &&& stMask a = s.reg a &&& stMask a ∧ t.stage = s.stage ∧
        (if s.present .CMT = false ∨ (w ^^^ s.reg a) &&& stMask a = 0 then
          t.reg R.CMT_LWE_CNT = s.reg R.CMT_LWE_CNT ∧ t.reg R.CMT_STATUS = s.reg R.CMT_STATUS
        else t.f F.CMT_LWE_CNT_COUNT = (s.f F.CMT_LWE_CNT_COUNT + 1) % 2 ^ 32 ∧ t.f F.CMT_STATUS_LIVE_WR_ERR = 1))

/-- O9: the BLK_ID register of a block reads other than zero; an address that no present and enabled block answers reads as zero,
and a write to it is dropped; each access there raises event 3. -/
def Obligations.AbsentBlockAccess : Prop :=
  ∀ (path : Path) (addr : BitVec 24) (v : BitVec 64) (s : State), s.asleep = false → addr.toNat % 4 = 0 →
    (∀ b : Blk, s.present b = true → s.reg b.base = resetWord b.base → s.peekAt b.base ≠ 0) ∧
    (s.reaches (addr.toNat % 2 ^ 23) = false →
      (∀ c ∈ [Instr.absentBlockAccess path addr false none, .rcRead path addr false], Completes c s fun t =>
        Frame noReg s t ∧ t.evBit 3 = true ∧ t.outs = (s.raise 3).outs ++ [.readData path addr.toNat 0]) ∧
      (∀ c ∈ [Instr.absentBlockAccess path addr false (some v), .registerWrite path addr false v], Completes c s fun t =>
        Frame noReg s t ∧ t.evBit 3 = true ∧ t.outs = (s.raise 3).outs))

/-- O10: every register lies at an address that is a multiple of 4; a 64-bit access there is two 32-bit accesses, at that
address and at the next (after the last word of the space comes the first: the model's choice, log entry 203); an access of another size or at another address is dropped, reads as all zeros and raises event 3. -/
def Obligations.MisalignedAccess : Prop :=
  ∀ (path : Path) (addr : BitVec 24) (v : BitVec 64) (s : State), s.asleep = false →
    (∀ wr, Completes (.misalignedAccess path addr wr) s fun t =>
      Frame noReg s t ∧ t.evBit 3 = true ∧ (wr = false → .readData path addr.toNat 0 ∈ t.outs)) ∧
    (addr.toNat % 4 ≠ 0 → regRow addr.toNat = none ∧
      ∀ wide, exec (.registerWrite path addr wide v) s = exec (.misalignedAccess path addr true) s ∧
        exec (.rcRead path addr wide) s = exec (.misalignedAccess path addr false) s) ∧
    (addr.toNat % 4 = 0 →
      (∃ u t, exec (.rcRead path addr false) s = .next u ∧ exec (.rcRead path (addr + 4) false) u = .next t ∧
        exec (.rcRead path addr true) s = .next t) ∧
      ∃ u, exec (.registerWrite path addr false v) s = .next u ∧
        (u.asleep = false → exec (.registerWrite path addr true v) s = exec (.registerWrite path (addr + 4) false (v >>> 32)) u))

/-- O11: a read of the low word of a wide counter returns it and holds the high word, the counter restarts from 0, and a read of
the high word, on any path, returns the held one; a read of TIM_NOW_NS returns the nanoseconds of the count and latches its seconds and
fraction. -/
def Obligations.LatchingReads : Prop :=
  ∀ (path : Path) (a : Nat) (r : RegRow) (s : State), s.asleep = false →
    (a % 4 = 0 → a + 4 < 2 ^ 23 → regRow a = some r → s.reaches a = true → s.hiddenReg a = false →
      (r.wide = 1 → Completes (.counterLowRead path (BitVec.ofNat 24 a) false) s fun t =>
        t.outs = s.outs ++ [.readData path a (s.value a)] ∧ t.reg a = 0 ∧ t.reg (a + 4) = 0 ∧
        (t.latch.lookup (a + 4) = some (s.reg (a + 4))) ∧ (∀ b, b ≠ a → b ≠ a + 4 → t.reg b = s.reg b) ∧ t.dram = s.dram) ∧
      (r.wide = 2 → Completes (.rcRead path (BitVec.ofNat 24 a) false) s fun t =>
        t.outs = s.outs ++ [.readData path a ((s.latch.lookup a).getD 0)] ∧ t.latch = s.latch)) ∧
    (Completes (.timNowRead path false) s fun t =>
      t.outs = s.outs ++ [.readData path R.TIM_NOW_NS (BitVec.ofNat 32 (State.nsOf s.clk.wall) &&& 0x3FFFFFFF)] ∧
      t.f F.TIM_NOW_SL_SEC = State.secOf s.clk.wall % 2 ^ 32 ∧ t.f F.TIM_NOW_SH_SEC = State.secOf s.clk.wall / 2 ^ 32 % 2 ^ 16 ∧
      t.f F.TIM_NOW_FR_FR = State.frOf s.clk.wall % 2 ^ 16 ∧
      Frame (fun b => b == R.TIM_NOW_SL || b == R.TIM_NOW_SH || b == R.TIM_NOW_FR) s t)

/-- O12: a write to RPS_RST with another KEY, or with LEVEL 0 or 3, is kept as the echo and does nothing; with the KEY and
LEVEL 1 it resets the cores named in CORES (one under activation is held already, which is the reading of log entry 140), and with LEVEL 2 it requests a system reset. -/
def Obligations.ResetRegister : Prop :=
  ∀ (path : Path) (v : BitVec 64) (w : Word) (s : State), s.asleep = false → w = v.setWidth 32 →
    (F.RPS_RST_KEY.get w ≠ 0xA5C3 ∨ F.RPS_RST_LEVEL.get w ∉ [1, 2] →
      Completes (.registerWrite path (BitVec.ofNat 24 R.RPS_RST) false v) s fun t =>
        t.reg R.RPS_RST = w &&& accMask R.RPS_RST (fun _ => true) ∧ t.rps = s.rps ∧ t.outs = s.outs ∧
        Frame (fun a => a == R.RPS_RST) s t) ∧
    (F.RPS_RST_KEY.get w = 0xA5C3 → s.steady = true →
      (F.RPS_RST_LEVEL.get w = 1 → Completes (.registerWrite path (BitVec.ofNat 24 R.RPS_RST) false v) s fun t =>
        t.rps.held = false ∧ t.f F.RPS_LAST_LEVEL = 1 ∧ t.f F.RPS_LAST_SOURCE = 8 ∧ t.f F.RPS_LAST_CORES = F.RPS_RST_CORES.get w ∧
        (∀ c : Fin 4, (F.RPS_RST_CORES.get w).testBit c.val = true → t.rps.cores.testBit c.val = true ∧
          ((t.f F.MGT_STATUS_RUNNING).testBit c.val = false ∨ s.mgt.act.any (fun x => x.core == c.val) = true))) ∧
      (F.RPS_RST_LEVEL.get w = 2 → Completes (.registerWrite path (BitVec.ofNat 24 R.RPS_RST) false v) s (InReset 2 8 s)))

/-- O13: (1) a read of a register that is no half of a wide counter and no latching or data port answers its word on its path; a
read-to-clear field is cleared by the read, and nothing else changes.
(2) on an open Hatch, a read of an aligned register address answers the word that the register space holds there in a frame of
its own, a write is the register write of that address and answers an empty frame, and both are ignored while the Hatch is locked; a bad frame is counted and has no other
effect; a message through window 1 is copied into its buffer and names its core.
(3) entering or leaving a boundary-scan test instruction takes effect whatever the power state and shows in TCKACT (log entry 211), and while
it lasts the MRAM compensation is off.
Where the spec leaves a point open it rests on the model's choices of log entries 6, 175, 204. -/
def Obligations.ReadsHatchAndBoundaryScan : Prop :=
  (∀ (path : Path) (a : Nat) (s : State), s.asleep = false → a % 4 = 0 → a < 2 ^ 23 →
    (∀ r, regRow a = some r → r.wide = 0 → s.reaches a = true → s.hiddenReg a = false → a ≠ R.TIM_NOW_NS → a ≠ R.CMT_DPORT_DATA →
      a ≠ R.NVS_RD_DATA →
      Completes (.rcRead path (BitVec.ofNat 24 a) false) s fun t =>
        t.outs = s.outs ++ [.readData path a (s.value a)] ∧
        t.reg a = s.reg a &&& ~~~ accMask a (fun f => f.acc == .rc) ∧ Frame (fun b => b == a) s t)) ∧
  (∀ (addr v : Word) (core : Fin 4) (s : State), s.asleep = false →
    (s.hatchOpen = false → exec (.hatchRead addr) s = .next s ∧ exec (.hatchWrite addr v) s = .next s) ∧
    (∀ r, s.hatchOpen = true → addr.toNat < 2 ^ 23 → addr.toNat % 4 = 0 → regRow addr.toNat = some r → r.wide ≠ 2 →
      s.reaches addr.toNat = true → Completes (.hatchRead addr) s fun t =>
        t.outs = s.outs ++ [.uart (uartFrame (leBytes 4 (s.peekAt addr.toNat).toNat))]) ∧
    (s.hatchOpen = true → ∃ u, exec (.registerWrite .hatch (addr.setWidth 24) false (v.setWidth 64)) s = .next u ∧
      exec (.hatchWrite addr v) s = .next { u with outs := u.outs ++ [.uart (uartFrame [])] }) ∧
    Completes .hatchBadFrame s (fun t => t.f F.HCH_UERR_COUNT = (s.f F.HCH_UERR_COUNT + 1) % 2 ^ 32 ∧
      Frame (fun a => a == R.HCH_UERR) s t ∧ t.outs = s.outs) ∧
    (s.f (F.MGT_MW_STAT_SST 1) = 1 → Completes (.hatchMailbox core [v]) s fun t =>
      t.reg (R.MGT_MW_BUF 1 0) = v ∧ t.f (F.MGT_MW_SEND_CORE 1) = core.val ∧
      Frame (fun a => a == R.MGT_MW_BUF 1 0 || a == R.MGT_MW_SEND 1) s t)) ∧
  (∀ (enter : Bool) (s : State), Completes (.boundaryScanInstruction enter) s fun t =>
    t.rps.bscan = enter ∧ t.derived R.HCH_STAT = some 1 ∧ (enter = true → t.f F.THM_STATUS_MCOMP = 0) ∧ Frame (fun a => a == R.THM_STATUS) s t ∧ t.outs = s.outs)

/-- O14: (1) a request for a reset that arrives during an MRAM write pulse is kept and counted and has no other effect, whatever its source
(a loss of VDD_AON apart); the end of a pulse takes the request of RST_N that waits, and does nothing where none waits.
(2) a pulse on RST_N shorter than 1 µs is counted, raises event 4 and does nothing else; PERST_N is ignored in the Tile role.
Where the spec leaves a point open it rests on the model's choices of log entry 186. -/
def Obligations.ResetPulses : Prop :=
  (∀ (s : State), s.asleep = false →
    (∀ (ns : Nat) (noKeep : Bool) (cores : BitVec 4) (source : Fin 10) (coreLevel : Bool) (c : Instr), source.val ≠ 5 → 1000 ≤ ns →
      s.part7440 = true → s.isTile = false →
      c ∈ [.railFail false true, .rstNAssert ns true, .perstAssert ns true, .resetRequest source coreLevel cores noKeep true,
        .coreResetCmd cores true, .systemResetCmd noKeep true] →
      Completes c s fun t => t.f F.RPS_DEFER_COUNT = (s.f F.RPS_DEFER_COUNT + 1) % 2 ^ 32 ∧
        (∃ r, t.rps = { s.rps with deferred := s.rps.deferred ++ [r] }) ∧
        Frame (fun a => a == R.RPS_DEFER || a == R.RPS_RST) s t ∧ t.outs = s.outs) ∧
    (s.rps.deferred = [] → Completes .mramPulseEnd s fun t => t = s) ∧
    (s.steady = true → s.rps.deferred = [{ level := 2, source := 1 }] → Completes .mramPulseEnd s fun t =>
      InReset 2 1 s t ∧ t.rps.deferred = [])) ∧
  (∀ (ns : Nat) (pulse : Bool) (s : State),
    (ns < 1000 → Completes (.rstNAssert ns pulse) s fun t => t.f F.RPS_GLITCH_COUNT = (s.f F.RPS_GLITCH_COUNT + 1) % 2 ^ 32 ∧
      t.evBit 4 = true ∧ t.rps = s.rps ∧ Frame (fun a => a == R.RPS_GLITCH) s t) ∧
    (s.isTile = true → exec (.perstAssert ns pulse) s = .next s))

/-- O15: outside an MRAM pulse each source takes a steady device into the reset of its level: a rail or the input supply into a
power-on reset, RST_N, PERST_N, the chain, a core and software into a system reset, whose frame memory is lost where the request
does not keep it.
Where the spec leaves a point open it rests on the model's choices of log entries 4, 70, 75, 186. -/
def Obligations.SourcesEnterReset : Prop :=
  ∀ (s : State), s.steady = true →
    (∀ aon, Completes (.railFail aon false) s fun t => InReset 3 0 s t ∧ t.dram = []) ∧
    Completes (.brownout false) s (fun t => InReset 3 0 s t ∧ 11 ∈ t.rps.owed) ∧
    (∀ ns, 1000 ≤ ns → Completes (.rstNAssert ns false) s (InReset 2 1 s) ∧
      (s.part7440 = true → s.isTile = false → Completes (.perstAssert ns false) s (InReset 2 2 s))) ∧
    (∀ (source : Fin 10) cores noKeep, source.val ≠ 0 → source.val ≠ 3 → source.val ≠ 5 →
      Completes (.resetRequest source false cores noKeep false) s fun t =>
        InReset 2 source.val s t ∧ (noKeep = true → source.val ≠ 6 → t.dram = [] ∧ t.f F.RPS_LAST_KEPT = 0)) ∧
    (∀ noKeep, Completes (.systemResetCmd noKeep false) s fun t => InReset 2 8 s t ∧ (noKeep = true → t.dram = [])) ∧
    (s.isTile = true → s.rps.chainReset = true → Completes (.chainResetEnter false) s fun t =>
      InReset 2 6 s t ∧ 12 ∈ t.rps.owed ∧ t.dram = s.dram ∧ t.lineStore = s.lineStore ∧ t.f F.RPS_LAST_KEPT = 1)

/-- O16: (1) a core reset through RPS_RST holds the cores named, marks them not running, says so in RPS_LAST and raises event 2 at their
return, and spares the frame memory, the line store and the MRAM; where the Goose is not among them every register but those of
RPS and MGT_STATUS is spared, and the update buffer also.
(2) the power-on hold and a reset's release both start bring-up at its first step with group 4 powered; each completion of a
bring-up step moves BOOT_STAGE to the next: the record loaded 2; the cores started 3, where a core runs if its firmware passes its
check and needs an image if not, and with no bootable Link core the device ends bring-up at 5 with every waiting event raised.
Where the spec leaves a point open it rests on the model's choices of log entries 72, 78, 149, 154. -/
def Obligations.CoreResetAndBringUp : Prop :=
  (∀ (cores : BitVec 4) (s : State), s.steady = true → s.cmt.pend.any (·.heavy) = false → s.mgt.act = none →
    Completes (.coreResetCmd cores false) s fun t =>
      t.rps.held = false ∧ t.rps.cores = cores.toNat ∧ t.f F.RPS_LAST_LEVEL = 1 ∧ t.f F.RPS_LAST_SOURCE = 8 ∧
      t.f F.RPS_LAST_CORES = cores.toNat ∧ 2 ∈ t.rps.owed ∧ t.dram = s.dram ∧ t.lineStore = s.lineStore ∧ t.mram = s.mram ∧
      (∀ c : Fin 4, cores.getLsbD c.val = true → (t.f F.MGT_STATUS_RUNNING).testBit c.val = false) ∧
      (cores.getLsbD 3 = false → Frame (fun a => inBlk .RPS a || a == R.MGT_STATUS) s t)) ∧
  (∀ (s : State),
    (s.rps.held = true → s.rps.latch = false →
      (s.rps.level = 3 → Completes .powerOn s fun t => t.rps.held = false ∧ t.f F.RPS_BOOT_STAGE = 1 ∧ t.f F.RPS_AON_PGCORE = 1) ∧
      (s.asleep = false → Completes .resetRelease s fun t => t.rps.held = false ∧ t.f F.RPS_BOOT_STAGE = 1)) ∧
    (s.asleep = false → s.rps.held = false →
      (s.stage' = 1 → Completes .recordLoadDone s fun t => t.f F.RPS_BOOT_STAGE = 2 ∧ t.f F.NVS_STATUS_LOADED = 1) ∧
      (s.stage' = 2 → Completes .coreBootDone s fun t => 3 ≤ t.f F.RPS_BOOT_STAGE ∧
        ∀ c : Fin 4, (t.f F.MGT_STATUS_RUNNING).testBit c.val = s.fwBootOk c.val ∧
          (t.f F.MGT_STATUS_NEEDIMG).testBit c.val = !s.fwBootOk c.val) ∧
      (s.stage' = 2 → s.fwBootOk 0 = false → Completes .coreBootDone s fun t => t.f F.RPS_BOOT_STAGE = 5 ∧ t.rps.owed = []) ∧
      (s.stage' ≠ 1 → exec .recordLoadDone s = .next s) ∧ (s.stage' ≠ 2 → exec .coreBootDone s = .next s)))

/-- O17: (1) a channel in training that passes becomes Trained, with event 296 for a first training or 305 for a retraining; one that fails
its first training becomes Failed with its code and event 297, and one that fails the first retraining is trained once more.
(2) a check of a structure image slot leaves the slot's state, the code and the section of its first failure and its role, and
raises event 56 where the slot is neither empty nor valid; of a slot that is being written only the number is kept.
Where the spec leaves a point open it rests on the model's choices of log entries 22, 27, 28. -/
def Obligations.TrainingAndImageCheck : Prop :=
  (∀ (c : Fin 4) (ranks2 : Bool) (rowb : Fin 4) (fail : BitVec 8) (pulse : Bool) (s : State), s.asleep = false → 5 ≤ s.stage' →
    s.present .FMC = true → s.chansOn.contains c.val = true → s.f (F.FMC_CH_STAT_STATE c.val) = 1 →
    (fail = 0 → Completes (.channelTrainingDone c ranks2 rowb fail pulse) s fun t =>
      t.f (F.FMC_CH_STAT_STATE c.val) = 2 ∧ t.f (F.FMC_CH_STAT_TFAIL c.val) = 0 ∧
      t.evBit (if s.fmc.pass.getD c.val 0 = 0 then 296 else 305) = true ∧ Frame (inBlk .FMC) s t) ∧
    (fail ≠ 0 → s.fmc.pass.getD c.val 0 = 1 → Completes (.channelTrainingDone c ranks2 rowb fail pulse) s fun t =>
      t.fmc = { s.fmc with pass := setAt s.fmc.pass c.val fun _ => 2 } ∧ Frame noReg s t) ∧
    (fail ≠ 0 → s.fmc.pass.getD c.val 0 = 0 → Completes (.channelTrainingDone c ranks2 rowb fail pulse) s fun t =>
      t.f (F.FMC_CH_STAT_STATE c.val) = 4 ∧ t.f (F.FMC_CH_STAT_TFAIL c.val) = fail.toNat % 16 ∧ t.evBit 297 = true ∧
      Frame (inBlk .FMC) s t)) ∧
  (∀ (k : Fin 2) (s : State), s.asleep = false →
    (s.f (F.SYS_IMG_STAT_STATE k.val) = 1 → Completes (.imgCheck k) s fun t =>
      t.f F.SYS_IMG_CHECK_SLOT = k.val ∧ t.outs = s.outs ∧ Frame (fun a => a == R.SYS_IMG_CHECK) s t) ∧
    (s.f (F.SYS_IMG_STAT_STATE k.val) ≠ 1 → Completes (.imgCheck k) s fun t =>
      t.f F.SYS_IMG_CHECK_SLOT = k.val ∧
      (s.slotEmpty k.val = true → t.f (F.SYS_IMG_STAT_STATE k.val) = 0 ∧ t.f (F.SYS_IMG_STAT_FAIL k.val) = 0) ∧
      (s.slotEmpty k.val = false →
        t.f (F.SYS_IMG_STAT_STATE k.val) =
          (if (Img.validate (s.slotBytes k.val) s.part7440).1 ≠ 0 then 3 else if s.role != 0 && s.runSlot == k.val then 4 else 2) ∧
        t.f (F.SYS_IMG_STAT_FAIL k.val) = (Img.validate (s.slotBytes k.val) s.part7440).1 % 16 ∧
        t.f (F.SYS_IMG_STAT_SECT k.val) = (Img.validate (s.slotBytes k.val) s.part7440).2 % 2 ^ (F.SYS_IMG_STAT_SECT k.val).width ∧
        t.f (F.SYS_IMG_STAT_IMG_ROLE k.val) = Img.role (s.slotBytes k.val) % 4 ∧
        ((Img.validate (s.slotBytes k.val) s.part7440).1 ≠ 0 → t.evBit 56 = true)) ∧
      Frame (fun a => a == R.SYS_IMG_CHECK || a == R.SYS_IMG_STAT k.val) s t))

/-- O18: (1) at a frame boundary with nothing due, the clock has come to the boundary of the next frame, DSP_LASTB holds that time, and
nothing else changes in the registers or the memories; a tile in Run that is admitted counts an update frame that brought it no
block of video.
(2) a slot boundary with no action due moves DSP_FRAME to the next frame and slot at its time and changes no other register.
(3) a device whose frame timing does not run passes no boundary and no edge.
Where the spec leaves a point open it rests on the model's choices of log entries 5, 60, 86. -/
def Obligations.FrameAndSlotBoundaries : Prop :=
  (∀ (s : State), s.asleep = false → NothingDue s →
    Completes .frameBoundary s fun t =>
      t.clk = (s.waitTo (s.rate.frame s.nextFrame)).clk ∧ t.dsp.lastN = some s.nextFrame ∧
      t.f F.DSP_LASTB_NS_NS = State.nsOf t.clk.wall % 2 ^ 30 ∧ t.f F.DSP_LASTB_SL_SEC = State.secOf t.clk.wall % 2 ^ 32 ∧
      t.f F.DSP_LASTB_SH_SEC = State.secOf t.clk.wall / 2 ^ 32 % 2 ^ 16 ∧
      Frame (fun a => a == R.DSP_LASTB_NS || a == R.DSP_LASTB_SL || a == R.DSP_LASTB_SH) s t ∧
      (s.isTile = true → s.on F.CMC_STATUS_ADMITTED = true → s.f F.RPS_BOOT_STAGE = 6 → s.cmc.got = false →
        s.updateFrame s.nextFrame = true → t.dsp.lossCount = min 8 (s.dsp.lossCount + 1))) ∧
  (∀ (s : State), s.asleep = false → NothingDue s → s.isTile = false →
    Completes .slotBoundary s fun t =>
      t.clk = (s.waitTo ((s.rateAt s.nextSlot.1).slot s.nextSlot.1 s.nextSlot.2)).clk ∧ t.dsp.lastS = some s.nextSlot ∧
      t.f F.DSP_FRAME_FRAME = s.nextSlot.1 % 2 ^ 24 ∧ t.f F.DSP_FRAME_SLOT = s.nextSlot.2 % 8 ∧
      Frame (fun a => a == R.DSP_FRAME) s t) ∧
  (∀ (k : Fin 8) (s : State), s.framed = false →
    exec .frameBoundary s = .next s ∧ exec .slotBoundary s = .next s ∧ exec (.triggerEdge k) s = .next s ∧
    exec (.transmitDeadline k) s = .next s ∧ exec (.receiveDeadline k) s = .next s ∧ exec (.fabricDeadline k) s = .next s)

/-- O19: (1) an action asked for at a Sender outside a pair, at a time the registers can name, is scheduled: DSP_ACT_STAT says so with its
slot and the next action number, the action is kept, and a second copy of its frame waits; where no time can be given it is
refused with RESULT 3 and nothing is scheduled.
(2) the second copy of an action's frame goes out once, on every port in use, changing no register.
Where the spec leaves a point open it rests on the model's choices of log entries 61, 84. -/
def Obligations.ActionsScheduled : Prop :=
  (∀ (r : Fin 16) (s : State) (c : Instr) (kind ramp : Nat), s.asleep = false → s.isSender = true → s.present .PAR = false →
    (c, kind, ramp) ∈ [(.holdReq, 1, 0), (.releaseReq, 2, 0), (.blankReq r, 3, r.val), (.unblankReq r, 4, r.val)] →
    (s.timed = true → s.on F.DSP_STATUS_JOIN = false → (s.reg R.DSP_ACT_NS).toNat % 2 ^ 30 ≤ 999999999 →
      Completes c s fun t => ∃ a : Action, a.kind = kind ∧ a.rampM1 = ramp ∧ a.aseq = (s.dsp.aseq + 1) % 65536 ∧
        t.dsp.asked = s.dsp.asked ++ [a] ∧ t.dsp.aseq = a.aseq ∧ t.dsp.actCopies.length = s.dsp.actCopies.length + 1 ∧
        t.f F.DSP_ACT_KIND = kind ∧ t.f F.DSP_ACT_RAMPM1 = ramp ∧ t.f F.DSP_ACT_STAT_RESULT = 1 ∧
        t.f F.DSP_ACT_STAT_ASEQ = a.aseq ∧ t.f F.DSP_ACT_STAT_SLOT = a.slot % 8 ∧ t.f F.DSP_ACT_FRM_FRAME = a.n % 2 ^ 24 ∧
        Frame (fun b => b == R.DSP_ACT || b == R.DSP_ACT_STAT || b == R.DSP_ACT_FRM || b == R.DSP_LATE) s t) ∧
    (s.timed = false ∨ s.on F.DSP_STATUS_JOIN = true ∨ 999999999 < (s.reg R.DSP_ACT_NS).toNat % 2 ^ 30 →
      Completes c s fun t => t.f F.DSP_ACT_STAT_RESULT = 3 ∧ t.dsp = s.dsp ∧
        Frame (fun b => b == R.DSP_ACT || b == R.DSP_ACT_STAT) s t)) ∧
  (∀ (s : State) (b : List Byte) (bs : List (List Byte)), s.asleep = false → s.dsp.actCopies = b :: bs →
    Completes .actionSecondCopy s fun t => t.dsp.actCopies = bs ∧ Frame noReg s t ∧
      ∀ p, p < 8 → s.portOn p = true → (s.port p).idle = false → (s.port p).loopIn = 0 → (t.port p).txq = (s.port p).txq ++ [b])

/-- O20: (1) an edge of an enabled trigger output turns its level over, puts the new level out, and changes nothing else.
(2) a light commit at a Sender outside a pair takes effect at its shutter point: it leaves the queue, CMT_GEN counts one more, or
takes the generation of a catch-up commit, and event 65 is raised.
(3) the preparation of the heavy commit that waits first happens at most once; it freezes the fabric's rate, drops the work that
waits for a path, repeats the light of the frame before the commit, and without a change of image changes no register and no
memory.  A region is ready once.
Where the spec leaves a point open it rests on the model's choices of log entries 61, 77, 90. -/
def Obligations.TriggersShutterPointsAndPreparation : Prop :=
  (∀ (k : Fin 8) (s : State), s.asleep = false → s.framed = true → s.role ≠ 0 → s.on (F.DSP_TRIG_CTL_EN k) = true →
    s.on F.DSP_STATUS_JOIN = false → s.f (F.DSP_TRIG_CTL_SLOT k) < s.rate.slots →
    Completes (.triggerEdge k) s fun t =>
      t.on (F.TIM_OUT_STAT_LEVEL k) = !s.on (F.TIM_OUT_STAT_LEVEL k) ∧
      t.outs = s.outs ++ [.timedOut k (!s.on (F.TIM_OUT_STAT_LEVEL k))] ∧ Frame (fun a => a == R.TIM_OUT_STAT k) s t) ∧
  (∀ (s : State) (x : Commit) (rest : List Commit), s.asleep = false → s.isSender = true →
    (s.cmt.pend = [] → exec .shutterPoint s = .next s) ∧
    (s.cmt.pend = x :: rest → x.heavy = false → s.present .PAR = false → RegFile.fld x.snap F.SYS_IMG_SEL_SLOT = s.runSlot →
      Completes .shutterPoint s fun t =>
        t.cmt.pend = rest ∧ t.reg R.CMT_GEN = (if x.catchup then x.gen else s.reg R.CMT_GEN + 1) ∧ t.evBit 65 = true ∧
        t.dram = s.dram ∧ t.mram = s.mram ∧ t.stage = s.stage)) ∧
  (∀ (s : State) (x : Commit), s.asleep = false → s.cmt.pend.find? (·.heavy) = some x →
    (s.cmt.prepared = true → exec .heavyCommitPrepare s = .next s) ∧
    (s.cmt.prepared = false → Completes .heavyCommitPrepare s fun t =>
      t.cmt.prepared = true ∧ t.dsp.repeatFrom = some (x.n - 1) ∧ t.fab.frozen = true ∧ t.fab.work = [] ∧
      t.regs = s.regs ∧ t.dram = s.dram ∧ t.mram = s.mram ∧
      (State.imageChange s.regs x.snap = false → t.cmt.regionsDue = [] ∧ Frame noReg s t)) ∧
    (∀ use : BitVec 8, Completes (.regionReady use) s fun t =>
      use.toNat ∉ t.cmt.regionsDue ∧ (∀ u, u ≠ use.toNat → (u ∈ t.cmt.regionsDue ↔ u ∈ s.cmt.regionsDue)) ∧ Frame noReg s t))

/-- O21: (1) the first cell of a track takes a bubble while the slots of the 64 that throttling asks for last, and else the first cell of a path
takes the next pixel of the run; another cell runs its program on the token that its neighbour offers it, which leaves its neighbour: the components and the
accumulator are those of the program, and a mismatch of residues marks the token and is counted by the device and by the track; an ADD
wraps at 24 bits; a bubble passes on as it is, and is removed at the end of a track; a single-bit SRAM error is counted with event 96,
and a double-bit error with event 97, and marks the token and asks for a reload; a reload writes the cell's words again.
(2) at a tile a run that ends with no error on its path gives its samples to its pass and leaves the path free, with no register
changed; one that ends with an error is computed again; a second computation without an error is counted with event 88, and one
with an error, or with a word it read still waiting to be reloaded, makes the pass suspect, is counted and recorded, and raises event
89.  At a Sender an uncorrected source read makes
the run compute again and counts each with event 120.
Where the spec leaves a point open it rests on the model's choices of log entries 35, 39. -/
def Obligations.CellTokensAndRuns : Prop :=
  (∀ (c : Fin 1024) (r : Run) (x : Tok) (ps : List CellPrim) (ins : List (List (BitVec 24) × BitVec 48)) (outs : List (BitVec 48)) (ops : List CellOp) (a : BitVec 12) (part : Fin 3) (signed : Bool) (dst : Fin 3) (s : State),
    s.asleep = false → ops = cellOps ps ins outs →
    (s.stageCode (c.val / 64) ≠ 0 → Completes (.sramReload c) s fun t => t.fab.reload = s.fab.reload.filter (· != c.val) ∧
      tabAt t.fab.sram c.val [] = s.sramCopy ∧ (∀ e ∈ t.fab.sramErr, e.1 ≠ c.val) ∧ Frame noReg s t) ∧
    (s.role ≠ 0 → s.stageCode (c.val / 64) ≠ 0 → tabAt s.fab.cells c.val none = none → c.val % 64 = 0 →
      (s.fab.slots.getD (c.val / 64) 0 < s.f F.FAB_THR_APPLIED → Completes (.cellToken c ps ins outs) s fun t =>
        tabAt t.fab.cells c.val none = some { bubble := true } ∧ Frame noReg s t) ∧
      (s.f F.FAB_THR_APPLIED ≤ s.fab.slots.getD (c.val / 64) 0 → s.upstream c.val = none →
        (s.path (s.pathOf (c.val / 64))).run = some r → (s.path (s.pathOf (c.val / 64))).fed < r.count →
        Completes (.cellToken c [] ins outs) s fun t =>
          tabAt t.fab.cells c.val none =
            some { comps := s.tokenIn r (s.path (s.pathOf (c.val / 64))).fed, run := r.idx } ∧ Frame noReg s t)) ∧
    (s.role ≠ 0 → s.stageCode (c.val / 64) ≠ 0 → tabAt s.fab.cells c.val none = none → c.val % 64 ≠ 0 →
      tabAt s.fab.cells (c.val - 1) none = some x →
      (x.bubble = true →
        Completes (.cellToken c ps ins outs) s fun t => tabAt t.fab.cells c.val none = (if c.val % 64 = 63 then none else some x) ∧
          tabAt t.fab.cells (c.val - 1) none = none ∧ tabAt t.fab.accs c.val (0, 0) = tabAt s.fab.accs c.val (0, 0) ∧
          Frame noReg s t) ∧
      (x.bubble = false → s.lastCell c.val = false →
        (ops.flatMap CellOp.reads = [] →
          ((CellRun.program ⟨x.comps, (tabAt s.fab.accs c.val (0, 0)).1, (tabAt s.fab.accs c.val (0, 0)).2, 0⟩ ops (s.sramAt c.val)).bad = 0 →
            Completes (.cellToken c ps ins outs) s fun t => ∃ q, q = CellRun.program ⟨x.comps, (tabAt s.fab.accs c.val (0, 0)).1,
                (tabAt s.fab.accs c.val (0, 0)).2, 0⟩ ops (s.sramAt c.val) ∧
              tabAt t.fab.cells c.val none = some { x with comps := q.comps } ∧ tabAt t.fab.cells (c.val - 1) none = none ∧
              tabAt t.fab.accs c.val (0, 0) = (q.acc, q.accCode) ∧ Frame noReg s t) ∧
          ((CellRun.program ⟨x.comps, (tabAt s.fab.accs c.val (0, 0)).1, (tabAt s.fab.accs c.val (0, 0)).2, 0⟩ ops (s.sramAt c.val)).bad ≠ 0 →
            Completes (.cellToken c ps ins outs) s fun t => ∃ q, q = CellRun.program ⟨x.comps, (tabAt s.fab.accs c.val (0, 0)).1,
                (tabAt s.fab.accs c.val (0, 0)).2, 0⟩ ops (s.sramAt c.val) ∧
              tabAt t.fab.cells c.val none = some { x with comps := q.comps, err := true } ∧
              t.f (F.FAB_TRK_RES_COUNT (c.val / 64)) = (s.f (F.FAB_TRK_RES_COUNT (c.val / 64)) + q.bad) % 2 ^ 32 ∧
              t.f F.FAB_LAST_ERR_CELL = c.val)) ∧
        (∀ v0 v1 v2 : BitVec 24, x.comps = [.sound v0, .sound v1, .sound v2] → x.err = false →
          Completes (.cellToken c [.add 2 (.comp 0) (.comp 1)] [] []) s fun t =>
            tabAt t.fab.cells c.val none = some { x with comps := [.sound v0, .sound v1, .sound (v0 + v1)] } ∧ Frame noReg s t) ∧
        ((c.val, a.toNat, true) ∉ s.fab.sramErr → (c.val, a.toNat, false) ∉ s.fab.sramErr →
          Completes (.cellToken c [.load dst (.lds a part signed 1)] [] []) s (fun t =>
            tabAt t.fab.cells c.val none = some { x with comps := setAt x.comps dst.val (fun _ =>
              FWord.sound (ldsPart (s.sramAt c.val a.toNat).1 part signed)) } ∧
            t.f F.FAB_SRAM_CE_COUNT = (s.f F.FAB_SRAM_CE_COUNT + 1) % 2 ^ 32 ∧ t.evBit 96 = true ∧
            Frame (fun a => a == R.FAB_SRAM_CE) s t) ∧
          Completes (.cellToken c [.load dst (.lds a part signed 2)] [] []) s (fun t =>
            (∃ y, tabAt t.fab.cells c.val none = some { x with comps := y, err := true }) ∧
            t.f F.FAB_SRAM_DE_COUNT = (s.f F.FAB_SRAM_DE_COUNT + 1) % 2 ^ 32 ∧ c.val ∈ t.fab.reload ∧ t.evBit 97 = true ∧
            t.f (F.FAB_TRK_RES_COUNT (c.val / 64)) ≠ s.f (F.FAB_TRK_RES_COUNT (c.val / 64)) ∧ t.f F.FAB_LAST_ERR_CELL = c.val))))) ∧
  (∀ (p : Fin 16) (r : Run) (srcErrs : Nat) (annBad : List Nat) (s : State), s.asleep = false → s.role ≠ 0 →
    s.runOf p.val = some r → s.fab.work = [] → ((s.path p.val).replay = false → s.isTile = true →
      ((s.drainPath p.val).1 = false → Completes (.runComplete p srcErrs annBad) s fun t =>
        t.runOf p.val = none ∧ Frame noReg s t ∧
        ∃ px, t.cor.passes = s.cor.passes.map fun x => if x.n = r.n ∧ x.slot = r.slot then { x with outs := x.outs ++ [(r.idx, px)] } else x) ∧
      ((s.drainPath p.val).1 = true → Completes (.runComplete p srcErrs annBad) s fun t =>
        t.runOf p.val = some r ∧ (t.path p.val).replay = true ∧ t.cor = s.cor ∧ Frame noReg s t)) ∧
    ((s.path p.val).replay = false → s.isSender = true → 0 < srcErrs → Completes (.runComplete p srcErrs annBad) s fun t =>
        t.runOf p.val = some r ∧ (t.path p.val).replay = true ∧ t.evBit 120 = true ∧
        t.f F.SND_DRAM_ERR_COUNT = (s.f F.SND_DRAM_ERR_COUNT + srcErrs + (s.farReads r).1.length +
          (annBad ++ (s.farReads r).2.map Prod.fst).eraseDups.length) % 2 ^ 32 ∧
        (s.farReads r = ([], []) → Frame (fun a => a == R.SND_DRAM_ERR) s t)) ∧
    ((s.path p.val).replay = true → s.isTile = true →
      ((s.drainPath p.val).1 = false → (∀ c ∈ (s.path p.val).readBad, c ∉ s.fab.reload) →
        Completes (.recomputeComplete p srcErrs annBad) s fun t =>
        t.runOf p.val = none ∧ t.f F.FAB_RETRY_OK_COUNT = (s.f F.FAB_RETRY_OK_COUNT + 1) % 2 ^ 32 ∧ t.evBit 88 = true ∧
        Frame (fun a => a == R.FAB_RETRY_OK) s t) ∧
      ((s.drainPath p.val).1 = true ∨ (∃ c ∈ (s.path p.val).readBad, c ∈ s.fab.reload) →
        Completes (.recomputeComplete p srcErrs annBad) s fun t =>
        t.runOf p.val = none ∧ t.f F.FAB_SUSPECT_COUNT = (s.f F.FAB_SUSPECT_COUNT + 1) % 2 ^ 32 ∧ t.evBit 89 = true ∧
        t.f F.FAB_LAST_ERR_SUSPECT = 1 ∧ (∀ c, (s.path p.val).lastCell = some c → t.f F.FAB_LAST_ERR_CELL = c % 2 ^ 10) ∧
        t.f F.FAB_LAST_FRM_FRAME = r.n % 2 ^ 24 ∧
        Frame (fun a => a == R.FAB_SUSPECT || a == R.FAB_LAST_ERR || a == R.FAB_LAST_FRM) s t)))

/-- O22: (1) runs of the frame that are still open at the fabric's deadline are counted once for the frame in FAB_LATE with event 90, and at a
tile make the pass suspect with event 89; with none open nothing but the time changes.
(2) a second's end compares every track's mismatches with the limit, says so in RES_HIGH with event 99, and starts the counts
again; a gate of a speed ring leaves its count, and a ring that does not turn is bad; a day's end never lowers the age index.
Where the spec leaves a point open it rests on the model's choices of log entry 32. -/
def Obligations.FabricDeadlinesAndMonitors : Prop :=
  (∀ (k : Fin 8) (s : State), s.asleep = false → s.framed = true → s.role ≠ 0 →
    (s.openRuns (s.frameNow + 1) (if s.isSender then none else some k.val) = [] → Completes (.fabricDeadline k) s fun t =>
      Frame noReg s t ∧ t.fab = s.fab ∧ s.clk.wall ≤ t.clk.wall) ∧
    (s.openRuns (s.frameNow + 1) (if s.isSender then none else some k.val) ≠ [] → Completes (.fabricDeadline k) s fun t =>
      t.f F.FAB_LATE_COUNT = (s.f F.FAB_LATE_COUNT + if s.fab.lateN = some (s.frameNow + 1) then 0 else 1) % 2 ^ 32 ∧
      (s.fab.lateN ≠ some (s.frameNow + 1) → t.evBit 90 = true ∧ t.fab.late = true) ∧ t.fab.lateN = some (s.frameNow + 1) ∧
      (s.isTile = true → t.f F.FAB_SUSPECT_COUNT = (s.f F.FAB_SUSPECT_COUNT + 1) % 2 ^ 32 ∧ t.evBit 89 = true))) ∧
  (∀ (k : Fin 16) (count : BitVec 16) (s : State), s.asleep = false → s.role ≠ 0 →
    Completes .residueSecondEnd s (fun t =>
      t.on F.FAB_STATUS_RES_HIGH = (s.fab.resSec.any fun n => decide (s.f F.FAB_RES_THR_LIMIT < n)) ∧
      t.fab.resSec = List.replicate 16 0 ∧ (t.on F.FAB_STATUS_RES_HIGH = true → t.evBit 99 = true) ∧
      Frame (fun a => a == R.FAB_STATUS) s t) ∧
    (s.stageCode k.val = 0 → exec (.ringGateEnd k count) s = .next s) ∧
    (s.stageCode k.val ≠ 0 → Completes (.ringGateEnd k count) s fun t => t.f (F.FAB_RING_COUNT k) = count.toNat ∧
      (count = 0 → (t.f F.FAB_RING_BAD_BAD).testBit k.val = true ∧ ((s.f F.FAB_RING_BAD_BAD).testBit k.val = false → t.evBit 100 = true)) ∧
      (∀ j : Fin 16, j ≠ k → (t.f F.FAB_RING_BAD_BAD).testBit j.val = (s.f F.FAB_RING_BAD_BAD).testBit j.val) ∧
      Frame (fun a => a == R.FAB_RING k || a == R.FAB_RING_BAD || a == R.FAB_AGE) s t) ∧
    Completes .ageDayEnd s (fun t => t.fab.ageSum = 0 ∧ t.fab.ageCnt = 0 ∧
      (s.fab.ageCnt = 0 → t.f F.FAB_AGE_INDEX = s.f F.FAB_AGE_INDEX) ∧
      (s.fab.ageSum < 65536 * s.fab.ageCnt → s.f F.FAB_AGE_INDEX ≤ t.f F.FAB_AGE_INDEX ∧
        s.fab.ageSum / s.fab.ageCnt ≤ t.f F.FAB_AGE_INDEX) ∧
      Frame (fun a => a == R.FAB_AGE) s t) ∧
    (s.mramOk = true → (s.f F.MGT_STATUS_RUNNING).testBit 3 = true → Completes .ageHourlySave s fun t =>
      Mem.read t.mram 0x20 8 = leBytes 8 (s.f F.FAB_AGE_INDEX) ∧ (∀ a, a < 0x20 ∨ 0x28 ≤ a → Mem.get t.mram a = Mem.get s.mram a) ∧
      t.regs = s.regs))

/-- O23: (1) while the planner runs, a frame that was not late leaves its slowest rate and slack, keeping the rail; the first window after
a start ends the settling, one whose least slack was below the margin steps the voltage up by 10 mV, and below it at the highest voltage
sets AT_MAX with event 91; holding freezes the planner and releasing it starts it again; the rail's answers are recorded, and the
third failure in a row holds the planner with the rail marked failed.
(2) a read of a cell's program begins with BUSY set and takes its cell and word from the address written; its end clears BUSY and,
for the program of the running image, leaves its word in the two data registers, and for a local SRAM word its data bits.
Where the spec leaves a point open it rests on the model's choices of log entries 17, 33, 37, 92. -/
def Obligations.PlannerAndProgramRead : Prop :=
  (∀ (busy rate mv status : Nat) (s : State), s.asleep = false →
    (s.plannerRuns = true → busy ≤ s.f F.FAB_BUDGET_BUDGET → s.fab.late = false → s.fab.writeDue = false →
      Completes (.plannerFrameEnd busy rate) s fun t => t.fab.frames = s.fab.frames + 1 ∧
      t.f F.FAB_RATE_SLOWEST = rate % 2 ^ 16 ∧ t.fab.v = s.fab.v ∧ t.outs = s.outs ∧
      Frame (fun a => a == R.FAB_SLACK || a == R.FAB_RATE || a == R.FAB_FLOOR) s t) ∧
    (s.plannerRuns = true → s.fab.frames < 64 → exec .plannerWindowEnd s = .next s) ∧
    (s.plannerRuns = true → 64 ≤ s.fab.frames →
      (s.pstate = 1 → Completes .plannerWindowEnd s fun t => t.f F.FAB_STATUS_PSTATE = 2 ∧ t.fab.v = s.fab.v ∧ t.fab.frames = 0) ∧
      (s.pstate = 2 → s.fab.smin.getD 0 < s.f F.FAB_PLAN_MARGIN → s.f F.FAB_THR_APPLIED = 0 → s.railRecent = false →
        s.f F.FAB_AVS_LIM_VMIN ≤ s.fab.v + 10 → s.fab.v + 10 ≤ s.f F.FAB_AVS_LIM_VMAX → Completes .plannerWindowEnd s fun t =>
          t.fab.v = s.fab.v + 10 ∧ t.f F.FAB_VCORE_TARGET = (s.fab.v + 10) % 2 ^ 10 ∧
          t.outs = s.outs ++ [.avsWrite (s.f F.FAB_AVS_CFG_RAIL) (s.fab.v + 10)]) ∧
      (s.pstate = 2 → s.fab.smin.getD 0 < s.f F.FAB_PLAN_MARGIN → s.fab.v = s.f F.FAB_AVS_LIM_VMAX → Completes .plannerWindowEnd s fun t =>
          t.on F.FAB_STATUS_AT_MAX = true ∧ t.evBit 91 = true)) ∧
    (s.present .FAB = true → s.pstate ≠ 0 →
      Completes .planHoldSet s (fun t => t.f F.FAB_STATUS_PSTATE = 3 ∧ t.f F.FAB_PLAN_CTL_HOLD = 1 ∧ t.fab = s.fab ∧
        Frame (fun a => a == R.FAB_STATUS || a == R.FAB_PLAN_CTL) s t) ∧
      (s.pstate = 3 → s.fab.avsFault = false → Completes .planHoldClear s fun t =>
        t.f F.FAB_STATUS_PSTATE = 1 ∧ t.f F.FAB_PLAN_CTL_HOLD = 0 ∧
        t.outs = s.outs ++ [.avsRead (s.f F.FAB_AVS_CFG_RAIL), .avsStatus (s.f F.FAB_AVS_CFG_RAIL)] ∧
        Frame (fun a => a == R.FAB_STATUS || a == R.FAB_PLAN_CTL) s t) ∧
      (s.fab.writeDue = false →
        (s.fab.verify = true → 10 < ((mv : Int) - s.f F.FAB_VCORE_TARGET).natAbs → s.f F.FAB_AVS_STAT_FAILS < 2 →
          Completes (.avsReadback true mv status) s fun t => t.f F.FAB_AVS_STAT_FAILS = s.f F.FAB_AVS_STAT_FAILS + 1 ∧
            t.evBit 92 = true ∧ t.evBit 93 = true ∧ t.f F.FAB_VCORE_READ = mv % 2 ^ 10) ∧
        (s.fab.verify = true → ((mv : Int) - s.f F.FAB_VCORE_TARGET).natAbs ≤ 10 → Completes (.avsReadback true mv status) s fun t =>
          t.f F.FAB_VCORE_READ = mv % 2 ^ 10 ∧ t.f F.FAB_AVS_STAT_FAILS = 0 ∧ t.on F.FAB_STATUS_AVS_OK = true ∧ t.fab.v = s.fab.v)) ∧
      (s.fab.verify = false → s.fab.writeDue = false → Completes (.avsReadback true mv status) s fun t =>
        t.f F.FAB_VCORE_READ = mv % 2 ^ 10 ∧ t.f F.FAB_AVS_STAT_STATUS = status % 2 ^ 16 ∧ t.f F.FAB_AVS_STAT_FAILS = 0 ∧
        t.on F.FAB_STATUS_AVS_OK = true ∧ t.fab.v = mv ∧
        Frame (fun a => a == R.FAB_VCORE || a == R.FAB_AVS_STAT || a == R.FAB_STATUS) s t) ∧
      (s.f F.FAB_AVS_STAT_FAILS = 2 → Completes (.avsReadback false mv status) s fun t =>
        t.f F.FAB_AVS_STAT_FAILS = 3 ∧ t.f F.FAB_STATUS_PSTATE = 3 ∧ t.on F.FAB_STATUS_AVS_OK = false ∧ t.fab.avsFault = true ∧
        t.evBit 92 = true) ∧
      (s.pstate = 3 → s.fab.avsFault = true → s.on F.FAB_PLAN_CTL_HOLD = true → Completes (.avsRetry true mv status) s fun t =>
        t.fab.avsFault = false ∧ t.f F.FAB_VCORE_READ = mv % 2 ^ 10 ∧ t.on F.FAB_STATUS_AVS_OK = true ∧ t.f F.FAB_AVS_STAT_FAILS = 0 ∧
        t.f F.FAB_STATUS_PSTATE = 3) ∧
      (s.pstate = 3 → s.fab.avsFault = true → s.on F.FAB_PLAN_CTL_HOLD = false → Completes (.avsRetry true mv status) s fun t =>
        t.fab.avsFault = false ∧ t.f F.FAB_STATUS_PSTATE = 1))) ∧
  (∀ (path : Path) (v : Word) (s : State), s.asleep = false → s.role ≠ 0 →
    Completes (.cprRead path v) s (fun t => t.f F.FAB_CPR_ADDR_BUSY = 1 ∧
      t.f F.FAB_CPR_ADDR_CELL = F.FAB_CPR_ADDR_CELL.get v ∧ t.f F.FAB_CPR_ADDR_WORD = F.FAB_CPR_ADDR_WORD.get v ∧
      Frame (fun a => a == R.FAB_CPR_ADDR) s t) ∧
    (s.on F.FAB_CPR_ADDR_BUSY = true → s.on F.FAB_CPR_ADDR_SPACE = true →
      (s.sramAt (s.f F.FAB_CPR_ADDR_CELL) (s.f F.FAB_CPR_ADDR_WORD)).2 = false → Completes .cprReadDone s fun t =>
      t.f F.FAB_CPR_ADDR_BUSY = 0 ∧
      (t.reg R.FAB_CPR_DATA0).toNat = (s.sramAt (s.f F.FAB_CPR_ADDR_CELL) (s.f F.FAB_CPR_ADDR_WORD)).1 ∧
      Frame (fun a => a == R.FAB_CPR_ADDR || a == R.FAB_CPR_DATA0 || a == R.FAB_CPR_DATA1) s t) ∧
    (s.on F.FAB_CPR_ADDR_BUSY = true → s.on F.FAB_CPR_ADDR_SPACE = false → Completes .cprReadDone s fun t =>
      t.f F.FAB_CPR_ADDR_BUSY = 0 ∧
      (t.reg R.FAB_CPR_DATA0).toNat + 2 ^ 32 * t.f F.FAB_CPR_DATA1_DATA =
        numAt (Img.cellprog s.runImg) (768 * s.f F.FAB_CPR_ADDR_CELL + 6 * (s.f F.FAB_CPR_ADDR_WORD % 128)) 6 ∧
      Frame (fun a => a == R.FAB_CPR_ADDR || a == R.FAB_CPR_DATA0 || a == R.FAB_CPR_DATA1) s t))

/-- O24: (1) the first segment of a port begins when it is whole or its prefetch is there, and not before; a block that runs out of data
drops its segment, is counted with event 114, and lengthens the port's prefetch until its limit, where event 115 is raised.
(2) at a slot's transmit deadline a Sender drops the one segment of the slot that has not begun: on a port that carries its video it
counts it and names it in SND_LAST_DROP with event 116, and on another the segment is only discarded; with every segment of the slot sent, only the time passes.
Where the spec leaves a point open it rests on the model's choices of log entry 5. -/
def Obligations.SegmentsAndTransmitDeadlines : Prop :=
  (∀ (p : Fin 8) (x : Seg) (s : State), s.asleep = false → s.isSender = true → s.portOn p.val = true → s.headSeg p.val = some x →
    (s.carriesVideo p.val = true → x.begun = false → x.abandoned = false →
      (State.segReady x ≠ segBytes x.pixels → State.segReady x < s.prefetch p.val → exec (.segmentStart p) s = .next s) ∧
      (State.segReady x = segBytes x.pixels ∨ s.prefetch p.val ≤ State.segReady x → Completes (.segmentStart p) s fun t =>
        { x with begun := true } ∈ t.snd.segs ∧ t.snd.segs.length = s.snd.segs.length ∧ t.cor = s.cor ∧ t.cmt = s.cmt ∧
        Frame (fun a => a == R.SND_OFIFO_STAT p) s t)) ∧
    (x.begun = false ∨ State.segReady x = segBytes x.pixels → exec (.fifoUnderrun p) s = .next s) ∧
    (x.begun = true → State.segReady x ≠ segBytes x.pixels → Completes (.fifoUnderrun p) s fun t =>
      t.f (F.SND_OFIFO_UNDER_COUNT p) = (s.f (F.SND_OFIFO_UNDER_COUNT p) + 1) % 2 ^ 32 ∧ t.evBit 114 = true ∧
      t.f (F.SND_OFIFO_CTL_STEP p) = min 7 (s.f (F.SND_OFIFO_CTL_STEP p) + 1) ∧
      (s.f (F.SND_OFIFO_CTL_STEP p) = 7 → t.evBit 115 = true) ∧ (∃ y ∈ t.snd.segs, y = { x with dropped := true }) ∧
      Frame (fun a => a == R.SND_OFIFO_UNDER p || a == R.SND_OFIFO_STAT p || a == R.SND_OFIFO_CTL p) s t)) ∧
  (∀ (k : Fin 8) (x : Seg) (s : State), s.asleep = false → s.isSender = true → s.framed = true →
    (s.snd.segs.filter (fun y => y.n == s.frameNow + 1 && y.slot == k.val && !State.segDone y) = [] →
      Completes (.transmitDeadline k) s fun t => Frame noReg s t ∧ t.snd = s.snd ∧ s.clk.wall ≤ t.clk.wall) ∧
    (s.snd.segs.filter (fun y => y.n == s.frameNow + 1 && y.slot == k.val && !State.segDone y) = [x] → s.carriesVideo x.port = false →
      Completes (.transmitDeadline k) s fun t => { x with dropped := true } ∈ t.snd.segs ∧ Frame noReg s t) ∧
    (s.snd.segs.filter (fun y => y.n == s.frameNow + 1 && y.slot == k.val && !State.segDone y) = [x] → x.begun = false →
      s.carriesVideo x.port = true → Completes (.transmitDeadline k) s fun t =>
        t.f F.SND_SEG_DROP_COUNT = (s.f F.SND_SEG_DROP_COUNT + 1) % 2 ^ 32 ∧ t.f F.SND_LAST_DROP_PORT = x.port % 8 ∧
        t.f F.SND_LAST_DROP_ADDR = x.addr % 128 ∧ t.f F.SND_LAST_DROP_SLOT = x.slot % 8 ∧ t.evBit 116 = true ∧
        (∃ y ∈ t.snd.segs, y = { x with dropped := true }) ∧
        Frame (fun a => a == R.SND_SEG_DROP || a == R.SND_LAST_DROP || a == R.SND_OFIFO_STAT x.port) s t))

/-- O25: (1) at a tile's receive deadline of a slot the pass of that slot begins: it is the last pass, its work is dealt to the fabric, and
the derate in use is recorded.
(2) a load that fails where no other set may be tried ends with its code and event 147 and the tables not usable; one whose last
block is in ends with the tables usable, the set in use and event 144.
Where the spec leaves a point open it rests on the model's choices of log entries 43, 44. -/
def Obligations.ReceiveDeadlinesAndTableLoads : Prop :=
  (∀ (k : Fin 8) (s : State), s.asleep = false → s.isTile = true → s.framed = true →
    k.val < (s.rateAt (s.frameNow + 1)).slots → s.repeatsHeavy (s.frameNow + 1) = false →
    Completes (.receiveDeadline k) s fun t =>
      t.cor.lastPass = some (s.frameNow + 1, k.val) ∧ (∃ y ∈ t.cor.passes, y.n = s.frameNow + 1 ∧ y.slot = k.val) ∧
      t.f F.COR_DERATE_DRL = s.f F.DRV_DERATE_STAT_DRL ∧ s.clk.wall ≤ t.clk.wall ∧ t.dram = s.dram ∧ t.mram = s.mram) ∧
  (∀ (bytes : List Byte) (l : TabLoad) (s : State), s.asleep = false → 5 ≤ s.stage' → s.cor.load = some l →
    ((l.heavy = none → s.on F.COR_GWY_SEL_ALT_EN = false) → (∀ q, l.heavy = some q → q.alt = false) → Completes .tableLoadTimeout s fun t =>
      t.f F.COR_LOAD_STAT_RESULT = 7 ∧ t.cor.load = none ∧ t.f F.COR_STATUS_TABLES_OK = 0 ∧ t.f F.COR_STATUS_LOADING = 0 ∧
      (s.isTile = true → t.evBit 147 = true) ∧ Frame (fun a => a == R.COR_STATUS || a == R.COR_LOAD_STAT) s t) ∧
    ((l.heavy = none → s.on F.COR_GWY_SEL_ALT_EN = false) → (∀ q, l.heavy = some q → q.alt = false) → l.block = 0 → s.headCode l (padTo 65536 bytes) ≠ 0 → Completes (.tableBlockRead bytes) s fun t =>
      t.f F.COR_LOAD_STAT_RESULT = s.headCode l (padTo 65536 bytes) ∧ t.cor.load = none ∧ t.f F.COR_STATUS_TABLES_OK = 0 ∧
      (s.isTile = true → t.evBit 145 = true ∧ t.evBit 147 = true) ∧ Frame (fun a => a == R.COR_STATUS || a == R.COR_LOAD_STAT) s t) ∧
    (0 < l.block → l.block < numAt l.head 0x2C 4 → l.again = false →
      (crc32 (padTo 65536 bytes)).toNat ≠ numAt l.head (0x100 + 4 * l.block) 4 → Completes (.tableBlockRead bytes) s fun t =>
      t.cor.load = some { l with again := true } ∧ t.outs = s.outs ++ [.flashRead (s.loadBase l + 65536 * l.block) 65536] ∧
      Frame noReg s t) ∧
    (0 < l.block → l.block < numAt l.head 0x2C 4 → (crc32 (padTo 65536 bytes)).toNat = numAt l.head (0x100 + 4 * l.block) 4 →
      Completes (.tableBlockRead bytes) s fun t =>
      t.cor.load = some { l with block := l.block + 1, again := false } ∧ t.regs = s.regs ∧ t.dram = s.dram ∧ t.mram = s.mram) ∧
    (l.head ≠ [] → numAt l.head 0x2C 4 ≤ l.block → Completes .tableLoadComplete s fun t =>
      t.f F.COR_STATUS_TABLES_OK = 1 ∧ t.f F.COR_STATUS_LOADING = 0 ∧ t.f F.COR_STATUS_SET = l.set % 2 ∧
      t.f F.COR_LOAD_STAT_RESULT = (if l.bad then 2 else 1) ∧ t.cor.load = none ∧ (s.isTile = true → t.evBit 144 = true) ∧
      t.f F.COR_GWY_ID_TABLE_ID = numAt l.head 8 4 ∧ Frame (inBlk .COR) s t))

/-- O26: (1) a compensation sweep latches its scales at its start and runs, outside throttle stage 1, to its end, which is late past CPER
seconds of wall time with event 154; a checkpoint starts with the sequence number after the last one begun, moves one chunk at a time, and records its number and time with its last chunk; a skipped
one is counted with event 150.
(2) a read of a table byte or of a lamp's dose begins with BUSY set by the write of its address, and its end leaves the four bytes of
the region, or the dose and the compensation of the lamp, with BUSY clear.
Where the spec leaves a point open it rests on the model's choices of log entries 17, 42. -/
def Obligations.SweepsAndReadback : Prop :=
  (∀ (s : State), s.asleep = false → s.isTile = true →
    (s.on F.COR_STATUS_RUN = true → s.on F.COR_STATUS_SWEEP = false → s.st1 = false → Completes .sweepStart s fun t =>
      t.f F.COR_STATUS_SWEEP = 1 ∧ t.cor.sweepAt = s.clk.wall ∧
      t.cor.sweepScale = [s.f (F.COR_SCALE_SCALE 0), s.f (F.COR_SCALE_SCALE 1), s.f (F.COR_SCALE_SCALE 2)] ∧
      Frame (fun a => a == R.COR_STATUS) s t) ∧
    (s.on F.COR_STATUS_SWEEP = true → s.st1 = true → exec .sweepEnd s = .next s) ∧
    (s.on F.COR_STATUS_SWEEP = true → s.st1 = false → Completes .sweepEnd s fun t =>
      t.f F.COR_STATUS_SWEEP = 0 ∧
      (s.cor.sweepAt + s.f F.COR_DOSE_CTL_CPER * State.secU < s.clk.wall → t.evBit 154 = true) ∧ t.mram = s.mram ∧ t.stage = s.stage ∧
      t.f F.COR_STATUS_CKPT = s.f F.COR_STATUS_CKPT) ∧
    (s.st1 = false → s.on F.COR_STATUS_CKPT = false → Completes .checkpointStart s fun t =>
      t.f F.COR_STATUS_CKPT = 1 ∧
      t.cor.ckpt = some ((s.cor.ckptTop + 1) % 2 ^ 32, State.secOf s.clk.wall % 2 ^ 32, 0) ∧
      t.cor.ckptTop = (s.cor.ckptTop + 1) % 2 ^ 32 ∧
      Frame (fun a => a == R.COR_STATUS) s t) ∧
    (∀ seq sec i c, s.cor.ckpt = some (seq, sec, i) → s.ckptList[i]? = some c → s.mramOk = true → Completes .checkpointChunkDone s fun t =>
      (i + 1 < s.ckptList.length → t.cor.ckpt = some (seq, sec, i + 1)) ∧
      (s.ckptList.length ≤ i + 1 → t.cor.ckpt = none ∧ t.f F.COR_STATUS_CKPT = 0 ∧ t.f F.COR_CKPT_SEQ_SEQ = seq % 2 ^ 32 ∧
          t.f F.COR_CKPT_TIME_SEC = sec % 2 ^ 32) ∧
      Mem.read t.mram (State.ckptDesc s.ckptSpare) 2 = leBytes 2 c ∧ t.dram = s.dram ∧ t.lineStore = s.lineStore) ∧
    Completes .checkpointSkip s (fun t =>
      t.f F.COR_STATUS_CKPT = 0 ∧ t.cor.ckpt = none ∧ t.f F.COR_DOSE_STAT_SKIPPED = min (s.f F.COR_DOSE_STAT_SKIPPED + 1) 255 ∧
      t.evBit 150 = true ∧ Frame (fun a => a == R.COR_STATUS || a == R.COR_DOSE_STAT) s t)) ∧
  (∀ (path : Path) (v : Word) (s : State), s.asleep = false → s.isTile = true →
    Completes (.tblRead path v) s (fun t => t.f F.COR_TBL_ADDR_BUSY = 1 ∧ t.f F.COR_TBL_ADDR_OFFSET = F.COR_TBL_ADDR_OFFSET.get v ∧
      t.f F.COR_TBL_ADDR_SPACE = F.COR_TBL_ADDR_SPACE.get v ∧ Frame (fun a => a == R.COR_TBL_ADDR) s t) ∧
    Completes (.doseLampRead path v) s (fun t => t.f F.COR_DOSE_LAMP_BUSY = 1 ∧
      t.f F.COR_DOSE_LAMP_LAMP = F.COR_DOSE_LAMP_LAMP.get v ∧ Frame (fun a => a == R.COR_DOSE_LAMP) s t) ∧
    (s.on F.COR_TBL_ADDR_BUSY = true → Completes .tblReadDone s fun t =>
      t.f F.COR_TBL_ADDR_BUSY = 0 ∧
      t.f F.COR_TBL_DATA_DATA =
        leVal (s.lineRd (if s.on F.COR_TBL_ADDR_SPACE then 0x14 else 0x11) (s.f F.COR_TBL_ADDR_OFFSET / 4 * 4) 4) ∧
      Frame (fun a => a == R.COR_TBL_ADDR || a == R.COR_TBL_DATA) s t) ∧
    (s.on F.COR_DOSE_LAMP_BUSY = true → Completes .doseLampReadDone s fun t =>
      t.f F.COR_DOSE_LAMP_BUSY = 0 ∧
      (t.reg R.COR_DOSE_VAL_LO).toNat + 2 ^ 32 * (t.reg R.COR_DOSE_VAL_HI).toNat = s.doseOf (s.f F.COR_DOSE_LAMP_LAMP) % 2 ^ 64 ∧
      t.f F.COR_DOSE_CPL_CPL = s.cplOf (s.f F.COR_DOSE_LAMP_LAMP) ∧ t.dram = s.dram))

/-- O27: (1) the write of the next sub-frame happens once for each slot and at a device whose drive has started; each row after the first
begins with a SYNC pulse.
(2) a hard blank holds SYNC low at once and says so with event 168; its release waits for one sub-frame time; DRV_DIAG_NOW asks for
the diagnosis of every row.
Where the spec leaves a point open it rests on the model's choices of log entries 46, 179. -/
def Obligations.DriveRowsAndHardBlank : Prop :=
  (∀ (s : State), s.asleep = false → s.isTile = true →
    (s.framed = true → s.drv.startAt.isSome = true → s.drv.written = some s.nextSlot → exec .driveWriteStart s = .next s) ∧
    (s.framed = true → s.drv.startAt.isSome = true → s.drv.written ≠ some s.nextSlot → Completes .driveWriteStart s fun t =>
      t.drv.written = some s.nextSlot ∧ t.drv.readDue = none ∧ t.cmt = s.cmt ∧ t.mram = s.mram ∧ s.clk.wall ≤ t.clk.wall) ∧
    (s.on F.DRV_STATUS_RUN = true → s.on F.DRV_STATUS_HBLANK = false →
      s.drv.rowK + 1 < (s.f F.DRV_SCAN_PM1 + 1) * (s.f F.DRV_SCAN_NM1 + 1) → Completes .rowPeriod s fun t =>
        t.drv.rowK = s.drv.rowK + 1 ∧ (∃ o, t.outs = o ++ [.sync 2]) ∧ s.clk.wall ≤ t.clk.wall ∧ Frame noReg s t)) ∧
  (∀ (s : State), s.asleep = false → s.isTile = true →
    (s.on F.DRV_CTL_BLANK = false → Completes .hardBlank s fun t =>
      t.f F.DRV_CTL_BLANK = 1 ∧ t.f F.DRV_STATUS_HBLANK = 1 ∧ .sync 0 ∈ t.outs ∧ t.evBit 168 = true ∧ t.drv.release = none ∧
      Frame (fun a => a == R.DRV_CTL || a == R.DRV_STATUS) s t) ∧
    (s.on F.DRV_CTL_BLANK = true → Completes .blankRelease s fun t =>
      t.f F.DRV_CTL_BLANK = 0 ∧ t.f F.DRV_STATUS_HBLANK = s.f F.DRV_STATUS_HBLANK ∧
      t.drv.release = some (s.clk.now + s.rate.tsNs) ∧ t.outs = s.outs ∧ Frame (fun a => a == R.DRV_CTL) s t) ∧
    Completes .diagNow s (fun t => t.f F.DRV_DIAG_NOW_GO = 1 ∧ t.drv.diagLeft = s.f F.DRV_SCAN_NM1 + 1 ∧
      Frame (fun a => a == R.DRV_DIAG_NOW) s t))

/-- O28: (1) a packet that returns whole is taken from those awaited and clears the count of missing ones; one whose CRC is wrong is counted
with event 173; the second in a row that stays away makes the bus bad with event 171; packets nobody waits for do nothing.
(2) an enumeration of a bus that does not return counts as a packet missing, and the second in a row puts the bus in Fault with event
171; one that finds the number expected makes it good, and another number is a mismatch with event 170; a retry is made for a bus in
Fault only.
(3) a tile calls its sensor buses with the broadcast address and gives a monitor sensor that answers the next address, answers an
interrupt request with NACK, and calls again for a sensor that failed, which is good again with event 203 where it answers; a device
that is no tile does none of it.
Where the spec leaves a point open it rests on the model's choices of log entries 56, 57, 176. -/
def Obligations.DriversAndBuses : Prop :=
  (∀ (b : Fin 64) (bytes p : List Byte) (again : Bool) (s : State), s.asleep = false → s.isTile = true →
    (s.drv.awaited.find? (fun x => x.1 == b.val) = none →
      exec (.packetReturn b bytes) s = .next s ∧ exec (.returnMissing b) s = .next s) ∧
    (s.drv.awaited.find? (fun x => x.1 == b.val) = some (b.val, p, again) →
      (Hualer.crcOk bytes = true → Hualer.cmd p ≠ 0x30 → Hualer.cmd p ≠ 0x51 → Completes (.packetReturn b bytes) s fun t =>
        t.drv.awaited = s.drv.awaited.erase (b.val, p, again) ∧ tabAt t.drv.missing b.val 0 = 0 ∧ t.outs = s.outs ∧ Frame noReg s t) ∧
      (Hualer.crcOk bytes = false → Hualer.cmd p ∉ [0x21, 0x30, 0x51] → Completes (.packetReturn b bytes) s fun t =>
        t.f (F.DRV_BUS_CRC_COUNT b) = (s.f (F.DRV_BUS_CRC_COUNT b) + 1) % 2 ^ 32 ∧ t.evBit 173 = true ∧
        Frame (fun a => a == R.DRV_BUS_CRC b || a == R.DRV_BUS_RESEND b) s t) ∧
      (Completes (.returnMissing b) s fun t =>
        t.drv.awaited = s.drv.awaited.erase (b.val, p, again) ∧ tabAt t.drv.missing b.val 0 = tabAt s.drv.missing b.val 0 + 1 ∧
        (1 ≤ tabAt s.drv.missing b.val 0 → s.busState b.val ≠ 3 → t.busState b.val = 3 ∧ t.evBit 171 = true) ∧
        Frame (fun a => a == R.DRV_BUS_STAT b || a == R.DRV_BUSFLT_LO || a == R.DRV_BUSFLT_HI || a == R.DRV_STATUS) s t))) ∧
  (∀ (b n : Fin 64) (rtph : BitVec 6) (s : State), s.asleep = false → s.isTile = true →
    (s.drv.startAt.isSome = true → s.busesOn.contains b.val = true →
      Completes (.busEnumeration b none rtph) s (fun t => tabAt t.drv.missing b.val 0 = tabAt s.drv.missing b.val 0 + 1 ∧
        (tabAt s.drv.missing b.val 0 = 0 → t.busState b.val = s.busState b.val) ∧
        (1 ≤ tabAt s.drv.missing b.val 0 → t.busState b.val = 3 ∧ (s.busState b.val ≠ 3 → t.evBit 171 = true))) ∧
      Completes (.busEnumeration b (some n) rtph) s (fun t =>
        t.busState b.val = (if n.val = s.f (F.DRV_BUS_STAT_EXPECT b) then 2 else 4) ∧ t.f (F.DRV_BUS_STAT_FOUND b) = n.val ∧
        t.f (F.DRV_BUS_STAT_RTPH b) = rtph.toNat ∧ (n.val ≠ s.f (F.DRV_BUS_STAT_EXPECT b) → t.evBit 170 = true) ∧
        Frame (fun a => a == R.DRV_BUS_STAT b || a == R.DRV_BUSFLT_LO || a == R.DRV_BUSFLT_HI || a == R.DRV_STATUS) s t)) ∧
    (s.busState b.val ≠ 3 → exec (.assignRetry b) s = .next s) ∧
    (s.busState b.val = 3 → Completes (.assignRetry b) s fun t =>
      t.busState b.val = 1 ∧ t.outs = s.outs ++ [.hualer b.val (Hualer.packet 1 0 0 [])] ∧
      Frame (fun a => a == R.DRV_BUS_STAT b || a == R.DRV_BUSFLT_LO || a == R.DRV_BUSFLT_HI || a == R.DRV_STATUS) s t)) ∧
  (∀ (bus : Fin 2) (g : Fin 4) (pid : BitVec 48) (s : State), s.asleep = false →
    (s.isTile = true → Completes (.i3cEntdaa bus []) s (fun t => .i3c bus.val 0x7E [] ∈ t.outs ∧ tabAt t.lux.ran bus.val false = true) ∧
      Completes (.ibiHotJoinRequest bus) s (fun t => t.outs = s.outs ++ [.i3cNack bus.val] ∧ Frame noReg s t)) ∧
    (s.isTile = false → exec (.i3cEntdaa bus []) s = .next s ∧ exec (.ibiHotJoinRequest bus) s = .next s) ∧
    (s.present .LUX = true → g.val < s.luxN → s.f (F.LUX_G_SNS_STATE g) = 2 →
      Completes (.sensorRetry g false) s (fun t => t.outs = s.outs ++ [.i3c (s.luxBus g.val) 0x7E []] ∧ Frame noReg s t) ∧
      Completes (.sensorRetry g true) s fun t => .i3c (s.luxBus g.val) 0x7E [] ∈ t.outs ∧ t.f (F.LUX_G_SNS_STATE g) = 1 ∧
        t.f (F.LUX_G_STAT_FAILS g) = 0 ∧ t.f (F.LUX_G_SNS_DADDR g) = State.i3cAddr 8 (s.lux.next.getD (s.luxBus g.val) 8) % 128 ∧
        t.evBit 203 = true) ∧
    (s.present .LUX = true → g.val < s.luxN → s.luxBus g.val = bus.val → s.luxPid g.val = pid.toNat →
      Completes (.i3cEntdaa bus [pid]) s fun t => .i3c bus.val 0x7E [] ∈ t.outs ∧ t.f (F.LUX_G_SNS_STATE g) = 1 ∧
        t.f (F.LUX_G_STAT_FAILS g) = 0 ∧ t.f (F.LUX_G_SNS_DADDR g) = State.i3cAddr 8 (s.lux.next.getD bus.val 8) % 128))

/-- O29: (1) the next measurement window is armed for the first frame boundary at or after a multiple of LPER seconds, and ends with the window
gone; a sample of a good sensor in its phase reads the sensor at its time, adds to the sum of its phase and clears its count of
failures; the third failed read in a row makes the sensor failed with event 202.
(2) a calibration asked for while none runs is busy at once, with its kind, groups and frames kept; a dark-level procedure whose checks pass
asks for its copy of the record; one that a check refuses ends
with its code, group and component and event 207, and the record is not touched.
Where the spec leaves a point open it rests on the model's choices of log entries 48, 49, 51, 195. -/
def Obligations.LuxWindowsAndCalibration : Prop :=
  (∀ (g : Fin 4) (r gr b : BitVec 24) (x : LuxWin) (p : Nat) (s : State), s.asleep = false → s.present .LUX = true →
    (s.on F.LUX_CTL_WIN_EN = true → s.framed = true → Completes .luxWindowStart s fun t =>
      t.lux.winAsk = some (s.firstBoundary ((s.rate.frame (s.nextFrame - 1) / (max 1 (s.f F.LUX_WIN_LPER) * State.secU) + 1) *
        (max 1 (s.f F.LUX_WIN_LPER) * State.secU)) 0).1 ∧ t.lux.win = s.lux.win ∧ Frame noReg s t) ∧
    (s.lux.win = some x → x.kind = 0 → Completes .luxWindowEnd s fun t =>
      t.f F.LUX_STATUS_WINDOW = 0 ∧ t.lux.win = none ∧ t.dram = s.dram ∧ t.mram = s.mram) ∧
    (s.lux.win = none → exec (.luxSample g r gr b) s = .next s ∧ exec .luxWindowEnd s = .next s ∧ exec .luxCalEnd s = .next s) ∧
    (g.val < s.luxN → s.f (F.LUX_G_SNS_STATE g) = 1 → s.lux.win = some x → State.luxPhase x s.frameNow = some p →
      x.groups.testBit g.val = true → x.acc.length = 48 → (s.sampleAt x p g.val).1 ≤ (s.sampleAt x p g.val).2 →
      Completes (.luxSample g r gr b) s fun t =>
        t.f (F.LUX_G_STAT_FAILS g) = 0 ∧ (s.sampleAt x p g.val).1 ≤ t.clk.wall + s.tickU ∧
        (∃ y, t.lux.win = some y ∧ (y.acc.getD ((p * 4 + g.val) * 3) (0, 0, 0)).1 = (x.acc.getD ((p * 4 + g.val) * 3) (0, 0, 0)).1 + 1) ∧
        .i3cRead (s.luxBus g.val) (s.f (F.LUX_G_SNS_DADDR g)) (if Img.luxAt s.luxD g.val 8 1 = 1 then 9 else 6) ∈ t.outs ∧
        Frame (fun a => a == R.LUX_G_STAT g) s t) ∧
    (g.val < s.luxN → Completes (.luxSensorReadFail g) s fun t =>
      t.f (F.LUX_G_STAT_FAILS g) = min (s.f (F.LUX_G_STAT_FAILS g) + 1) 255 ∧
      (2 ≤ s.f (F.LUX_G_STAT_FAILS g) → t.f (F.LUX_G_SNS_STATE g) = 2 ∧ (s.f (F.LUX_G_SNS_STATE g) ≠ 2 → t.evBit 202 = true)) ∧
      Frame (fun a => a == R.LUX_G_STAT g || a == R.LUX_G_SNS g || a == R.LUX_STATUS) s t)) ∧
  (∀ (path : Path) (v : Word) (x : LuxWin) (s : State), s.asleep = false → s.present .LUX = true →
    (s.on F.LUX_CAL_STAT_BUSY = false → F.LUX_CAL_KIND.get v = 1 ∨ F.LUX_CAL_KIND.get v = 2 → Completes (.luxCal path v) s fun t =>
      t.f F.LUX_CAL_STAT_BUSY = 1 ∧ t.f F.LUX_CAL_KIND = F.LUX_CAL_KIND.get v ∧ t.f F.LUX_CAL_GROUPS = F.LUX_CAL_GROUPS.get v ∧
      t.f F.LUX_CAL_FRAMES = F.LUX_CAL_FRAMES.get v ∧ t.lux.win = s.lux.win ∧
      t.lux.calAsk = some (F.LUX_CAL_KIND.get v, F.LUX_CAL_GROUPS.get v, F.LUX_CAL_FRAMES.get v) ∧
      Frame (fun a => a == R.LUX_CAL || a == R.LUX_CAL_STAT) s t) ∧
    (s.on F.LUX_CAL_STAT_BUSY = true → Completes (.luxCal path v) s fun t =>
      t.lux = s.lux ∧ Frame (fun a => a == R.LUX_CAL) s t) ∧
    (s.lux.win = some x → x.kind = 1 → (∀ g, g < s.luxN → x.groups.testBit g = true → ∀ c, c < 3 → s.luxCode x g c [2, 7, 8] = 0) →
      s.mramOk = true → s.nvs.jobs = [] → Completes .luxCalEnd s fun t =>
      t.lux.win = none ∧ t.lux.darkAsk = x.groups ∧ t.nvs.jobs.length = 1 ∧ (∀ j ∈ t.nvs.jobs, j.kind = 2 ∧ j.cal = 1 ∧ j.time = s.calTime) ∧
      t.on F.NVS_STATUS_WBUSY = true ∧ t.f F.LUX_CAL_STAT_BUSY = s.f F.LUX_CAL_STAT_BUSY ∧ t.dram = s.dram) ∧
    (s.lux.win = some x → x.kind = 1 → s.luxN = 1 → x.groups = 1 → s.luxCode x 0 0 [2, 7, 8] ≠ 0 → Completes .luxCalEnd s fun t =>
      t.f F.LUX_CAL_STAT_BUSY = 0 ∧ t.f F.LUX_CAL_STAT_CODE = s.luxCode x 0 0 [2, 7, 8] ∧ t.f F.LUX_CAL_STAT_GROUP = 0 ∧
      t.f F.LUX_CAL_STAT_COMP = 3 ∧ t.evBit 207 = true ∧ t.lux.win = none ∧ t.nvs = s.nvs ∧
      Frame (fun a => a == R.LUX_CAL_STAT) s t))

/-- O30: (1) a clock that comes up is detected and starts the receiver of its port; one that is lost stops it, with event 214 for a port past
training's start, and a device that ran from it moves to the other chain port's clock or holds its frequency; the lock of the clock
path is shown, its loss without any clock raises event 216, and a return to port 0 is made where REVERT asks for it.
(2) the training of a port's equalisers takes the fixed setting of each lane where MODE is 0 and a widest eye of those measured
otherwise, and the port goes on to alignment; in Up with MODE 2 the setting moves by at most one step, toward an eye wider by
two or more, and stays otherwise.
Where the spec leaves a point open it rests on the model's choices of log entries 65, 69. -/
def Obligations.ClockPathAndEqualisers : Prop :=
  (∀ (p : Fin 9) (prov : Bool) (s : State), s.asleep = false → (s.role ≠ 0 → s.laneOn p.val = true → Completes (.clockPresent p prov) s fun t =>
      t.f (F.LAN_P_STAT_CLKDET p) = 1 ∧ (t.port p.val).clkRate = (if prov then 2 else 1) ∧
      (s.rxst p.val < 2 → t.rxst p.val = 2) ∧ (2 ≤ s.rxst p.val → t.rxst p.val = s.rxst p.val) ∧
      Frame (fun a => a == R.LAN_P_STAT p || a == R.LAN_CLK) s t) ∧
    (s.role = 0 → s.laneOn p.val = true → s.on (F.LAN_P_STAT_CLKDET p) = true → Completes (.clockLost p) s fun t =>
      t.f (F.LAN_P_STAT_CLKDET p) = 0 ∧ t.rxst p.val = 1 ∧ (t.port p.val).clkRate = 0) ∧
    (s.role ≠ 0 → s.laneOn p.val = true → s.on (F.LAN_P_STAT_CLKDET p) = true → Completes (.clockLost p) s fun t =>
      t.f (F.LAN_P_STAT_CLKDET p) = 0 ∧ t.rxst p.val = 1 ∧ (t.port p.val).clkRate = 0 ∧ (2 ≤ s.rxst p.val → t.evBit 214 = true) ∧
      (s.isSender = false → s.f F.LAN_CLK_REFSRC = p.val + 1 → p.val < 2 → s.on (F.LAN_P_STAT_CLKDET (1 - p.val)) = true →
        t.f F.LAN_CLK_REFSRC = 2 - p.val ∧ t.f F.LAN_CLK_HOLD = s.f F.LAN_CLK_HOLD ∧ t.evBit 215 = true) ∧
      (s.isSender = false → s.f F.LAN_CLK_REFSRC = p.val + 1 → p.val < 2 → s.on (F.LAN_P_STAT_CLKDET (1 - p.val)) = false →
        t.f F.LAN_CLK_REFSRC = p.val + 1 ∧ t.f F.LAN_CLK_HOLD = 1) ∧
      Frame (fun a => a == R.LAN_P_STAT p || a == R.LAN_P_LOCKLOSS p || a == R.LAN_CLK) s t) ∧
    Completes .pllLock s (fun t => t.f F.LAN_CLK_LOCK = 1 ∧
      (∀ q ∈ s.portsOn, (s.port q).cur = [] → (t.port q).idle = !t.txWanted q) ∧
      Frame (fun a => a == R.LAN_CLK || (List.range 9).any fun k => a == R.LAN_P_STAT k || a == R.LAN_P_LOCKLOSS k) s t) ∧
    (s.isSender = false → s.on (F.LAN_P_STAT_CLKDET 0) = false → s.on (F.LAN_P_STAT_CLKDET 1) = false →
      Completes .noClockTimeout s fun t => t.f F.LAN_CLK_LOCK = 0 ∧ t.evBit 216 = true ∧ Frame (fun a => a == R.LAN_CLK) s t) ∧
    (s.isSender = false → s.on F.LAN_CLK_CTL_REVERT = true → s.on (F.LAN_P_STAT_CLKDET 0) = true → s.f F.LAN_CLK_REFSRC = 2 →
      Completes .pllRevert s fun t => t.f F.LAN_CLK_REFSRC = 1 ∧ t.evBit 215 = true ∧ Frame (fun a => a == R.LAN_CLK) s t) ∧
    (s.isSender = true ∨ s.on F.LAN_CLK_CTL_REVERT = false → exec .pllRevert s = .next s)) ∧
  (∀ (p : Fin 9) (l : Fin 4) (widths : List (List Nat)) (now below above : BitVec 8) (s : State), s.asleep = false →
    s.laneOn p.val = true →
    (s.rxst p.val = 2 → l.val < (Lane.shape p.val false).1 → Completes (.eqTrainDone p widths) s fun t =>
      t.rxst p.val = 3 ∧
      (s.f (F.LAN_P_EQMODE_MODE p) = 0 → t.f (F.LAN_P_L_EQ p l) = s.f (F.LAN_P_L_EQFIX p l)) ∧
      (s.f (F.LAN_P_EQMODE_MODE p) ≠ 0 → ∀ k, k < ((widths.getD l.val []).take 37).length →
        ((widths.getD l.val []).take 37).getD k 0 ≤ ((widths.getD l.val []).take 37).getD (t.f (F.LAN_P_L_EQ p l)) 0) ∧
      Frame (fun a => a == R.LAN_P_STAT p || (List.range 4).any fun k => a == R.LAN_P_L p k) s t) ∧
    (s.rxst p.val = 5 → s.f (F.LAN_P_EQMODE_MODE p) = 2 → Completes (.eqAdapt p l now below above) s fun t =>
      (below.toNat < now.toNat + 2 → above.toNat < now.toNat + 2 →
        t.f (F.LAN_P_L_EQ p l) = s.f (F.LAN_P_L_EQ p l) ∧ t.f (F.LAN_P_L_EYE p l) = now.toNat % 64) ∧
      (0 < s.f (F.LAN_P_L_EQ p l) → now.toNat + 2 ≤ below.toNat → above.toNat ≤ below.toNat →
        t.f (F.LAN_P_L_EQ p l) = s.f (F.LAN_P_L_EQ p l) - 1 ∧ t.f (F.LAN_P_L_EYE p l) = below.toNat % 64) ∧
      (s.f (F.LAN_P_L_EQ p l) < 36 → now.toNat + 2 ≤ above.toNat → below.toNat < above.toNat →
        t.f (F.LAN_P_L_EQ p l) = s.f (F.LAN_P_L_EQ p l) + 1 ∧ t.f (F.LAN_P_L_EYE p l) = above.toNat % 64) ∧
      Frame (fun a => a == R.LAN_P_L p l) s t) ∧
    (s.rxst p.val ≠ 5 ∨ s.f (F.LAN_P_EQMODE_MODE p) ≠ 2 → exec (.eqAdapt p l now below above) s = .next s))

/-- O31: (1) a loop is asked for and left through LAN_Pp_CTL.LOOP and begins and ends at a boundary of the port's blocks, with events 226 and
227 and the receiver starting again; the test pattern, electrical idle, TXON and the provisioning rate are set in their bits, the last
two at a Sender only, and the transmitter follows at a boundary of its blocks.
(2) an offset calibration of ports that are all in Up is busy at once, one that names a port that is not is refused with code 7 and
event 224; a window with the statistics of every lane that shows no fault moves the search one step on, and after the last step asks for
the record to be written; one without them has not ended; a port that left Up during it ends it with code 7.
Where the spec leaves a point open it rests on the model's choices of log entries 63, 64, 68. -/
def Obligations.LoopsPatternsAndOffsets : Prop :=
  (∀ (p : Fin 9) (m : Fin 3) (b : Bool) (s : State), s.asleep = false → s.laneOn p.val = true →
    ((s.port p.val).cur ≠ [] →
      Completes (.loopEnter p m) s (fun t => t.f (F.LAN_P_CTL_LOOP p) = m.val + 1 ∧ t.lan = s.lan ∧ Frame (fun a => a == R.LAN_P_CTL p) s t) ∧
      Completes (.loopExit p) s (fun t => t.f (F.LAN_P_CTL_LOOP p) = 0 ∧ t.lan = s.lan ∧ Frame (fun a => a == R.LAN_P_CTL p) s t) ∧
      Completes (.eidleSet p) s (fun t => t.f (F.LAN_P_CTL_EIDLE p) = 1 ∧ t.lan = s.lan ∧ Frame (fun a => a == R.LAN_P_CTL p) s t)) ∧
    ((s.port p.val).cur = [] → (s.port p.val).singleAsk = none →
      ((s.port p.val).loopIn ≠ m.val + 1 → Completes (.loopEnter p m) s fun t =>
        t.f (F.LAN_P_CTL_LOOP p) = m.val + 1 ∧ (t.port p.val).loopIn = m.val + 1 ∧ (t.port p.val).txq = [] ∧ t.rxst p.val = 2 ∧
        t.evBit 226 = true ∧ (m.val < 2 → t.f (F.LAN_P_STAT_CLKDET p) = 1 ∧ (t.port p.val).idle = true) ∧
        Frame (fun a => a == R.LAN_P_CTL p || a == R.LAN_P_STAT p || a == R.LAN_P_LOCKLOSS p || a == R.LAN_CLK) s t) ∧
      ((s.port p.val).loopIn ≠ 0 → Completes (.loopExit p) s fun t =>
        t.f (F.LAN_P_CTL_LOOP p) = 0 ∧ (t.port p.val).loopIn = 0 ∧ t.evBit 227 = true ∧
        t.on (F.LAN_P_STAT_CLKDET p) = ((s.port p.val).clkRate != 0) ∧
        t.rxst p.val = (if (s.port p.val).clkRate = 0 then 1 else 2) ∧
        Frame (fun a => a == R.LAN_P_CTL p || a == R.LAN_P_STAT p || a == R.LAN_P_LOCKLOSS p || a == R.LAN_CLK) s t) ∧
      (s.f (F.LAN_P_CTL_LOOP p) = (s.port p.val).loopIn →
        Completes (.eidleSet p) s (fun t => t.f (F.LAN_P_CTL_EIDLE p) = 1 ∧ (t.port p.val).idle = true ∧
          Frame (fun a => a == R.LAN_P_CTL p) s t) ∧
        (s.isSender = true → Completes (.txonSet p) s fun t => t.f (F.LAN_P_CTL_TXON p) = 1 ∧ (t.port p.val).idle = !t.txWanted p.val ∧
          Frame (fun a => a == R.LAN_P_CTL p || a == R.LAN_P_STAT p || a == R.LAN_CLK) s t) ∧
        Completes (.electricalIdleEnd p) s (fun t => (t.port p.val).restart = false ∧ (t.port p.val).idle = !t.txWanted p.val ∧
          Frame (fun a => a == R.LAN_P_STAT p || a == R.LAN_CLK) s t))) ∧
    Completes (.testPatternSet p) s (fun t => t.f (F.LAN_P_CTL_TPAT p) = 1 ∧ t.outs = s.outs ∧ Frame (fun a => a == R.LAN_P_CTL p) s t) ∧
    (s.isSender = false → exec (.txonSet p) s = .next s ∧ exec (.provSet p b) s = .next s) ∧
    (s.isSender = true → p.val < 8 → Completes (.provSet p b) s fun t => t.f (F.LAN_P_CTL_PROV p) = b.toNat ∧ t.outs = s.outs ∧
      (t.port p.val).provAsk = (if (s.port p.val).prov = b then none else some b) ∧ Frame (fun a => a == R.LAN_P_CTL p) s t)) ∧
  (∀ (path : Path) (v : Word) (k : LanCal) (stats : List LaneStat) (s : State), s.asleep = false →
    (s.on F.LAN_CAL_STAT_BUSY = false → F.LAN_CAL_PORTS.get v ≠ 0 → (∀ p, p < 9 → (F.LAN_CAL_PORTS.get v).testBit p = true → s.portUp p = true) →
      Completes (.offsetCalStart path v) s fun t =>
        t.f F.LAN_CAL_STAT_BUSY = 1 ∧ t.f F.LAN_CAL_PORTS = F.LAN_CAL_PORTS.get v ∧
        (∃ c, t.lan.cal = some c ∧ c.ports = F.LAN_CAL_PORTS.get v ∧ c.step = 0) ∧
        Frame (fun a => a == R.LAN_CAL || a == R.LAN_CAL_STAT) s t) ∧
    (∀ p : Fin 9, s.on F.LAN_CAL_STAT_BUSY = false → F.LAN_CAL_PORTS.get v = 2 ^ p.val → s.portUp p.val = false → Completes (.offsetCalStart path v) s fun t =>
        t.f F.LAN_CAL_STAT_BUSY = 0 ∧ t.f F.LAN_CAL_STAT_CODE = 7 ∧ t.f F.LAN_CAL_STAT_PORT = p.val ∧ t.evBit 224 = true ∧
        t.lan.cal = none ∧ Frame (fun a => a == R.LAN_CAL || a == R.LAN_CAL_STAT) s t) ∧
    (s.lan.cal = none → exec (.offsetCalWindowEnd []) s = .next s) ∧
    (s.lan.cal = some k → k.lost = none → k.df = none → k.down = none →
      (k.ports ≠ 0 → k.ports < 2 ^ 9 → exec (.offsetCalWindowEnd []) s = .next s) ∧
      ((∀ x ∈ State.calLanes k.ports, ∃ y ∈ stats, y.port.val = x.1 ∧ y.lane.val = x.2) →
        (∀ x ∈ stats, ∀ code, code < 8 → k.ports.testBit x.port.val = true → State.laneFails k x code
          (((k.trial.find? fun y => y.1 == x.port.val && y.2.1 == x.lane.val).map (·.2.2)).getD 0) = false) →
        (k.step < 6 → Completes (.offsetCalWindowEnd stats) s fun t =>
          (∃ c, t.lan.cal = some c ∧ c.step = k.step + 1 ∧ c.ports = k.ports) ∧ Frame noReg s t) ∧
        (6 ≤ k.step → s.mramOk = true → s.nvs.jobs = [] → Completes (.offsetCalWindowEnd stats) s fun t =>
          t.lan.cal = none ∧ t.nvs.jobs.length = 1 ∧ (∀ j ∈ t.nvs.jobs, j.kind = 2 ∧ j.cal = 0 ∧ j.time = s.calTime) ∧
          t.on F.NVS_STATUS_WBUSY = true ∧ t.f F.LAN_CAL_STAT_BUSY = s.f F.LAN_CAL_STAT_BUSY))) ∧
    (∀ p : Fin 9, s.lan.cal = some k → k.lost = none → k.df = none → k.down = some p.val → Completes (.offsetCalWindowEnd []) s fun t =>
      t.lan.cal = none ∧ t.f F.LAN_CAL_STAT_BUSY = 0 ∧ t.f F.LAN_CAL_STAT_CODE = 7 ∧ t.f F.LAN_CAL_STAT_PORT = p.val ∧
      t.evBit 224 = true ∧ Frame (fun a => a == R.LAN_CAL_STAT) s t))

/-- O32: (1) the fourth bad control word in a row on a lane takes a chain port out of Up, counted in LOCKLOSS with event 213; the fourth good
one on the lane of a port in single-lane mode brings it to Up with event 212; below alignment a lane block does nothing.
(2) a port that sends puts a lane block out for each part of the block in hand, and changes nothing in the register space but its
counters of scrambled blocks; a tile that
sends its own blocks puts a frame that waits in the place of a free one, and where it repeats the frame waits for one that passes.
Where the spec leaves a point open it rests on the model's choices of log entries 62, 66, 71. -/
def Obligations.LaneAlignmentAndTransmission : Prop :=
  (∀ (p : Fin 9) (l : Fin 4) (bits : BitVec 4096) (skew : Nat) (s : State), s.asleep = false → (s.rxst p.val < 3 → exec (.laneBlockRx p l bits skew false) s = .next s) ∧
    (p.val < 8 → s.laneOn p.val = true → s.rxst p.val = 5 → l.val < (Lane.shape p.val (s.port p.val).single).1 →
      tabAt (s.port p.val).bad l.val 0 = 3 → Lane.syncOk (Lane.ctlOf bits) = false →
      Completes (.laneBlockRx p l bits skew false) s fun t =>
        t.rxst p.val = 3 ∧ t.f (F.LAN_P_LOCKLOSS_COUNT p) = (s.f (F.LAN_P_LOCKLOSS_COUNT p) + 1) % 2 ^ 32 ∧ t.evBit 213 = true ∧
        Frame (fun a => a == R.LAN_P_STAT p || a == R.LAN_P_LOCKLOSS p || a == R.LAN_CLK) s t) ∧
    (p.val < 8 → s.laneOn p.val = true → s.rxst p.val = 3 → (s.port p.val).single = true → tabAt (s.port p.val).good 0 0 = 3 → Lane.syncOk (Lane.ctlOf bits) = true →
      Lane.laneOf (Lane.ctlOf bits) = 0 → s.polls = false →
      Completes (.laneBlockRx p 0 bits skew false) s fun t =>
        t.rxst p.val = 5 ∧ t.evBit 212 = true ∧ (t.port p.val).group = 0 ∧ Frame (fun a => a == R.LAN_P_STAT p || a == R.LAN_CLK) s t)) ∧
  (∀ (p : Fin 9) (l : Fin 4) (s : State), s.asleep = false → s.laneOn p.val = true →
    ((s.port p.val).idle = true → (s.port p.val).loopIn = 0 →
      exec (.laneBlockTx p l) s = .next s ∧ exec (.replySubstitute p) s = .next s) ∧
    ((s.port p.val).loopIn = 3 → exec (.laneBlockTx p l) s = .next s) ∧
    ((s.port p.val).idle = false → (s.port p.val).loopIn = 0 → l.val < (Lane.shape p.val (s.port p.val).single).1 → (s.port p.val).cur ≠ [] →
      (s.port p.val).sent = [] → Completes (.laneBlockTx p l) s fun t =>
        (∃ bits, .laneBits p.val l.val bits ∈ t.outs) ∧ Frame (fun a => a == R.LAN_P_RESCR p || a == R.LAN_P_DFTX p) s t) ∧
    (s.isSender = false → s.repeating p.val = true → exec (.replySubstitute p) s = .next s) ∧
    (∀ b, s.isSender = false → (s.port p.val).idle = false → (s.port p.val).loopIn = 0 → (s.port p.val).cur = [] → s.repeating p.val = false →
      s.lan.subs = [(p.val, b)] → numAt b 0 1 ≠ 0x30 → Completes (.replySubstitute p) s fun t =>
      t.lan.subs = [] ∧ .block p.val b ∈ t.outs ∧ Frame (fun a => a == R.LAN_P_RESCR p || a == R.LAN_P_DFTX p) s t))

/-- O33: (1) a poll that is not answered in time is taken from those outstanding; it is counted at its port and its tile, and the tile whose count
reaches CMC_POLL.MISS is Lost with event 249, unless the tile is still quiet after an activation, where nothing is counted.
(2) the frames of a tile that are not acknowledged are sent again and counted, and a tile whose frame has been sent again four times
is Lost with event 267; a tile with none waiting is left alone.
Where the spec leaves a point open it rests on the model's choices of log entries 103, 104. -/
def Obligations.PollTimeoutsAndResends : Prop :=
  (∀ (p : Fin 8) (a : Fin 96) (tag kind : Nat) (rest : List (Nat × Nat × Nat)) (s : State), s.asleep = false → s.polls = true →
    s.present .PAR = false → (s.poll p.val).out = (tag, a.val + 1, kind) :: rest → (s.poll p.val).queue = [] →
    ((s.tile p.val (a.val + 1)).quietTo ≤ s.clk.now → Completes (.pollTimeout p) s fun t =>
      (t.poll p.val).out = rest ∧ t.f (F.CMC_P_MISS_COUNT p) = (s.f (F.CMC_P_MISS_COUNT p) + 1) % 2 ^ 32 ∧
      t.f (F.CMC_T_MISSES p (a.val + 1)) = min (s.f (F.CMC_T_MISSES p (a.val + 1)) + 1) 255 ∧
      (s.f F.CMC_POLL_MISS ≤ min (s.f (F.CMC_T_MISSES p (a.val + 1)) + 1) 255 →
        t.tileState p.val (a.val + 1) = 4 ∧ (s.tileState p.val (a.val + 1) ≠ 4 → t.evBit 249 = true)) ∧
      (min (s.f (F.CMC_T_MISSES p (a.val + 1)) + 1) 255 < s.f F.CMC_POLL_MISS →
        t.tileState p.val (a.val + 1) = s.tileState p.val (a.val + 1)) ∧
      Frame (fun b => b == R.CMC_P_MISS p || b == R.CMC_T p (a.val + 1)) s t) ∧
    (s.clk.now < (s.tile p.val (a.val + 1)).quietTo → Completes (.pollTimeout p) s fun t =>
      (t.poll p.val).out = rest ∧ Frame noReg s t)) ∧
  (∀ (p : Fin 8) (a : Fin 96) (s : State), s.asleep = false → s.polls = true → s.present .PAR = false → ((s.tile p.val (a.val + 1)).unacked = [] → exec (.seqResend p a) s = .next s) ∧
    (((s.tile p.val (a.val + 1)).unacked.any fun u => decide (4 ≤ u.resends)) = true → s.tileState p.val (a.val + 1) ≠ 4 →
      Completes (.seqResend p a) s fun t => t.tileState p.val (a.val + 1) = 4 ∧ (t.tile p.val (a.val + 1)).unacked = [] ∧
        t.evBit 267 = true ∧ t.evBit 249 = true ∧ Frame (fun b => b == R.CMC_T p (a.val + 1)) s t) ∧
    (∀ u, (s.tile p.val (a.val + 1)).unacked = [u] → u.resends < 4 → Completes (.seqResend p a) s fun t =>
      t.f (F.CMC_P_RESEND_COUNT p) = (s.f (F.CMC_P_RESEND_COUNT p) + 1) % 2 ^ 32 ∧
      (t.tile p.val (a.val + 1)).unacked = [{ u with resends := u.resends + 1 }] ∧
      ((s.tile p.val (a.val + 1)).farSide = false → (s.port p.val).idle = false → (s.port p.val).loopIn = 0 →
        (t.port p.val).txq = (s.port p.val).txq ++ [(parseFrame u.block).bytes]) ∧ Frame (fun b => b == R.CMC_P_RESEND p) s t))

/-- O34: (1) an enumeration asked for on a port of the poll master is sent with the next ID, and one that is not answered in time has failed
with event 245; the ports held off after a chain warm reset are released and enumerated together, and a chain warm reset is sent to its ports,
holds them off and raises event 12.
(2) the command register admits a tile that has passed its checks at the second frame boundary ahead, quarantines one with event 247,
and starts one's identity check again; on a device that is no poll master it holds what was written and does nothing else.
Where the spec leaves a point open it rests on the model's choices of log entries 106, 107, 110. -/
def Obligations.EnumerationsAndAdmission : Prop :=
  (∀ (p : Fin 8) (path : Path) (v : Word) (s : State), s.asleep = false → s.isSender = true → (s.f (F.CMC_P_STAT_ESTATE p) = 1 → Completes (.enumTimeout p) s fun t =>
      t.f (F.CMC_P_STAT_ESTATE p) = 3 ∧ t.evBit 245 = true ∧ Frame (fun b => b == R.CMC_P_STAT p) s t) ∧
    (s.f (F.CMC_P_STAT_ESTATE p) ≠ 1 → exec (.enumTimeout p) s = .next s) ∧
    (s.polls = true → F.CMC_ENUM_PORTS.get v = 2 ^ p.val → s.portOn p.val = true → (s.poll p.val).noEnum = false →
      Completes (.enumCmd path v) s fun t => t.f F.CMC_ENUM_PORTS = 2 ^ p.val ∧ t.f (F.CMC_P_STAT_ESTATE p) = 1 ∧
        (t.poll p.val).enumId = (s.poll p.val).enumId + 1 ∧ (t.poll p.val).far = false ∧
        ((s.port p.val).idle = false → (s.port p.val).loopIn = 0 → ∃ w, (t.port p.val).txq = (s.port p.val).txq ++ [w] ∧
          numAt w 0 1 = 0x03) ∧
        Frame (fun b => b == R.CMC_ENUM || b == R.CMC_P_STAT p) s t) ∧
    (s.polls = true → F.RPS_CHRST_PORTS.get v = 2 ^ p.val → s.portOn p.val = true → s.present .PAR = false →
      Completes (.chainResetCmd path v) s fun t => (t.poll p.val).noEnum = true ∧ t.evBit 12 = true ∧
        ((s.port p.val).idle = false → (s.port p.val).loopIn = 0 → ∃ w, (t.port p.val).txq = (s.port p.val).txq ++ [w] ∧
          numAt w 0 1 = 0x70) ∧
        Frame (fun b => b == R.RPS_CHRST) s t) ∧
    Completes .chainResetEnum s (fun t => (∀ k, k < 8 → s.portOn k = true → (t.poll k).noEnum = false ∧
        (s.polls = true → (s.poll k).noEnum = true → t.f (F.CMC_P_STAT_ESTATE k) = 1 ∧ (t.poll k).enumId = (s.poll k).enumId + 1)) ∧
      Frame (fun b => (List.range 8).any fun k => b == R.CMC_P_STAT k) s t)) ∧
  (∀ (p : Fin 8) (a : Fin 96) (s : State), s.asleep = false → s.present .PAR = false → (s.polls = true → s.framed = true → s.tileState p.val (a.val + 1) = 1 → (s.tile p.val (a.val + 1)).passed = true →
      (s.tile p.val (a.val + 1)).admitAt = none → Completes (.admitCmd p a) s fun t =>
        (t.tile p.val (a.val + 1)).admitAt = some (s.boundaryAhead 2) ∧ t.f F.CMC_ADMIT_ACTION = 1 ∧
        t.f F.CMC_ADMIT_PORT = p.val ∧ t.f F.CMC_ADMIT_ADDR = a.val + 1 ∧ Frame (fun b => b == R.CMC_ADMIT) s t) ∧
    (s.polls = true → s.tileState p.val (a.val + 1) ≠ 0 →
      Completes (.quarantineCmd p a) s (fun t => t.tileState p.val (a.val + 1) = 3 ∧ (t.tile p.val (a.val + 1)).passed = false ∧
        t.evBit 247 = true ∧ Frame (fun b => b == R.CMC_ADMIT || b == R.CMC_T p (a.val + 1)) s t) ∧
      Completes (.recheckCmd p a) s (fun t => t.tileState p.val (a.val + 1) = 1 ∧ (t.tile p.val (a.val + 1)).passed = false ∧
        (t.tile p.val (a.val + 1)).unacked = (s.tile p.val (a.val + 1)).unacked ∧ Frame (fun b => b == R.CMC_ADMIT || b == R.CMC_T p (a.val + 1)) s t)) ∧
    (s.polls = false → ∀ c ∈ [Instr.admitCmd p a, .quarantineCmd p a, .recheckCmd p a], Completes c s fun t =>
      t.cmc = s.cmc ∧ t.lan = s.lan ∧ Frame (fun b => b == R.CMC_ADMIT) s t))

/-- O35: (1) a catch-up commit is sent to its tile at once and kept for its second copy; a second copy goes out once, that of a commit of
the device on every chain port in use and that of a catch-up commit to its tile; with none waiting nothing happens.
(2) a planned change of the poll master at a Primary whose partner follows in Hot hands over: the device stops polling, is in
Resync, abdicated, and says so with event 314.
Where the spec leaves a point open it rests on the model's choices of log entries 104, 105, 116. -/
def Obligations.CatchUpCopiesAndHandover : Prop :=
  (∀ (p : Fin 8) (a : Fin 96) (b : List Byte) (bs : List (Option Nat × List Byte)) (s : State), s.asleep = false → s.role ≠ 0 →
    (s.polls = true → s.framed = true → s.portOn p.val = true → Completes (.catchupCmd p a) s fun t =>
      (∃ w, t.cmt.copies = s.cmt.copies ++ [(some p.val, w)] ∧
        ((s.tile p.val (a.val + 1)).farSide = false → (s.port p.val).idle = false → (s.port p.val).loopIn = 0 →
          (t.port p.val).txq = (s.port p.val).txq ++ [(parseFrame w).bytes])) ∧ t.f F.CMT_CATCHUP_PORT = p.val ∧
      t.f F.CMT_CATCHUP_ADDR = a.val + 1 ∧ t.cmt.pend = s.cmt.pend ∧ Frame (fun b => b == R.CMT_CATCHUP) s t) ∧
    (s.polls = false → Completes (.catchupCmd p a) s fun t => t.cmt = s.cmt ∧ Frame (fun b => b == R.CMT_CATCHUP) s t) ∧
    (s.cmt.copies = [] → exec .commitSecondCopy s = .next s) ∧
    (s.cmt.copies = (none, b) :: bs → Completes .commitSecondCopy s fun t =>
      t.cmt.copies = bs ∧ (∀ x ∈ t.cmt.pend, x.gen.toNat = numAt b 8 4 → x.sent = true) ∧
      t.cmt.pend.length = s.cmt.pend.length ∧ (∀ q, q < 8 → s.portOn q = true → (s.port q).idle = false → (s.port q).loopIn = 0 →
        (t.port q).txq = (s.port q).txq ++ [b]) ∧ Frame noReg s t) ∧
    (s.cmt.copies = (some p.val, b) :: bs → (s.tile p.val (numAt b 4 1)).farSide = false → (s.port p.val).idle = false →
      (s.port p.val).loopIn = 0 → Completes .commitSecondCopy s fun t => t.cmt = { s.cmt with copies := bs } ∧
        (t.port p.val).txq = (s.port p.val).txq ++ [(parseFrame b).bytes] ∧ Frame noReg s t)) ∧
  (∀ (s : State), s.asleep = false → s.isPrimary = true → s.heard = true → s.f F.PAR_STATUS_PPSTATE = 3 →
    Completes .pollHandover s fun t =>
      t.pairState = 4 ∧ t.f F.CMC_STATUS_MASTER = 0 ∧ t.f F.PAR_STATUS_ABD = 1 ∧ t.f F.PAR_LAST_CAUSE = 3 ∧ t.evBit 314 = true ∧
      t.evBit 312 = true ∧ (∀ p, p < 8 → (t.poll p).queue = []))

/-- O36: (1) a Sender sends Sync and Announce on its chain ports with sequence numbers that count up, and other devices send neither; a tile's Delay_Req waits for
its slot of the interval and then for a free block; an Ethernet port's is stamped once, counted, and goes out in a frame with its FCS.
(2) an Announce message of a domain that follows no grandmaster is taken, from a chain port in its TIME frame or from the Ethernet port
in its own: its grandmaster is shown in the domain's register pair, with event 290 where that is news; one of a domain that the port does
not serve does nothing.
Where the spec leaves a point open it rests on the model's choices of log entries 11, 12, 19, 174, 199. -/
def Obligations.TimeMessagesAndAnnounces : Prop :=
  (∀ (p : Fin 9) (s : State), s.asleep = false → (s.isSender = true →
      Completes .syncSend s (fun t => t.tim = { s.tim with syncSeq := (s.tim.syncSeq + 1) % 2 ^ 16 } ∧
        (∃ x, numAt x 0 1 = 0x30 ∧ ∀ q ∈ s.portsOn, (s.port q).idle = false → (s.port q).loopIn = 0 →
          (t.port q).txq = (s.port q).txq ++ [x]) ∧ Frame noReg s t) ∧
      Completes .announceSend s (fun t => t.tim = { s.tim with annSeq := (s.tim.annSeq + 1) % 2 ^ 16 } ∧
        (∃ x, numAt x 0 1 = 0x30 ∧ ∀ q ∈ s.portsOn, (s.port q).idle = false → (s.port q).loopIn = 0 →
          (t.port q).txq = (s.port q).txq ++ [x]) ∧ Frame noReg s t)) ∧
    (s.isSender = false → exec .syncSend s = .next s ∧ exec .announceSend s = .next s) ∧
    (s.isSender = false → p.val < 2 → s.addr ≠ 126 → s.f (F.TIM_DOM_STAT_DSTATE p) ≠ 0 → Completes (.delayReqSend p) s fun t =>
      (s.tickU ≠ 0 → s.delaySlot p.val s.addr ≤ t.clk.wall) ∧ (t.dom p.val).seq = ((s.dom p.val).seq + 1) % 2 ^ 16 ∧
      (t.dom p.val).reqAt = s.delaySlot p.val s.addr + 1 ∧
      (∃ w, t.lan.subs = s.lan.subs ++ [(p.val, w)] ∧ numAt w 0 1 = 0x30) ∧ t.tim.queues = s.tim.queues ∧ Frame noReg s t) ∧
    (s.ethOn = false → exec .ethDelayReqSend s = .next s) ∧
    (s.ethOn = true → s.source = 1 → s.on F.TIM_SRC_EN_B = false → (tabAt s.tim.queues 9 []).length < 64 →
      Completes .ethDelayReqSend s fun t =>
        t.f (F.TIM_P_TSCNT_COUNT 9) = (s.f (F.TIM_P_TSCNT_COUNT 9) + 1) % 2 ^ 32 ∧
        t.f F.TIM_ETH_TXF_COUNT = (s.f F.TIM_ETH_TXF_COUNT + 1) % 2 ^ 32 ∧
        (t.dom 0).seq = ((s.dom 0).seq + 1) % 2 ^ 16 ∧ (∃ m, t.outs = s.outs ++ [.eth m (crc32 m)] ∧ 60 ≤ m.length) ∧
        Frame (fun a => a == R.TIM_P_TSCNT 9 || a == R.TIM_ETH_TXF) s t)) ∧
  (∀ (p : Fin 10) (m f : List Byte) (d : Nat) (s : State), s.asleep = false →
    (p.val ≠ 9 → s.domainOf p.val (Ptp.domain m) = none → exec (.announceRx p m) s = .next s) ∧
    (p.val ≠ 9 → s.domainOf p.val (Ptp.domain m) = some d → (s.dom d).gm = none → Completes (.announceRx p m) s fun t =>
        t.pair (R.TIM_DOM_GMID_LO d) (R.TIM_DOM_GMID_HI d) = Ptp.gmIdentity m % 2 ^ 64 ∧
        (s.pair (R.TIM_DOM_GMID_LO d) (R.TIM_DOM_GMID_HI d) ≠ Ptp.gmIdentity m → t.evBit 290 = true) ∧
        Frame (fun a => a == R.TIM_DOM_GMID_LO d || a == R.TIM_DOM_GMID_HI d) s t) ∧
    (s.ethOn = false → exec (.announceRx 9 f) s = .next s ∧ exec (.ptpEthRx f) s = .next s) ∧
    (s.ethOn = true → s.ptpOf f = none → ∀ c ∈ [Instr.announceRx 9 f, .ptpEthRx f], Completes c s fun t =>
        t.f F.TIM_ETH_RXF_COUNT = (s.f F.TIM_ETH_RXF_COUNT + 1) % 2 ^ 32 ∧ Frame (fun a => a == R.TIM_ETH_RXF) s t) ∧
    (s.ethOn = true → s.ptpOf f = some m → Ptp.mtype m = 11 → s.domainOf 9 (Ptp.domain m) = some d → (s.dom d).gm = none →
      ∀ c ∈ [Instr.announceRx 9 f, .ptpEthRx f], Completes c s fun t =>
        t.pair (R.TIM_DOM_GMID_LO d) (R.TIM_DOM_GMID_HI d) = Ptp.gmIdentity m % 2 ^ 64 ∧
        (s.pair (R.TIM_DOM_GMID_LO d) (R.TIM_DOM_GMID_HI d) ≠ Ptp.gmIdentity m → t.evBit 290 = true) ∧
        t.f F.TIM_ETH_RXF_COUNT = (s.f F.TIM_ETH_RXF_COUNT + 1) % 2 ^ 32 ∧
        Frame (fun a => a == R.TIM_DOM_GMID_LO d || a == R.TIM_DOM_GMID_HI d || a == R.TIM_ETH_RXF) s t))

/-- O37: (1) a domain that loses its source is in Holdover with its lock count at 0, and raises its event; a domain that was off or in
Holdover already stays so; Holdover past HOLDMAX raises event 289 once.
(2) before frames run, the host sets the count to the time of day in TIM_SET where the device has no other source, and TSTATE says it
was set; a step that waits for acceptance is taken when it is accepted, with event 281.
Where the spec leaves a point open it rests on the model's choices of log entries 7, 8, 209. -/
def Obligations.HoldoverAndTimeSetting : Prop :=
  (∀ (d : Fin 2) (s : State), s.asleep = false →
    (s.f (F.TIM_DOM_STAT_DSTATE d) = 0 ∨ s.f (F.TIM_DOM_STAT_DSTATE d) = 3 → exec (.domainHoldover d) s = .next s) ∧
    (s.f (F.TIM_DOM_STAT_DSTATE d) ≠ 0 → s.f (F.TIM_DOM_STAT_DSTATE d) ≠ 3 → s.active ≠ d.val → Completes (.domainHoldover d) s fun t =>
      t.f (F.TIM_DOM_STAT_DSTATE d) = 3 ∧ t.f (F.TIM_DOM_STAT_LOCKCNT d) = 0 ∧ t.evBit (278 + d.val) = true ∧ t.clk = s.clk) ∧
    (s.f F.TIM_STATUS_TSTATE = 4 → s.tim.holdTold = false → Completes .holdmaxExpiry s fun t =>
      t.tim.holdTold = true ∧ t.evBit 289 = true ∧ Frame noReg s t) ∧
    (s.f F.TIM_STATUS_TSTATE ≠ 4 ∨ s.tim.holdTold = true → exec .holdmaxExpiry s = .next s)) ∧
  (∀ (s : State), s.asleep = false → s.on F.DSP_STATUS_RUN = false →
    (s.source = 0 → s.f F.TIM_SET_NS_NS ≤ 999999999 → Completes .timeSet s fun t =>
      t.clk.wall = State.countOf ((s.reg R.TIM_SET_SL).toNat + 2 ^ 32 * s.f F.TIM_SET_SH_SEC) (s.f F.TIM_SET_NS_NS) ∧
      t.f F.TIM_STATUS_TSTATE = 1 ∧ t.clk.now = s.clk.now ∧ Frame (fun a => a == R.TIM_CMD || a == R.TIM_STATUS) s t) ∧
    (999999999 < s.f F.TIM_SET_NS_NS → Completes .timeSet s fun t => t.clk = s.clk ∧ Frame (fun a => a == R.TIM_CMD) s t) ∧
    (s.on F.TIM_STATUS_STEPPEND = true → Completes .stepAccept s fun t =>
      t.f F.TIM_STATUS_STEPPEND = 0 ∧ t.evBit 281 = true ∧
      t.clk.wall = ((s.clk.wall : Int) - sgn 64 (s.pair R.TIM_STEP_PEND_LO R.TIM_STEP_PEND_HI) * 2 ^ 31).toNat ∧
      Frame (fun a => a == R.TIM_CMD || a == R.TIM_STATUS || a == R.TIM_STEP_FRM) s t))

/-- O38: (1) a frame received with an error is counted as such and goes no further; a good one for this station is counted and written to the
ring at HEAD, which moves on; a full ring drops it with event 293; a frame of 60 to 1,514 bytes in the transmit ring goes out with its
CRC and is counted, and TAIL moves on past one of any length; the link's changes raise event 284.
(2) the sync reference is present at its 64th line and gone with event 285 when it is lost; the second copy of a step notice goes out
once; a timed output in a mode that has edges turns over at each, and a capture keeps 16 edges, the next being dropped, counted and
reported with event 288, until it is read and popped.
Where the spec leaves a point open it rests on the model's choices of log entries 9, 10, 166. -/
def Obligations.EthernetReferenceAndTimedPins : Prop :=
  (∀ (bs : List Byte) (s : State), s.asleep = false → s.ethOn = true →
    Completes (.ethFrameRx bs false) s (fun t =>
      t.f F.TIM_ETH_RXERR_COUNT = (s.f F.TIM_ETH_RXERR_COUNT + 1) % 2 ^ 32 ∧ Frame (fun a => a == R.TIM_ETH_RXERR) s t) ∧
    (bs.length ≤ 1518 → State.ethDst bs = 2 ^ 48 - 1 → s.on F.TIM_ERX_CTL_EN = true →
      (State.ringFull (s.f F.TIM_ERX_CTL_LOG2) (s.f F.TIM_ERX_HEAD_HEAD) (s.f F.TIM_ERX_TAIL_TAIL) = true →
        Completes (.ethFrameRx bs true) s fun t => t.f F.TIM_ERX_DROP_COUNT = (s.f F.TIM_ERX_DROP_COUNT + 1) % 2 ^ 32 ∧
          t.evBit 293 = true ∧ Frame (fun a => a == R.TIM_ETH_RXF || a == R.TIM_ERX_DROP) s t) ∧
      (State.ringFull (s.f F.TIM_ERX_CTL_LOG2) (s.f F.TIM_ERX_HEAD_HEAD) (s.f F.TIM_ERX_TAIL_TAIL) = false →
        Completes (.ethFrameRx bs true) s fun t => t.f F.TIM_ETH_RXF_COUNT = (s.f F.TIM_ETH_RXF_COUNT + 1) % 2 ^ 32 ∧
          t.f F.TIM_ERX_HEAD_HEAD = (s.f F.TIM_ERX_HEAD_HEAD + 1) % 2 ^ s.f F.TIM_ERX_CTL_LOG2 % 2 ^ 12 ∧
          ∀ a, a = s.pair R.TIM_ERX_BASE_LO R.TIM_ERX_BASE_HI + s.f F.TIM_ERX_HEAD_HEAD % 2 ^ s.f F.TIM_ERX_CTL_LOG2 * 2048 →
            a + 16 + bs.length ≤ s.dramSize → Mem.read t.dram a 2 = leBytes 2 bs.length ∧ Mem.read t.dram (a + 16) bs.length = bs ∧
              ∀ x, x < a ∨ a + 16 + bs.length ≤ x → Mem.get t.dram x = Mem.get s.dram x)) ∧
    (s.on F.TIM_ETX_CTL_EN = true →
      s.f F.TIM_ETX_HEAD_HEAD % 2 ^ s.f F.TIM_ETX_CTL_LOG2 ≠ s.f F.TIM_ETX_TAIL_TAIL % 2 ^ s.f F.TIM_ETX_CTL_LOG2 →
      ∀ a len, a = s.pair R.TIM_ETX_BASE_LO R.TIM_ETX_BASE_HI + s.f F.TIM_ETX_TAIL_TAIL % 2 ^ s.f F.TIM_ETX_CTL_LOG2 * 2048 →
      len = leVal (s.dramRd a 2) → Completes .ethTx s fun t =>
        t.f F.TIM_ETX_TAIL_TAIL = (s.f F.TIM_ETX_TAIL_TAIL + 1) % 2 ^ s.f F.TIM_ETX_CTL_LOG2 % 2 ^ 12 ∧
        (len < 60 ∨ 1514 < len → t.outs = s.outs ∧ t.f F.TIM_ETH_TXF_COUNT = s.f F.TIM_ETH_TXF_COUNT) ∧
        (60 ≤ len → len ≤ 1514 → t.outs = s.outs ++ [.eth (s.dramRd (a + 16) len) (crc32 (s.dramRd (a + 16) len))] ∧
            t.f F.TIM_ETH_TXF_COUNT = (s.f F.TIM_ETH_TXF_COUNT + 1) % 2 ^ 32) ∧
        Frame (fun a => a == R.TIM_ETX_TAIL || a == R.TIM_ETH_TXF) s t) ∧
    (s.on F.TIM_ETH_STAT_LINK = false → Completes (.ethernetLinkChange true) s fun t =>
      t.f F.TIM_ETH_STAT_LINK = 1 ∧ t.f F.TIM_STATUS_ETH_UP = 1 ∧ t.evBit 284 = true ∧
      Frame (fun a => a == R.TIM_ETH_STAT || a == R.TIM_STATUS) s t) ∧
    (s.on F.TIM_ETH_STAT_LINK = true → exec (.ethernetLinkChange true) s = .next s)) ∧
  (∀ (k : Fin 8) (c : Fin 4) (low : Nat) (rise : Bool) (s : State), s.asleep = false →
    (s.isSender = true → s.on F.TIM_SREF_CTL_EN = true → s.on F.TIM_SREF_STAT_PRESENT = true → s.source ≠ 2 →
      Completes .srefLost s fun t => t.f F.TIM_SREF_STAT_PRESENT = 0 ∧ t.f F.TIM_SREF_STAT_FLOCK = 0 ∧ t.f F.TIM_STATUS_SREF_OK = 0 ∧
        t.f F.RPS_AON_SREF = 0 ∧ t.evBit 285 = true ∧
        Frame (fun a => a == R.TIM_SREF_STAT || a == R.TIM_STATUS || a == R.RPS_AON) s t) ∧
    (s.isSender = true → s.on F.TIM_SREF_CTL_EN = true → 200 ≤ low → s.tim.srefLines = 63 → s.source ≠ 2 →
      Completes (.srefEdge low) s fun t => t.f F.TIM_SREF_STAT_PRESENT = 1 ∧ t.tim.srefLines = 64 ∧ t.clk = s.clk ∧
        Frame (fun a => a == R.TIM_SREF_STAT || a == R.TIM_STATUS || a == R.RPS_AON || a == R.TIM_SREF_PHASE) s t) ∧
    (low < 200 → exec (.srefEdge low) s = .next s) ∧
    (∀ b bs, s.tim.noticeCopies = b :: bs → Completes .stepNoticeSecondCopy s fun t => t.tim.noticeCopies = bs ∧
      (∀ q ∈ s.portsOn, (s.port q).idle = false → (s.port q).loopIn = 0 → (t.port q).txq = (s.port q).txq ++ [b]) ∧ Frame noReg s t) ∧
    (s.on (F.DSP_TRIG_CTL_EN k) = false →
      (s.f (F.TIM_OUT_CTL_MODE k) = 0 → exec (.outputEdge k) s = .next s) ∧
      (s.f (F.TIM_OUT_CTL_MODE k) = 2 ∧ s.outPeriod k.val ≠ 0 ∨
          s.f (F.TIM_OUT_CTL_MODE k) = 1 ∧
            (s.tim.fired.getD k.val false = false ∨ s.on (F.TIM_OUT_STAT_LEVEL k) ≠ s.on (F.TIM_OUT_CTL_POL k)) → Completes (.outputEdge k) s fun t =>
        t.on (F.TIM_OUT_STAT_LEVEL k) = (!s.on (F.TIM_OUT_STAT_LEVEL k)) ∧ s.clk.wall ≤ t.clk.wall ∧
        t.outs = s.outs ++ [.timedOut k (!s.on (F.TIM_OUT_STAT_LEVEL k))] ∧ Frame (fun a => a == R.TIM_OUT_STAT k) s t)) ∧
    ((s.f (F.TIM_CAP_CTL_EDGE c)).testBit (if rise then 0 else 1) = true → ((tabAt s.tim.caps c.val []).length < 16 → Completes (.captureEdge c rise) s fun t =>
        tabAt t.tim.caps c.val [] = tabAt s.tim.caps c.val [] ++ [⟨State.secOf s.clk.wall, State.nsOf s.clk.wall, rise⟩] ∧
        (s.on (F.TIM_CAP_CTL_EVT c) = true → t.evBit 294 = true) ∧ Frame noReg s t) ∧
      (16 ≤ (tabAt s.tim.caps c.val []).length → Completes (.captureEdge c rise) s fun t =>
        t.f (F.TIM_CAP_DROP_COUNT c) = (s.f (F.TIM_CAP_DROP_COUNT c) + 1) % 2 ^ 32 ∧ t.f (F.TIM_CAP_STAT_OVF c) = 1 ∧
        t.evBit 288 = true ∧ t.tim.caps = s.tim.caps ∧ Frame (fun a => a == R.TIM_CAP_DROP c || a == R.TIM_CAP_STAT c) s t) ∧
      Completes (.capturePop c) s (fun t => tabAt t.tim.caps c.val [] = (tabAt s.tim.caps c.val []).tail ∧
        Frame (fun a => a == R.TIM_CAP_POP c) s t)))

/-- O39: a request with no target time, at a Sender outside a pair whose frames run, with no commit checked or waiting, is put under
check with the whole of the stage view; one made while a commit is under check is refused with RESULT 6 and event 66; one whose target
time is no time is refused with RESULT 4 and rule 5.
Where the spec leaves a point open it rests on the model's choices of log entry 115. -/
def Obligations.CommitRequests : Prop :=
  ∀ (path : Path) (v : Word) (s : State), s.asleep = false → s.isSender = true → s.present .PAR = false →
    (999999999 < s.f F.CMT_TGT_NS_NS → Completes (.commitRequest path v) s fun t =>
      t.f F.CMT_STATUS_RESULT = 4 ∧ t.f F.CMT_STATUS_LASTTAG = F.CMT_REQ_REQTAG.get v ∧ t.f F.CMT_CHECK_CODE = 5 ∧
      t.evBit 66 = true ∧ t.cmt = s.cmt) ∧
    (s.f F.CMT_TGT_NS_NS ≤ 999999999 → s.framed = true → s.coreUp 0 = true → s.cmt.checking ≠ [] →
      Completes (.commitRequest path v) s fun t =>
        t.f F.CMT_STATUS_RESULT = 6 ∧ t.f F.CMT_STATUS_LASTTAG = F.CMT_REQ_REQTAG.get v ∧
        t.f F.CMT_REFUSED_COUNT = (s.f F.CMT_REFUSED_COUNT + 1) % 2 ^ 32 ∧ t.evBit 66 = true ∧ t.cmt = s.cmt ∧
        Frame (fun a => a == R.CMT_REQ || a == R.CMT_STATUS || a == R.CMT_REFUSED) s t) ∧
    (s.f F.CMT_TGT_NS_NS ≤ 999999999 → s.framed = true → s.coreUp 0 = true → s.cmt.checking = [] → s.cmt.pend = [] →
      v.getLsbD 0 = false → Completes (.commitRequest path v) s fun t =>
        t.f F.CMT_STATUS_RESULT = 1 ∧ t.f F.CMT_STATUS_LASTTAG = F.CMT_REQ_REQTAG.get v ∧ t.f F.SND_STATUS_CAPTURE = 1 ∧
        (∃ x, t.cmt.checking = [x] ∧ x.snap = s.stage ∧ x.slot = F.CMT_REQ_SLOT.get v ∧ x.tag = F.CMT_REQ_REQTAG.get v) ∧
        t.stage = s.stage ∧ t.dram = s.dram)

/-- O40: (1) a check that finds no fault makes the commit pending with the generation after the last, raises event 64, or 69 for a heavy
one, and sends it with a second copy to come; a check that finds one reports its rule and raises event 66, and nothing is pending.
(2) a tile takes a commit that its check finds good and that leaves a frame before its time; one that breaks a rule is refused with
TREF set, counted, and raises event 71.
Where the spec leaves a point open it rests on the model's choices of log entries 85, 114, 117. -/
def Obligations.CommitChecks : Prop :=
  (∀ (ecc : Bool) (x : Commit) (rest : List Commit) (s u : State), s.asleep = false → s.isSender = true → s.present .PAR = false →
    s.cmt.checking = x :: rest → s.f F.CMT_STATUS_RESULT = 1 →
    u = (s.setCmt fun c => { c with checking := rest }).setF F.SND_STATUS_CAPTURE 0 →
    Completes (.commitCheckDone ecc) s fun t =>
      (∀ code idx fail, u.checkRules x none ecc = some (code, idx, fail) →
        t.f F.CMT_STATUS_RESULT = 4 ∧ t.f F.CMT_CHECK_CODE = code % 2 ^ F.CMT_CHECK_CODE.width ∧ t.cmt = u.cmt ∧
        t.f F.CMT_REFUSED_COUNT = (s.f F.CMT_REFUSED_COUNT + 1) % 2 ^ 32 ∧ t.evBit 66 = true) ∧
      (u.checkRules x none ecc = none →
        t.f F.CMT_STATUS_RESULT = 2 ∧ t.cmt.checking = rest ∧ t.cmt.copies.length = s.cmt.copies.length + 1 ∧
        t.evBit (if x.heavy then 69 else 64) = true ∧
        ∃ y ∈ t.cmt.pend, y.gen = s.reg R.CMT_GEN + BitVec.ofNat 32 (s.cmt.pend.length + 1) ∧ y.snap = x.snap ∧ y.due = x.due)) ∧
  (∀ (x : Commit) (rest : List Commit) (s u : State), s.asleep = false → s.isTile = true → s.cmt.checking = x :: rest →
    u = s.setCmt (fun c => { c with checking := rest }) →
    Completes .tileCommitCheckDone s fun t => t.cmt.checking = rest ∧
      (∀ code idx fail, u.checkRules x (some x.heavy) false = some (code, idx, fail) →
        t.f F.CMT_STATUS_TREF = 1 ∧ t.f F.CMT_REFUSED_COUNT = (s.f F.CMT_REFUSED_COUNT + 1) % 2 ^ 32 ∧ t.evBit 71 = true ∧
        t.cmt = u.cmt) ∧
      (u.checkRules x (some x.heavy) false = none → x.catchup = false → s.cmt.pend.length < 4 →
        s.clk.wall + s.rate.periodU * (if x.heavy then 2 else 1) ≤ x.due →
          x ∈ t.cmt.pend ∧ t.cmt.pend.length = s.cmt.pend.length + 1 ∧ Frame (fun a => a == R.FMC_STATUS) s t))

/-- O41: (1) a peek begins with BUSY set and ends with it clear and the word of the address, whatever its view, in CMT_PEEK_DATA, with no
effect of a read; an address that no block answers reads as zero and raises event 3.
(2) a dump starts once, with STATE Running; one that goes to local DRAM, is not aborted and fits its limit ends Done, with event 74
where it is not torn; a torn or stopped one raises event 75; the words of the last dump are read through the data port, whose address moves on.
Where the spec leaves a point open it rests on the model's choices of log entries 17, 155, 156, 160, 165. -/
def Obligations.PeeksAndDumps : Prop :=
  (∀ (path : Path) (v : Word) (s : State), s.asleep = false → s.role ≠ 0 →
    Completes (.peek path v) s (fun t => t.f F.CMT_PEEK_ADDR_BUSY = 1 ∧ t.f F.CMT_PEEK_ADDR_ADDR = F.CMT_PEEK_ADDR_ADDR.get v ∧
      Frame (fun a => a == R.CMT_PEEK_ADDR) s t) ∧
    (s.on F.CMT_PEEK_ADDR_BUSY = true → s.f F.CMT_PEEK_ADDR_ADDR % 4 = 0 →
      s.reaches (State.view (s.f F.CMT_PEEK_ADDR_ADDR)).2 = true → Completes .peekDone s fun t =>
        t.reg R.CMT_PEEK_DATA = s.peekAt (s.f F.CMT_PEEK_ADDR_ADDR) ∧ t.f F.CMT_PEEK_ADDR_BUSY = 0 ∧ t.outs = s.outs ∧
        Frame (fun a => a == R.CMT_PEEK_ADDR || a == R.CMT_PEEK_DATA) s t) ∧
    (s.on F.CMT_PEEK_ADDR_BUSY = true → s.f F.CMT_PEEK_ADDR_ADDR % 4 ≠ 0 → Completes .peekDone s fun t =>
        t.reg R.CMT_PEEK_DATA = 0 ∧ t.f F.CMT_PEEK_ADDR_BUSY = 0 ∧ t.evBit 3 = true ∧
        Frame (fun a => a == R.CMT_PEEK_ADDR || a == R.CMT_PEEK_DATA) s t)) ∧
  (∀ (path : Path) (done : Nat) (err : Bool) (s : State), s.asleep = false → s.role ≠ 0 →
    (s.f F.CMT_DUMP_STAT_STATE ≠ 1 → Completes .dumpStart s fun t =>
      t.reg R.CMT_DUMP_STAT = 1 ∧ t.f F.CMT_DUMP_GO_START = 1 ∧ t.cmt.dumpGen = s.reg R.CMT_GEN ∧ t.cmt.dumpAt = s.clk.wall ∧
      t.cmt.dumpAbort = false ∧ Frame (fun a => a == R.CMT_DUMP_GO || a == R.CMT_DUMP_STAT) s t) ∧
    (s.f F.CMT_DUMP_STAT_STATE = 1 →
      Completes .dumpStart s (fun t => t.cmt = s.cmt ∧ Frame (fun a => a == R.CMT_DUMP_GO) s t) ∧
      Completes .dumpAbort s (fun t => t.cmt = { s.cmt with dumpAbort := true } ∧ t.f F.CMT_DUMP_GO_ABORT = 1 ∧
        Frame (fun a => a == R.CMT_DUMP_GO) s t) ∧
      (s.on F.THM_STATUS_STAGE = false → Completes (.dumpComplete done err) s fun t =>
        (t.f F.CMT_DUMP_STAT_STATE = 2 ∨ t.f F.CMT_DUMP_STAT_STATE = 3) ∧
        (err = true → t.f F.CMT_DUMP_STAT_ERR = 1) ∧ (t.f F.CMT_DUMP_STAT_ERR = 1 → t.f F.CMT_DUMP_STAT_STATE = 3) ∧
        (if t.f F.CMT_DUMP_STAT_STATE = 3 ∨ t.f F.CMT_DUMP_STAT_TORN = 1 then t.evBit 75 = true else t.evBit 74 = true) ∧
        t.f F.CMT_DUMP_BYTES_BYTES ≤ s.f F.CMT_DUMP_LEN_LEN) ∧
      (s.on F.THM_STATUS_STAGE = false → s.cmt.dumpAbort = false → s.on F.CMT_DUMP_CTL_TARGET = false →
        64 + (State.dumpBody s.dumpSections).1.length ≤ s.f F.CMT_DUMP_LEN_LEN → Completes (.dumpComplete done false) s fun t =>
        t.f F.CMT_DUMP_STAT_STATE = 2 ∧ t.f F.CMT_DUMP_STAT_ERR = 0 ∧ t.f F.CMT_DUMP_STAT_TRUNC = 0 ∧
        t.f F.CMT_DUMP_BYTES_BYTES = (64 + (State.dumpBody s.dumpSections).1.length) % 2 ^ 32 ∧
        (t.f F.CMT_DUMP_STAT_TORN = 0 → t.evBit 74 = true))) ∧
    Completes (.dportRead path) s (fun t => t.outs = s.outs ++ [.readData path R.CMT_DPORT_DATA (s.value R.CMT_DPORT_DATA)] ∧
      t.reg R.CMT_DPORT_ADDR = s.reg R.CMT_DPORT_ADDR + 4 ∧ Frame (fun a => a == R.CMT_DPORT_ADDR) s t))

/-- O42: (1) a refresh interval adds one to the debt of its bank less what was paid, and past 8 a refresh is forced, counted and reported with
event 300; a new refresh rate is kept with event 307; an idle row is closed; a real-time client that starves is counted with event
301.
(2) while the scrubber runs, each read moves its position to the next 64 bytes, and after the last to the first, where a pass is
counted with event 308; while it does not run a read changes nothing but its own status bit.
Where the spec leaves a point open it rests on the model's choices of log entries 23, 26. -/
def Obligations.RefreshRowsAndScrubbing : Prop :=
  (∀ (c : Fin 4) (r : Fin 2) (b : Fin 16) (paid : Nat) (code : Fin 32) (k : Fin 3) (s : State), s.asleep = false → s.role ≠ 0 →
    (s.f (F.FMC_CH_STAT_STATE c) = 2 →
      ((s.bank (State.bankIdx c r b)).debt - paid < 8 → Completes (.refreshInterval c r b paid) s fun t =>
        (t.bank (State.bankIdx c r b)).debt = (s.bank (State.bankIdx c r b)).debt - paid + 1 ∧
        t.f (F.FMC_CH_STAT_DEBTMAX c) = max (s.f (F.FMC_CH_STAT_DEBTMAX c)) ((s.bank (State.bankIdx c r b)).debt - paid + 1) ∧
        Frame (fun a => a == R.FMC_CH_STAT c) s t) ∧
      (8 ≤ (s.bank (State.bankIdx c r b)).debt - paid → Completes (.refreshInterval c r b paid) s fun t =>
        (t.bank (State.bankIdx c r b)).debt = 8 ∧ (t.bank (State.bankIdx c r b)).isOpen = false ∧
        t.f (F.FMC_CH_FORCED_COUNT c) = (s.f (F.FMC_CH_FORCED_COUNT c) + 1) % 2 ^ 32 ∧ t.evBit 300 = true ∧
        Frame (fun a => a == R.FMC_CH_STAT c || a == R.FMC_CH_FORCED c) s t) ∧
      Completes (.refreshRatePoll c code) s (fun t => t.f (State.rrField c) = code.val ∧
        (s.f (State.rrField c) ≠ code.val → t.evBit 307 = true) ∧ Frame (fun a => a == R.FMC_TEMP) s t)) ∧
    (s.f F.FMC_SCHED_IDLE ≠ 0 → (s.sched c.val).queue = [] → (s.bank (State.bankIdx c r b)).isOpen = true → Completes (.rowIdleClose c r b) s fun t =>
      (t.bank (State.bankIdx c r b)).isOpen = false ∧ (t.bank (State.bankIdx c r b)).row = (s.bank (State.bankIdx c r b)).row ∧
      Frame noReg s t) ∧
    ((if k.val = 0 then s.isSender else s.isTile) = true → Completes (.rtFifoStarve k) s fun t =>
      t.f (F.FMC_RT_STARVE_COUNT k) = (s.f (F.FMC_RT_STARVE_COUNT k) + 1) % 2 ^ 32 ∧ t.evBit 301 = true ∧
      Frame (fun a => a == R.FMC_RT_STARVE k) s t)) ∧
  (∀ (e : Ecc) (w : Bool) (s : State), s.asleep = false → s.role ≠ 0 →
    (s.scrubRuns = true → s.dramSize / 64 ≤ s.f F.FMC_SCRUB_POS_POS + 1 → 0 < s.dramSize → Completes (.scrubRead e w) s fun t =>
      t.f F.FMC_SCRUB_POS_POS = 0 ∧ t.f F.FMC_SCRUB_PASS_COUNT = (s.f F.FMC_SCRUB_PASS_COUNT + 1) % 2 ^ 32 ∧ t.evBit 308 = true ∧
      (e = .ok ∨ e = .corrected → t.dram = s.dram)) ∧
    (s.scrubRuns = true → s.f F.FMC_SCRUB_POS_POS + 1 < s.dramSize / 64 → Completes (.scrubRead e w) s fun t =>
      t.f F.FMC_SCRUB_POS_POS = (s.f F.FMC_SCRUB_POS_POS + 1) % 2 ^ 32 ∧ (e = .ok ∨ e = .corrected → t.dram = s.dram)) ∧
    (s.scrubRuns = false → Completes (.scrubRead e w) s fun t =>
      t.f F.FMC_STATUS_SCRUB = 0 ∧ t.fmc = s.fmc ∧ t.outs = s.outs ∧ Frame (fun a => a == R.FMC_STATUS) s t))

/-- O43: a write to the populated frame memory that finds its channel's queues empty stores its 64 bytes at the access's address and no other
byte, and a read of it leaves the memory as it is; of queued requests of bulk clients the oldest goes first once it has waited longer than
AGEMAX; an access at or beyond the populated space is counted and recorded with event 302, and a write there is dropped.
Where the spec leaves a point open it rests on the model's choices of log entries 18, 24, 192, 193. -/
def Obligations.FrameMemoryAccesses : Prop :=
  ∀ (c : Fin 4) (ns : Nat) (r : DramReq) (e : Ecc) (w : DramWait) (q : List DramWait) (s : State), s.asleep = false → s.role ≠ 0 →
    (s.dramIn (r.addr.toNat / 64 * 64) 64 = true → (s.placeOf (r.addr.toNat / 64 * 64)).ch = c.val → s.f (F.FMC_CH_STAT_STATE c) = 2 →
      (s.sched c.val).queue = [] → (s.sched c.val).outside = [] →
      (∀ d, r.data = some d → Completes (.dramAccessDone c ns [r.addr] [r.data] [r.client] e) s fun t => (t.sched c.val).queue = [] ∧
        Mem.read t.dram (r.addr.toNat / 64 * 64) 64 = leBytes 64 d.toNat ∧
        ∀ a, a < r.addr.toNat / 64 * 64 ∨ r.addr.toNat / 64 * 64 + 64 ≤ a → Mem.get t.dram a = Mem.get s.dram a) ∧
      (r.data = none → Completes (.dramAccessDone c ns [r.addr] [r.data] [r.client] e) s fun t => (t.sched c.val).queue = [] ∧
        (e.bad = true → t.evBit 299 = true) ∧ (e = .corrected → t.evBit 298 = true) ∧
        (e = .ok ∨ e = .corrected → t.dram = s.dram))) ∧
    (s.f (F.FMC_CH_STAT_STATE c) = 2 → (s.sched c.val).queue = w :: q → (s.sched c.val).outside = [] →
      (∀ v ∈ w :: q, v.req.client = none) → s.f F.FMC_SCHED_AGEMAX < w.waited →
      Completes (.dramAccessDone c 0 [] [] [] e) s fun t => (t.sched c.val).queue.map (·.req) = q.map (·.req)) ∧
    (s.dramIn (r.addr.toNat / 64 * 64) 64 = false → (s.sched c.val).queue = [] → Completes (.dramAccessDone c ns [r.addr] [r.data] [r.client] e) s fun t =>
      t.f F.FMC_OOR_CNT_COUNT = (s.f F.FMC_OOR_CNT_COUNT + 1) % 2 ^ 32 ∧ t.evBit 302 = true ∧
      t.f F.FMC_OOR_LO_ADDR = r.addr.toNat / 64 * 64 % 2 ^ 32 ∧ t.f F.FMC_OOR_HI_WRITE = r.data.isSome.toNat ∧
      (r.data.isSome = true → t.dram = s.dram) ∧
      Frame (fun a => a == R.FMC_OOR_CNT || a == R.FMC_OOR_LO || a == R.FMC_OOR_HI) { s with dram := [] } { t with dram := [] })

/-- O44: (1) training the PCI Express link shows its speed, width and capacity and raises event 137; the loss of the link and a
function-level reset each return every field of the port but the staged ones and the size of the window to its reset value and stop
every ring.
(2) a word written to the data field of a vector of the MSI-X table is what that vector's messages carry and what a read there
returns; the end of a vector's hold-off sends one message where the vector is pending, enabled and unmasked, sends none where nothing
merged during it, and leaves a vector that is masked or disabled pending; without a hold-off nothing happens.
Where the spec leaves a point open it rests on the model's choices of log entries 14, 41. -/
def Obligations.HostLinkAndVectors : Prop :=
  (∀ (speed : Fin 8) (width : Fin 32) (s : State), s.asleep = false → s.present .HST = true →
    (speed.val ≤ 5 → width.val ≤ 16 → Completes (.linkTrained speed width) s fun t =>
      t.f F.HST_LINK_SPEED = speed.val ∧ t.f F.HST_LINK_WIDTH = width.val ∧ t.f F.HST_LINK_UP = 1 ∧
      t.f F.HST_LINK_CAPY = State.linkCapy speed.val width.val ∧ t.evBit 137 = true ∧
      (State.linkCapy speed.val width.val < s.f F.HST_LOAD_LOAD → t.evBit 138 = true) ∧ Frame (fun a => a == R.HST_LINK) s t) ∧
    (∀ c ∈ [Instr.linkDown, .functionLevelReset], Completes c s fun t =>
      (∀ a, inBlk .HST a = true → a ≠ R.HST_W2_SIZE → t.reg a = (resetWord a &&& ~~~ stMask a) ||| (s.reg a &&& stMask a)) ∧
      t.hst.rings = .replicate 9 {} ∧ t.evBit (if c = .linkDown then 137 else 140) = true ∧ Frame (inBlk .HST) s t)) ∧
  (∀ (o : BitVec 12) (w : Word) (v : Fin 64) (s : State), s.asleep = false → s.present .HST = true →
    (o.toNat < 1024 → o.toNat % 16 = 8 →
      Completes (.msixTableAccess o (some w)) s (fun t => (tabAt t.hst.pcie.table (o.toNat / 16) (0, 0, true)).2.1 = w ∧
        (∀ u, u ≠ o.toNat / 16 → tabAt t.hst.pcie.table u (0, 0, true) = tabAt s.hst.pcie.table u (0, 0, true)) ∧ Frame noReg s t) ∧
      Completes (.msixTableAccess o none) s fun t => t = { s with outs := s.outs ++
        [.completion 0 (leBytes 4 (tabAt s.hst.pcie.table (o.toNat / 16) (0, 0, true)).2.1.toNat)] }) ∧
    (s.hst.pcie.hold.getLsbD v.val = false → exec (.msixHoldoffEnd v) s = .next s) ∧
    (s.hst.pcie.hold.getLsbD v.val = true → s.hst.pcie.pba.getLsbD v.val = false → Completes (.msixHoldoffEnd v) s fun t =>
      t.hst.pcie = { s.hst.pcie with hold := s.hst.pcie.hold &&& ~~~ BitVec.ofNat 64 (2 ^ v.val) } ∧ t.outs = s.outs ∧
      Frame noReg s t) ∧
    (s.hst.pcie.hold.getLsbD v.val = true → s.hst.pcie.pba.getLsbD v.val = true → s.hst.pcie.msixOn = true →
      s.hst.pcie.funMask = false → ∀ addr data, tabAt s.hst.pcie.table v.val (0, 0, true) = (addr, data, false) →
      Completes (.msixHoldoffEnd v) s fun t => t.outs = s.outs ++ [.msix v.val addr data] ∧
        t.hst.pcie.pba.getLsbD v.val = false ∧ t.hst.pcie.hold.getLsbD v.val = decide (s.f (F.EVT_VEC_CTL_HOLDOFF v) ≠ 0) ∧
        Frame noReg s t) ∧
    (s.hst.pcie.hold.getLsbD v.val = true → s.hst.pcie.pba.getLsbD v.val = true →
      s.hst.pcie.msixOn = false ∨ s.hst.pcie.funMask = true ∨ (tabAt s.hst.pcie.table v.val (0, 0, true)).2.2 = true →
      Completes (.msixHoldoffEnd v) s fun t => t.outs = s.outs ∧ t.hst.pcie.pba.getLsbD v.val = true ∧
        t.hst.pcie.hold.getLsbD v.val = false ∧ Frame noReg s t))

/-- O45: a request through BAR2 inside the open window writes and reads the local DRAM that the window maps, one outside it is
unsupported, and a poisoned write is dropped with event 139; a configuration request is put off until the port is ready and then
served.
Where the spec leaves a point open it rests on the model's choices of log entry 40. -/
def Obligations.HostRequests : Prop :=
  ∀ (off : BitVec 40) (bs : List Byte) (len : Fin 4097) (a : Nat) (s : State), s.asleep = false → s.present .HST = true →
    a = s.f F.HST_W2_BASE_LO_BASE + 2 ^ 32 * s.f F.HST_W2_BASE_HI_BASE + off.toNat →
    (s.hst.pcie.bar2On = false → ∀ write poisoned, Completes (.bar2Access off write len poisoned) s fun t =>
      t = { s with outs := s.outs ++ [.completion 1 []] }) ∧
    (s.hst.pcie.bar2On = true → off.toNat + bs.length ≤ 2 ^ (30 + s.f F.HST_W2_SIZE_SIZE) →
      (a + bs.length ≤ s.dramSize → Completes (.bar2Access off (some (bs.map some)) len false) s fun t =>
        Mem.read t.dram a bs.length = bs ∧ (∀ x, x < a ∨ a + bs.length ≤ x → Mem.get t.dram x = Mem.get s.dram x) ∧
        t = { s with dram := t.dram }) ∧
      Completes (.bar2Access off (some (bs.map some)) len true) s fun t => Frame noReg s t ∧ t.evBit 139 = true) ∧
    (s.hst.pcie.bar2On = true → off.toNat + len.val ≤ 2 ^ (30 + s.f F.HST_W2_SIZE_SIZE) → a + len.val ≤ s.dramSize →
      Completes (.bar2Access off none len false) s fun t => t = { s with outs := s.outs ++ [.completion 0 (Mem.read s.dram a len.val)] }) ∧
    (s.hst.pcie.ready = false → ∀ op, Completes (.configurationRequest op) s fun t =>
      t = { s with outs := s.outs ++ [.completion 2 []] }) ∧
    (s.hst.pcie.ready = true → ∀ on : Bool,
      Completes (.configurationRequest (.read 8)) s (fun t => t = { s with outs := s.outs ++ [.completion 0 [0xB0, 0x00, 0x80, 0x04]] }) ∧
      Completes (.configurationRequest (.busMaster on)) s (fun t => t.hst.pcie.bme = on ∧ t.f F.HST_LINK_BME = on.toNat ∧
        t.outs = s.outs ++ [.completion 0 []] ∧ Frame (fun b => b == R.HST_LINK) s t) ∧
      (∀ n : Fin 8, Completes (.configurationRequest (.bar2Size n)) s fun t => t.f F.HST_W2_SIZE_SIZE = n.val ∧
        t.outs = s.outs ++ [.completion 0 []] ∧ Frame (fun b => b == R.HST_W2_SIZE) s t) ∧
      (s.hst.pcie.pba = 0 → ∀ mask, Completes (.configurationRequest (.msix on mask)) s fun t =>
        t.hst.pcie = { s.hst.pcie with msixOn := on, funMask := mask } ∧ Frame noReg s t) ∧
      Completes (.configurationRequest (.power on)) s fun t => t.hst.pcie.d3hot = on ∧ Frame noReg s t)

/-- O46: (1) setting RUN makes a stopped or halted ring Running; clearing it stops an idle ring at once and one with a descriptor in
progress after that descriptor.
(2) a running ring with an entry to take and a free buffer reads its descriptor, and then the frame it names; a descriptor that
is not well formed halts the ring with code 4 and event 133, and an error of the link halts it with its own code.
Where the spec leaves a point open it rests on the model's choices of log entry 15. -/
def Obligations.RingsAndDescriptors : Prop :=
  (∀ (n : Fin 9) (s : State), s.asleep = false → s.present .HST = true → (s.on (State.ringRunF n) = false → s.f (State.ringState n) ≠ 3 → Completes (.ringRun n) s fun t =>
      t.f (State.ringState n) = 1 ∧ t.on (State.ringRunF n) = true ∧ (t.ring n).busy = false ∧
      Frame (fun a => a == (State.ringRunF n).addr || a == (State.ringState n).addr) s t) ∧
    (s.on (State.ringRunF n) = true → Completes (.ringRun n) s fun t => Frame noReg s t ∧ t.hst = s.hst) ∧
    (s.on (State.ringRunF n) = true → s.f (State.ringState n) = 1 → Completes (.ringStop n) s fun t =>
      t.on (State.ringRunF n) = false ∧ t.f (State.ringState n) = (if (s.ring n).busy then 3 else 0) ∧
      (t.ring n).busy = (s.ring n).busy ∧ ((s.ring n).busy = true → (t.ring n).stopping = true) ∧
      Frame (fun a => a == (State.ringRunF n).addr || a == (State.ringState n).addr) s t)) ∧
  (∀ (n : Fin 9) (bytes : List Byte) (code : Fin 8) (s : State), s.asleep = false → bytes.length = 32 →
    (s.ringReady n = false → exec (.descriptorFetch n bytes) s = .next s ∧ exec (.ringHalt n code true) s = .next s) ∧
    (s.ringReady n = true → n.val < 8 → State.srcDescOk bytes = true → Completes (.descriptorFetch n bytes) s fun t =>
      (t.ring n).busy = true ∧ (t.ring n).desc = bytes ∧ (t.ring n).buf = s.f (F.HST_SRC_STAT_NEXT n) ∧ Frame noReg s t ∧
      t.outs = s.outs ++ [.hostRead (s.descAddr n) 32 false false,
        .hostRead (numAt bytes 0 8) (s.srcBytes n) ((numAt bytes 12 1).testBit 1) ((numAt bytes 12 1).testBit 2)]) ∧
    (s.ringReady n = true → n.val = 8 → State.pageDescOk bytes = true → numAt bytes 0 1 = 2 →
      Completes (.descriptorFetch n bytes) s fun t =>
        (t.ring n).busy = true ∧ (t.ring n).desc = bytes ∧ Frame noReg s t ∧ t.outs = s.outs ++ [.hostRead (s.descAddr n) 32 false false]) ∧
    (∀ c k, s.ringReady n = true →
      (c = .descriptorFetch n bytes ∧ k = 4 ∧ (if n.val < 8 then State.srcDescOk bytes else State.pageDescOk bytes) = false ∨
        c = .ringHalt n code true ∧ k = code.val) →
      Completes c s fun t => t.f (State.ringState n) = 2 ∧ t.f F.HST_ERR_CODE = k ∧ t.f F.HST_ERR_RING = n.val ∧
        t.f F.HST_ERRCNT_COUNT = (s.f F.HST_ERRCNT_COUNT + 1) % 2 ^ 32 ∧ t.evBit 133 = true ∧ (t.ring n).busy = false ∧
        Frame (fun a => a == (State.ringState n).addr || a == R.HST_ERR || a == R.HST_ERRCNT) s t))

/-- O47: (1) when a frame is wholly in its buffer, that buffer is the newest, the source counts it, the descriptor is written back and the
ring takes its next entry; in peer mode a doorbell that names the buffer NEXT does the same for it, and any other is refused with
code 6 and event 134.
(2) a paging COPY writes its bytes to local DRAM and a MAP writes its page entry into the page table; each counts as done, ends its
descriptor, and raises event 132 where the descriptor asks for it.
Where the spec leaves a point open it rests on the model's choices of log entries 13, 16. -/
def Obligations.BuffersAndPaging : Prop :=
  (∀ (n i : Fin 8) (data : List Byte) (s : State), s.asleep = false → s.present .HST = true → s.present .SND = true →
    ((s.ring n).busy = true → (s.ring n).buf = i.val → data.length = s.srcBytes n → s.bufAddr n i + data.length ≤ s.dramSize →
      Completes (.bufferComplete (n.castSucc) data) s fun t =>
        t.f (F.HST_SRC_STAT_NEWEST n) = i.val ∧ t.f (F.HST_SRC_STAT_NEWV n) = 1 ∧
        t.f (F.HST_SRCN_DONE_COUNT n) = (s.f (F.HST_SRCN_DONE_COUNT n) + 1) % 2 ^ 32 ∧
        Mem.read t.dram (s.bufAddr n i) data.length = data ∧
        (∀ x, x < s.bufAddr n i ∨ s.bufAddr n i + data.length ≤ x → Mem.get t.dram x = Mem.get s.dram x) ∧
        t.f (State.ringTail n) = (s.f (State.ringTail n) + 1) % 2 ^ s.f (State.ringLog2 n) % 2 ^ 12 ∧ (t.ring n).busy = false ∧
        ((s.ring n).stopping = true → t.f (State.ringState n) = 0) ∧
        ((numAt (s.ring n).desc 12 1).testBit 0 = true → (t.reg R.HST_SRC_DONE).getLsbD n.val = true ∧ t.evBit 136 = true) ∧
        (∃ b, Out.hostWrite (s.descAddr n + 16) b ∈ t.outs) ∧
        (∀ a, a ≠ R.HST_SRC_STAT n → a ≠ R.HST_SRCN_DONE n → a ≠ R.HST_SRC_TAIL n → a ≠ R.HST_SRC_DONE → evReg a = false →
          t.reg a = s.reg a)) ∧
    ((s.ring n).busy = false → exec (.bufferComplete n.castSucc data) s = .next s) ∧
    (s.f (F.HST_SRC_CTL_MODE n) = 1 →
      (i.val = s.f (F.HST_SRC_STAT_NEXT n) → i.val < s.f (F.HST_SRC_CTL_NLBUF n) → Completes (.peerDoorbell n i) s fun t =>
        t.f (F.HST_SRC_STAT_NEWEST n) = i.val ∧ t.f (F.HST_SRC_STAT_NEWV n) = 1 ∧
        t.f (F.HST_SRCN_DONE_COUNT n) = (s.f (F.HST_SRCN_DONE_COUNT n) + 1) % 2 ^ 32 ∧
        Frame (fun a => a == R.HST_SRC_PEERDONE n || a == R.HST_SRC_STAT n || a == R.HST_SRCN_DONE n) s t) ∧
      (¬ (i.val = s.f (F.HST_SRC_STAT_NEXT n) ∧ i.val < s.f (F.HST_SRC_CTL_NLBUF n)) → Completes (.peerDoorbell n i) s fun t =>
        t.f F.HST_ERR_CODE = 6 ∧ t.f F.HST_ERR_RING = n.val ∧ t.f F.HST_ERRCNT_COUNT = (s.f F.HST_ERRCNT_COUNT + 1) % 2 ^ 32 ∧
        t.evBit 134 = true ∧ Frame (fun a => a == R.HST_SRC_PEERDONE n || a == R.HST_ERR || a == R.HST_ERRCNT) s t))) ∧
  (∀ (data : List Byte) (d : List Byte) (s : State), s.asleep = false → s.present .HST = true → s.present .REL = true →
    (s.ring 8).busy = true → (s.ring 8).desc = d → d.length = 32 →
    ∀ c a b,
      (c = .pagingCopy data ∧ numAt d 0 1 = 1 ∧ a = numAt d 16 8 ∧ b = padTo (numAt d 4 4) data ∨
        c = .pagingMap ∧ numAt d 0 1 = 2 ∧ b = slice d 16 16 ∧
          a = s.f F.REL_PT_BASE_LO_BASE + 2 ^ 32 * s.f F.REL_PT_BASE_HI_BASE + 16 * numAt d 8 8) →
      a + b.length ≤ s.dramSize →
      Completes c s fun t => Mem.read t.dram a b.length = b ∧
        (∀ x, x < a ∨ a + b.length ≤ x → Mem.get t.dram x = Mem.get s.dram x) ∧
        t.f F.HST_PGR_DONE_COUNT = (s.f F.HST_PGR_DONE_COUNT + 1) % 2 ^ 32 ∧ (t.ring 8).busy = false ∧
        t.f F.HST_PGR_TAIL_TAIL = (s.f F.HST_PGR_TAIL_TAIL + 1) % 2 ^ s.f F.HST_PGR_CTL_LOG2 % 2 ^ 12 ∧
        ((numAt d 1 1).testBit 0 = true → t.evBit 132 = true) ∧ (∃ w, Out.hostWrite (s.descAddr 8 + 2) w ∈ t.outs) ∧
        (∀ r, r ≠ R.HST_PGR_DONE → r ≠ R.HST_PGR_TAIL → r ≠ R.HST_PGR_CTL → evReg r = false → t.reg r = s.reg r))

/-- O48: (1) a reel command for a player that is Off, one that comes while the joint is open (DSP_STATUS.JOIN), or one with an impossible
time of day, is refused with RESULT 3 and changes nothing else; one
that is well formed is scheduled, with RESULT 1 and the slot and frame of its time, and one whose time is past is late: it is counted and raises event 81.
(2) the player prefetches the first clip frame ahead that it does not have; a frame on one page of local DRAM is ready in place; a page
that the table does not map, or that cannot be read, is reported with its number, its cause and its event.
Where the spec leaves a point open it rests on the model's choices of log entry 21. -/
def Obligations.Reels : Prop :=
  (∀ (p : Fin 8) (kind : Nat) (c : Instr) (s : State), s.asleep = false → s.present .REL = true → s.present .PAR = false →
    (kind, c) ∈ [(1, Instr.reelPlay p), (2, .reelPause p), (3, .reelSeek p)] →
    (s.f (F.REL_P_STAT_STATE p) = 0 ∨ 999999999 < s.f F.REL_ACT_NS_NS ∨ s.framed = false ∨ s.on F.DSP_STATUS_JOIN = true ∨
        kind = 3 ∧ s.f (F.REL_P_FRAMES_FRAMES p) ≤ s.f F.REL_SEEK_FRAME →
      Completes c s fun t => t.f F.REL_ACT_STAT_RESULT = 3 ∧ t.hst = s.hst ∧
        Frame (fun a => a == R.REL_CMD || a == R.REL_ACT_STAT) s t) ∧
    (s.f (F.REL_P_STAT_STATE p) ≠ 0 → s.f F.REL_ACT_NS_NS ≤ 999999999 → s.framed = true → s.on F.DSP_STATUS_JOIN = false →
        (kind = 3 → s.f F.REL_SEEK_FRAME < s.f (F.REL_P_FRAMES_FRAMES p)) →
      Completes c s fun t => t.f F.REL_ACT_STAT_RESULT = 1 ∧
        (∃ a : Action, t.hst = { s.hst with reelActs := s.hst.reelActs ++ [a] } ∧ a.kind = kind ∧ a.player = p.val ∧
          (a.n, a.slot, a.late) = s.effective (s.f F.REL_ACT_SL_SEC + 2 ^ 32 * s.f F.REL_ACT_SH_SEC) (s.f F.REL_ACT_NS_NS) ∧
          t.f F.REL_ACT_STAT_SLOT = a.slot % 8 ∧ t.f F.REL_ACT_STAT_FRAME = a.n % 2 ^ 24 ∧ t.f F.REL_ACT_STAT_LATE = a.late.toNat ∧
          (a.late = true → t.f F.DSP_LATE_COUNT = (s.f F.DSP_LATE_COUNT + 1) % 2 ^ 32 ∧ t.evBit 81 = true)) ∧
        Frame (fun a => a == R.REL_CMD || a == R.REL_ACT_STAT || a == R.DSP_LATE) s t)) ∧
  (∀ (p : Fin 8) (data : List Byte) (failed : Option Nat) (fr m page len : Nat) (rest : List Nat) (s : State), s.asleep = false →
    s.present .REL = true → (s.f (F.REL_P_STAT_STATE p) = 0 ∨ s.f (F.REL_P_CTL_PREFETCH p) = 0 → exec (.reelFetchDone p data failed) s = .next s) ∧
    (s.f (F.REL_P_STAT_STATE p) ≠ 0 → s.clipAhead p (s.hst.reelPos.getD p 0) = fr :: rest →
      ((tabAt s.hst.ready p []).lookup fr).isNone = true → len = s.srcBytes (s.f (F.REL_P_CTL_SRC p)) → 0 < len →
      m = s.f (F.REL_P_START_LO_START p) + 2 ^ 32 * s.f (F.REL_P_START_HI_START p) + fr * s.f (F.REL_P_FSTRIDE_FSTRIDE p) →
      page = m / 2 ^ 21 → (m + len - 1) / 2 ^ 21 = page →
      (∀ a, State.pageOf (s.pageEntry page) = some (a, 3) → a + m % 2 ^ 21 + len ≤ s.dramSize → failed = none →
        Completes (.reelFetchDone p data failed) s fun t =>
          tabAt t.hst.ready p [] = tabAt s.hst.ready p [] ++ [(fr, a + m % 2 ^ 21)] ∧
          t.f (F.REL_P_STAT_READY p) = min ((tabAt s.hst.ready p []).length + 1) 7 ∧ Frame (fun b => b == R.REL_P_STAT p) s t) ∧
      (∀ cause ev, (State.pageOf (s.pageEntry page) = none ∧ cause = 1 ∧ ev = 129 ∨
          (State.pageOf (s.pageEntry page)).isSome = true ∧ failed = some 0 ∧ cause = 2 ∧ ev = 130) →
        Completes (.reelFetchDone p data failed) s fun t =>
          t.f F.REL_FAULT_PAGE = page % 2 ^ 21 ∧ t.f F.REL_FAULT_CAUSE = cause ∧ t.f F.REL_FAULT_PLAYER = p.val ∧
          t.f F.REL_FAULTS_COUNT = (s.f F.REL_FAULTS_COUNT + 1) % 2 ^ 32 ∧ t.evBit ev = true ∧
          Frame (fun b => b == R.REL_FAULT || b == R.REL_FAULTS) s t)))

/-- O49: (1) a member of a pair sends its heartbeat down the pair link and counts the milliseconds of a Resync with it.  A heartbeat from
the wrong end, or of another image, is shown as such and not used; a good one shows the partner and its state.
(2) the loss of the partner leaves a Primary Degraded with event 317 and its count, and starts the Resync of a member in Resync
again; a Secondary in sync takes over by itself where AUTOPROMOTE is 1, and a preferred member alone becomes Degraded when BOOTWAIT
ends; a Resync that takes too long is counted and begins again.
Where the spec leaves a point open it rests on the model's choices of log entries 120, 122, 127, 131. -/
def Obligations.HeartbeatsAndPartnerLoss : Prop :=
  (∀ (b : List Byte) (s : State), s.asleep = false →
    (s.present .PAR = false → exec .heartbeatSend s = .next s ∧ exec (.heartbeatRx b) s = .next s) ∧
    (s.present .PAR = true →
      (s.pairState ≠ 4 → (s.port 8).idle = false → (s.port 8).loopIn = 0 → Completes .heartbeatSend s fun t =>
        (t.port 8).txq = (s.port 8).txq ++ [(s.mkFrame 0x80 0 s.partnerAddr [] s.heartbeat).bytes] ∧ Frame noReg s t) ∧
      (s.pairState = 4 → s.f F.PAR_STATUS_RSTEP ≠ 3 → Completes .heartbeatSend s fun t =>
        t.f F.PAR_RSYNC_MS_MS = min (s.f F.PAR_RSYNC_MS_MS + 1) 65535 ∧ Frame (fun a => a == R.PAR_RSYNC_MS) s t) ∧
      (numAt b 2 1 % 2 = s.f F.PAR_CFG_END → Completes (.heartbeatRx b) s fun t => t.f F.PAR_STATUS_ENDERR = 1 ∧
        t.f F.PAR_STATUS_HB = s.f F.PAR_STATUS_HB ∧ t.par = s.par ∧ Frame (fun a => a == R.PAR_STATUS) s t) ∧
      (numAt b 2 1 % 2 ≠ s.f F.PAR_CFG_END → slice b 20 32 ≠ padTo 32 (Img.hash s.runImg) → Completes (.heartbeatRx b) s fun t =>
        t.f F.PAR_STATUS_ENDERR = 0 ∧ t.f F.PAR_STATUS_HASHERR = 1 ∧ t.par = s.par ∧ Frame (fun a => a == R.PAR_STATUS) s t) ∧
      (numAt b 2 1 % 2 ≠ s.f F.PAR_CFG_END → slice b 20 32 = padTo 32 (Img.hash s.runImg) →
        (s.pairState = 3 → Completes (.heartbeatRx b) s fun t =>
          t.f F.PAR_STATUS_HB = 1 ∧ t.f F.PAR_STATUS_ENDERR = 0 ∧ t.f F.PAR_STATUS_HASHERR = 0 ∧
          t.f F.PAR_STATUS_PPSTATE = numAt b 0 1 % 8 ∧ t.f F.PAR_STATUS_PVERD = numAt b 1 1 % 4 ∧
          t.f F.PAR_PGEN_GEN = numAt b 4 4 ∧ t.f F.PAR_PDIGEST_DIGEST = numAt b 8 4 ∧ t.pairState = 3 ∧ t.par.hb = b ∧
          Frame (fun a => a == R.PAR_STATUS || a == R.PAR_PGEN || a == R.PAR_PDIGEST || a == R.PAR_MIRROR) s t) ∧
        (s.pairState = 2 → numAt b 0 1 = 3 → Completes (.heartbeatRx b) s fun t =>
          t.pairState = 1 ∧ t.f F.PAR_STATUS_HB = 1 ∧ t.evBit 312 = true ∧ t.f F.CMC_STATUS_MASTER = 1) ∧
        (s.pairState = 1 ∨ s.pairState = 2 → numAt b 0 1 = 1 ∨ numAt b 0 1 = 2 → s.f F.CMT_GEN_GEN < numAt b 4 4 →
          Completes (.heartbeatRx b) s fun t =>
            t.pairState = 4 ∧ t.f F.PAR_STATUS_RSTEP = 1 ∧ t.f F.PAR_LAST_CAUSE = 6 ∧ t.f F.CMC_STATUS_MASTER = 0 ∧
            t.evBit 312 = true)))) ∧
  (∀ (s : State), s.asleep = false →
    (s.heard = false → exec .partnerLost s = .next s) ∧
    (s.heard = true →
      (s.isPrimary = true → Completes .partnerLost s fun t => t.f F.PAR_STATUS_HB = 0 ∧ t.pairState = 2 ∧
        t.f F.PAR_LOSS_COUNT = (s.f F.PAR_LOSS_COUNT + 1) % 2 ^ 32 ∧ t.evBit 317 = true ∧ (s.pairState = 1 → t.evBit 312 = true)) ∧
      (s.pairState = 3 → Completes .partnerLost s fun t => t.f F.PAR_STATUS_HB = 0 ∧ t.pairState = 3 ∧
        Frame (fun a => a == R.PAR_STATUS) s t) ∧
      (s.pairState = 4 → Completes .partnerLost s fun t => t.f F.PAR_STATUS_HB = 0 ∧ t.pairState = 4 ∧ t.f F.PAR_STATUS_RSTEP = 1 ∧
        t.f F.PAR_RSYNC_MS_MS = 0 ∧ Frame (fun a => a == R.PAR_STATUS || a == R.PAR_RSYNC_MS) s t)) ∧
    (s.present .PAR = true → s.heard = false → s.pairState = 3 →
      (s.on F.PAR_CFG_AUTOPROMOTE = true → Completes .autopromote s fun t => t.pairState = 2 ∧ t.f F.PAR_LAST_CAUSE = 4 ∧
        t.f F.CMC_STATUS_MASTER = 1 ∧ t.f F.PAR_TAKEOVERS_COUNT = (s.f F.PAR_TAKEOVERS_COUNT + 1) % 2 ^ 32 ∧ t.evBit 312 = true ∧
        t.evBit 316 = true) ∧
      (s.on F.PAR_CFG_AUTOPROMOTE = false → exec .autopromote s = .next s)) ∧
    (s.present .PAR = true → s.heard = false → s.pairState = 4 →
      (s.on F.PAR_CFG_PREF = true → s.portsOn.filter s.portUp = [] → Completes .bootwaitExpiry s fun t =>
        t.pairState = 2 ∧ t.f F.PAR_LAST_CAUSE = 1 ∧ t.f F.CMC_STATUS_MASTER = 1 ∧ t.evBit 312 = true) ∧
      (s.on F.PAR_CFG_PREF = false → exec .bootwaitExpiry s = .next s)) ∧
    (s.present .PAR = true → s.pairState = 4 → s.par.rsyncAt.isSome = true → Completes .resyncTimeout s fun t =>
      t.f F.PAR_RSYNC_FAIL_COUNT = (s.f F.PAR_RSYNC_FAIL_COUNT + 1) % 2 ^ 32 ∧ t.evBit 318 = true ∧ t.f F.PAR_STATUS_RSTEP = 1 ∧
      t.par.rsyncAt = none) ∧
    (s.par.rsyncAt = none → exec .resyncTimeout s = .next s))

/-- O50: a frame of the Primary is applied once, in its order, by its partner: a MIRROR writes the staged bits of the registers it
names, a COMMIT waits for its snapshot, an ACTION of the wall is kept and one of the reel is scheduled, the poll state of the Primary is
collected and, once whole, taken tile by tile; a frame that is not the next changes nothing.
Where the spec leaves a point open it rests on the model's choices of log entries 119, 125, 135. -/
def Obligations.PairFramesApply : Prop :=
  ∀ (tag : BitVec 12) (tspec payload : List Byte) (s : State), s.asleep = false → s.present .PAR = true → (s.pairNext 0x81 tag.toNat = false → exec (.mirrorRx tag payload) s = .next s) ∧
    (s.pairNext 0x82 tag.toNat = false → exec (.pairCommitRx tag tspec payload) s = .next s) ∧
    (s.pairNext 0x83 tag.toNat = false → exec (.snapdataRx tag tspec payload) s = .next s) ∧
    (s.pairNext 0x84 tag.toNat = false → exec (.pairActionRx tag payload) s = .next s) ∧
    (s.pairNext 0x85 tag.toNat = false → exec (.handoverRx tag tspec payload) s = .next s) ∧
    (s.pairNext 0x86 tag.toNat = false → exec (.pollstateRx tag tspec payload) s = .next s) ∧
    (s.pairNext 0x88 tag.toNat = false → exec (.stateRx tag tspec payload) s = .next s) ∧
    (s.pairState = 3 ∨ s.pairState = 4 →
      (∀ a : Nat, ∀ v : Word, s.pairNext 0x81 tag.toNat = true → a < 2 ^ 23 → State.mirrored a = true → s.hiddenBits a = 0 →
        payload = leBytes 4 a ++ leBytes 4 v.toNat → Completes (.mirrorRx tag payload) s fun t =>
          (∀ b, RegFile.get t.stage b =
            if b = a then (RegFile.get s.stage a &&& ~~~ stMask a) ||| (v &&& stMask a) else RegFile.get s.stage b) ∧
          t.f F.PAR_MIRROR_SENT = tag.toNat ∧ tabAt t.par.rxTag 0 0 = tag.toNat ∧ (∀ b, b ≠ R.PAR_MIRROR → t.reg b = s.reg b)) ∧
      (s.pairNext 0x82 tag.toNat = true → Completes (.pairCommitRx tag tspec payload) s fun t =>
        t.par.commit = some (tspec, payload) ∧ t.par.snap = [] ∧ tabAt t.par.rxTag 1 0 = tag.toNat ∧ Frame noReg s t) ∧
      (s.pairNext 0x83 tag.toNat = true →
        (s.par.snap.length + payload.length < numAt tspec 4 4 → Completes (.snapdataRx tag tspec payload) s fun t =>
          t.par.snap = s.par.snap ++ payload ∧ tabAt t.par.rxTag 2 0 = tag.toNat ∧ Frame noReg s t) ∧
        (numAt tspec 4 4 ≤ s.par.snap.length + payload.length → s.par.commit = none → s.pairState = 4 →
          Completes (.snapdataRx tag tspec payload) s fun t => t.par.snap = [] ∧
            t.regs = setMirrored s.regs (State.snapParse (s.par.snap ++ payload)).1 ∧
            t.stage = setMirrored s.stage (State.snapParse (s.par.snap ++ payload)).1 ∧
            t.snd.cache = (State.snapParse (s.par.snap ++ payload)).2.1) ∧
        (numAt tspec 4 4 ≤ s.par.snap.length + payload.length → s.par.commit.isSome = true → s.framed = false →
          Completes (.snapdataRx tag tspec payload) s fun t =>
            t.pairState = 4 ∧ t.f F.PAR_STATUS_RSTEP = 1 ∧ t.par.commit = none ∧ t.cmt = s.cmt)) ∧
      (s.pairNext 0x84 tag.toNat = true → s.framed = true →
        (numAt payload 0 1 = 0 → s.pairState = 4 → Completes (.pairActionRx tag payload) s fun t =>
          (∃ x : Action, t.dsp = { s.dsp with aseq := numAt payload 12 2, wallActs := s.dsp.wallActs ++ [x] } ∧
            x.kind = numAt payload 1 1 ∧ x.rampM1 = numAt payload 2 1 ∧ x.slot = numAt payload 3 1 ∧ x.aseq = numAt payload 12 2) ∧
          tabAt t.par.rxTag 3 0 = tag.toNat ∧ Frame noReg s t) ∧
        (numAt payload 0 1 = 0 → s.pairState = 3 → Completes (.pairActionRx tag payload) s fun t =>
          t.dsp.aseq = numAt payload 12 2 ∧ t.dsp.actCopies.length = s.dsp.actCopies.length + 1 ∧ Frame noReg s t) ∧
        (numAt payload 0 1 ≠ 0 → s.present .REL = true → Completes (.pairActionRx tag payload) s fun t =>
          (∃ x : Action, t.hst = { s.hst with reelActs := s.hst.reelActs ++ [x] } ∧ x.kind = numAt payload 1 1 ∧
            x.player = numAt payload 2 1 % 8 ∧ x.slot = numAt payload 3 1 ∧ x.seek = numAt payload 4 4) ∧ Frame noReg s t)) ∧
      (s.pairNext 0x86 tag.toNat = true → s.par.hand.length + payload.length < numAt tspec 0 4 →
        Completes (.pollstateRx tag tspec payload) s fun t =>
          t.par.hand = s.par.hand ++ payload ∧ tabAt t.par.rxTag 5 0 = tag.toNat ∧ Frame noReg s t) ∧
      (∀ (port : Fin 8) (addr : Fin 96), s.pairNext 0x86 tag.toNat = true → s.par.hand = [] → payload.length = 16 → numAt tspec 0 4 ≤ 16 →
        numAt payload 0 1 = port.val → numAt payload 1 1 = addr.val + 1 → numAt payload 12 2 = 0 →
        Completes (.pollstateRx tag tspec payload) s fun t => t.par.hand = [] ∧
          t.tileState port.val (addr.val + 1) = numAt payload 2 1 % 2 ^ (F.CMC_T_TSTATE port.val (addr.val + 1)).width ∧
          t.f (F.CMC_T_MISSES port (addr.val + 1)) = numAt payload 3 1 ∧ (t.tile port.val (addr.val + 1)).unacked = [] ∧
          Frame (fun b => b == R.CMC_T port (addr.val + 1)) s t))

/-- O51: (1) a HANDOVER that is whole makes the partner in sync the Degraded member, with event 314; the STATE stream is collected, and its
closing frame names the frame of the join; RELAY names the port and direction of the frame that follows.
(2) a frame that the partner has not acknowledged is sent again and counted, three times; the fourth breaks the pair: a Primary in
sync is Degraded and a Secondary in sync goes to Resync.
(3) PAR_CMD asks a Secondary that hears no partner to take over at the next boundary, asks the partner to reset, and makes a Primary
send its state again; the end of a snapshot copy shows the copy's generation and time.
Where the spec leaves a point open it rests on the model's choices of log entries 105, 121, 123, 133. -/
def Obligations.PairHandoverResendsAndCommands : Prop :=
  (∀ (tag : BitVec 12) (tspec payload : List Byte) (port : Fin 8) (dir : Fin 2) (s : State), s.asleep = false →
    s.present .PAR = true → (s.pairNext 0x85 tag.toNat = true → s.pairState ≠ 3 → Completes (.handoverRx tag tspec payload) s fun t =>
      tabAt t.par.rxTag 4 0 = tag.toNat ∧ t.par = { s.par with rxTag := t.par.rxTag } ∧ Frame noReg s t) ∧
    (s.pairNext 0x85 tag.toNat = true → s.pairState = 3 →
      (s.par.hand.length + payload.length < numAt tspec 0 4 → Completes (.handoverRx tag tspec payload) s fun t =>
        t.par.hand = s.par.hand ++ payload ∧ t.pairState = 3 ∧ Frame noReg s t) ∧
      (s.par.hand = [] → payload = [] → numAt tspec 0 4 = 0 → Completes (.handoverRx tag tspec payload) s fun t =>
        t.pairState = 2 ∧ t.f F.PAR_LAST_CAUSE = 2 ∧ t.f F.CMC_STATUS_MASTER = 1 ∧
        t.f F.PAR_TAKEOVERS_COUNT = (s.f F.PAR_TAKEOVERS_COUNT + 1) % 2 ^ 32 ∧ t.evBit 314 = true ∧ t.evBit 312 = true)) ∧
    (s.pairNext 0x88 tag.toNat = true → s.pairState = 4 →
      (numAt tspec 0 4 = 0 → 4 ≤ s.f F.PAR_STATUS_RSTEP → Completes (.stateRx tag tspec payload) s fun t =>
        t.par.joinAt = some (numAt payload 0 8) ∧ t.par.joinGen = numAt payload 8 4 ∧ Frame noReg s t) ∧
      (s.par.state.length + payload.length < numAt tspec 0 4 → Completes (.stateRx tag tspec payload) s fun t =>
        t.par.state = s.par.state ++ payload ∧ tabAt t.par.rxTag 7 0 = tag.toNat ∧ Frame noReg s t)) ∧
    Completes (.relayRx port dir) s (fun t => t.par = { s.par with relay := some (port.val, dir.val) } ∧ Frame noReg s t) ∧
    (s.steady = true → Completes (.resetreqRx false) s (InReset 2 7 s))) ∧
  (∀ (u : Unacked) (s : State), s.asleep = false → s.present .PAR = true → (s.port 8).idle = false → (s.port 8).loopIn = 0 →
    (s.par.unacked = [] → exec .pairResend s = .next s) ∧
    (s.par.unacked = [u] → u.resends < 3 → Completes .pairResend s fun t =>
      t.par.unacked = [{ u with resends := u.resends + 1 }] ∧ (t.port 8).txq = (s.port 8).txq ++ [u.block] ∧
      t.f F.PAR_RESEND_COUNT = (s.f F.PAR_RESEND_COUNT + 1) % 2 ^ 32 ∧ Frame (fun a => a == R.PAR_RESEND) s t) ∧
    (s.par.unacked = [u] → u.resends = 3 → Completes .pairResend s fun t =>
      t.par.unacked = [] ∧ t.f F.PAR_RESEND_COUNT = (s.f F.PAR_RESEND_COUNT + 1) % 2 ^ 32 ∧
      (s.pairState = 1 → t.pairState = 2 ∧ t.evBit 312 = true) ∧
      (s.pairState = 3 → t.pairState = 4 ∧ t.f F.PAR_STATUS_RSTEP = 1 ∧ t.evBit 312 = true))) ∧
  (∀ (k : Nat) (s : State), s.asleep = false → s.present .PAR = true →
    (s.isSecondary = true → s.heard = false → Completes .parTake s fun t =>
      t.par = { s.par with takeAsk := true } ∧ t.pairState = s.pairState ∧ Frame (fun a => a == R.PAR_CMD) s t) ∧
    (s.heard = true → Completes .parTake s fun t => t.par = s.par ∧ Frame (fun a => a == R.PAR_CMD) s t) ∧
    ((s.port 8).idle = false → (s.port 8).loopIn = 0 → Completes .parResetPartner s fun t =>
      (t.port 8).txq = (s.port 8).txq ++ [(s.mkFrame 0x89 0 s.partnerAddr [] []).bytes] ∧ Frame (fun a => a == R.PAR_CMD) s t) ∧
    (s.isPrimary = true → s.heard = true → s.snapNewest = none → Completes .parRestartResync s fun t =>
      t.par.rsyncAt = some s.clk.now ∧ t.par.joinAt = none ∧ s.par.unacked.length < t.par.unacked.length ∧
      Frame (fun a => a == R.PAR_CMD) s t) ∧
    (s.isPrimary = false → Completes .parRestartResync s fun t => t.par = s.par ∧ Frame (fun a => a == R.PAR_CMD) s t) ∧
    (s.par.snapBusy = none → exec .pairSnapshotDone s = .next s) ∧
    (s.par.snapBusy = some k → s.mramOk = false → Completes .pairSnapshotDone s fun t =>
      t.par.snapBusy = none ∧ t.f F.THM_MREF_COUNT = (s.f F.THM_MREF_COUNT + 1) % 2 ^ 32 ∧ t.evBit 28 = true ∧
      Frame (fun a => a == R.THM_MREF) s t) ∧
    (s.par.snapBusy = some k → k < 2 → s.mramOk = true → s.par.snapCopy.length ≤ 1048576 → ∀ at' gen, s.par.snapAt = some (at', gen) →
      Completes .pairSnapshotDone s fun t =>
        t.par.snapBusy = none ∧ Mem.read t.mram (0x700000 + 0x100000 * k) s.par.snapCopy.length = s.par.snapCopy ∧
        t.f F.PAR_SNAP_GEN = gen % 2 ^ 32 ∧ t.f F.PAR_SNAP_TIME_SEC = State.secOf s.clk.wall % 2 ^ 32 ∧
        (∀ a, a ≠ R.PAR_SNAP → a ≠ R.PAR_SNAP_TIME → t.reg a = s.reg a)))

/-- O52: with no check enabled the Goose's verdict is OK; an enabled thermal check at stage 2 makes it Abdicate at once, with events 62
and, where the verdict changes, 60; the level of that check is kept for 10 s when it falls.  A core that lets its watchdog expire is counted, raises
event 49, and asks for its own reset; a core that does not run has no watchdog.
Where the spec leaves a point open it rests on the model's choices of log entries 146, 147, 148. -/
def Obligations.GooseAndWatchdogs : Prop :=
  ∀ (plls : Bool) (c : Fin 4) (s : State), s.asleep = false →
    (s.coreUp 3 = false → exec (.gooseEval plls) s = .next s) ∧
    (s.coreUp 3 = true → s.coreHeld 3 = false → s.f F.RPS_PWR_STAT_STATE = 0 → s.present .PAR = false → (s.f F.MGT_GSE_EN_EN = 0 → Completes (.gooseEval plls) s fun t =>
        t.f F.MGT_GSE_STAT_VERDICT = 0 ∧ t.f F.MGT_GSE_STAT_DCAUSE = 0 ∧ t.f F.MGT_GSE_STAT_ACAUSE = 0 ∧
        t.f F.MGT_GSE_STAT_WDFORCE = 0 ∧ (s.f F.MGT_GSE_STAT_VERDICT ≠ 0 → t.evBit 60 = true ∧
          t.f F.MGT_GSE_CHG_COUNT = (s.f F.MGT_GSE_CHG_COUNT + 1) % 2 ^ 32) ∧
        Frame (fun a => a == R.MGT_GSE_STAT || a == R.MGT_GSE_CHG) s t) ∧
      (s.f F.MGT_GSE_EN_EN = 32 → s.f F.THM_STATUS_STAGE = 2 → tabAt s.mgt.levels 5 0 < 2 → Completes (.gooseEval plls) s fun t =>
        t.f F.MGT_GSE_STAT_VERDICT = 2 ∧ t.f F.MGT_GSE_STAT_DCAUSE = 32 ∧ t.f F.MGT_GSE_STAT_ACAUSE = 32 ∧ t.evBit 62 = true ∧
        (s.f F.MGT_GSE_STAT_VERDICT ≠ 2 → t.evBit 60 = true) ∧ Frame (fun a => a == R.MGT_GSE_STAT || a == R.MGT_GSE_CHG) s t) ∧
      (s.f F.MGT_GSE_EN_EN = 32 → s.f F.THM_STATUS_STAGE = 0 → s.f F.THM_STATUS_WARN = 0 → tabAt s.mgt.levels 5 0 = 2 →
        ∀ since, tabAt s.mgt.lower 5 none = since → Completes (.gooseEval plls) s fun t =>
          (since = none → t.f F.MGT_GSE_STAT_VERDICT = 2 ∧ tabAt t.mgt.lower 5 none = some s.clk.now) ∧
          (∀ x, since = some x → t.f F.MGT_GSE_STAT_VERDICT = if x + 10000000000 ≤ s.clk.now then 1 else 2))) ∧
    (s.coreUp c = false ∨ s.f (F.MGT_WD_CTL_PERIOD c) = 0 → ∀ pulse, exec (.watchdogExpiry c pulse) s = .next s) ∧
    (s.coreUp c = true → s.f (F.MGT_WD_CTL_PERIOD c) ≠ 0 → s.present .PAR = false →
      Completes (.watchdogExpiry c true) s (fun t =>
        t.f (F.MGT_WD_CNT_COUNT c) = (s.f (F.MGT_WD_CNT_COUNT c) + 1) % 2 ^ 32 ∧ t.evBit 49 = true ∧
        t.f F.RPS_DEFER_COUNT = (s.f F.RPS_DEFER_COUNT + 1) % 2 ^ 32 ∧
        (c.val = 3 → t.f F.MGT_GSE_STAT_VERDICT = 2 ∧ t.f F.MGT_GSE_STAT_WDFORCE = 1 ∧ t.evBit 63 = true) ∧
        ((s.f F.MGT_STATUS_UNCONF).testBit c.val = true → t.evBit 52 = true) ∧
        Frame (fun a => a == R.MGT_WD_CNT c || a == R.RPS_DEFER || a == R.MGT_GSE_STAT || a == R.MGT_GSE_CHG) s t) ∧
      (s.steady = true → s.cmt.pend.any (·.heavy) = false → s.mgt.act = none → Completes (.watchdogExpiry c false) s fun t =>
        t.rps.cores = 2 ^ c.val ∧ t.f F.RPS_LAST_LEVEL = 1 ∧ t.f F.RPS_LAST_SOURCE = 3 ∧ 2 ∈ t.rps.owed ∧
        (t.f F.MGT_STATUS_RUNNING).testBit c.val = false ∧ t.evBit 49 = true))

/-- O53: a message sent through a window is taken into its core's queue, which holds eight, or turned away and counted with event 50;
a window that waits takes no second message, and an acknowledged one is idle.  PING is answered with its header, VERSION with the
versions of the four cores, and a command that the core does not know with status 8.
Where the spec leaves a point open it rests on the model's choices of log entries 98, 99, 100, 101. -/
def Obligations.Mailboxes : Prop :=
  ∀ (p : Fin 2) (c : Fin 4) (m : Msg) (q : List Msg) (s : State), s.asleep = false → (s.f (F.MGT_MW_STAT_SST p) = 1 ∨ s.f (F.MGT_MW_STAT_SST p) = 2 → Completes (.mailboxSend p c) s fun t =>
      t.mgt = s.mgt ∧ Frame (fun a => a == R.MGT_MW_SEND p) s t) ∧
    (s.f (F.MGT_MW_STAT_SST p) = 0 ∨ s.f (F.MGT_MW_STAT_SST p) = 3 →
      ((s.mbox c).length < 8 → Completes (.mailboxSend p c) s fun t =>
        t.f (F.MGT_MW_STAT_SST p) = 1 ∧ t.f (F.MGT_MB_STAT_LEVEL c) = (s.mbox c).length + 1 ∧
        (∃ ws, t.mbox c = s.mbox c ++ [{ path := p.val, words := ws, ref := p.val }] ∧ ws[0]? = some (s.reg (R.MGT_MW_BUF p 0))) ∧
        Frame (fun a => a == R.MGT_MW_SEND p || a == R.MGT_MW_STAT p || a == R.MGT_MB_STAT c) s t) ∧
      (8 ≤ (s.mbox c).length → Completes (.mailboxSend p c) s fun t =>
        t.f (F.MGT_MW_STAT_SST p) = 3 ∧ t.f (F.MGT_MB_OVF_COUNT c) = (s.f (F.MGT_MB_OVF_COUNT c) + 1) % 2 ^ 32 ∧ t.evBit 50 = true ∧
        t.mgt = s.mgt ∧ Frame (fun a => a == R.MGT_MW_SEND p || a == R.MGT_MW_STAT p || a == R.MGT_MB_OVF c) s t)) ∧
    Completes (.mailboxRack p) s (fun t => t.f (F.MGT_MW_STAT_SST p) = 0 ∧
      Frame (fun a => a == R.MGT_MW_RACK p || a == R.MGT_MW_STAT p) s t) ∧
    (s.mbox c = [] → exec (.infoPing c) s = .next s ∧ exec (.infoVersion c) s = .next s ∧ exec (.unsupportedCommand c) s = .next s) ∧
    (Asks c m q s →
      (m.svc = 0 → m.cmd = 1 → Completes (.infoPing c) s (Answered c m q [0])) ∧
      (m.svc = 0 → m.cmd = 2 → Completes (.infoVersion c) s
        (Answered c m q (0 :: (List.range 4).map fun k => s.f (F.MGT_CORE_VER_VERSION k)))) ∧
      (State.msgKnown c m = true → exec (.unsupportedCommand c) s = .next s) ∧
      (State.msgKnown c m = false → Completes (.unsupportedCommand c) s (Answered c m q [8])))

/-- O54: OPEN begins a session where none is held and its image fits, with event 40; another is refused while one is held; WRITE puts its
bytes into the update buffer; STATUS reads the session back; a holder's command without a session, or on another path, is refused.
Where the spec leaves a point open it rests on the model's choices of log entries 111, 112, 143. -/
def Obligations.UpdateSessions : Prop :=
  ∀ (m : Msg) (q : List Msg) (s : State), Asks 3 m q s → m.svc = 1 →
    (m.cmd = 1 → s.sessHeld = false →
      (m.word 1 % 8 < 4 → m.word 2 ≤ 458752 → Completes .updateOpen s fun t => Answered 3 m q [0] t ∧
        t.f F.MGT_SESS_STATE = 1 ∧ t.f F.MGT_SESS_HELD = 1 ∧ t.f F.MGT_SESS_PATH = m.path ∧ t.f F.MGT_SESS_TARGET = m.word 1 % 8 ∧
        t.f F.MGT_SESS_SESSTAG = m.word 1 / 2 ^ 16 % 2 ^ 16 ∧ t.reg R.MGT_SESS_BYTES = 0 ∧ t.ubuf = [] ∧ t.mgt.total = m.word 2 ∧
        t.evBit 40 = true) ∧
      (m.word 1 % 8 < 4 → 458752 < m.word 2 → Completes .updateOpen s fun t => Answered 3 m q [4] t ∧ t.sessHeld = false) ∧
      (4 < m.word 1 % 8 → Completes .updateOpen s fun t => Answered 3 m q [4] t ∧ t.sessHeld = false)) ∧
    (m.cmd = 1 → s.sessHeld = true → Completes .updateOpen s fun t =>
      Answered 3 m q [1 + s.f F.MGT_SESS_PATH * 2 ^ 8, s.f F.MGT_SESS_SESSTAG] t ∧ t.reg R.MGT_SESS = s.reg R.MGT_SESS ∧
      t.f F.MGT_BUSY_CNT_COUNT = (s.f F.MGT_BUSY_CNT_COUNT + 1) % 2 ^ 32 ∧ t.evBit 41 = true) ∧
    (m.cmd = 2 → s.sessHeld = true → s.f F.MGT_SESS_PATH = m.path → s.sessTarget ≠ 4 →
      s.sessState = 1 ∨ s.sessState = 2 ∨ s.sessState = 5 → m.word 1 % 4 = 0 → m.word 1 + (m.bytesFrom 2).length ≤ s.mgt.total →
      m.bytesFrom 2 ≠ [] → Completes .updateWrite s fun t => Answered 3 m q [0] t ∧ t.sessState = 1 ∧
        Mem.read t.ubuf (m.word 1) (m.bytesFrom 2).length = m.bytesFrom 2 ∧
        (∀ a, a < m.word 1 ∨ m.word 1 + (m.bytesFrom 2).length ≤ a → Mem.get t.ubuf a = Mem.get s.ubuf a) ∧
        t.f F.MGT_SESS_BYTES_BYTES =
          max (s.f F.MGT_SESS_BYTES_BYTES) (m.word 1 + (m.bytesFrom 2).length) % 2 ^ 32) ∧
    (m.cmd = 7 → Completes .updateStatus s fun t =>
      Answered 3 m q [0, (s.reg R.MGT_SESS).toNat, (s.reg R.MGT_SESS_BYTES).toNat] t ∧ t.reg R.MGT_SESS = s.reg R.MGT_SESS) ∧
    (∀ k c, (k, c) ∈ [(2, Instr.updateWrite), (3, .updateVerify), (4, .updateActivate), (5, .updateConfirm), (6, .updateAbort),
        (8, .updateClose)] → m.cmd = k →
      (s.sessHeld = false → Completes c s (Answered 3 m q [3])) ∧
      (s.sessHeld = true → s.f F.MGT_SESS_PATH ≠ m.path → Completes c s (Answered 3 m q [2])))

/-- O55: (1) VERIFY leaves the session Verified or Failed with the code of its check; ACTIVATE holds its core with the image of the buffer, or
refuses with the reason; CONFIRM ends the session and the core is confirmed; ABORT and CLOSE end it unless an activation is in
progress; a session that falls silent is ended and counted.
(2) the end of an activation writes the image to its slot and boots its core: a core that boots waits for confirmation, with event
44, and one that does not needs an image, with event 46.  A core under AUTOCONF that has run a minute without an expiry is confirmed.
Where the spec leaves a point open it rests on the model's choices of log entries 113, 137, 139, 140, 144, 145. -/
def Obligations.UpdateOutcomesAndActivations : Prop :=
  (∀ (m : Msg) (q : List Msg) (c : Nat) (s : State), Asks 3 m q s → m.svc = 1 → s.sessHeld = true → s.f F.MGT_SESS_PATH = m.path →
    s.sessTarget = c → c < 4 →
    (m.cmd = 3 → s.sessState = 1 → Completes .updateVerify s fun t =>
      t.sessState = (if s.fwCode c s.ubufImage = 0 then 2 else 5) ∧ (s.fwCode c s.ubufImage ≠ 0 → t.evBit 43 = true) ∧
      Answered 3 m q [if s.fwCode c s.ubufImage = 0 then 0 else 5 + s.fwCode c s.ubufImage * 2 ^ 8,
        (s.fwCold c s.ubufImage).toNat] t) ∧
    (m.cmd = 4 → s.sessState = 2 → Fw.svn s.ubufImage < s.f (F.MGT_CORE_SVN_CNT c) → Completes .updateActivate s fun t =>
      Answered 3 m q [6 + 7 * 2 ^ 8] t ∧ t.sessState = 2 ∧ t.mgt.act = s.mgt.act ∧ t.evBit 48 = true) ∧
    (m.cmd = 4 → s.sessState = 2 → c < 3 → s.f (F.MGT_CORE_SVN_CNT c) ≤ Fw.svn s.ubufImage →
      s.fwCompatible c s.ubufImage = true → s.fwCold c s.ubufImage = false ∨ m.word 1 % 2 = 1 → s.slotsLocked = false →
      s.mgt.act = none → s.mramOk = true → Completes .updateActivate s fun t =>
        Answered 3 m q [0] t ∧ t.sessState = 3 ∧ t.mgt.act = some { core := c, image := s.ubufImage } ∧ t.coreUp c = false ∧
        t.coreHeld c = true ∧ Mem.read t.mram (State.fwBase c + 0x7FFF8) 8 = List.replicate 8 0) ∧
    (m.cmd = 5 → s.sessState = 4 → s.f (F.MGT_CORE_SVN_SVN c) ≤ s.f (F.MGT_CORE_SVN_CNT c) → Completes .updateConfirm s fun t =>
      Answered 3 m q [0] t ∧ t.reg R.MGT_SESS = 0 ∧ t.ubuf = [] ∧ (t.f F.MGT_STATUS_UNCONF).testBit c = false ∧ t.evBit 45 = true) ∧
    (∀ k i, (k, i) ∈ [(6, Instr.updateAbort), (8, .updateClose)] → m.cmd = k →
      (s.sessState = 3 → Completes i s fun t => Answered 3 m q [3] t ∧ t.reg R.MGT_SESS = s.reg R.MGT_SESS) ∧
      (s.sessState ≠ 3 → Completes i s fun t => Answered 3 m q [0] t ∧ t.reg R.MGT_SESS = 0 ∧ t.ubuf = [])) ∧
    (Completes .sessionTimeout s fun t => t.sessHeld = false ∧ t.evBit 42 = true ∧
      t.f F.MGT_SESS_CNT_COUNT = (s.f F.MGT_SESS_CNT_COUNT + 1) % 2 ^ 32 ∧ (s.sessState = 3 → t.sessState = 3) ∧
      (s.sessState ≠ 3 → t.reg R.MGT_SESS = 0 ∧ t.ubuf = []))) ∧
  (∀ (c : Fin 4) (img : List Byte) (pulse : Bool) (s : State), s.asleep = false →
    (s.mgt.act = none → exec (.activationComplete pulse) s = .next s) ∧
    (s.mgt.act = some { core := c.val, image := img } → img.length ≤ 0x7FFF8 → s.mramOk = true →
      (c.val = 1 → s.isSender = false ∨ s.on F.CMC_STATUS_MASTER = false) → (c.val = 0 → (s.f F.MGT_STATUS_NEEDIMG).testBit 0 = false) → Completes (.activationComplete pulse) s fun t =>
        t.mgt.act = none ∧ t.coreHeld c.val = s.rps.held ∧ Mem.read t.mram (State.fwBase c) img.length = img ∧
        (t.coreUp c = true → (t.f F.MGT_STATUS_UNCONF).testBit c.val = true ∧ t.evBit 44 = true ∧
          (s.sessHeld = true → t.sessState = 4)) ∧
        (t.coreUp c = false → (t.f F.MGT_STATUS_NEEDIMG).testBit c.val = true ∧ t.evBit 46 = true ∧
          (s.sessHeld = true → t.sessState = 5))) ∧
    (s.on F.MGT_CONF_CTL_AUTOCONF = true → (s.f F.MGT_STATUS_UNCONF).testBit c.val = true → s.coreUp c = true →
      s.f (F.MGT_CORE_SVN_SVN c) ≤ s.f (F.MGT_CORE_SVN_CNT c) → Completes (.autoconfirm c) s fun t =>
        (t.f F.MGT_STATUS_UNCONF).testBit c.val = false ∧ t.evBit 45 = true ∧ Frame (fun a => a == R.MGT_STATUS) s t) ∧
    (s.on F.MGT_CONF_CTL_AUTOCONF = false → exec (.autoconfirm c) s = .next s))

/-- O56: (1) a request for Doze or Standby is refused with its code and event 6 while something stands against it, and is otherwise accepted
for a frame, or taken at once by a device that has no frames; a cancellation withdraws it.
(2) in Standby a source of wake that is enabled starts the wake and shows itself; a source that is not does nothing; a wake that
fails returns the device to Standby with event 10 owed.
(3) a Sender sends the wake tone on the ports named that it uses, each of which transmits again when the tone ends, with event 13;
a tile that was relaying the tone stops with it.
Where the spec leaves a point open it rests on the model's choices of log entries 150, 151, 152, 200. -/
def Obligations.PowerStatesAndWakes : Prop :=
  (∀ (k : Nat) (c : Instr) (s : State), s.asleep = false → (k, c) ∈ [(1, Instr.dozeReq), (2, .standbyReq)] →
    (∀ code, (code = 1 ∧ k = 1 ∧ s.isTile = false ∨
        (k = 2 ∨ s.isTile = true) ∧
          (code = 2 ∧ s.sessState = 3 ∨
            s.sessState ≠ 3 ∧ (code = 3 ∧ s.cmt.pend ≠ [] ∨
              s.cmt.pend = [] ∧ (code = 4 ∧ (s.rps.latch = true ∨ s.rps.waking = true) ∨
                code = 5 ∧ s.rps.latch = false ∧ s.rps.waking = false ∧ 999999999 < s.f F.RPS_PWR_NS_NS)))) →
      Completes c s fun t => t.f F.RPS_PWR_STAT_RESULT = 3 ∧ t.f F.RPS_PWR_STAT_CODE = code ∧ t.evBit 6 = true ∧ t.rps = s.rps ∧
        Frame (fun a => a == R.RPS_PWR_REQ || a == R.RPS_PWR_STAT) s t) ∧
    (k = 2 ∨ s.isTile = true → s.sessState ≠ 3 → s.cmt.pend = [] → s.rps.latch = false → s.rps.waking = false →
      s.f F.RPS_PWR_NS_NS ≤ 999999999 →
      (s.framed = true →
        State.countOf (s.f F.RPS_PWR_SL_SEC + 2 ^ 32 * s.f F.RPS_PWR_SH_SEC) (s.f F.RPS_PWR_NS_NS) ≤ s.clk.wall → Completes c s fun t =>
          t.f F.RPS_PWR_STAT_RESULT = 1 ∧ t.f F.RPS_PWR_STAT_CODE = 0 ∧ t.rps = { s.rps with ask := some (k, s.frameNow + 1) } ∧
          Frame (fun a => a == R.RPS_PWR_REQ || a == R.RPS_PWR_STAT) s t) ∧
      (s.framed = false → k = 2 → Completes c s fun t =>
        t.asleep = true ∧ t.f F.RPS_PWR_STAT_RESULT = 2 ∧ t.f F.RPS_AON_PGCORE = 0 ∧ .pwrEn false ∈ t.outs)) ∧
    (s.rps.ask.isSome = true → Completes .powerCancel s fun t =>
      t.rps = { s.rps with ask := none } ∧ t.f F.RPS_PWR_STAT_RESULT = 0 ∧
      Frame (fun a => a == R.RPS_PWR_REQ || a == R.RPS_PWR_STAT) s t) ∧
    (s.rps.ask = none → Completes .powerCancel s fun t => t.rps = s.rps ∧ Frame (fun a => a == R.RPS_PWR_REQ) s t) ∧
    ((s.dozing && s.rps.relay) = false → exec .dozeRelayEnd s = .next s) ∧
    (s.dozing = true → s.rps.relay = true → Completes .dozeRelayEnd s fun t =>
      t.rps = { s.rps with relay := false, waking := true } ∧ (t.port 0).single = false ∧ (t.port 1).single = false ∧
      ∀ a, inBlk .LAN a = false → evReg a = false → t.reg a = s.reg a)) ∧
  (∀ (src : Fin 4) (s : State),
    (s.asleep = false → exec (.wake src) s = .next s ∧ exec .wakeFail s = .next s) ∧
    ((s.f F.RPS_WAKE_EN).testBit src.val = false → exec (.wake src) s = .next s) ∧
    (s.asleep = true → (s.f F.RPS_WAKE_EN).testBit src.val = true →
      (src.val = 2 → s.isSender = true ∧ s.on F.TIM_SREF_CTL_EN = true) → s.rps.waking = false → Completes (.wake src) s fun t =>
        t.rps.waking = true ∧ t.f F.RPS_WAKE_STAT_SRC = 2 ^ src.val ∧ (src.val = 1 → t.f F.RPS_AON_TONE = 1) ∧
        (src.val = 2 → t.f F.RPS_AON_SREF = 1) ∧ .pwrEn true ∈ t.outs ∧ t.asleep = true ∧
        Frame (fun a => a == R.RPS_WAKE_STAT || a == R.RPS_AON) s t) ∧
    (s.asleep = true → s.rps.waking = true → Completes .wakeFail s fun t =>
      t.rps.waking = false ∧ 10 ∈ t.rps.owed ∧ t.outs = s.outs ++ [.pwrEn false] ∧ Frame noReg s t)) ∧
  (∀ (path : Path) (v : Word) (s : State), s.asleep = false →
    (s.isSender = false → Completes (.toneGo path v) s fun t => t.rps = s.rps ∧ t.outs = s.outs ∧
      Frame (fun a => a == R.RPS_TONE_GO) s t) ∧
    (s.isSender = true → Completes (.toneGo path v) s fun t =>
      (∀ p, p < 8 → t.rps.tones.testBit p = (s.rps.tones.testBit p || s.portOn p && v.getLsbD p)) ∧
      (∀ p, p < 8 → s.portOn p = true → v.getLsbD p = true → .tone p true ∈ t.outs) ∧ Frame (fun a => a == R.RPS_TONE_GO) s t) ∧
    (s.isSender = false ∨ s.rps.tones = 0 → exec .toneEnd s = .next s) ∧
    (s.isSender = true → s.rps.tones ≠ 0 → Completes .toneEnd s fun t =>
      t.rps.tones = 0 ∧ t.evBit 13 = true ∧ (∀ p, p < 8 → s.rps.tones.testBit p = true → .tone p false ∈ t.outs) ∧
      (∀ p, p < 8 → s.rps.tones.testBit p = true → s.laneOn p = true → t.f (F.LAN_P_CTL_TXON p) = 1)) ∧
    (s.isSender = false → Completes .wakeToneCease s fun t =>
      t.f F.RPS_AON_TONE = 0 ∧ t.rps = { s.rps with tones := 0 } ∧ Frame (fun a => a == R.RPS_AON) s t))

/-- O57: (1) a good reading of a die sensor, with its trim added, is the sensor's value and clears its run of bad ones; a bad reading leaves
the value; the third in a row fails the sensor with event 23, and the sixteenth good one in a row restores it with event 24.
(2) a tile reads its enabled board sensors over their bus, in the format each is configured for; a sensor that is masked is read and
shown as masked, by a keyed write, with event 25.
Where the spec leaves a point open it rests on the model's choices of log entries 82, 93. -/
def Obligations.Sensors : Prop :=
  (∀ (d : Fin 12) (raw : Option Int) (v : Int) (s : State), s.asleep = false → s.masked d = false →
    (raw = some v → ∀ T, T = v + sgn 16 (leVal (s.recRead (0x1A0 + 2 * d.val) 2)) → -640 ≤ T → T ≤ 2400 →
      (tabAt s.thm.bad d 0 < 3 → Completes (.sensorConversion d raw) s fun t =>
        t.fS (F.THM_D_T16 d) = T ∧ t.f (F.THM_D_STATE d) = 1 ∧ tabAt t.thm.bad d 0 = 0 ∧
        tabAt t.thm.good d 0 = min 16 (tabAt s.thm.good d 0 + 1) ∧ (t.f F.THM_FAIL_DIE).testBit d.val = false ∧ t.outs = s.outs ∧
        Frame (fun a => a == R.THM_D d || a == R.THM_FAIL) s t) ∧
      (tabAt s.thm.bad d 0 = 3 → tabAt s.thm.good d 0 < 15 → Completes (.sensorConversion d raw) s fun t =>
        t.fS (F.THM_D_T16 d) = T ∧ t.f (F.THM_D_STATE d) = 2 ∧ tabAt t.thm.bad d 0 = 3 ∧ t.outs = s.outs ∧
        Frame (fun a => a == R.THM_D d || a == R.THM_FAIL) s t) ∧
      (tabAt s.thm.bad d 0 = 3 → 15 ≤ tabAt s.thm.good d 0 → Completes (.sensorConversion d raw) s fun t =>
        t.fS (F.THM_D_T16 d) = T ∧ t.f (F.THM_D_STATE d) = 1 ∧ tabAt t.thm.bad d 0 = 0 ∧ t.evBit 24 = true ∧
        (t.f F.THM_FAIL_DIE).testBit d.val = false ∧ Frame (fun a => a == R.THM_D d || a == R.THM_FAIL) s t)) ∧
    (raw = none ∨ (raw = some v ∧ (v + sgn 16 (leVal (s.recRead (0x1A0 + 2 * d.val) 2)) < -640 ∨
        2400 < v + sgn 16 (leVal (s.recRead (0x1A0 + 2 * d.val) 2)))) →
      (tabAt s.thm.bad d 0 < 2 → Completes (.sensorConversion d raw) s fun t =>
        t.f (F.THM_D_T16 d) = s.f (F.THM_D_T16 d) ∧ tabAt t.thm.bad d 0 = tabAt s.thm.bad d 0 + 1 ∧ tabAt t.thm.good d 0 = 0 ∧
        t.f (F.THM_D_STATE d) ≠ 2 ∧ t.outs = s.outs ∧ Frame (fun a => a == R.THM_D d || a == R.THM_FAIL) s t) ∧
      (tabAt s.thm.bad d 0 = 2 → Completes (.sensorConversion d raw) s fun t =>
        t.f (F.THM_D_T16 d) = s.f (F.THM_D_T16 d) ∧ t.f (F.THM_D_STATE d) = 2 ∧ (t.f F.THM_FAIL_DIE).testBit d.val = true ∧
        t.evBit 23 = true ∧ Frame (fun a => a == R.THM_D d || a == R.THM_FAIL) s t))) ∧
  (∀ (b : Fin 16) (w : BitVec 16) (path : Path) (v : Word) (s : State), s.asleep = false →
    (s.sensors.contains (16 + b.val) = false → exec (.boardSensorRead b (some w)) s = .next s) ∧
    (s.sensors.contains (16 + b.val) = true → s.masked (16 + b.val) = false → tabAt s.thm.bad (16 + b.val) 0 < 3 →
      ∀ T, T = (if s.on (F.THM_B_CFG_FMT b) then sgn 16 w.toNat else sgn 16 w.toNat / 16) → -640 ≤ T → T ≤ 2400 →
        Completes (.boardSensorRead b (some w)) s fun t => t.fS (F.THM_B_T16 b) = T ∧ t.f (F.THM_B_STATE b) = 1 ∧
          t.outs = s.outs ++ [.i3c (s.f (F.THM_B_CFG_BUS b)) (s.f (F.THM_B_DADDR b)) (leBytes 1 (s.f (F.THM_B_CFG_REGIDX b)))] ∧
          Frame (fun a => a == R.THM_B b || a == R.THM_FAIL) s t) ∧
    (F.THM_MASK_SET_KEY.get v ≠ 0x7E81 → Completes (.maskSet path v) s fun t => t.thm = s.thm ∧
      Frame (fun a => a == R.THM_MASK_SET) s t) ∧
    (F.THM_MASK_SET_KEY.get v = 0x7E81 → ∀ d : Fin 12, F.THM_MASK_SET_SENSOR.get v = d.val →
      (F.THM_MASK_SET_VALUE.get v = 1 → s.masked d = false → Completes (.maskSet path v) s fun t =>
        t.masked d = true ∧ t.f (F.THM_D_STATE d) = 3 ∧ (t.f F.THM_FAIL_DIE).testBit d.val = false ∧ t.evBit 25 = true ∧
        Frame (fun a => a == R.THM_MASK_SET || a == R.THM_MASK || a == R.THM_D d || a == R.THM_FAIL) s t) ∧
      (F.THM_MASK_SET_VALUE.get v = 0 → s.masked d = true → Completes (.maskSet path v) s fun t =>
        t.masked d = false ∧ t.f (F.THM_D_STATE d) ≠ 3 ∧ t.evBit 25 = true ∧
        Frame (fun a => a == R.THM_MASK_SET || a == R.THM_MASK || a == R.THM_D d || a == R.THM_FAIL) s t)))

/-- O58: (1) a sample of the zones shows which are above their warning and throttle limits and how many valid sensors each has; a zone whose
value stands at its limit for 251 samples crosses it, with event 16 for the warning; a first zone above its throttle limit starts
stage 1, with event 18; a repair of the record that waits begins with the sample that permits MRAM writes.
(2) in stage 1 a throttle that lasts starts stage 2 with event 19; in stage 2 each step asks the fabric for four more bubbles in 64
slots, up to 48; when the zones are cool the bubbles go, four a step, and the last of them ends the stages with event 20.
(3) a write to THM_SCAP takes effect at the frame it names, where that is two or more ahead, and at the first such frame where it is
not; a device in thermal shutdown that is to restart by itself does so once its zones have cooled.
Where the spec leaves a point open it rests on the model's choices of log entries 79, 81, 94. -/
def Obligations.ZonesThrottlingAndSlotCap : Prop :=
  (∀ (s : State), s.asleep = false → Completes (.zoneSample true) s fun t =>
    (∀ z, z < 8 → t.f (F.THM_Z_NVALID z) = s.zoneValid z ∧
      (t.f F.THM_STATUS_WARN).testBit z = t.zoneOver z 0 ∧ (t.f F.THM_STATUS_THROT).testBit z = t.zoneOver z 1) ∧
    (∀ z i v, z < 8 → s.zoneValue z = some (i, v) → s.zoneOver z 0 = false →
      (s.threshold z 0 ≤ v → tabAt s.thm.dwell (3 * z) 0 = 250 → t.zoneOver z 0 = true ∧ t.evBit 16 = true) ∧
      (s.threshold z 0 ≤ v → tabAt s.thm.dwell (3 * z) 0 < 250 → t.zoneOver z 0 = false ∧
        tabAt t.thm.dwell (3 * z) 0 = tabAt s.thm.dwell (3 * z) 0 + 1) ∧
      (v < s.threshold z 0 → t.zoneOver z 0 = false ∧ tabAt t.thm.dwell (3 * z) 0 = 0)) ∧
    (s.rps.held = false → s.f F.THM_STATUS_STAGE = 0 → t.anyThrottle = true → t.f F.THM_STATUS_STAGE = 1 ∧ t.evBit 18 = true) ∧
    (s.on F.NVS_STATUS_REPAIR = true → s.nvs.jobs = [] → t.mramOk = true → t.nvs.jobs = [{ kind := 3 }] ∧ t.f F.NVS_STATUS_WBUSY = 1) ∧
    (s.on F.NVS_STATUS_REPAIR = false → t.reg R.NVS_STATUS = s.reg R.NVS_STATUS ∧ t.nvs = s.nvs ∧ t.mram = s.mram) ∧
    (∀ a, inBlk .THM a = false → a ≠ R.FAB_THR → a ≠ R.FMC_STATUS → a ≠ R.RPS_DEFER → a ≠ R.NVS_STATUS → evReg a = false →
      t.reg a = s.reg a)) ∧
  (∀ (s : State), s.asleep = false →
    (s.f F.THM_STATUS_STAGE ≠ 1 ∨ s.anyThrottle = false → exec .stage2Start s = .next s) ∧
    (s.f F.THM_STATUS_STAGE = 1 → s.anyThrottle = true → Completes .stage2Start s fun t =>
      t.f F.THM_STATUS_STAGE = 2 ∧ t.evBit 19 = true ∧ t.f F.FAB_THR_REQ = min 48 (s.f F.FAB_THR_REQ + 4) ∧
      Frame (fun a => a == R.THM_STATUS || a == R.FAB_THR) s t) ∧
    (s.anyThrottle = true → s.f F.THM_STATUS_STAGE = 2 → Completes .bubbleStep s fun t =>
      t.f F.FAB_THR_REQ = min 48 (s.f F.FAB_THR_REQ + 4) ∧ Frame (fun a => a == R.FAB_THR) s t) ∧
    (s.anyThrottle = false → s.f F.THM_STATUS_STAGE ≠ 0 → s.f F.THM_SCAPREQ_REQ = 0 →
      (4 < s.f F.FAB_THR_REQ → Completes .bubbleStep s fun t => t.f F.FAB_THR_REQ = s.f F.FAB_THR_REQ - 4 ∧
        Frame (fun a => a == R.FAB_THR) s t) ∧
      (s.f F.FAB_THR_REQ ≤ 4 → s.rps.held = false → Completes .bubbleStep s fun t => t.f F.FAB_THR_REQ = 0 ∧
        t.f F.THM_STATUS_STAGE = 0 ∧ t.evBit 20 = true ∧
        Frame (fun a => a == R.FAB_THR || a == R.THM_STATUS || a == R.FMC_STATUS) s t)) ∧
    (s.anyThrottle = true → s.f F.THM_STATUS_STAGE ≠ 0 → s.on F.FAB_STATUS_THROTTLED = true →
      ∀ k, (k, s.f F.DSP_STATUS_SACT) ∈ [(6, 8), (4, 6), (3, 4), (2, 3), (1, 2)] → Completes .slotCapStep s fun t =>
        t.f F.THM_SCAPREQ_REQ = k ∧ Frame (fun a => a == R.THM_SCAPREQ) s t) ∧
    (s.anyThrottle = false → s.f F.THM_STATUS_STAGE ≠ 0 → s.f F.FAB_THR_REQ ≠ 0 → s.f F.DSP_MODE_SLOTS = 4 →
      (s.f F.THM_SCAPREQ_REQ = 2 → Completes .slotCapStep s fun t => t.f F.THM_SCAPREQ_REQ = 3 ∧
        Frame (fun a => a == R.THM_SCAPREQ) s t) ∧
      (s.f F.THM_SCAPREQ_REQ = 3 → Completes .slotCapStep s fun t => t.f F.THM_SCAPREQ_REQ = 0 ∧
        Frame (fun a => a == R.THM_SCAPREQ) s t)) ∧
    (s.f F.THM_STATUS_STAGE = 0 → exec .slotCapStep s = .next s)) ∧
  (∀ (path : Path) (v : Word) (s : State), s.asleep = false →
    (s.role ≠ 0 → s.timed = true → ∀ n late,
      (State.resolve s.frameNow (F.THM_SCAP_FRAME.get v) = some n ∧ s.frameNow + 2 ≤ n ∧ late = false ∨
        (State.resolve s.frameNow (F.THM_SCAP_FRAME.get v)).all (fun m => decide (m < s.frameNow + 2)) = true ∧ n = s.frameNow + 2 ∧ late = true) →
      Completes (.scapWrite path v) s fun t =>
        t.f F.THM_SCAP_CAP = F.THM_SCAP_CAP.get v ∧ t.f F.THM_SCAP_FRAME = F.THM_SCAP_FRAME.get v ∧
        t.thm = { s.thm with scapN := some n, scapLate := late } ∧ Frame (fun a => a == R.THM_SCAP) s t) ∧
    (s.rps.latch = false ∨ s.rps.autoRel = false → exec .shutdownRelease s = .next s) ∧
    (s.rps.latch = true → s.rps.autoRel = true →
      (∀ z, z < 4 → s.zoneSubst z = [] ∧ (s.zoneShut z).any (fun p => decide (p.2 ≤ 16 * 103)) = true) → Completes .shutdownRelease s fun t =>
        t.rps.latch = false ∧ t.rps.held = false ∧ t.f F.RPS_BOOT_STAGE = 1 ∧ 27 ∈ t.rps.owed ∧ .pwrEn true ∈ t.outs))

/-- O59: (1) an option write needs its key, and options that are locked refuse it with event 39; a record image needs its key, no session and
a well-formed image; each good one begins a write of the record, which waits for the copy; a die too hot or cold to write refuses it.
(2) the end of a copy makes it the record in use, counts it, and raises event 34; a copy that does not verify leaves the record in
use as it was and raises event 35; each says so in NVS_WSTAT for the request it was written for.
(3) a word written to NVS_WIN_DATA goes to the staging buffer at the offset, which moves on by 4; a read of NVS_RD_DATA answers the
word of the record at its offset, which moves on by 4; a calibration is marked only where a good table of this device, newer than
the last mark, is in use, and is otherwise refused with its code and event 37.
Where the spec leaves a point open it rests on the model's choices of log entry 31. -/
def Obligations.Records : Prop :=
  (∀ (key : BitVec 16) (s : State), s.asleep = false →
    (key ≠ 0x3C5A → ∀ c ∈ [Instr.optionWrite key, .recordImageWrite key], Completes c s fun t =>
      t.f F.NVS_WSTAT_STATE = 3 ∧ t.f F.NVS_WSTAT_CODE = 1 ∧ t.nvs = s.nvs ∧
      Frame (fun a => a == R.NVS_WCMD || a == R.NVS_WSTAT) s t) ∧
    (key = 0x3C5A → s.optLocked = true → Completes (.optionWrite key) s fun t =>
      t.f F.NVS_WSTAT_STATE = 3 ∧ t.f F.NVS_WSTAT_CODE = 2 ∧ t.evBit 39 = true ∧ t.nvs = s.nvs ∧
      Frame (fun a => a == R.NVS_WCMD || a == R.NVS_WSTAT) s t) ∧
    (key = 0x3C5A → s.on F.MGT_SESS_HELD = true → Completes (.recordImageWrite key) s fun t =>
      t.f F.NVS_WSTAT_STATE = 3 ∧ t.f F.NVS_WSTAT_CODE = 3 ∧ t.nvs = s.nvs ∧
      Frame (fun a => a == R.NVS_WCMD || a == R.NVS_WSTAT) s t) ∧
    (key = 0x3C5A → s.on F.MGT_SESS_HELD = false → s.optLocked = false → s.recCode (Mem.read s.ubuf 0 65536) ≠ 0 →
      Completes (.recordImageWrite key) s fun t => t.f F.NVS_WSTAT_STATE = 3 ∧ t.f F.NVS_WSTAT_CODE = 4 ∧ t.nvs = s.nvs ∧
        Frame (fun a => a == R.NVS_WCMD || a == R.NVS_WSTAT) s t) ∧
    (key = 0x3C5A → s.optLocked = false → s.nvs.jobs = [] → ∀ c kind,
      (c = .optionWrite key ∧ kind = 0 ∨
        c = .recordImageWrite key ∧ kind = 1 ∧ s.on F.MGT_SESS_HELD = false ∧ s.recCode (Mem.read s.ubuf 0 65536) = 0) →
      (s.mramOk = true → Completes c s fun t => t.f F.NVS_WSTAT_STATE = 1 ∧ t.f F.NVS_WSTAT_CODE = 0 ∧ t.f F.NVS_STATUS_WBUSY = 1 ∧
        (∃ j : RecJob, t.nvs.jobs = [j] ∧ j.kind = kind) ∧
        (∀ a, a ≠ R.NVS_WCMD → a ≠ R.NVS_WSTAT → a ≠ R.NVS_STATUS → t.reg a = s.reg a)) ∧
      (s.mramOk = false → Completes c s fun t => t.f F.NVS_WSTAT_STATE = 3 ∧ t.f F.NVS_WSTAT_CODE = 5 ∧ t.nvs.jobs = [] ∧
        t.evBit 28 = true ∧ t.evBit 35 = true ∧ t.f F.THM_MREF_COUNT = (s.f F.THM_MREF_COUNT + 1) % 2 ^ 32 ∧
        Frame (fun a => a == R.NVS_WCMD || a == R.NVS_WSTAT || a == R.THM_MREF) s t))) ∧
  (∀ (ok : Bool) (j : RecJob) (s : State), s.asleep = false →
    (s.nvs.jobs = [] → exec (.recordCopyDone ok) s = .next s) ∧
    (s.nvs.jobs = [j] → j.kind ≤ 1 →
      Completes (.recordCopyDone true) s (fun t => t.nvs.jobs = [] ∧ t.nvs.rom = false ∧ t.f F.NVS_STATUS_WBUSY = 0 ∧
        t.f F.NVS_STATUS_COPY = s.recTarget % 2 ∧ t.f F.NVS_SEQ_SEQ = (s.f F.NVS_SEQ_SEQ + 1) % 2 ^ 32 ∧
        t.f F.NVS_WCNT_COUNT = (s.f F.NVS_WCNT_COUNT + 1) % 2 ^ 32 ∧ t.f F.NVS_WSTAT_STATE = 2 ∧ t.f F.NVS_WSTAT_CODE = 0 ∧
        t.evBit 34 = true ∧
        (∀ a, a ≠ R.NVS_STATUS → a ≠ R.NVS_SEQ → a ≠ R.NVS_WCNT → a ≠ R.NVS_WSTAT → evReg a = false → t.reg a = s.reg a)) ∧
      Completes (.recordCopyDone false) s fun t => t.nvs = { s.nvs with jobs := [] } ∧ t.f F.NVS_STATUS_WBUSY = 0 ∧
        t.f F.NVS_STATUS_COPY = s.f F.NVS_STATUS_COPY ∧ t.f F.NVS_WSTAT_STATE = 3 ∧ t.f F.NVS_WSTAT_CODE = 6 ∧ t.evBit 35 = true ∧
        (∀ a, a ≠ R.NVS_STATUS → a ≠ R.NVS_WSTAT → evReg a = false → t.reg a = s.reg a))) ∧
  (∀ (path : Path) (v : Word) (s : State), s.asleep = false →
    (s.on F.MGT_SESS_HELD = true → Completes (.winDataWrite path v) s fun t =>
      t.f F.NVS_WSTAT_STATE = 3 ∧ t.f F.NVS_WSTAT_CODE = 3 ∧ Frame (fun a => a == R.NVS_WIN_DATA || a == R.NVS_WSTAT) s t) ∧
    (s.on F.MGT_SESS_HELD = false → Completes (.winDataWrite path v) s fun t =>
      Mem.read t.ubuf (s.f F.NVS_WIN_ADDR_OFFSET / 4 * 4) 4 = leBytes 4 v.toNat ∧
      (∀ a, a < s.f F.NVS_WIN_ADDR_OFFSET / 4 * 4 ∨ s.f F.NVS_WIN_ADDR_OFFSET / 4 * 4 + 4 ≤ a →
        Mem.get t.ubuf a = Mem.get s.ubuf a) ∧
      t.f F.NVS_WIN_ADDR_OFFSET = (s.f F.NVS_WIN_ADDR_OFFSET / 4 * 4 + 4) % 2 ^ 16 ∧
      (∀ a, a ≠ R.NVS_WIN_DATA → a ≠ R.NVS_WIN_ADDR → t.reg a = s.reg a)) ∧
    Completes (.rdDataRead path) s (fun t =>
      t.outs = s.outs ++ [.readData path R.NVS_RD_DATA (BitVec.ofNat 32 (leVal (s.recRead (s.f F.NVS_RD_ADDR_OFFSET / 4 * 4) 4)))] ∧
      t.f F.NVS_RD_ADDR_OFFSET = (s.f F.NVS_RD_ADDR_OFFSET + 4) % 2 ^ 16 ∧ Frame (fun a => a == R.NVS_RD_ADDR) s t) ∧
    (∀ code, (code = 1 ∧ (s.present .COR = false ∨ s.f F.COR_LOAD_STAT_RESULT ≠ 1) ∨
        s.present .COR = true ∧ s.f F.COR_LOAD_STAT_RESULT = 1 ∧ (code = 2 ∧ s.on F.COR_LOAD_STAT_UID_MISM = true ∨
          s.on F.COR_LOAD_STAT_UID_MISM = false ∧ code = 3 ∧ s.on F.COR_LOAD_STAT_ALT_USED = true)) →
      Completes .calmark s fun t => t.f F.NVS_CALREJ_KIND = 3 ∧ t.f F.NVS_CALREJ_CODE = code ∧ t.evBit 37 = true ∧ t.nvs = s.nvs ∧
        Frame (fun a => a == R.NVS_CALMARK || a == R.NVS_CALREJ) s t) ∧
    (s.present .COR = true → s.f F.COR_LOAD_STAT_RESULT = 1 → s.on F.COR_LOAD_STAT_UID_MISM = false →
      s.on F.COR_LOAD_STAT_ALT_USED = false → s.nvs.jobs = [] → s.mramOk = true →
      s.f (F.NVS_CALREC_SL_SEC 3) + 2 ^ 32 * s.f (F.NVS_CALREC_SH_SEC 3) <
        s.f (F.COR_GWY_CALTIME_CALTIME 0) + 2 ^ 32 * (s.f (F.COR_GWY_CALTIME_CALTIME 1) % 2 ^ 16) → Completes .calmark s fun t =>
          (∃ j : RecJob, t.nvs.jobs = [j] ∧ j.kind = 2 ∧ j.cal = 3) ∧ t.f F.NVS_STATUS_WBUSY = 1 ∧
          (∀ a, a ≠ R.NVS_CALMARK → a ≠ R.NVS_STATUS → t.reg a = s.reg a)))
end

