-- ==== Sys2Proof/Laws/State.lean ====
section
/-! SUPPORT. One lemma per field of the state for each named update: the field the update writes, or that it leaves the field. -/

namespace Sys2Proof.Machine.State

section setReg

variable (s : State) (a : Nat) (v : Word)

@[simp] theorem setReg_pending : (s.setReg a v).pending = s.pending := rfl
@[simp] theorem setReg_fuses : (s.setReg a v).fuses = s.fuses := rfl
@[simp] theorem setReg_regs : (s.setReg a v).regs = RegFile.set s.regs a v := rfl
@[simp] theorem setReg_stage : (s.setReg a v).stage = s.stage := rfl
@[simp] theorem setReg_latch : (s.setReg a v).latch = s.latch := rfl
@[simp] theorem setReg_clk : (s.setReg a v).clk = s.clk := rfl
@[simp] theorem setReg_tim : (s.setReg a v).tim = s.tim := rfl
@[simp] theorem setReg_dsp : (s.setReg a v).dsp = s.dsp := rfl
@[simp] theorem setReg_cmt : (s.setReg a v).cmt = s.cmt := rfl
@[simp] theorem setReg_hst : (s.setReg a v).hst = s.hst := rfl
@[simp] theorem setReg_thm : (s.setReg a v).thm = s.thm := rfl
@[simp] theorem setReg_fmc : (s.setReg a v).fmc = s.fmc := rfl
@[simp] theorem setReg_fab : (s.setReg a v).fab = s.fab := rfl
@[simp] theorem setReg_snd : (s.setReg a v).snd = s.snd := rfl
@[simp] theorem setReg_cmc : (s.setReg a v).cmc = s.cmc := rfl
@[simp] theorem setReg_cor : (s.setReg a v).cor = s.cor := rfl
@[simp] theorem setReg_drv : (s.setReg a v).drv = s.drv := rfl
@[simp] theorem setReg_lux : (s.setReg a v).lux = s.lux := rfl
@[simp] theorem setReg_nvs : (s.setReg a v).nvs = s.nvs := rfl
@[simp] theorem setReg_ubuf : (s.setReg a v).ubuf = s.ubuf := rfl
@[simp] theorem setReg_lan : (s.setReg a v).lan = s.lan := rfl
@[simp] theorem setReg_par : (s.setReg a v).par = s.par := rfl
@[simp] theorem setReg_mgt : (s.setReg a v).mgt = s.mgt := rfl
@[simp] theorem setReg_rps : (s.setReg a v).rps = s.rps := rfl
@[simp] theorem setReg_recs : (s.setReg a v).recs = s.recs := rfl
@[simp] theorem setReg_evSeq : (s.setReg a v).evSeq = s.evSeq := rfl
@[simp] theorem setReg_dram : (s.setReg a v).dram = s.dram := rfl
@[simp] theorem setReg_mram : (s.setReg a v).mram = s.mram := rfl
@[simp] theorem setReg_lineStore : (s.setReg a v).lineStore = s.lineStore := rfl
@[simp] theorem setReg_outs : (s.setReg a v).outs = s.outs := rfl
@[simp] theorem setReg_free : (s.setReg a v).free = s.free := rfl

end setReg

section setF

variable (s : State) (x : Fld) (v : Nat)

@[simp] theorem setF_pending : (s.setF x v).pending = s.pending := rfl
@[simp] theorem setF_fuses : (s.setF x v).fuses = s.fuses := rfl
@[simp] theorem setF_regs : (s.setF x v).regs = RegFile.setFld s.regs x v := rfl
@[simp] theorem setF_stage : (s.setF x v).stage = s.stage := rfl
@[simp] theorem setF_latch : (s.setF x v).latch = s.latch := rfl
@[simp] theorem setF_clk : (s.setF x v).clk = s.clk := rfl
@[simp] theorem setF_tim : (s.setF x v).tim = s.tim := rfl
@[simp] theorem setF_dsp : (s.setF x v).dsp = s.dsp := rfl
@[simp] theorem setF_cmt : (s.setF x v).cmt = s.cmt := rfl
@[simp] theorem setF_hst : (s.setF x v).hst = s.hst := rfl
@[simp] theorem setF_thm : (s.setF x v).thm = s.thm := rfl
@[simp] theorem setF_fmc : (s.setF x v).fmc = s.fmc := rfl
@[simp] theorem setF_fab : (s.setF x v).fab = s.fab := rfl
@[simp] theorem setF_snd : (s.setF x v).snd = s.snd := rfl
@[simp] theorem setF_cmc : (s.setF x v).cmc = s.cmc := rfl
@[simp] theorem setF_cor : (s.setF x v).cor = s.cor := rfl
@[simp] theorem setF_drv : (s.setF x v).drv = s.drv := rfl
@[simp] theorem setF_lux : (s.setF x v).lux = s.lux := rfl
@[simp] theorem setF_nvs : (s.setF x v).nvs = s.nvs := rfl
@[simp] theorem setF_ubuf : (s.setF x v).ubuf = s.ubuf := rfl
@[simp] theorem setF_lan : (s.setF x v).lan = s.lan := rfl
@[simp] theorem setF_par : (s.setF x v).par = s.par := rfl
@[simp] theorem setF_mgt : (s.setF x v).mgt = s.mgt := rfl
@[simp] theorem setF_rps : (s.setF x v).rps = s.rps := rfl
@[simp] theorem setF_recs : (s.setF x v).recs = s.recs := rfl
@[simp] theorem setF_evSeq : (s.setF x v).evSeq = s.evSeq := rfl
@[simp] theorem setF_dram : (s.setF x v).dram = s.dram := rfl
@[simp] theorem setF_mram : (s.setF x v).mram = s.mram := rfl
@[simp] theorem setF_lineStore : (s.setF x v).lineStore = s.lineStore := rfl
@[simp] theorem setF_outs : (s.setF x v).outs = s.outs := rfl
@[simp] theorem setF_free : (s.setF x v).free = s.free := rfl

end setF

section setBoth

variable (s : State) (x : Fld) (v : Nat)

@[simp] theorem setBoth_pending : (s.setBoth x v).pending = s.pending := rfl
@[simp] theorem setBoth_fuses : (s.setBoth x v).fuses = s.fuses := rfl
@[simp] theorem setBoth_regs : (s.setBoth x v).regs = RegFile.setFld s.regs x v := rfl
@[simp] theorem setBoth_latch : (s.setBoth x v).latch = s.latch := rfl
@[simp] theorem setBoth_clk : (s.setBoth x v).clk = s.clk := rfl
@[simp] theorem setBoth_tim : (s.setBoth x v).tim = s.tim := rfl
@[simp] theorem setBoth_dsp : (s.setBoth x v).dsp = s.dsp := rfl
@[simp] theorem setBoth_cmt : (s.setBoth x v).cmt = s.cmt := rfl
@[simp] theorem setBoth_hst : (s.setBoth x v).hst = s.hst := rfl
@[simp] theorem setBoth_thm : (s.setBoth x v).thm = s.thm := rfl
@[simp] theorem setBoth_fmc : (s.setBoth x v).fmc = s.fmc := rfl
@[simp] theorem setBoth_fab : (s.setBoth x v).fab = s.fab := rfl
@[simp] theorem setBoth_snd : (s.setBoth x v).snd = s.snd := rfl
@[simp] theorem setBoth_cmc : (s.setBoth x v).cmc = s.cmc := rfl
@[simp] theorem setBoth_cor : (s.setBoth x v).cor = s.cor := rfl
@[simp] theorem setBoth_drv : (s.setBoth x v).drv = s.drv := rfl
@[simp] theorem setBoth_lux : (s.setBoth x v).lux = s.lux := rfl
@[simp] theorem setBoth_nvs : (s.setBoth x v).nvs = s.nvs := rfl
@[simp] theorem setBoth_ubuf : (s.setBoth x v).ubuf = s.ubuf := rfl
@[simp] theorem setBoth_lan : (s.setBoth x v).lan = s.lan := rfl
@[simp] theorem setBoth_par : (s.setBoth x v).par = s.par := rfl
@[simp] theorem setBoth_mgt : (s.setBoth x v).mgt = s.mgt := rfl
@[simp] theorem setBoth_rps : (s.setBoth x v).rps = s.rps := rfl
@[simp] theorem setBoth_recs : (s.setBoth x v).recs = s.recs := rfl
@[simp] theorem setBoth_evSeq : (s.setBoth x v).evSeq = s.evSeq := rfl
@[simp] theorem setBoth_dram : (s.setBoth x v).dram = s.dram := rfl
@[simp] theorem setBoth_mram : (s.setBoth x v).mram = s.mram := rfl
@[simp] theorem setBoth_lineStore : (s.setBoth x v).lineStore = s.lineStore := rfl
@[simp] theorem setBoth_outs : (s.setBoth x v).outs = s.outs := rfl
@[simp] theorem setBoth_free : (s.setBoth x v).free = s.free := rfl

end setBoth

section emit

variable (s : State) (o : Out)

@[simp] theorem emit_pending : (s.emit o).pending = s.pending := rfl
@[simp] theorem emit_fuses : (s.emit o).fuses = s.fuses := rfl
@[simp] theorem emit_regs : (s.emit o).regs = s.regs := rfl
@[simp] theorem emit_stage : (s.emit o).stage = s.stage := rfl
@[simp] theorem emit_latch : (s.emit o).latch = s.latch := rfl
@[simp] theorem emit_clk : (s.emit o).clk = s.clk := rfl
@[simp] theorem emit_tim : (s.emit o).tim = s.tim := rfl
@[simp] theorem emit_dsp : (s.emit o).dsp = s.dsp := rfl
@[simp] theorem emit_cmt : (s.emit o).cmt = s.cmt := rfl
@[simp] theorem emit_hst : (s.emit o).hst = s.hst := rfl
@[simp] theorem emit_thm : (s.emit o).thm = s.thm := rfl
@[simp] theorem emit_fmc : (s.emit o).fmc = s.fmc := rfl
@[simp] theorem emit_fab : (s.emit o).fab = s.fab := rfl
@[simp] theorem emit_snd : (s.emit o).snd = s.snd := rfl
@[simp] theorem emit_cmc : (s.emit o).cmc = s.cmc := rfl
@[simp] theorem emit_cor : (s.emit o).cor = s.cor := rfl
@[simp] theorem emit_drv : (s.emit o).drv = s.drv := rfl
@[simp] theorem emit_lux : (s.emit o).lux = s.lux := rfl
@[simp] theorem emit_nvs : (s.emit o).nvs = s.nvs := rfl
@[simp] theorem emit_ubuf : (s.emit o).ubuf = s.ubuf := rfl
@[simp] theorem emit_lan : (s.emit o).lan = s.lan := rfl
@[simp] theorem emit_par : (s.emit o).par = s.par := rfl
@[simp] theorem emit_mgt : (s.emit o).mgt = s.mgt := rfl
@[simp] theorem emit_rps : (s.emit o).rps = s.rps := rfl
@[simp] theorem emit_recs : (s.emit o).recs = s.recs := rfl
@[simp] theorem emit_evSeq : (s.emit o).evSeq = s.evSeq := rfl
@[simp] theorem emit_dram : (s.emit o).dram = s.dram := rfl
@[simp] theorem emit_mram : (s.emit o).mram = s.mram := rfl
@[simp] theorem emit_lineStore : (s.emit o).lineStore = s.lineStore := rfl
@[simp] theorem emit_outs : (s.emit o).outs = s.outs ++ [o] := rfl
@[simp] theorem emit_free : (s.emit o).free = s.free := rfl

end emit

section ticks

variable (s : State) (k : Nat)

@[simp] theorem ticks_pending : (s.ticks k).pending = s.pending := rfl
@[simp] theorem ticks_fuses : (s.ticks k).fuses = s.fuses := rfl
@[simp] theorem ticks_regs : (s.ticks k).regs = s.regs := rfl
@[simp] theorem ticks_stage : (s.ticks k).stage = s.stage := rfl
@[simp] theorem ticks_latch : (s.ticks k).latch = s.latch := rfl
@[simp] theorem ticks_tim : (s.ticks k).tim = s.tim := rfl
@[simp] theorem ticks_dsp : (s.ticks k).dsp = s.dsp := rfl
@[simp] theorem ticks_cmt : (s.ticks k).cmt = s.cmt := rfl
@[simp] theorem ticks_hst : (s.ticks k).hst = s.hst := rfl
@[simp] theorem ticks_thm : (s.ticks k).thm = s.thm := rfl
@[simp] theorem ticks_fmc : (s.ticks k).fmc = s.fmc := rfl
@[simp] theorem ticks_fab : (s.ticks k).fab = s.fab := rfl
@[simp] theorem ticks_snd : (s.ticks k).snd = s.snd := rfl
@[simp] theorem ticks_cmc : (s.ticks k).cmc = s.cmc := rfl
@[simp] theorem ticks_cor : (s.ticks k).cor = s.cor := rfl
@[simp] theorem ticks_drv : (s.ticks k).drv = s.drv := rfl
@[simp] theorem ticks_lux : (s.ticks k).lux = s.lux := rfl
@[simp] theorem ticks_nvs : (s.ticks k).nvs = s.nvs := rfl
@[simp] theorem ticks_ubuf : (s.ticks k).ubuf = s.ubuf := rfl
@[simp] theorem ticks_lan : (s.ticks k).lan = s.lan := rfl
@[simp] theorem ticks_par : (s.ticks k).par = s.par := rfl
@[simp] theorem ticks_mgt : (s.ticks k).mgt = s.mgt := rfl
@[simp] theorem ticks_rps : (s.ticks k).rps = s.rps := rfl
@[simp] theorem ticks_recs : (s.ticks k).recs = s.recs := rfl
@[simp] theorem ticks_evSeq : (s.ticks k).evSeq = s.evSeq := rfl
@[simp] theorem ticks_dram : (s.ticks k).dram = s.dram := rfl
@[simp] theorem ticks_mram : (s.ticks k).mram = s.mram := rfl
@[simp] theorem ticks_lineStore : (s.ticks k).lineStore = s.lineStore := rfl
@[simp] theorem ticks_outs : (s.ticks k).outs = s.outs := rfl
@[simp] theorem ticks_free : (s.ticks k).free = s.free := rfl

end ticks

section setRps

variable (s : State) (g : RpsSt → RpsSt)

@[simp] theorem setRps_pending : (s.setRps g).pending = s.pending := rfl
@[simp] theorem setRps_fuses : (s.setRps g).fuses = s.fuses := rfl
@[simp] theorem setRps_regs : (s.setRps g).regs = s.regs := rfl
@[simp] theorem setRps_stage : (s.setRps g).stage = s.stage := rfl
@[simp] theorem setRps_latch : (s.setRps g).latch = s.latch := rfl
@[simp] theorem setRps_clk : (s.setRps g).clk = s.clk := rfl
@[simp] theorem setRps_tim : (s.setRps g).tim = s.tim := rfl
@[simp] theorem setRps_dsp : (s.setRps g).dsp = s.dsp := rfl
@[simp] theorem setRps_cmt : (s.setRps g).cmt = s.cmt := rfl
@[simp] theorem setRps_hst : (s.setRps g).hst = s.hst := rfl
@[simp] theorem setRps_thm : (s.setRps g).thm = s.thm := rfl
@[simp] theorem setRps_fmc : (s.setRps g).fmc = s.fmc := rfl
@[simp] theorem setRps_fab : (s.setRps g).fab = s.fab := rfl
@[simp] theorem setRps_snd : (s.setRps g).snd = s.snd := rfl
@[simp] theorem setRps_cmc : (s.setRps g).cmc = s.cmc := rfl
@[simp] theorem setRps_cor : (s.setRps g).cor = s.cor := rfl
@[simp] theorem setRps_drv : (s.setRps g).drv = s.drv := rfl
@[simp] theorem setRps_lux : (s.setRps g).lux = s.lux := rfl
@[simp] theorem setRps_nvs : (s.setRps g).nvs = s.nvs := rfl
@[simp] theorem setRps_ubuf : (s.setRps g).ubuf = s.ubuf := rfl
@[simp] theorem setRps_lan : (s.setRps g).lan = s.lan := rfl
@[simp] theorem setRps_par : (s.setRps g).par = s.par := rfl
@[simp] theorem setRps_mgt : (s.setRps g).mgt = s.mgt := rfl
@[simp] theorem setRps_rps : (s.setRps g).rps = g s.rps := rfl
@[simp] theorem setRps_recs : (s.setRps g).recs = s.recs := rfl
@[simp] theorem setRps_evSeq : (s.setRps g).evSeq = s.evSeq := rfl
@[simp] theorem setRps_dram : (s.setRps g).dram = s.dram := rfl
@[simp] theorem setRps_mram : (s.setRps g).mram = s.mram := rfl
@[simp] theorem setRps_lineStore : (s.setRps g).lineStore = s.lineStore := rfl
@[simp] theorem setRps_outs : (s.setRps g).outs = s.outs := rfl
@[simp] theorem setRps_free : (s.setRps g).free = s.free := rfl

end setRps

section setThm

variable (s : State) (g : ThmSt → ThmSt)

@[simp] theorem setThm_pending : (s.setThm g).pending = s.pending := rfl
@[simp] theorem setThm_fuses : (s.setThm g).fuses = s.fuses := rfl
@[simp] theorem setThm_regs : (s.setThm g).regs = s.regs := rfl
@[simp] theorem setThm_stage : (s.setThm g).stage = s.stage := rfl
@[simp] theorem setThm_latch : (s.setThm g).latch = s.latch := rfl
@[simp] theorem setThm_clk : (s.setThm g).clk = s.clk := rfl
@[simp] theorem setThm_tim : (s.setThm g).tim = s.tim := rfl
@[simp] theorem setThm_dsp : (s.setThm g).dsp = s.dsp := rfl
@[simp] theorem setThm_cmt : (s.setThm g).cmt = s.cmt := rfl
@[simp] theorem setThm_hst : (s.setThm g).hst = s.hst := rfl
@[simp] theorem setThm_thm : (s.setThm g).thm = g s.thm := rfl
@[simp] theorem setThm_fmc : (s.setThm g).fmc = s.fmc := rfl
@[simp] theorem setThm_fab : (s.setThm g).fab = s.fab := rfl
@[simp] theorem setThm_snd : (s.setThm g).snd = s.snd := rfl
@[simp] theorem setThm_cmc : (s.setThm g).cmc = s.cmc := rfl
@[simp] theorem setThm_cor : (s.setThm g).cor = s.cor := rfl
@[simp] theorem setThm_drv : (s.setThm g).drv = s.drv := rfl
@[simp] theorem setThm_lux : (s.setThm g).lux = s.lux := rfl
@[simp] theorem setThm_nvs : (s.setThm g).nvs = s.nvs := rfl
@[simp] theorem setThm_ubuf : (s.setThm g).ubuf = s.ubuf := rfl
@[simp] theorem setThm_lan : (s.setThm g).lan = s.lan := rfl
@[simp] theorem setThm_par : (s.setThm g).par = s.par := rfl
@[simp] theorem setThm_mgt : (s.setThm g).mgt = s.mgt := rfl
@[simp] theorem setThm_rps : (s.setThm g).rps = s.rps := rfl
@[simp] theorem setThm_recs : (s.setThm g).recs = s.recs := rfl
@[simp] theorem setThm_evSeq : (s.setThm g).evSeq = s.evSeq := rfl
@[simp] theorem setThm_dram : (s.setThm g).dram = s.dram := rfl
@[simp] theorem setThm_mram : (s.setThm g).mram = s.mram := rfl
@[simp] theorem setThm_lineStore : (s.setThm g).lineStore = s.lineStore := rfl
@[simp] theorem setThm_outs : (s.setThm g).outs = s.outs := rfl
@[simp] theorem setThm_free : (s.setThm g).free = s.free := rfl

end setThm

section setMgt

variable (s : State) (g : MgtSt → MgtSt)

@[simp] theorem setMgt_pending : (s.setMgt g).pending = s.pending := rfl
@[simp] theorem setMgt_fuses : (s.setMgt g).fuses = s.fuses := rfl
@[simp] theorem setMgt_regs : (s.setMgt g).regs = s.regs := rfl
@[simp] theorem setMgt_stage : (s.setMgt g).stage = s.stage := rfl
@[simp] theorem setMgt_latch : (s.setMgt g).latch = s.latch := rfl
@[simp] theorem setMgt_clk : (s.setMgt g).clk = s.clk := rfl
@[simp] theorem setMgt_tim : (s.setMgt g).tim = s.tim := rfl
@[simp] theorem setMgt_dsp : (s.setMgt g).dsp = s.dsp := rfl
@[simp] theorem setMgt_cmt : (s.setMgt g).cmt = s.cmt := rfl
@[simp] theorem setMgt_hst : (s.setMgt g).hst = s.hst := rfl
@[simp] theorem setMgt_thm : (s.setMgt g).thm = s.thm := rfl
@[simp] theorem setMgt_fmc : (s.setMgt g).fmc = s.fmc := rfl
@[simp] theorem setMgt_fab : (s.setMgt g).fab = s.fab := rfl
@[simp] theorem setMgt_snd : (s.setMgt g).snd = s.snd := rfl
@[simp] theorem setMgt_cmc : (s.setMgt g).cmc = s.cmc := rfl
@[simp] theorem setMgt_cor : (s.setMgt g).cor = s.cor := rfl
@[simp] theorem setMgt_drv : (s.setMgt g).drv = s.drv := rfl
@[simp] theorem setMgt_lux : (s.setMgt g).lux = s.lux := rfl
@[simp] theorem setMgt_nvs : (s.setMgt g).nvs = s.nvs := rfl
@[simp] theorem setMgt_ubuf : (s.setMgt g).ubuf = s.ubuf := rfl
@[simp] theorem setMgt_lan : (s.setMgt g).lan = s.lan := rfl
@[simp] theorem setMgt_par : (s.setMgt g).par = s.par := rfl
@[simp] theorem setMgt_mgt : (s.setMgt g).mgt = g s.mgt := rfl
@[simp] theorem setMgt_rps : (s.setMgt g).rps = s.rps := rfl
@[simp] theorem setMgt_recs : (s.setMgt g).recs = s.recs := rfl
@[simp] theorem setMgt_evSeq : (s.setMgt g).evSeq = s.evSeq := rfl
@[simp] theorem setMgt_dram : (s.setMgt g).dram = s.dram := rfl
@[simp] theorem setMgt_mram : (s.setMgt g).mram = s.mram := rfl
@[simp] theorem setMgt_lineStore : (s.setMgt g).lineStore = s.lineStore := rfl
@[simp] theorem setMgt_outs : (s.setMgt g).outs = s.outs := rfl
@[simp] theorem setMgt_free : (s.setMgt g).free = s.free := rfl

end setMgt

section setCmc

variable (s : State) (g : CmcSt → CmcSt)

@[simp] theorem setCmc_pending : (s.setCmc g).pending = s.pending := rfl
@[simp] theorem setCmc_fuses : (s.setCmc g).fuses = s.fuses := rfl
@[simp] theorem setCmc_regs : (s.setCmc g).regs = s.regs := rfl
@[simp] theorem setCmc_stage : (s.setCmc g).stage = s.stage := rfl
@[simp] theorem setCmc_latch : (s.setCmc g).latch = s.latch := rfl
@[simp] theorem setCmc_clk : (s.setCmc g).clk = s.clk := rfl
@[simp] theorem setCmc_tim : (s.setCmc g).tim = s.tim := rfl
@[simp] theorem setCmc_dsp : (s.setCmc g).dsp = s.dsp := rfl
@[simp] theorem setCmc_cmt : (s.setCmc g).cmt = s.cmt := rfl
@[simp] theorem setCmc_hst : (s.setCmc g).hst = s.hst := rfl
@[simp] theorem setCmc_thm : (s.setCmc g).thm = s.thm := rfl
@[simp] theorem setCmc_fmc : (s.setCmc g).fmc = s.fmc := rfl
@[simp] theorem setCmc_fab : (s.setCmc g).fab = s.fab := rfl
@[simp] theorem setCmc_snd : (s.setCmc g).snd = s.snd := rfl
@[simp] theorem setCmc_cmc : (s.setCmc g).cmc = g s.cmc := rfl
@[simp] theorem setCmc_cor : (s.setCmc g).cor = s.cor := rfl
@[simp] theorem setCmc_drv : (s.setCmc g).drv = s.drv := rfl
@[simp] theorem setCmc_lux : (s.setCmc g).lux = s.lux := rfl
@[simp] theorem setCmc_nvs : (s.setCmc g).nvs = s.nvs := rfl
@[simp] theorem setCmc_ubuf : (s.setCmc g).ubuf = s.ubuf := rfl
@[simp] theorem setCmc_lan : (s.setCmc g).lan = s.lan := rfl
@[simp] theorem setCmc_par : (s.setCmc g).par = s.par := rfl
@[simp] theorem setCmc_mgt : (s.setCmc g).mgt = s.mgt := rfl
@[simp] theorem setCmc_rps : (s.setCmc g).rps = s.rps := rfl
@[simp] theorem setCmc_recs : (s.setCmc g).recs = s.recs := rfl
@[simp] theorem setCmc_evSeq : (s.setCmc g).evSeq = s.evSeq := rfl
@[simp] theorem setCmc_dram : (s.setCmc g).dram = s.dram := rfl
@[simp] theorem setCmc_mram : (s.setCmc g).mram = s.mram := rfl
@[simp] theorem setCmc_lineStore : (s.setCmc g).lineStore = s.lineStore := rfl
@[simp] theorem setCmc_outs : (s.setCmc g).outs = s.outs := rfl
@[simp] theorem setCmc_free : (s.setCmc g).free = s.free := rfl

end setCmc

section setCmt

variable (s : State) (g : CmtSt → CmtSt)

@[simp] theorem setCmt_pending : (s.setCmt g).pending = s.pending := rfl
@[simp] theorem setCmt_fuses : (s.setCmt g).fuses = s.fuses := rfl
@[simp] theorem setCmt_regs : (s.setCmt g).regs = s.regs := rfl
@[simp] theorem setCmt_stage : (s.setCmt g).stage = s.stage := rfl
@[simp] theorem setCmt_latch : (s.setCmt g).latch = s.latch := rfl
@[simp] theorem setCmt_clk : (s.setCmt g).clk = s.clk := rfl
@[simp] theorem setCmt_tim : (s.setCmt g).tim = s.tim := rfl
@[simp] theorem setCmt_dsp : (s.setCmt g).dsp = s.dsp := rfl
@[simp] theorem setCmt_cmt : (s.setCmt g).cmt = g s.cmt := rfl
@[simp] theorem setCmt_hst : (s.setCmt g).hst = s.hst := rfl
@[simp] theorem setCmt_thm : (s.setCmt g).thm = s.thm := rfl
@[simp] theorem setCmt_fmc : (s.setCmt g).fmc = s.fmc := rfl
@[simp] theorem setCmt_fab : (s.setCmt g).fab = s.fab := rfl
@[simp] theorem setCmt_snd : (s.setCmt g).snd = s.snd := rfl
@[simp] theorem setCmt_cmc : (s.setCmt g).cmc = s.cmc := rfl
@[simp] theorem setCmt_cor : (s.setCmt g).cor = s.cor := rfl
@[simp] theorem setCmt_drv : (s.setCmt g).drv = s.drv := rfl
@[simp] theorem setCmt_lux : (s.setCmt g).lux = s.lux := rfl
@[simp] theorem setCmt_nvs : (s.setCmt g).nvs = s.nvs := rfl
@[simp] theorem setCmt_ubuf : (s.setCmt g).ubuf = s.ubuf := rfl
@[simp] theorem setCmt_lan : (s.setCmt g).lan = s.lan := rfl
@[simp] theorem setCmt_par : (s.setCmt g).par = s.par := rfl
@[simp] theorem setCmt_mgt : (s.setCmt g).mgt = s.mgt := rfl
@[simp] theorem setCmt_rps : (s.setCmt g).rps = s.rps := rfl
@[simp] theorem setCmt_recs : (s.setCmt g).recs = s.recs := rfl
@[simp] theorem setCmt_evSeq : (s.setCmt g).evSeq = s.evSeq := rfl
@[simp] theorem setCmt_dram : (s.setCmt g).dram = s.dram := rfl
@[simp] theorem setCmt_mram : (s.setCmt g).mram = s.mram := rfl
@[simp] theorem setCmt_lineStore : (s.setCmt g).lineStore = s.lineStore := rfl
@[simp] theorem setCmt_outs : (s.setCmt g).outs = s.outs := rfl
@[simp] theorem setCmt_free : (s.setCmt g).free = s.free := rfl

end setCmt

section setFab

variable (s : State) (g : FabSt → FabSt)

@[simp] theorem setFab_pending : (s.setFab g).pending = s.pending := rfl
@[simp] theorem setFab_fuses : (s.setFab g).fuses = s.fuses := rfl
@[simp] theorem setFab_regs : (s.setFab g).regs = s.regs := rfl
@[simp] theorem setFab_stage : (s.setFab g).stage = s.stage := rfl
@[simp] theorem setFab_latch : (s.setFab g).latch = s.latch := rfl
@[simp] theorem setFab_clk : (s.setFab g).clk = s.clk := rfl
@[simp] theorem setFab_tim : (s.setFab g).tim = s.tim := rfl
@[simp] theorem setFab_dsp : (s.setFab g).dsp = s.dsp := rfl
@[simp] theorem setFab_cmt : (s.setFab g).cmt = s.cmt := rfl
@[simp] theorem setFab_hst : (s.setFab g).hst = s.hst := rfl
@[simp] theorem setFab_thm : (s.setFab g).thm = s.thm := rfl
@[simp] theorem setFab_fmc : (s.setFab g).fmc = s.fmc := rfl
@[simp] theorem setFab_fab : (s.setFab g).fab = g s.fab := rfl
@[simp] theorem setFab_snd : (s.setFab g).snd = s.snd := rfl
@[simp] theorem setFab_cmc : (s.setFab g).cmc = s.cmc := rfl
@[simp] theorem setFab_cor : (s.setFab g).cor = s.cor := rfl
@[simp] theorem setFab_drv : (s.setFab g).drv = s.drv := rfl
@[simp] theorem setFab_lux : (s.setFab g).lux = s.lux := rfl
@[simp] theorem setFab_nvs : (s.setFab g).nvs = s.nvs := rfl
@[simp] theorem setFab_ubuf : (s.setFab g).ubuf = s.ubuf := rfl
@[simp] theorem setFab_lan : (s.setFab g).lan = s.lan := rfl
@[simp] theorem setFab_par : (s.setFab g).par = s.par := rfl
@[simp] theorem setFab_mgt : (s.setFab g).mgt = s.mgt := rfl
@[simp] theorem setFab_rps : (s.setFab g).rps = s.rps := rfl
@[simp] theorem setFab_recs : (s.setFab g).recs = s.recs := rfl
@[simp] theorem setFab_evSeq : (s.setFab g).evSeq = s.evSeq := rfl
@[simp] theorem setFab_dram : (s.setFab g).dram = s.dram := rfl
@[simp] theorem setFab_mram : (s.setFab g).mram = s.mram := rfl
@[simp] theorem setFab_lineStore : (s.setFab g).lineStore = s.lineStore := rfl
@[simp] theorem setFab_outs : (s.setFab g).outs = s.outs := rfl
@[simp] theorem setFab_free : (s.setFab g).free = s.free := rfl

end setFab

section setDsp

variable (s : State) (g : DspSt → DspSt)

@[simp] theorem setDsp_pending : (s.setDsp g).pending = s.pending := rfl
@[simp] theorem setDsp_fuses : (s.setDsp g).fuses = s.fuses := rfl
@[simp] theorem setDsp_regs : (s.setDsp g).regs = s.regs := rfl
@[simp] theorem setDsp_stage : (s.setDsp g).stage = s.stage := rfl
@[simp] theorem setDsp_latch : (s.setDsp g).latch = s.latch := rfl
@[simp] theorem setDsp_clk : (s.setDsp g).clk = s.clk := rfl
@[simp] theorem setDsp_tim : (s.setDsp g).tim = s.tim := rfl
@[simp] theorem setDsp_dsp : (s.setDsp g).dsp = g s.dsp := rfl
@[simp] theorem setDsp_cmt : (s.setDsp g).cmt = s.cmt := rfl
@[simp] theorem setDsp_hst : (s.setDsp g).hst = s.hst := rfl
@[simp] theorem setDsp_thm : (s.setDsp g).thm = s.thm := rfl
@[simp] theorem setDsp_fmc : (s.setDsp g).fmc = s.fmc := rfl
@[simp] theorem setDsp_fab : (s.setDsp g).fab = s.fab := rfl
@[simp] theorem setDsp_snd : (s.setDsp g).snd = s.snd := rfl
@[simp] theorem setDsp_cmc : (s.setDsp g).cmc = s.cmc := rfl
@[simp] theorem setDsp_cor : (s.setDsp g).cor = s.cor := rfl
@[simp] theorem setDsp_drv : (s.setDsp g).drv = s.drv := rfl
@[simp] theorem setDsp_lux : (s.setDsp g).lux = s.lux := rfl
@[simp] theorem setDsp_nvs : (s.setDsp g).nvs = s.nvs := rfl
@[simp] theorem setDsp_ubuf : (s.setDsp g).ubuf = s.ubuf := rfl
@[simp] theorem setDsp_lan : (s.setDsp g).lan = s.lan := rfl
@[simp] theorem setDsp_par : (s.setDsp g).par = s.par := rfl
@[simp] theorem setDsp_mgt : (s.setDsp g).mgt = s.mgt := rfl
@[simp] theorem setDsp_rps : (s.setDsp g).rps = s.rps := rfl
@[simp] theorem setDsp_recs : (s.setDsp g).recs = s.recs := rfl
@[simp] theorem setDsp_evSeq : (s.setDsp g).evSeq = s.evSeq := rfl
@[simp] theorem setDsp_dram : (s.setDsp g).dram = s.dram := rfl
@[simp] theorem setDsp_mram : (s.setDsp g).mram = s.mram := rfl
@[simp] theorem setDsp_lineStore : (s.setDsp g).lineStore = s.lineStore := rfl
@[simp] theorem setDsp_outs : (s.setDsp g).outs = s.outs := rfl
@[simp] theorem setDsp_free : (s.setDsp g).free = s.free := rfl

end setDsp

section setHst

variable (s : State) (g : HstSt → HstSt)

@[simp] theorem setHst_pending : (s.setHst g).pending = s.pending := rfl
@[simp] theorem setHst_fuses : (s.setHst g).fuses = s.fuses := rfl
@[simp] theorem setHst_regs : (s.setHst g).regs = s.regs := rfl
@[simp] theorem setHst_stage : (s.setHst g).stage = s.stage := rfl
@[simp] theorem setHst_latch : (s.setHst g).latch = s.latch := rfl
@[simp] theorem setHst_clk : (s.setHst g).clk = s.clk := rfl
@[simp] theorem setHst_tim : (s.setHst g).tim = s.tim := rfl
@[simp] theorem setHst_dsp : (s.setHst g).dsp = s.dsp := rfl
@[simp] theorem setHst_cmt : (s.setHst g).cmt = s.cmt := rfl
@[simp] theorem setHst_hst : (s.setHst g).hst = g s.hst := rfl
@[simp] theorem setHst_thm : (s.setHst g).thm = s.thm := rfl
@[simp] theorem setHst_fmc : (s.setHst g).fmc = s.fmc := rfl
@[simp] theorem setHst_fab : (s.setHst g).fab = s.fab := rfl
@[simp] theorem setHst_snd : (s.setHst g).snd = s.snd := rfl
@[simp] theorem setHst_cmc : (s.setHst g).cmc = s.cmc := rfl
@[simp] theorem setHst_cor : (s.setHst g).cor = s.cor := rfl
@[simp] theorem setHst_drv : (s.setHst g).drv = s.drv := rfl
@[simp] theorem setHst_lux : (s.setHst g).lux = s.lux := rfl
@[simp] theorem setHst_nvs : (s.setHst g).nvs = s.nvs := rfl
@[simp] theorem setHst_ubuf : (s.setHst g).ubuf = s.ubuf := rfl
@[simp] theorem setHst_lan : (s.setHst g).lan = s.lan := rfl
@[simp] theorem setHst_par : (s.setHst g).par = s.par := rfl
@[simp] theorem setHst_mgt : (s.setHst g).mgt = s.mgt := rfl
@[simp] theorem setHst_rps : (s.setHst g).rps = s.rps := rfl
@[simp] theorem setHst_recs : (s.setHst g).recs = s.recs := rfl
@[simp] theorem setHst_evSeq : (s.setHst g).evSeq = s.evSeq := rfl
@[simp] theorem setHst_dram : (s.setHst g).dram = s.dram := rfl
@[simp] theorem setHst_mram : (s.setHst g).mram = s.mram := rfl
@[simp] theorem setHst_lineStore : (s.setHst g).lineStore = s.lineStore := rfl
@[simp] theorem setHst_outs : (s.setHst g).outs = s.outs := rfl
@[simp] theorem setHst_free : (s.setHst g).free = s.free := rfl

end setHst

section setCor

variable (s : State) (g : CorSt → CorSt)

@[simp] theorem setCor_pending : (s.setCor g).pending = s.pending := rfl
@[simp] theorem setCor_fuses : (s.setCor g).fuses = s.fuses := rfl
@[simp] theorem setCor_regs : (s.setCor g).regs = s.regs := rfl
@[simp] theorem setCor_stage : (s.setCor g).stage = s.stage := rfl
@[simp] theorem setCor_latch : (s.setCor g).latch = s.latch := rfl
@[simp] theorem setCor_clk : (s.setCor g).clk = s.clk := rfl
@[simp] theorem setCor_tim : (s.setCor g).tim = s.tim := rfl
@[simp] theorem setCor_dsp : (s.setCor g).dsp = s.dsp := rfl
@[simp] theorem setCor_cmt : (s.setCor g).cmt = s.cmt := rfl
@[simp] theorem setCor_hst : (s.setCor g).hst = s.hst := rfl
@[simp] theorem setCor_thm : (s.setCor g).thm = s.thm := rfl
@[simp] theorem setCor_fmc : (s.setCor g).fmc = s.fmc := rfl
@[simp] theorem setCor_fab : (s.setCor g).fab = s.fab := rfl
@[simp] theorem setCor_snd : (s.setCor g).snd = s.snd := rfl
@[simp] theorem setCor_cmc : (s.setCor g).cmc = s.cmc := rfl
@[simp] theorem setCor_cor : (s.setCor g).cor = g s.cor := rfl
@[simp] theorem setCor_drv : (s.setCor g).drv = s.drv := rfl
@[simp] theorem setCor_lux : (s.setCor g).lux = s.lux := rfl
@[simp] theorem setCor_nvs : (s.setCor g).nvs = s.nvs := rfl
@[simp] theorem setCor_ubuf : (s.setCor g).ubuf = s.ubuf := rfl
@[simp] theorem setCor_lan : (s.setCor g).lan = s.lan := rfl
@[simp] theorem setCor_par : (s.setCor g).par = s.par := rfl
@[simp] theorem setCor_mgt : (s.setCor g).mgt = s.mgt := rfl
@[simp] theorem setCor_rps : (s.setCor g).rps = s.rps := rfl
@[simp] theorem setCor_recs : (s.setCor g).recs = s.recs := rfl
@[simp] theorem setCor_evSeq : (s.setCor g).evSeq = s.evSeq := rfl
@[simp] theorem setCor_dram : (s.setCor g).dram = s.dram := rfl
@[simp] theorem setCor_mram : (s.setCor g).mram = s.mram := rfl
@[simp] theorem setCor_lineStore : (s.setCor g).lineStore = s.lineStore := rfl
@[simp] theorem setCor_outs : (s.setCor g).outs = s.outs := rfl
@[simp] theorem setCor_free : (s.setCor g).free = s.free := rfl

end setCor

section setDrv

variable (s : State) (g : DrvSt → DrvSt)

@[simp] theorem setDrv_pending : (s.setDrv g).pending = s.pending := rfl
@[simp] theorem setDrv_fuses : (s.setDrv g).fuses = s.fuses := rfl
@[simp] theorem setDrv_regs : (s.setDrv g).regs = s.regs := rfl
@[simp] theorem setDrv_stage : (s.setDrv g).stage = s.stage := rfl
@[simp] theorem setDrv_latch : (s.setDrv g).latch = s.latch := rfl
@[simp] theorem setDrv_clk : (s.setDrv g).clk = s.clk := rfl
@[simp] theorem setDrv_tim : (s.setDrv g).tim = s.tim := rfl
@[simp] theorem setDrv_dsp : (s.setDrv g).dsp = s.dsp := rfl
@[simp] theorem setDrv_cmt : (s.setDrv g).cmt = s.cmt := rfl
@[simp] theorem setDrv_hst : (s.setDrv g).hst = s.hst := rfl
@[simp] theorem setDrv_thm : (s.setDrv g).thm = s.thm := rfl
@[simp] theorem setDrv_fmc : (s.setDrv g).fmc = s.fmc := rfl
@[simp] theorem setDrv_fab : (s.setDrv g).fab = s.fab := rfl
@[simp] theorem setDrv_snd : (s.setDrv g).snd = s.snd := rfl
@[simp] theorem setDrv_cmc : (s.setDrv g).cmc = s.cmc := rfl
@[simp] theorem setDrv_cor : (s.setDrv g).cor = s.cor := rfl
@[simp] theorem setDrv_drv : (s.setDrv g).drv = g s.drv := rfl
@[simp] theorem setDrv_lux : (s.setDrv g).lux = s.lux := rfl
@[simp] theorem setDrv_nvs : (s.setDrv g).nvs = s.nvs := rfl
@[simp] theorem setDrv_ubuf : (s.setDrv g).ubuf = s.ubuf := rfl
@[simp] theorem setDrv_lan : (s.setDrv g).lan = s.lan := rfl
@[simp] theorem setDrv_par : (s.setDrv g).par = s.par := rfl
@[simp] theorem setDrv_mgt : (s.setDrv g).mgt = s.mgt := rfl
@[simp] theorem setDrv_rps : (s.setDrv g).rps = s.rps := rfl
@[simp] theorem setDrv_recs : (s.setDrv g).recs = s.recs := rfl
@[simp] theorem setDrv_evSeq : (s.setDrv g).evSeq = s.evSeq := rfl
@[simp] theorem setDrv_dram : (s.setDrv g).dram = s.dram := rfl
@[simp] theorem setDrv_mram : (s.setDrv g).mram = s.mram := rfl
@[simp] theorem setDrv_lineStore : (s.setDrv g).lineStore = s.lineStore := rfl
@[simp] theorem setDrv_outs : (s.setDrv g).outs = s.outs := rfl
@[simp] theorem setDrv_free : (s.setDrv g).free = s.free := rfl

end setDrv

section setLux

variable (s : State) (g : LuxSt → LuxSt)

@[simp] theorem setLux_pending : (s.setLux g).pending = s.pending := rfl
@[simp] theorem setLux_fuses : (s.setLux g).fuses = s.fuses := rfl
@[simp] theorem setLux_regs : (s.setLux g).regs = s.regs := rfl
@[simp] theorem setLux_stage : (s.setLux g).stage = s.stage := rfl
@[simp] theorem setLux_latch : (s.setLux g).latch = s.latch := rfl
@[simp] theorem setLux_clk : (s.setLux g).clk = s.clk := rfl
@[simp] theorem setLux_tim : (s.setLux g).tim = s.tim := rfl
@[simp] theorem setLux_dsp : (s.setLux g).dsp = s.dsp := rfl
@[simp] theorem setLux_cmt : (s.setLux g).cmt = s.cmt := rfl
@[simp] theorem setLux_hst : (s.setLux g).hst = s.hst := rfl
@[simp] theorem setLux_thm : (s.setLux g).thm = s.thm := rfl
@[simp] theorem setLux_fmc : (s.setLux g).fmc = s.fmc := rfl
@[simp] theorem setLux_fab : (s.setLux g).fab = s.fab := rfl
@[simp] theorem setLux_snd : (s.setLux g).snd = s.snd := rfl
@[simp] theorem setLux_cmc : (s.setLux g).cmc = s.cmc := rfl
@[simp] theorem setLux_cor : (s.setLux g).cor = s.cor := rfl
@[simp] theorem setLux_drv : (s.setLux g).drv = s.drv := rfl
@[simp] theorem setLux_lux : (s.setLux g).lux = g s.lux := rfl
@[simp] theorem setLux_nvs : (s.setLux g).nvs = s.nvs := rfl
@[simp] theorem setLux_ubuf : (s.setLux g).ubuf = s.ubuf := rfl
@[simp] theorem setLux_lan : (s.setLux g).lan = s.lan := rfl
@[simp] theorem setLux_par : (s.setLux g).par = s.par := rfl
@[simp] theorem setLux_mgt : (s.setLux g).mgt = s.mgt := rfl
@[simp] theorem setLux_rps : (s.setLux g).rps = s.rps := rfl
@[simp] theorem setLux_recs : (s.setLux g).recs = s.recs := rfl
@[simp] theorem setLux_evSeq : (s.setLux g).evSeq = s.evSeq := rfl
@[simp] theorem setLux_dram : (s.setLux g).dram = s.dram := rfl
@[simp] theorem setLux_mram : (s.setLux g).mram = s.mram := rfl
@[simp] theorem setLux_lineStore : (s.setLux g).lineStore = s.lineStore := rfl
@[simp] theorem setLux_outs : (s.setLux g).outs = s.outs := rfl
@[simp] theorem setLux_free : (s.setLux g).free = s.free := rfl

end setLux

section setPar

variable (s : State) (g : ParSt → ParSt)

@[simp] theorem setPar_pending : (s.setPar g).pending = s.pending := rfl
@[simp] theorem setPar_fuses : (s.setPar g).fuses = s.fuses := rfl
@[simp] theorem setPar_regs : (s.setPar g).regs = s.regs := rfl
@[simp] theorem setPar_stage : (s.setPar g).stage = s.stage := rfl
@[simp] theorem setPar_latch : (s.setPar g).latch = s.latch := rfl
@[simp] theorem setPar_clk : (s.setPar g).clk = s.clk := rfl
@[simp] theorem setPar_tim : (s.setPar g).tim = s.tim := rfl
@[simp] theorem setPar_dsp : (s.setPar g).dsp = s.dsp := rfl
@[simp] theorem setPar_cmt : (s.setPar g).cmt = s.cmt := rfl
@[simp] theorem setPar_hst : (s.setPar g).hst = s.hst := rfl
@[simp] theorem setPar_thm : (s.setPar g).thm = s.thm := rfl
@[simp] theorem setPar_fmc : (s.setPar g).fmc = s.fmc := rfl
@[simp] theorem setPar_fab : (s.setPar g).fab = s.fab := rfl
@[simp] theorem setPar_snd : (s.setPar g).snd = s.snd := rfl
@[simp] theorem setPar_cmc : (s.setPar g).cmc = s.cmc := rfl
@[simp] theorem setPar_cor : (s.setPar g).cor = s.cor := rfl
@[simp] theorem setPar_drv : (s.setPar g).drv = s.drv := rfl
@[simp] theorem setPar_lux : (s.setPar g).lux = s.lux := rfl
@[simp] theorem setPar_nvs : (s.setPar g).nvs = s.nvs := rfl
@[simp] theorem setPar_ubuf : (s.setPar g).ubuf = s.ubuf := rfl
@[simp] theorem setPar_lan : (s.setPar g).lan = s.lan := rfl
@[simp] theorem setPar_par : (s.setPar g).par = g s.par := rfl
@[simp] theorem setPar_mgt : (s.setPar g).mgt = s.mgt := rfl
@[simp] theorem setPar_rps : (s.setPar g).rps = s.rps := rfl
@[simp] theorem setPar_recs : (s.setPar g).recs = s.recs := rfl
@[simp] theorem setPar_evSeq : (s.setPar g).evSeq = s.evSeq := rfl
@[simp] theorem setPar_dram : (s.setPar g).dram = s.dram := rfl
@[simp] theorem setPar_mram : (s.setPar g).mram = s.mram := rfl
@[simp] theorem setPar_lineStore : (s.setPar g).lineStore = s.lineStore := rfl
@[simp] theorem setPar_outs : (s.setPar g).outs = s.outs := rfl
@[simp] theorem setPar_free : (s.setPar g).free = s.free := rfl

end setPar

/-! Registers and fields after an update that writes no register. -/

@[simp] theorem setRps_reg (s : State) (g : RpsSt → RpsSt) (a : Nat) : (s.setRps g).reg a = s.reg a := rfl
@[simp] theorem setRps_f (s : State) (g : RpsSt → RpsSt) (x : Fld) : (s.setRps g).f x = s.f x := rfl
@[simp] theorem setRps_fS (s : State) (g : RpsSt → RpsSt) (x : Fld) : (s.setRps g).fS x = s.fS x := rfl
@[simp] theorem setRps_on (s : State) (g : RpsSt → RpsSt) (x : Fld) : (s.setRps g).on x = s.on x := rfl
@[simp] theorem setThm_reg (s : State) (g : ThmSt → ThmSt) (a : Nat) : (s.setThm g).reg a = s.reg a := rfl
@[simp] theorem setThm_f (s : State) (g : ThmSt → ThmSt) (x : Fld) : (s.setThm g).f x = s.f x := rfl
@[simp] theorem setThm_fS (s : State) (g : ThmSt → ThmSt) (x : Fld) : (s.setThm g).fS x = s.fS x := rfl
@[simp] theorem setThm_on (s : State) (g : ThmSt → ThmSt) (x : Fld) : (s.setThm g).on x = s.on x := rfl
@[simp] theorem setMgt_reg (s : State) (g : MgtSt → MgtSt) (a : Nat) : (s.setMgt g).reg a = s.reg a := rfl
@[simp] theorem setMgt_f (s : State) (g : MgtSt → MgtSt) (x : Fld) : (s.setMgt g).f x = s.f x := rfl
@[simp] theorem setMgt_fS (s : State) (g : MgtSt → MgtSt) (x : Fld) : (s.setMgt g).fS x = s.fS x := rfl
@[simp] theorem setMgt_on (s : State) (g : MgtSt → MgtSt) (x : Fld) : (s.setMgt g).on x = s.on x := rfl
@[simp] theorem setCmc_reg (s : State) (g : CmcSt → CmcSt) (a : Nat) : (s.setCmc g).reg a = s.reg a := rfl
@[simp] theorem setCmc_f (s : State) (g : CmcSt → CmcSt) (x : Fld) : (s.setCmc g).f x = s.f x := rfl
@[simp] theorem setCmc_fS (s : State) (g : CmcSt → CmcSt) (x : Fld) : (s.setCmc g).fS x = s.fS x := rfl
@[simp] theorem setCmc_on (s : State) (g : CmcSt → CmcSt) (x : Fld) : (s.setCmc g).on x = s.on x := rfl
@[simp] theorem setCmt_reg (s : State) (g : CmtSt → CmtSt) (a : Nat) : (s.setCmt g).reg a = s.reg a := rfl
@[simp] theorem setCmt_f (s : State) (g : CmtSt → CmtSt) (x : Fld) : (s.setCmt g).f x = s.f x := rfl
@[simp] theorem setCmt_fS (s : State) (g : CmtSt → CmtSt) (x : Fld) : (s.setCmt g).fS x = s.fS x := rfl
@[simp] theorem setCmt_on (s : State) (g : CmtSt → CmtSt) (x : Fld) : (s.setCmt g).on x = s.on x := rfl
@[simp] theorem setFab_reg (s : State) (g : FabSt → FabSt) (a : Nat) : (s.setFab g).reg a = s.reg a := rfl
@[simp] theorem setFab_f (s : State) (g : FabSt → FabSt) (x : Fld) : (s.setFab g).f x = s.f x := rfl
@[simp] theorem setFab_fS (s : State) (g : FabSt → FabSt) (x : Fld) : (s.setFab g).fS x = s.fS x := rfl
@[simp] theorem setFab_on (s : State) (g : FabSt → FabSt) (x : Fld) : (s.setFab g).on x = s.on x := rfl
@[simp] theorem setDsp_reg (s : State) (g : DspSt → DspSt) (a : Nat) : (s.setDsp g).reg a = s.reg a := rfl
@[simp] theorem setDsp_f (s : State) (g : DspSt → DspSt) (x : Fld) : (s.setDsp g).f x = s.f x := rfl
@[simp] theorem setDsp_fS (s : State) (g : DspSt → DspSt) (x : Fld) : (s.setDsp g).fS x = s.fS x := rfl
@[simp] theorem setDsp_on (s : State) (g : DspSt → DspSt) (x : Fld) : (s.setDsp g).on x = s.on x := rfl
@[simp] theorem setHst_reg (s : State) (g : HstSt → HstSt) (a : Nat) : (s.setHst g).reg a = s.reg a := rfl
@[simp] theorem setHst_f (s : State) (g : HstSt → HstSt) (x : Fld) : (s.setHst g).f x = s.f x := rfl
@[simp] theorem setHst_fS (s : State) (g : HstSt → HstSt) (x : Fld) : (s.setHst g).fS x = s.fS x := rfl
@[simp] theorem setHst_on (s : State) (g : HstSt → HstSt) (x : Fld) : (s.setHst g).on x = s.on x := rfl
@[simp] theorem setCor_reg (s : State) (g : CorSt → CorSt) (a : Nat) : (s.setCor g).reg a = s.reg a := rfl
@[simp] theorem setCor_f (s : State) (g : CorSt → CorSt) (x : Fld) : (s.setCor g).f x = s.f x := rfl
@[simp] theorem setCor_fS (s : State) (g : CorSt → CorSt) (x : Fld) : (s.setCor g).fS x = s.fS x := rfl
@[simp] theorem setCor_on (s : State) (g : CorSt → CorSt) (x : Fld) : (s.setCor g).on x = s.on x := rfl
@[simp] theorem setDrv_reg (s : State) (g : DrvSt → DrvSt) (a : Nat) : (s.setDrv g).reg a = s.reg a := rfl
@[simp] theorem setDrv_f (s : State) (g : DrvSt → DrvSt) (x : Fld) : (s.setDrv g).f x = s.f x := rfl
@[simp] theorem setDrv_fS (s : State) (g : DrvSt → DrvSt) (x : Fld) : (s.setDrv g).fS x = s.fS x := rfl
@[simp] theorem setDrv_on (s : State) (g : DrvSt → DrvSt) (x : Fld) : (s.setDrv g).on x = s.on x := rfl
@[simp] theorem setLux_reg (s : State) (g : LuxSt → LuxSt) (a : Nat) : (s.setLux g).reg a = s.reg a := rfl
@[simp] theorem setLux_f (s : State) (g : LuxSt → LuxSt) (x : Fld) : (s.setLux g).f x = s.f x := rfl
@[simp] theorem setLux_fS (s : State) (g : LuxSt → LuxSt) (x : Fld) : (s.setLux g).fS x = s.fS x := rfl
@[simp] theorem setLux_on (s : State) (g : LuxSt → LuxSt) (x : Fld) : (s.setLux g).on x = s.on x := rfl
@[simp] theorem setPar_reg (s : State) (g : ParSt → ParSt) (a : Nat) : (s.setPar g).reg a = s.reg a := rfl
@[simp] theorem setPar_f (s : State) (g : ParSt → ParSt) (x : Fld) : (s.setPar g).f x = s.f x := rfl
@[simp] theorem setPar_fS (s : State) (g : ParSt → ParSt) (x : Fld) : (s.setPar g).fS x = s.fS x := rfl
@[simp] theorem setPar_on (s : State) (g : ParSt → ParSt) (x : Fld) : (s.setPar g).on x = s.on x := rfl
@[simp] theorem emit_reg (s : State) (o : Out) (a : Nat) : (s.emit o).reg a = s.reg a := rfl
@[simp] theorem ticks_reg (s : State) (k : Nat) (a : Nat) : (s.ticks k).reg a = s.reg a := rfl
@[simp] theorem emit_f (s : State) (o : Out) (x : Fld) : (s.emit o).f x = s.f x := rfl
@[simp] theorem ticks_f (s : State) (k : Nat) (x : Fld) : (s.ticks k).f x = s.f x := rfl
@[simp] theorem emit_fS (s : State) (o : Out) (x : Fld) : (s.emit o).fS x = s.fS x := rfl
@[simp] theorem ticks_fS (s : State) (k : Nat) (x : Fld) : (s.ticks k).fS x = s.fS x := rfl
@[simp] theorem emit_on (s : State) (o : Out) (x : Fld) : (s.emit o).on x = s.on x := rfl
@[simp] theorem ticks_on (s : State) (k : Nat) (x : Fld) : (s.ticks k).on x = s.on x := rfl

section sealed

variable (s t : State)

@[simp] theorem sealed_pending : (s.sealed t).pending = s.pending := rfl
@[simp] theorem sealed_fuses : (s.sealed t).fuses = s.fuses := rfl
@[simp] theorem sealed_regs : (s.sealed t).regs = t.regs := rfl
@[simp] theorem sealed_stage : (s.sealed t).stage = t.stage := rfl
@[simp] theorem sealed_latch : (s.sealed t).latch = t.latch := rfl
@[simp] theorem sealed_clk : (s.sealed t).clk = t.clk := rfl
@[simp] theorem sealed_tim : (s.sealed t).tim = t.tim := rfl
@[simp] theorem sealed_dsp : (s.sealed t).dsp = t.dsp := rfl
@[simp] theorem sealed_cmt : (s.sealed t).cmt = t.cmt := rfl
@[simp] theorem sealed_hst : (s.sealed t).hst = t.hst := rfl
@[simp] theorem sealed_thm : (s.sealed t).thm = t.thm := rfl
@[simp] theorem sealed_fmc : (s.sealed t).fmc = t.fmc := rfl
@[simp] theorem sealed_fab : (s.sealed t).fab = t.fab := rfl
@[simp] theorem sealed_snd : (s.sealed t).snd = t.snd := rfl
@[simp] theorem sealed_cmc : (s.sealed t).cmc = t.cmc := rfl
@[simp] theorem sealed_cor : (s.sealed t).cor = t.cor := rfl
@[simp] theorem sealed_drv : (s.sealed t).drv = t.drv := rfl
@[simp] theorem sealed_lux : (s.sealed t).lux = t.lux := rfl
@[simp] theorem sealed_nvs : (s.sealed t).nvs = t.nvs := rfl
@[simp] theorem sealed_ubuf : (s.sealed t).ubuf = t.ubuf := rfl
@[simp] theorem sealed_lan : (s.sealed t).lan = t.lan := rfl
@[simp] theorem sealed_par : (s.sealed t).par = t.par := rfl
@[simp] theorem sealed_mgt : (s.sealed t).mgt = t.mgt := rfl
@[simp] theorem sealed_rps : (s.sealed t).rps = t.rps := rfl
@[simp] theorem sealed_recs : (s.sealed t).recs = t.recs := rfl
@[simp] theorem sealed_evSeq : (s.sealed t).evSeq = t.evSeq := rfl
@[simp] theorem sealed_dram : (s.sealed t).dram = t.dram := rfl
@[simp] theorem sealed_mram : (s.sealed t).mram = t.mram := rfl
@[simp] theorem sealed_lineStore : (s.sealed t).lineStore = t.lineStore := rfl
@[simp] theorem sealed_outs : (s.sealed t).outs = t.outs := rfl
@[simp] theorem sealed_free : (s.sealed t).free = t.free := rfl
@[simp] theorem sealed_reg (a : Nat) : (s.sealed t).reg a = t.reg a := rfl
@[simp] theorem sealed_f (x : Fld) : (s.sealed t).f x = t.f x := rfl
@[simp] theorem sealed_fS (x : Fld) : (s.sealed t).fS x = t.fS x := rfl
@[simp] theorem sealed_on (x : Fld) : (s.sealed t).on x = t.on x := rfl
@[simp] theorem sealed_role : (s.sealed t).role = t.role := rfl

end sealed

end Sys2Proof.Machine.State
end

