-- ==== Sys2Proof/Laws/Registers.lean ====
section
/-! SUPPORT. The laws of the register file and of fields: what a read gives after a write, and that every operation keeps the
canonical form. -/

namespace Sys2Proof.Machine

/-! ### The register file -/

theorem RegFile.get_put (r : RegFile) (a b : Nat) (v : Word) (h : ∀ p ∈ r, p.1 ≠ a) :
    RegFile.get (RegFile.put a v r) b = if b = a then v else RegFile.get r b := by
  induction r with
  | nil => simp [RegFile.put, RegFile.get]
  | cons p r ih =>
    obtain ⟨c, w⟩ := p
    have hc : c ≠ a := h (c, w) (by simp)
    have ih := ih fun p hp => h p (by simp [hp])
    simp only [RegFile.put]
    split
    · simp [RegFile.get]
    · simp only [RegFile.get, ih]
      split <;> split <;> simp_all

theorem RegFile.get_filter_ne (r : RegFile) (a b : Nat) (h : b ≠ a) :
    RegFile.get (r.filter fun p => p.1 != a) b = RegFile.get r b := by
  induction r with
  | nil => rfl
  | cons p r ih =>
    obtain ⟨c, w⟩ := p
    by_cases hc : c = a
    · subst hc; simp [RegFile.get, ih, h]
    · simp [RegFile.get, hc, ih]

theorem RegFile.get_filter_self (r : RegFile) (a : Nat) : RegFile.get (r.filter fun p => p.1 != a) a = resetWord a := by
  induction r with
  | nil => rfl
  | cons p r ih =>
    obtain ⟨c, w⟩ := p
    by_cases hc : c = a
    · subst hc; simpa using ih
    · simp [hc, RegFile.get, Ne.symm hc, ih]

/-- A read after a write: the written word at its address, the old word elsewhere. -/
theorem RegFile.get_set (r : RegFile) (a b : Nat) (v : Word) :
    RegFile.get (RegFile.set r a v) b = if b = a then v else RegFile.get r b := by
  unfold RegFile.set
  split
  · rename_i hv
    by_cases h : b = a
    · subst h; simp [RegFile.get_filter_self, hv]
    · simp [h, RegFile.get_filter_ne]
  · rw [RegFile.get_put]
    · by_cases h : b = a
      · simp [h]
      · simp [h, RegFile.get_filter_ne]
    · intro p hp; simp at hp; exact hp.2

@[simp] theorem RegFile.get_set_self (r : RegFile) (a : Nat) (v : Word) : RegFile.get (RegFile.set r a v) a = v := by
  simp [RegFile.get_set]

theorem RegFile.get_set_ne (r : RegFile) {a b : Nat} (v : Word) (h : b ≠ a) :
    RegFile.get (RegFile.set r a v) b = RegFile.get r b := by
  simp [RegFile.get_set, h]

theorem RegFile.put_pairwise {r : RegFile} {a : Nat} {v : Word} (h : r.Pairwise fun p q => p.1 < q.1)
    (ha : ∀ p ∈ r, p.1 ≠ a) : (RegFile.put a v r).Pairwise fun p q => p.1 < q.1 := by
  induction r with
  | nil => simp [RegFile.put]
  | cons p r ih =>
    obtain ⟨c, w⟩ := p
    have hc : c ≠ a := ha (c, w) (by simp)
    rw [List.pairwise_cons] at h
    simp only [RegFile.put]
    split
    · rename_i hlt
      rw [List.pairwise_cons, List.pairwise_cons]
      refine ⟨?_, h⟩
      intro q hq
      rcases List.mem_cons.1 hq with rfl | hq
      · exact hlt
      · exact Nat.lt_trans hlt (h.1 q hq)
    · rename_i hge
      rw [List.pairwise_cons]
      refine ⟨?_, ih h.2 fun p hp => ha p (by simp [hp])⟩
      intro q hq
      have mem : q = (a, v) ∨ q ∈ r := by
        clear ih h ha hge hc
        induction r with
        | nil => simp [RegFile.put] at hq; exact .inl hq
        | cons d r ih2 =>
          obtain ⟨d1, d2⟩ := d
          simp only [RegFile.put] at hq
          split at hq
          · simpa using hq
          · rcases List.mem_cons.1 hq with rfl | hq
            · simp
            · rcases ih2 hq with h | h <;> simp [h]
      rcases mem with rfl | hq
      · simp; omega
      · exact h.1 q hq

theorem RegFile.put_mem {r : RegFile} {a : Nat} {v : Word} {q : Nat × Word} (hq : q ∈ RegFile.put a v r) : q = (a, v) ∨ q ∈ r := by
  induction r with
  | nil => simp [RegFile.put] at hq; exact .inl hq
  | cons d r ih =>
    obtain ⟨d1, d2⟩ := d
    simp only [RegFile.put] at hq
    split at hq
    · simpa using hq
    · rcases List.mem_cons.1 hq with rfl | hq
      · simp
      · rcases ih hq with h | h <;> simp [h]

/-- A write keeps the canonical form. -/
theorem RegFile.set_wf {r : RegFile} (h : RegFile.wf r = true) (a : Nat) (v : Word) : RegFile.wf (RegFile.set r a v) = true := by
  simp only [RegFile.wf, Bool.and_eq_true, decide_eq_true_eq, List.all_eq_true, bne_iff_ne] at h ⊢
  have hp : (r.filter fun p => p.1 != a).Pairwise fun p q => p.1 < q.1 := h.1.filter _
  unfold RegFile.set
  split
  · exact ⟨hp, fun p hm => h.2 p (List.mem_filter.1 hm).1⟩
  · rename_i hv
    refine ⟨RegFile.put_pairwise hp fun p hm => by simpa using (List.mem_filter.1 hm).2, fun p hm => ?_⟩
    rcases RegFile.put_mem hm with rfl | hm
    · exact hv
    · exact h.2 p (List.mem_filter.1 hm).1

theorem RegFile.setFld_wf {r : RegFile} (h : RegFile.wf r = true) (x : Fld) (v : Nat) : RegFile.wf (RegFile.setFld r x v) = true :=
  RegFile.set_wf h _ _

theorem RegFile.filter_wf {r : RegFile} (h : RegFile.wf r = true) (p : Nat × Word → Bool) : RegFile.wf (r.filter p) = true := by
  simp only [RegFile.wf, Bool.and_eq_true, decide_eq_true_eq, List.all_eq_true, bne_iff_ne] at h ⊢
  exact ⟨h.1.filter _, fun q hm => h.2 q (List.mem_filter.1 hm).1⟩

theorem RegFile.clear_wf {r : RegFile} (h : RegFile.wf r = true) (p : Nat → Bool) : RegFile.wf (RegFile.clear r p) = true :=
  RegFile.filter_wf h _

theorem RegFile.foldl_wf {α : Type} {g : RegFile → α → RegFile} (hg : ∀ r x, RegFile.wf r = true → RegFile.wf (g r x) = true)
    (l : List α) {r : RegFile} (h : RegFile.wf r = true) : RegFile.wf (l.foldl g r) = true := by
  induction l generalizing r with
  | nil => exact h
  | cons x l ih => exact ih (hg r x h)

theorem RegFile.applyStaged_wf {act snap : RegFile} (h : RegFile.wf act = true) : RegFile.wf (RegFile.applyStaged act snap) = true :=
  RegFile.foldl_wf (fun r p hr => by simp only; split <;> first | exact hr | exact RegFile.set_wf hr _ _) _ h

/-! ### Fields -/

/-- The bits of a word after a put: those of the value inside the field, the old ones elsewhere. -/
theorem Fld.getLsbD_put (x : Fld) (w : Word) (v j : Nat) (h : x.lo + x.width ≤ 32) :
    (x.put w v).getLsbD j = if x.lo ≤ j ∧ j < x.lo + x.width then v.testBit (j - x.lo) else w.getLsbD j := by
  have hm : ((2 ^ x.width - 1) * 2 ^ x.lo).testBit j = decide (x.lo ≤ j ∧ j < x.lo + x.width) := by
    rw [← Nat.shiftLeft_eq, Nat.testBit_shiftLeft, Nat.testBit_two_pow_sub_one, ← Bool.decide_and]
    exact decide_eq_decide.2 (by omega)
  have hv : (v % 2 ^ x.width).testBit (j - x.lo) = (decide (j - x.lo < x.width) && v.testBit (j - x.lo)) :=
    Nat.testBit_mod_two_pow _ _ _
  unfold Fld.put bitMask
  by_cases h32 : j < 32
  · rw [BitVec.getLsbD_or, BitVec.getLsbD_and, BitVec.getLsbD_not, BitVec.getLsbD_shiftLeft, BitVec.getLsbD_ofNat,
      BitVec.getLsbD_ofNat, hm, hv]
    by_cases h1 : x.lo ≤ j
    · by_cases h2 : j < x.lo + x.width
      · have h3 : j - x.lo < x.width := by omega
        have h4 : j - x.lo < 32 := by omega
        simp [h32, h1, h2, h3, h4, Nat.not_lt.2 h1]
      · have h3 : ¬ j - x.lo < x.width := by omega
        simp [h32, h1, h2, h3]
    · simp [h32, h1, Nat.lt_of_not_le h1]
  · have hg : ∀ u : BitVec 32, u.getLsbD j = false := fun u => BitVec.getLsbD_of_ge _ _ (by omega)
    rw [hg, hg]; split
    · omega
    · rfl

/-- The bits of a field's value. -/
theorem Fld.testBit_get (x : Fld) (w : Word) (i : Nat) : (x.get w).testBit i = (decide (i < x.width) && w.getLsbD (x.lo + i)) := by
  unfold Fld.get
  rw [← Nat.shiftRight_eq_div_pow, Nat.testBit_mod_two_pow, Nat.testBit_shiftRight, BitVec.testBit_toNat]

/-- A field reads back the low bits of what was put into it. -/
theorem Fld.get_put (x : Fld) (w : Word) (v : Nat) (h : x.lo + x.width ≤ 32) : x.get (x.put w v) = v % 2 ^ x.width := by
  apply Nat.eq_of_testBit_eq
  intro i
  rw [Fld.testBit_get, Fld.getLsbD_put x w v _ h, Nat.testBit_mod_two_pow]
  by_cases hi : i < x.width
  · simp [hi]
  · simp [hi]

/-- A field is untouched by a put into a disjoint field of the same word. -/
theorem Fld.get_put_disjoint (x y : Fld) (w : Word) (v : Nat) (hx : x.lo + x.width ≤ 32)
    (h : x.lo + x.width ≤ y.lo ∨ y.lo + y.width ≤ x.lo) : y.get (x.put w v) = y.get w := by
  apply Nat.eq_of_testBit_eq
  intro i
  rw [Fld.testBit_get, Fld.testBit_get, Fld.getLsbD_put x w v _ hx]
  by_cases hi : i < y.width
  · rw [if_neg (by omega)]
  · simp [hi]

/-- The value of a field is below 2 to its width. -/
theorem Fld.get_lt (x : Fld) (w : Word) : x.get w < 2 ^ x.width := Nat.mod_lt _ (Nat.two_pow_pos _)

namespace State

theorem reg_setReg (s : State) (a b : Nat) (v : Word) : (s.setReg a v).reg b = if b = a then v else s.reg b :=
  RegFile.get_set _ _ _ _

@[simp] theorem reg_setReg_self (s : State) (a : Nat) (v : Word) : (s.setReg a v).reg a = v := by simp [reg_setReg]

theorem reg_setReg_ne (s : State) {a b : Nat} (v : Word) (h : b ≠ a) : (s.setReg a v).reg b = s.reg b := by simp [reg_setReg, h]

theorem reg_setF (s : State) (x : Fld) (b v : Nat) :
    (s.setF x v).reg b = if b = x.addr then x.put (s.reg x.addr) v else s.reg b :=
  RegFile.get_set _ _ _ _

theorem reg_setF_ne (s : State) {x : Fld} {b : Nat} (v : Nat) (h : b ≠ x.addr) : (s.setF x v).reg b = s.reg b := by
  simp [reg_setF, h]

/-- A field of another register is untouched. -/
theorem f_setF_ne (s : State) {x y : Fld} (v : Nat) (h : y.addr ≠ x.addr) : (s.setF x v).f y = s.f y := by
  show y.get _ = y.get _
  exact congrArg y.get (reg_setF_ne s v h)

/-- A field reads back what was set, cut to its width. -/
theorem f_setF_self (s : State) (x : Fld) (v : Nat) (h : x.lo + x.width ≤ 32) : (s.setF x v).f x = v % 2 ^ x.width := by
  show x.get ((s.setF x v).reg x.addr) = _
  rw [reg_setF]; simp only [if_true]; exact Fld.get_put x _ v h

/-- A disjoint field of the same register is untouched. -/
theorem f_setF_disjoint (s : State) {x y : Fld} (v : Nat) (hx : x.lo + x.width ≤ 32)
    (h : x.lo + x.width ≤ y.lo ∨ y.lo + y.width ≤ x.lo) : (s.setF x v).f y = s.f y := by
  by_cases ha : y.addr = x.addr
  · show y.get ((s.setF x v).reg y.addr) = y.get (s.reg y.addr)
    rw [reg_setF, if_pos ha, ha]; exact Fld.get_put_disjoint x y _ v hx h
  · exact f_setF_ne s v ha

theorem f_setReg_ne (s : State) {a : Nat} {y : Fld} (v : Word) (h : y.addr ≠ a) : (s.setReg a v).f y = s.f y := by
  show y.get _ = y.get _
  exact congrArg y.get (reg_setReg_ne s v h)

theorem f_setReg_self (s : State) (y : Fld) (v : Word) : (s.setReg y.addr v).f y = y.get v := by
  show y.get _ = y.get _
  exact congrArg y.get (reg_setReg_self s _ v)

/-- Operations that leave the register file leave every register and field. -/
theorem reg_of_regs {s t : State} (h : t.regs = s.regs) (a : Nat) : t.reg a = s.reg a := by simp [reg, h]
theorem f_of_regs {s t : State} (h : t.regs = s.regs) (x : Fld) : t.f x = s.f x := by simp [f, h]

end State

end Sys2Proof.Machine
end

