-- ==== Sys2Proof/Laws/Events.lean ====
section
/-! SUPPORT. What raising an event can change: the registers of the event router, CMC_EVDROP, the event records, the MSI-X state of
the host port and the outputs; nothing else. -/

namespace Sys2Proof.Machine.State

/-- Everything that raising an event can do. -/
structure OnlyEvents (s t : State) : Prop where
  same : ∃ g r h o, t = { s with regs := g, recs := r, hst := h, outs := o }
  regs : ∀ a, evReg a = false → t.reg a = s.reg a

theorem OnlyEvents.refl (s : State) : OnlyEvents s s := ⟨⟨_, _, _, _, rfl⟩, fun _ _ => rfl⟩

theorem OnlyEvents.trans {s t u : State} (h1 : OnlyEvents s t) (h2 : OnlyEvents t u) : OnlyEvents s u := by
  obtain ⟨⟨g, r, h, o, rfl⟩, hr⟩ := h1
  obtain ⟨⟨g', r', h', o', rfl⟩, hr'⟩ := h2
  exact ⟨⟨g', r', h', o', rfl⟩, fun a ha => (hr' a ha).trans (hr a ha)⟩

theorem OnlyEvents.setReg (s : State) {a : Nat} (v : Word) (ha : evReg a = true) : OnlyEvents s (s.setReg a v) :=
  ⟨⟨_, _, _, _, rfl⟩, fun b hb => reg_setReg_ne s v (by rintro rfl; simp [ha] at hb)⟩

theorem OnlyEvents.setF (s : State) {x : Fld} (v : Nat) (ha : evReg x.addr = true) : OnlyEvents s (s.setF x v) :=
  ⟨⟨_, _, _, _, rfl⟩, fun b hb => reg_setF_ne s v (by rintro rfl; simp [ha] at hb)⟩

theorem onlyEvents_emit (s : State) (o : Out) : OnlyEvents s (s.emit o) := ⟨⟨_, _, _, _, rfl⟩, fun _ _ => rfl⟩

theorem onlyEvents_msixSend (s : State) (v : Nat) : OnlyEvents s (s.msixSend v) := by
  unfold msixSend
  dsimp only
  split <;> exact ⟨⟨_, _, _, _, rfl⟩, fun _ _ => rfl⟩

theorem evReg_stat (n : Nat) (h : n < 320) : evReg (R.EVT_STAT (n / 32)) = true := by
  have : n / 32 < 10 := by omega
  simp [evReg, R.EVT_STAT]; omega

theorem onlyEvents_evMark (s : State) (n : Nat) (h : n < 320) : OnlyEvents s (s.evMark n) :=
  (OnlyEvents.setReg s _ (evReg_stat n h)).trans (OnlyEvents.setF _ _ (by decide))

theorem onlyEvents_bump (s : State) {x : Fld} (h : evReg x.addr = true) : OnlyEvents s (s.bump x) := OnlyEvents.setF s _ h

theorem onlyEvents_recs (s : State) (r : List EvRec) : OnlyEvents s { s with recs := r } := ⟨⟨_, _, _, _, rfl⟩, fun _ _ => rfl⟩

theorem onlyEvents_raiseDrop (s : State) : OnlyEvents s s.raiseDrop := by
  unfold raiseDrop
  refine (onlyEvents_evMark s 266 (by decide)).trans ?_
  simp only
  split
  · split
    · exact onlyEvents_recs _ _
    · exact onlyEvents_bump _ (by decide)
  · exact OnlyEvents.refl _

theorem onlyEvents_addRec (s : State) (n : Nat) : OnlyEvents s (s.addRec n) := by
  unfold addRec
  split
  · exact onlyEvents_recs _ _
  · split
    · exact onlyEvents_bump _ (by decide)
    · exact (onlyEvents_bump s (by decide)).trans (onlyEvents_raiseDrop _)

theorem evLive_lt {s : State} {n : Nat} (h : s.evLive n = true) : n < 320 := by
  unfold evLive at h
  rw [Bool.or_eq_true] at h
  rcases h with h | h
  · simp at h; omega
  · by_cases hn : n < 320
    · exact hn
    · have : evOwner n = none := by
        unfold evOwner
        repeat (first | rw [if_neg (by omega)])
      simp [this] at h

/-- Raising an event changes only what events may change. -/
theorem onlyEvents_raise (s : State) (n : Nat) : OnlyEvents s (s.raise n) := by
  unfold raise
  split
  · exact OnlyEvents.refl _
  · rename_i hl
    have hn := evLive_lt (s := s) (n := n) (by simpa using hl)
    refine (onlyEvents_evMark s n hn).trans ?_
    simp only
    split
    · exact OnlyEvents.refl _
    · split
      · split
        · exact onlyEvents_addRec _ _
        · exact OnlyEvents.refl _
      · split
        · exact onlyEvents_msixSend _ _
        · exact OnlyEvents.refl _

theorem onlyEvents_raiseIf (s : State) (c : Bool) (n : Nat) : OnlyEvents s (s.raiseIf c n) := by
  unfold raiseIf; split
  · exact onlyEvents_raise s n
  · exact OnlyEvents.refl s

theorem onlyEvents_foldl_raise (l : List Nat) (s : State) : OnlyEvents s (l.foldl raise s) := by
  induction l generalizing s with
  | nil => exact OnlyEvents.refl s
  | cons n l ih => exact (onlyEvents_raise s n).trans (ih _)

theorem reg_raise (s : State) (n : Nat) {a : Nat} (h : evReg a = false) : (s.raise n).reg a = s.reg a :=
  (onlyEvents_raise s n).regs a h

theorem f_raise (s : State) (n : Nat) {x : Fld} (h : evReg x.addr = false) : (s.raise n).f x = s.f x := by
  show x.get _ = x.get _
  exact congrArg x.get (reg_raise s n h)

theorem f_raiseIf (s : State) (c : Bool) (n : Nat) {x : Fld} (h : evReg x.addr = false) : (s.raiseIf c n).f x = s.f x := by
  unfold raiseIf; split
  · exact f_raise s n h
  · rfl

theorem fS_raise (s : State) (n : Nat) {x : Fld} (h : evReg x.addr = false) : (s.raise n).fS x = s.fS x := by
  show x.getS _ = x.getS _
  exact congrArg x.getS (reg_raise s n h)

theorem on_raise (s : State) (n : Nat) {x : Fld} (h : evReg x.addr = false) : (s.raise n).on x = s.on x := by
  simp only [on, f_raise s n h]

theorem on_raiseIf (s : State) (c : Bool) (n : Nat) {x : Fld} (h : evReg x.addr = false) : (s.raiseIf c n).on x = s.on x := by
  simp only [on, f_raiseIf s c n h]

theorem reg_raiseIf (s : State) (c : Bool) (n : Nat) {a : Nat} (h : evReg a = false) : (s.raiseIf c n).reg a = s.reg a := by
  unfold raiseIf; split
  · exact reg_raise s n h
  · rfl

/-- Marking an event keeps every status bit that is set. -/
theorem evBit_evMark (s : State) (n k : Nat) (hn : n < 320) (hk : k < 320) :
    (s.evMark n).evBit k = (s.evBit k || decide (k = n)) := by
  have e1 : R.EVT_STAT (k / 32) ≠ F.EVT_LAST_EVENT.addr := by
    have : k / 32 < 10 := by omega
    simp [R.EVT_STAT, R.EVT_LAST]; omega
  unfold evMark evBit
  rw [reg_setF_ne _ _ e1, reg_setReg]
  split
  · rename_i h
    have hd : k / 32 = n / 32 := by simp [R.EVT_STAT] at h; omega
    rw [BitVec.getLsbD_or, hd]
    congr 1
    rw [BitVec.getLsbD_ofNat, Nat.testBit_two_pow]
    have h32 : k % 32 < 32 := Nat.mod_lt _ (by decide)
    simp only [h32, decide_true, Bool.true_and]
    exact decide_eq_decide.2 (by omega)
  · rename_i h
    have : k ≠ n := by rintro rfl; exact h rfl
    simp [this]

/-- A counter outside the status words keeps every status bit. -/
theorem evBit_setF (s : State) {x : Fld} (v k : Nat) (h : R.EVT_STAT (k / 32) ≠ x.addr) : (s.setF x v).evBit k = s.evBit k := by
  unfold evBit; rw [reg_setF_ne _ _ h]

theorem evBit_regs {s t : State} (h : t.regs = s.regs) (k : Nat) : t.evBit k = s.evBit k := by
  unfold evBit; rw [reg_of_regs h]

theorem evBit_bump_drop (s : State) (k : Nat) : (s.bump F.CMC_EVDROP_COUNT).evBit k = s.evBit k := by
  refine evBit_setF s _ k ?_
  simp [R.EVT_STAT, R.CMC_EVDROP]; omega

theorem evBit_raiseDrop {s : State} {k : Nat} (hk : k < 320) (h : s.evBit k = true) : s.raiseDrop.evBit k = true := by
  have h1 : (s.evMark 266).evBit k = true := by simp [evBit_evMark s 266 k (by decide) hk, h]
  unfold raiseDrop
  dsimp only
  split
  · split
    · exact (evBit_regs rfl k).trans h1
    · exact (evBit_bump_drop _ k).trans h1
  · exact h1

theorem evBit_addRec {s : State} {n k : Nat} (hk : k < 320) (h : s.evBit k = true) : (s.addRec n).evBit k = true := by
  unfold addRec
  split
  · exact (evBit_regs rfl k).trans h
  · split
    · exact (evBit_bump_drop _ k).trans h
    · exact evBit_raiseDrop hk ((evBit_bump_drop _ k).trans h)

theorem evBit_msixSend (s : State) (v k : Nat) : (s.msixSend v).evBit k = s.evBit k := by
  unfold msixSend
  dsimp only
  split <;> exact evBit_regs rfl k

theorem evBit_after_mark {s : State} {n k : Nat} (hk : k < 320) (h : (s.evMark n).evBit k = true) (hl : s.evLive n = true) :
    (s.raise n).evBit k = true := by
  unfold raise
  simp only [hl, Bool.not_true, Bool.false_eq_true, if_false]
  split
  · exact h
  · split
    · split
      · exact evBit_addRec hk h
      · exact h
    · split
      · exact (evBit_msixSend _ _ k).trans h
      · exact h

/-- A raised event sets its status bit. -/
theorem evBit_raise_self {s : State} {n : Nat} (h : s.evLive n = true) : (s.raise n).evBit n = true :=
  evBit_after_mark (evLive_lt h) (by simp [evBit_evMark s n n (evLive_lt h) (evLive_lt h)]) h

/-- Raising an event clears no status bit. -/
theorem evBit_raise_mono {s : State} (n : Nat) {k : Nat} (hk : k < 320) (h : s.evBit k = true) : (s.raise n).evBit k = true := by
  by_cases hl : s.evLive n = true
  · exact evBit_after_mark hk (by simp [evBit_evMark s n k (evLive_lt hl) hk, h]) hl
  · unfold raise; simp [hl, h]

theorem evLive_of_owner {s : State} {n : Nat} {b : Blk} (h : evOwner n = some b) (hp : s.present b = true) : s.evLive n = true := by
  simp [evLive, h, hp]

@[simp] theorem raise_pending (s : State) (n : Nat) : (s.raise n).pending = s.pending := by
  obtain ⟨⟨_, _, _, _, h⟩, _⟩ := onlyEvents_raise s n; rw [h]
@[simp] theorem raiseIf_pending (s : State) (c : Bool) (n : Nat) : (s.raiseIf c n).pending = s.pending := by
  obtain ⟨⟨_, _, _, _, h⟩, _⟩ := onlyEvents_raiseIf s c n; rw [h]
@[simp] theorem raise_fuses (s : State) (n : Nat) : (s.raise n).fuses = s.fuses := by
  obtain ⟨⟨_, _, _, _, h⟩, _⟩ := onlyEvents_raise s n; rw [h]
@[simp] theorem raiseIf_fuses (s : State) (c : Bool) (n : Nat) : (s.raiseIf c n).fuses = s.fuses := by
  obtain ⟨⟨_, _, _, _, h⟩, _⟩ := onlyEvents_raiseIf s c n; rw [h]
@[simp] theorem raise_stage (s : State) (n : Nat) : (s.raise n).stage = s.stage := by
  obtain ⟨⟨_, _, _, _, h⟩, _⟩ := onlyEvents_raise s n; rw [h]
@[simp] theorem raiseIf_stage (s : State) (c : Bool) (n : Nat) : (s.raiseIf c n).stage = s.stage := by
  obtain ⟨⟨_, _, _, _, h⟩, _⟩ := onlyEvents_raiseIf s c n; rw [h]
@[simp] theorem raise_latch (s : State) (n : Nat) : (s.raise n).latch = s.latch := by
  obtain ⟨⟨_, _, _, _, h⟩, _⟩ := onlyEvents_raise s n; rw [h]
@[simp] theorem raiseIf_latch (s : State) (c : Bool) (n : Nat) : (s.raiseIf c n).latch = s.latch := by
  obtain ⟨⟨_, _, _, _, h⟩, _⟩ := onlyEvents_raiseIf s c n; rw [h]
@[simp] theorem raise_clk (s : State) (n : Nat) : (s.raise n).clk = s.clk := by
  obtain ⟨⟨_, _, _, _, h⟩, _⟩ := onlyEvents_raise s n; rw [h]
@[simp] theorem raiseIf_clk (s : State) (c : Bool) (n : Nat) : (s.raiseIf c n).clk = s.clk := by
  obtain ⟨⟨_, _, _, _, h⟩, _⟩ := onlyEvents_raiseIf s c n; rw [h]
@[simp] theorem raise_tim (s : State) (n : Nat) : (s.raise n).tim = s.tim := by
  obtain ⟨⟨_, _, _, _, h⟩, _⟩ := onlyEvents_raise s n; rw [h]
@[simp] theorem raiseIf_tim (s : State) (c : Bool) (n : Nat) : (s.raiseIf c n).tim = s.tim := by
  obtain ⟨⟨_, _, _, _, h⟩, _⟩ := onlyEvents_raiseIf s c n; rw [h]
@[simp] theorem raise_dsp (s : State) (n : Nat) : (s.raise n).dsp = s.dsp := by
  obtain ⟨⟨_, _, _, _, h⟩, _⟩ := onlyEvents_raise s n; rw [h]
@[simp] theorem raiseIf_dsp (s : State) (c : Bool) (n : Nat) : (s.raiseIf c n).dsp = s.dsp := by
  obtain ⟨⟨_, _, _, _, h⟩, _⟩ := onlyEvents_raiseIf s c n; rw [h]
@[simp] theorem raise_cmt (s : State) (n : Nat) : (s.raise n).cmt = s.cmt := by
  obtain ⟨⟨_, _, _, _, h⟩, _⟩ := onlyEvents_raise s n; rw [h]
@[simp] theorem raiseIf_cmt (s : State) (c : Bool) (n : Nat) : (s.raiseIf c n).cmt = s.cmt := by
  obtain ⟨⟨_, _, _, _, h⟩, _⟩ := onlyEvents_raiseIf s c n; rw [h]
@[simp] theorem raise_thm (s : State) (n : Nat) : (s.raise n).thm = s.thm := by
  obtain ⟨⟨_, _, _, _, h⟩, _⟩ := onlyEvents_raise s n; rw [h]
@[simp] theorem raiseIf_thm (s : State) (c : Bool) (n : Nat) : (s.raiseIf c n).thm = s.thm := by
  obtain ⟨⟨_, _, _, _, h⟩, _⟩ := onlyEvents_raiseIf s c n; rw [h]
@[simp] theorem raise_fmc (s : State) (n : Nat) : (s.raise n).fmc = s.fmc := by
  obtain ⟨⟨_, _, _, _, h⟩, _⟩ := onlyEvents_raise s n; rw [h]
@[simp] theorem raiseIf_fmc (s : State) (c : Bool) (n : Nat) : (s.raiseIf c n).fmc = s.fmc := by
  obtain ⟨⟨_, _, _, _, h⟩, _⟩ := onlyEvents_raiseIf s c n; rw [h]
@[simp] theorem raise_fab (s : State) (n : Nat) : (s.raise n).fab = s.fab := by
  obtain ⟨⟨_, _, _, _, h⟩, _⟩ := onlyEvents_raise s n; rw [h]
@[simp] theorem raiseIf_fab (s : State) (c : Bool) (n : Nat) : (s.raiseIf c n).fab = s.fab := by
  obtain ⟨⟨_, _, _, _, h⟩, _⟩ := onlyEvents_raiseIf s c n; rw [h]
@[simp] theorem raise_snd (s : State) (n : Nat) : (s.raise n).snd = s.snd := by
  obtain ⟨⟨_, _, _, _, h⟩, _⟩ := onlyEvents_raise s n; rw [h]
@[simp] theorem raiseIf_snd (s : State) (c : Bool) (n : Nat) : (s.raiseIf c n).snd = s.snd := by
  obtain ⟨⟨_, _, _, _, h⟩, _⟩ := onlyEvents_raiseIf s c n; rw [h]
@[simp] theorem raise_cmc (s : State) (n : Nat) : (s.raise n).cmc = s.cmc := by
  obtain ⟨⟨_, _, _, _, h⟩, _⟩ := onlyEvents_raise s n; rw [h]
@[simp] theorem raiseIf_cmc (s : State) (c : Bool) (n : Nat) : (s.raiseIf c n).cmc = s.cmc := by
  obtain ⟨⟨_, _, _, _, h⟩, _⟩ := onlyEvents_raiseIf s c n; rw [h]
@[simp] theorem raise_cor (s : State) (n : Nat) : (s.raise n).cor = s.cor := by
  obtain ⟨⟨_, _, _, _, h⟩, _⟩ := onlyEvents_raise s n; rw [h]
@[simp] theorem raiseIf_cor (s : State) (c : Bool) (n : Nat) : (s.raiseIf c n).cor = s.cor := by
  obtain ⟨⟨_, _, _, _, h⟩, _⟩ := onlyEvents_raiseIf s c n; rw [h]
@[simp] theorem raise_drv (s : State) (n : Nat) : (s.raise n).drv = s.drv := by
  obtain ⟨⟨_, _, _, _, h⟩, _⟩ := onlyEvents_raise s n; rw [h]
@[simp] theorem raiseIf_drv (s : State) (c : Bool) (n : Nat) : (s.raiseIf c n).drv = s.drv := by
  obtain ⟨⟨_, _, _, _, h⟩, _⟩ := onlyEvents_raiseIf s c n; rw [h]
@[simp] theorem raise_lux (s : State) (n : Nat) : (s.raise n).lux = s.lux := by
  obtain ⟨⟨_, _, _, _, h⟩, _⟩ := onlyEvents_raise s n; rw [h]
@[simp] theorem raiseIf_lux (s : State) (c : Bool) (n : Nat) : (s.raiseIf c n).lux = s.lux := by
  obtain ⟨⟨_, _, _, _, h⟩, _⟩ := onlyEvents_raiseIf s c n; rw [h]
@[simp] theorem raise_nvs (s : State) (n : Nat) : (s.raise n).nvs = s.nvs := by
  obtain ⟨⟨_, _, _, _, h⟩, _⟩ := onlyEvents_raise s n; rw [h]
@[simp] theorem raiseIf_nvs (s : State) (c : Bool) (n : Nat) : (s.raiseIf c n).nvs = s.nvs := by
  obtain ⟨⟨_, _, _, _, h⟩, _⟩ := onlyEvents_raiseIf s c n; rw [h]
@[simp] theorem raise_ubuf (s : State) (n : Nat) : (s.raise n).ubuf = s.ubuf := by
  obtain ⟨⟨_, _, _, _, h⟩, _⟩ := onlyEvents_raise s n; rw [h]
@[simp] theorem raiseIf_ubuf (s : State) (c : Bool) (n : Nat) : (s.raiseIf c n).ubuf = s.ubuf := by
  obtain ⟨⟨_, _, _, _, h⟩, _⟩ := onlyEvents_raiseIf s c n; rw [h]
@[simp] theorem raise_lan (s : State) (n : Nat) : (s.raise n).lan = s.lan := by
  obtain ⟨⟨_, _, _, _, h⟩, _⟩ := onlyEvents_raise s n; rw [h]
@[simp] theorem raiseIf_lan (s : State) (c : Bool) (n : Nat) : (s.raiseIf c n).lan = s.lan := by
  obtain ⟨⟨_, _, _, _, h⟩, _⟩ := onlyEvents_raiseIf s c n; rw [h]
@[simp] theorem raise_par (s : State) (n : Nat) : (s.raise n).par = s.par := by
  obtain ⟨⟨_, _, _, _, h⟩, _⟩ := onlyEvents_raise s n; rw [h]
@[simp] theorem raiseIf_par (s : State) (c : Bool) (n : Nat) : (s.raiseIf c n).par = s.par := by
  obtain ⟨⟨_, _, _, _, h⟩, _⟩ := onlyEvents_raiseIf s c n; rw [h]
@[simp] theorem raise_mgt (s : State) (n : Nat) : (s.raise n).mgt = s.mgt := by
  obtain ⟨⟨_, _, _, _, h⟩, _⟩ := onlyEvents_raise s n; rw [h]
@[simp] theorem raiseIf_mgt (s : State) (c : Bool) (n : Nat) : (s.raiseIf c n).mgt = s.mgt := by
  obtain ⟨⟨_, _, _, _, h⟩, _⟩ := onlyEvents_raiseIf s c n; rw [h]
@[simp] theorem raise_rps (s : State) (n : Nat) : (s.raise n).rps = s.rps := by
  obtain ⟨⟨_, _, _, _, h⟩, _⟩ := onlyEvents_raise s n; rw [h]
@[simp] theorem raiseIf_rps (s : State) (c : Bool) (n : Nat) : (s.raiseIf c n).rps = s.rps := by
  obtain ⟨⟨_, _, _, _, h⟩, _⟩ := onlyEvents_raiseIf s c n; rw [h]
@[simp] theorem raise_evSeq (s : State) (n : Nat) : (s.raise n).evSeq = s.evSeq := by
  obtain ⟨⟨_, _, _, _, h⟩, _⟩ := onlyEvents_raise s n; rw [h]
@[simp] theorem raiseIf_evSeq (s : State) (c : Bool) (n : Nat) : (s.raiseIf c n).evSeq = s.evSeq := by
  obtain ⟨⟨_, _, _, _, h⟩, _⟩ := onlyEvents_raiseIf s c n; rw [h]
@[simp] theorem raise_dram (s : State) (n : Nat) : (s.raise n).dram = s.dram := by
  obtain ⟨⟨_, _, _, _, h⟩, _⟩ := onlyEvents_raise s n; rw [h]
@[simp] theorem raiseIf_dram (s : State) (c : Bool) (n : Nat) : (s.raiseIf c n).dram = s.dram := by
  obtain ⟨⟨_, _, _, _, h⟩, _⟩ := onlyEvents_raiseIf s c n; rw [h]
@[simp] theorem raise_mram (s : State) (n : Nat) : (s.raise n).mram = s.mram := by
  obtain ⟨⟨_, _, _, _, h⟩, _⟩ := onlyEvents_raise s n; rw [h]
@[simp] theorem raiseIf_mram (s : State) (c : Bool) (n : Nat) : (s.raiseIf c n).mram = s.mram := by
  obtain ⟨⟨_, _, _, _, h⟩, _⟩ := onlyEvents_raiseIf s c n; rw [h]
@[simp] theorem raise_lineStore (s : State) (n : Nat) : (s.raise n).lineStore = s.lineStore := by
  obtain ⟨⟨_, _, _, _, h⟩, _⟩ := onlyEvents_raise s n; rw [h]
@[simp] theorem raiseIf_lineStore (s : State) (c : Bool) (n : Nat) : (s.raiseIf c n).lineStore = s.lineStore := by
  obtain ⟨⟨_, _, _, _, h⟩, _⟩ := onlyEvents_raiseIf s c n; rw [h]
@[simp] theorem raise_free (s : State) (n : Nat) : (s.raise n).free = s.free := by
  obtain ⟨⟨_, _, _, _, h⟩, _⟩ := onlyEvents_raise s n; rw [h]
@[simp] theorem raiseIf_free (s : State) (c : Bool) (n : Nat) : (s.raiseIf c n).free = s.free := by
  obtain ⟨⟨_, _, _, _, h⟩, _⟩ := onlyEvents_raiseIf s c n; rw [h]

end Sys2Proof.Machine.State
end

