-- ==== Sys2Proof/Laws/Completes.lean ====
section
/-! SUPPORT. How a command completes: from the effect its meaning names to the state its step answers. -/

namespace Sys2Proof.Machine

/-- A command that the device serves only while it is powered completes with its effect. -/
theorem completes_awake {c : Instr} {s : State} {g : State → State} {P : State → Prop} (hc : exec c s = s.finish (s.awake g))
    (ha : s.asleep = false) (hp : P (s.sealed (g s))) : Completes c s P :=
  ⟨_, hc, by simpa [State.awake, ha] using hp⟩

/-- A command that the always-on supply serves completes with its effect. -/
theorem completes_always {c : Instr} {s t : State} {P : State → Prop} (hc : exec c s = s.finish t)
    (hp : P (s.sealed t)) : Completes c s P :=
  ⟨_, hc, hp⟩

/-- In Standby a command that waits for power leaves the state as it is. -/
theorem exec_asleep {c : Instr} {s : State} {g : State → State} (hc : exec c s = s.finish (s.awake g)) (ha : s.asleep = true) :
    exec c s = .next s := by
  rw [hc]; simp [State.finish, State.sealed, State.awake, ha]

end Sys2Proof.Machine
end

