-- ==== Sys2Proof/Laws/Memory.lean ====
section
/-! SUPPORT. The laws of the sparse memories: a read after a write, and that every memory operation keeps the canonical form. -/

namespace Sys2Proof.Machine

/-- An address below every listed one reads as an unlisted address. -/
theorem Mem.get_below {m : List Host.Cell} {a : Nat} (h : ∀ p ∈ m, a < p.1) : Mem.get m a = Mem.empty := by
  cases m with
  | nil => rfl
  | cons p m =>
    have := h p (by simp)
    simp [Mem.get, this, Nat.ne_of_lt this]

/-- A read after a write: the written byte at its address, the old byte elsewhere. -/
theorem Mem.get_set {m : List Host.Cell} (hm : m.Pairwise fun p q => p.1 < q.1) (a b : Nat) (v : Byte) :
    Mem.get (Mem.set a v m) b = if b = a then v else Mem.get m b := by
  induction m with
  | nil =>
    simp only [Mem.set]
    split
    · rename_i hv; subst hv; simp [Mem.get]
    · simp only [Mem.get]; split <;> simp
  | cons p m ih =>
    obtain ⟨c, w⟩ := p
    rw [List.pairwise_cons] at hm
    have ih := ih hm.2
    simp only [Mem.set]
    by_cases h1 : a < c
    · simp only [h1, if_true]
      by_cases hv : v = Mem.empty
      · simp only [hv, if_true]
        by_cases hb : b = a
        · subst hb; simp [Mem.get, h1, Nat.ne_of_lt h1]
        · simp [hb]
      · simp only [hv, if_false]
        by_cases hb : b = a
        · subst hb; simp [Mem.get]
        · by_cases hba : b < a
          · have : b < c := Nat.lt_trans hba h1
            simp [Mem.get, hb, hba, this, Nat.ne_of_lt this]
          · simp [Mem.get, hb, hba]
    · simp only [h1, if_false]
      by_cases h2 : a = c
      · subst h2
        simp only [if_true]
        by_cases hv : v = Mem.empty
        · simp only [hv, if_true]
          by_cases hb : b = a
          · subst hb; simp [Mem.get_below fun p hp => hm.1 p hp]
          · by_cases hba : b < a
            · have : ∀ p ∈ m, b < p.1 := fun p hp => Nat.lt_trans hba (hm.1 p hp)
              simp [Mem.get, hb, hba, Mem.get_below this]
            · simp [Mem.get, hb, hba]
        · simp only [hv, if_false]
          by_cases hb : b = a <;> simp [Mem.get, hb]
      · simp only [h2, if_false, Mem.get, ih]
        by_cases hb : b = a
        · subst hb; simp [h2, h1]
        · simp [hb]

theorem Mem.set_mem {m : List Host.Cell} {a : Nat} {v : Byte} {q : Host.Cell} (hq : q ∈ Mem.set a v m) :
    (q = (a, v) ∧ v ≠ Mem.empty) ∨ q ∈ m := by
  induction m with
  | nil =>
    simp only [Mem.set] at hq
    split at hq
    · simp at hq
    · rename_i hv; exact .inl ⟨by simpa using hq, hv⟩
  | cons d m ih =>
    obtain ⟨c, w⟩ := d
    simp only [Mem.set] at hq
    split at hq
    · split at hq
      · exact .inr hq
      · rename_i hv
        rcases List.mem_cons.1 hq with h | h
        · exact .inl ⟨h, hv⟩
        · exact .inr h
    · split at hq
      · split at hq
        · exact .inr (List.mem_cons_of_mem _ hq)
        · rename_i hv
          rcases List.mem_cons.1 hq with h | h
          · exact .inl ⟨h, hv⟩
          · exact .inr (List.mem_cons_of_mem _ h)
      · rcases List.mem_cons.1 hq with h | h
        · exact .inr (by simp [h])
        · rcases ih h with h | h
          · exact .inl h
          · exact .inr (List.mem_cons_of_mem _ h)

theorem Mem.set_pairwise {m : List Host.Cell} (hm : m.Pairwise fun p q => p.1 < q.1) (a : Nat) (v : Byte) :
    (Mem.set a v m).Pairwise fun p q => p.1 < q.1 := by
  induction m with
  | nil => simp only [Mem.set]; split <;> simp
  | cons d m ih =>
    obtain ⟨c, w⟩ := d
    have h0 := hm
    rw [List.pairwise_cons] at hm
    simp only [Mem.set]
    split
    · rename_i hlt
      split
      · exact h0
      · rw [List.pairwise_cons]
        refine ⟨fun q hq => ?_, h0⟩
        rcases List.mem_cons.1 hq with rfl | hq
        · exact hlt
        · exact Nat.lt_trans hlt (hm.1 q hq)
    · rename_i hge
      split
      · rename_i he
        subst he
        split
        · exact hm.2
        · rw [List.pairwise_cons]; exact ⟨hm.1, hm.2⟩
      · rename_i hne
        rw [List.pairwise_cons]
        refine ⟨fun q hq => ?_, ih hm.2⟩
        rcases Mem.set_mem hq with ⟨rfl, _⟩ | hq
        · show c < a; omega
        · exact hm.1 q hq

/-- A write of one byte keeps the canonical form. -/
theorem Mem.set_wf {m : List Host.Cell} (h : Mem.wf m = true) (a : Nat) (v : Byte) : Mem.wf (Mem.set a v m) = true := by
  simp only [Mem.wf, Bool.and_eq_true, decide_eq_true_eq, List.all_eq_true, bne_iff_ne] at h ⊢
  refine ⟨Mem.set_pairwise h.1 a v, fun p hp => ?_⟩
  rcases Mem.set_mem hp with ⟨rfl, hv⟩ | hp
  · exact hv
  · exact h.2 p hp

/-- A write of a byte string keeps the canonical form. -/
theorem Mem.write_wf {m : List Host.Cell} (h : Mem.wf m = true) (a : Nat) (bs : List Byte) : Mem.wf (Mem.write m a bs) = true := by
  induction bs generalizing m a with
  | nil => exact h
  | cons b bs ih => exact ih (Mem.set_wf h a b) (a + 1)

/-- Wiping a range keeps the canonical form. -/
theorem Mem.wipe_wf {m : List Host.Cell} (h : Mem.wf m = true) (a n : Nat) : Mem.wf (Mem.wipe m a n) = true := by
  unfold Mem.wipe
  simp only [Mem.wf, Bool.and_eq_true, decide_eq_true_eq, List.all_eq_true, bne_iff_ne] at h ⊢
  exact ⟨List.Pairwise.filter _ h.1, fun q hq => h.2 q (List.mem_filter.1 hq).1⟩

theorem Mem.wf_nil : Mem.wf [] = true := rfl

/-- A read after a write of a byte string: the string's byte inside it, the old byte outside. -/
theorem Mem.get_write {m : List Host.Cell} (hm : m.Pairwise fun p q => p.1 < q.1) (a b : Nat) (bs : List Byte) :
    Mem.get (Mem.write m a bs) b = if a ≤ b ∧ b < a + bs.length then bs.getD (b - a) 0 else Mem.get m b := by
  induction bs generalizing m a with
  | nil => simp [Mem.write] <;> omega
  | cons v bs ih =>
    rw [Mem.write, ih (Mem.set_pairwise hm a v), Mem.get_set hm]
    by_cases h1 : b = a
    · subst h1; simp <;> omega
    · by_cases h2 : a ≤ b ∧ b < a + (v :: bs).length
      · have h3 : a + 1 ≤ b ∧ b < a + 1 + bs.length := by simp at h2; omega
        have h4 : b - a = (b - (a + 1)) + 1 := by omega
        rw [if_pos h3, if_pos h2, h4]; simp
      · have h3 : ¬ (a + 1 ≤ b ∧ b < a + 1 + bs.length) := by simp at h2; omega
        rw [if_neg h3, if_neg h2, if_neg h1]

end Sys2Proof.Machine
end

