-- ==== Sys2Proof/WellFormed.lean ====
section
/-! DEFINITION. Which commands are well formed: the lengths and ranges that the spec gives their operands and the types do not say.
The meanings are total and rest on none of these checks. -/

namespace Sys2Proof

/-- Distinct pixels of one half block (those of a run of up to 1,024 tokens). -/
def pixelIndexes (l : List Nat) : Bool := decide l.Nodup && l.all fun i => decide (i < 1024)

/-- The TSPEC of a frame has 10 bytes and its payload at most 2,000 (R196). -/
def pairFrame (tspec payload : List Byte) : Bool := tspec.length == 10 && decide (payload.length ≤ 2000)

/-- Register accesses lie at multiples of 4 (R8); a block of the tables has 65,536 bytes (R112); a sensor bus has two sensors (R153);
a sweep of the equalisers measures 37 codes, in steps of 1/32 UI, on each lane (R185); an Announce message has 64 bytes; no more than
9 refreshes are owed (R294); an access of the frame memory is of 64 bytes (R287), and each request has its data and its client; the speed of the PCI Express link is 1 to 5
(Table 14.9); a BAR2 request names its length; a descriptor has 32 bytes (R311); the frames of the pair have the sizes of Tables 15.3
and 15.4; a message on the Hatch has up to 500 words (R355). -/
def Instr.wellFormed : Instr → Bool
  | .registerWrite _ addr _ _ => addr.toNat % 4 == 0
  | .absentBlockAccess _ addr _ _ => addr.toNat % 4 == 0
  | .rcRead _ addr _ => addr.toNat % 4 == 0
  | .counterLowRead _ addr _ => addr.toNat % 4 == 0
  | .runComplete _ _ annBad => pixelIndexes annBad
  | .recomputeComplete _ _ annBad => pixelIndexes annBad
  | .tableBlockRead bytes => bytes.length == 65536
  | .i3cEntdaa _ pids => decide (pids.length ≤ 2)
  | .eqTrainDone port widths =>
    widths.length == (if port.val = 8 then 2 else 4) && widths.all fun l => l.length == 37 && l.all fun w => decide (w ≤ 32)
  | .announceRx _ msg => decide (64 ≤ msg.length)
  | .refreshInterval _ _ _ paid => decide (paid ≤ 9)
  | .dramAccessDone _ _ addrs data clients _ =>
    addrs.all (fun a => a.toNat % 64 == 0) && data.length == addrs.length && clients.length == addrs.length
  | .linkTrained speed width => decide (1 ≤ speed.val) && decide (speed.val ≤ 5) && decide (1 ≤ width.val)
  | .bar2Access _ write len _ => (match write with | none => decide (0 < len.val) | some bs => bs.length == len.val)
  | .descriptorFetch _ bytes => bytes.length == 32
  | .heartbeatRx payload => payload.length == 96
  | .mirrorRx _ payload => payload.length % 8 == 0 && decide (payload.length ≤ 2000)
  | .pairCommitRx _ tspec payload => pairFrame tspec payload
  | .snapdataRx _ tspec payload => pairFrame tspec payload
  | .pairActionRx _ payload => decide (payload.length ≤ 2000)
  | .handoverRx _ tspec payload => pairFrame tspec payload
  | .pollstateRx _ tspec payload => pairFrame tspec payload
  | .stateRx _ tspec payload => pairFrame tspec payload
  | .hatchMailbox _ words => decide (1 ≤ words.length) && decide (words.length ≤ 500)
  | .msixTableAccess offset _ => offset.toNat % 4 == 0
  | .misalignedAccess .. | .timNowRead .. | .msixHoldoffEnd .. | .powerOn | .railFail .. | .brownout .. | .rstNAssert ..
  | .perstAssert .. | .resetRequest .. | .resetRelease | .coreResetCmd .. | .systemResetCmd .. | .recordLoadDone
  | .coreBootDone | .channelTrainingDone .. | .imgCheck .. | .frameBoundary | .slotBoundary | .shutterPoint
  | .heavyCommitPrepare | .regionReady .. | .cellToken .. | .sramReload .. | .fabricDeadline .. | .residueSecondEnd
  | .ringGateEnd .. | .ageDayEnd | .ageHourlySave | .plannerFrameEnd .. | .plannerWindowEnd | .avsReadback ..
  | .avsRetry .. | .planHoldSet | .planHoldClear | .cprRead .. | .cprReadDone | .segmentStart .. | .fifoUnderrun ..
  | .transmitDeadline .. | .receiveDeadline .. | .driveWriteStart | .tableLoadTimeout | .tableLoadComplete | .sweepStart
  | .sweepEnd | .checkpointStart | .checkpointChunkDone | .checkpointSkip | .tblRead .. | .tblReadDone | .doseLampRead ..
  | .doseLampReadDone | .rowPeriod | .packetReturn .. | .returnMissing .. | .busEnumeration .. | .assignRetry ..
  | .hardBlank | .blankRelease | .diagNow | .sensorRetry .. | .luxWindowStart | .luxSample .. | .luxSensorReadFail ..
  | .luxWindowEnd | .luxCal .. | .luxCalEnd | .laneBlockTx .. | .laneBlockRx .. | .clockPresent .. | .clockLost ..
  | .eqAdapt .. | .pllLock | .pllRevert | .noClockTimeout | .offsetCalStart .. | .offsetCalWindowEnd .. | .loopEnter ..
  | .loopExit .. | .testPatternSet .. | .eidleSet .. | .txonSet .. | .provSet .. | .chainResetEnter ..
  | .replySubstitute .. | .pollTimeout .. | .seqResend .. | .enumTimeout .. | .enumCmd .. | .admitCmd ..
  | .quarantineCmd .. | .recheckCmd .. | .catchupCmd .. | .commitSecondCopy | .pollHandover | .holdReq | .releaseReq
  | .blankReq .. | .unblankReq .. | .actionSecondCopy | .triggerEdge .. | .syncSend | .announceSend | .delayReqSend ..
  | .ptpEthRx .. | .domainHoldover .. | .holdmaxExpiry | .timeSet | .stepAccept | .ethFrameRx .. | .ethTx | .srefEdge ..
  | .srefLost | .outputEdge .. | .captureEdge .. | .capturePop .. | .commitRequest .. | .commitCheckDone ..
  | .tileCommitCheckDone | .peek .. | .peekDone | .dumpStart | .dumpAbort | .dumpComplete .. | .dportRead .. | .refreshRatePoll ..
  | .rowIdleClose .. | .scrubRead .. | .rtFifoStarve .. | .linkDown | .functionLevelReset | .ringRun .. | .ringStop ..
  | .bufferComplete .. | .ringHalt .. | .peerDoorbell .. | .pagingCopy .. | .pagingMap | .reelFetchDone .. | .reelPlay ..
  | .reelPause .. | .reelSeek .. | .heartbeatSend | .partnerLost | .autopromote | .bootwaitExpiry | .relayRx ..
  | .resetreqRx .. | .pairResend | .resyncTimeout | .parTake | .parResetPartner | .parRestartResync | .gooseEval ..
  | .watchdogExpiry .. | .mailboxSend .. | .mailboxRack .. | .infoPing .. | .infoVersion .. | .updateOpen | .updateWrite
  | .updateVerify | .updateActivate | .activationComplete .. | .updateConfirm | .updateAbort | .updateStatus
  | .updateClose | .sessionTimeout | .autoconfirm .. | .hatchRead .. | .hatchWrite .. | .chainResetCmd ..
  | .chainResetEnum | .dozeReq | .standbyReq | .powerCancel | .dozeRelayEnd | .wake .. | .wakeFail | .toneGo .. | .toneEnd
  | .sensorConversion .. | .boardSensorRead .. | .zoneSample .. | .stage2Start | .bubbleStep | .slotCapStep
  | .scapWrite .. | .shutdownRelease | .maskSet .. | .optionWrite .. | .recordImageWrite .. | .recordCopyDone ..
  | .winDataWrite .. | .rdDataRead .. | .calmark | .mramPulseEnd | .ethernetLinkChange .. | .ethDelayReqSend
  | .stepNoticeSecondCopy | .electricalIdleEnd .. | .pairSnapshotDone | .configurationRequest .. | .ibiHotJoinRequest ..
  | .unsupportedCommand .. | .hatchBadFrame | .wakeToneCease | .boundaryScanInstruction .. => true

end Sys2Proof
end

