-- ==== Sys2Proof/Tests/Slice0.lean ====
section
/-! SUPPORT. Tests: small states and operands that meet the hypotheses of each statement together, one conjunct for each way through its
clauses; the terms each check of WellFormed refuses; and a few commands on small states. A theorem test_witness_<Name> speaks of the
part <Name> of the statement that Obligations.lean gives under that subject. -/

namespace Sys2Proof.Tests

set_option Elab.async false

open Sys2Proof.Machine


/-- A device out of reset: its role and fields. -/
def dev (role : Nat) (fs : List (Fld × Nat)) : State :=
  fs.foldl (fun s p => s.setF p.1 p.2) (((({ State.reset with rps := { held := false, owed := [] } } : State).setF F.SYS_ROLE_ROLE role).setF
    F.RPS_BOOT_STAGE 6).setF F.MGT_STATUS_RUNNING 15)

/-- Fields of a device whose frames run at 60 Hz with four slots. -/
def runs : List (Fld × Nat) := [(F.TIM_STATUS_TSTATE, 3), (F.DSP_NUM_NUM, 60), (F.DSP_DEN_DEN, 1), (F.DSP_STATUS_SACT, 4), (F.DSP_MODE_SLOTS, 4)]
/-- The same device at a second of wall time. -/
def atSec (n : Nat) (s : State) : State := { s with clk := { s.clk with wall := n * 10 ^ 9 * 2 ^ 31, now := n * 10 ^ 9 } }

/-- The bytes of an image with one section, of a type. -/
def imgOf (typ : Nat) (d : List Byte) : List Byte :=
  padTo 8 [] ++ leBytes 4 (0x50 + d.length) ++ padTo 12 [] ++ leBytes 2 1 ++ padTo 0x26 [] ++
    leBytes 2 typ ++ leBytes 2 0 ++ leBytes 4 0x50 ++ leBytes 4 d.length ++ leBytes 4 0 ++ d
/-- A device that runs that image from slot 0. -/
def withImg (typ : Nat) (d : List Byte) (s : State) : State := { s with mram := Mem.write s.mram 0x100000 (imgOf typ d) }
/-- A LUX descriptor of one group. -/
def luxDesc : List Byte := leBytes 2 0x1E ++ leBytes 2 0 ++ leBytes 4 0x20 ++ [1] ++ padTo 7 [] ++ padTo 16 [0, 0, 0, 0, 0, 0, 1]

/-- Every transmitter of a device is out of electrical idle. -/
def upAll (s : State) : State := (List.range 9).foldl (fun s p => s.lanP p fun l => { l with idle := false }) s

/-- A register row and a commit with nothing in them. -/
def noRow : RegRow := ⟨"", 0, [], 0, []⟩
def noCommit : Commit := ⟨0, 0, 0, 0, 0, false, false, false, false, [], {}⟩

/-- The first bytes of a read of memory. -/
theorem take_read (m : List Host.Cell) (a n k : Nat) (h : k ≤ n) : (Mem.read m a n).take k = Mem.read m a k := by
  simp [Mem.read, ← List.map_take, List.take_range, Nat.min_eq_left h]

/-- An image whose first word is not the magic number is not valid. -/
theorem validate_ne (s : State) (k : Nat) (p : Bool) (h : leVal (s.mramRd (State.slotBase k) 4) ≠ 0x53584C53) :
    (Img.validate (s.slotBytes k) p).fst ≠ 0 := by
  have h' : numAt (s.slotBytes k) 0 4 ≠ 0x53584C53 := by
    simpa [numAt, slice, State.slotBytes, State.mramRd, take_read] using h
  simp [Img.validate, h']

theorem asks_iff (c : Nat) (m : Msg) (q : List Msg) (s : State) :
    Asks c m q s ↔ (s.asleep = false ∧ s.mbox c = m :: q ∧ s.coreHeld c = false ∧ m.path < 2 ∧ m.ref = m.path) :=
  ⟨fun h => ⟨h.1, h.2, h.3, h.4⟩, fun h => ⟨h.1, h.2.1, h.2.2.1, h.2.2.2⟩⟩

theorem tabAt_replicate {α : Type} (n i : Nat) (d : α) : tabAt (.replicate n d) i d = d := by
  simp [tabAt, List.getD, List.getElem?_replicate]; split <;> rfl

/-- What holds of every entry of a table and of the default holds of what is read from it. -/
theorem of_tabAt {α : Type} {n : Nat} (P : α → Prop) (v : Vector α n) (i : Nat) (d : α) (h : ∀ x ∈ v.toList, P x) (hd : P d) :
    P (tabAt v i d) := by
  simp only [tabAt, List.getD]
  rcases hx : v.toList[i]? with _ | x
  · exact hd
  · exact h x (List.mem_of_getElem? hx)

/-- All that NothingDue asks but its two tables. -/
def quiet (s : State) : Bool :=
  s.framed && s.f F.RPS_PWR_STAT_STATE == 0 && decide (s.rps.ask = none) && decide (s.tim.stepAt = none) && decide (s.thm.scapN = none) &&
  decide (s.cmc.admitAt = none) && decide (s.cmt.pend = []) && decide (s.dsp.repeatFrom = none) && decide (s.dsp.joinN = none) &&
  decide (s.dsp.asked = []) && decide (s.dsp.holdAct = none) && decide (s.dsp.blankAct = none) && decide (s.drv.startAt = none) &&
  decide (s.cor.load = none) && decide (s.lux.winAsk = none) && decide (s.lux.calAsk = none) && !s.present .PAR && !s.polls && (!s.isSender || !s.on F.DSP_STATUS_RUN)

theorem nothingDue_of (s : State) (h1 : s.cmc.tiles = .replicate 768 {}) (h2 : (s.lan.ports.toList.all fun x => decide (x.provAsk = none)) = true)
    (h : quiet s = true) :
    NothingDue s := by
  simp only [quiet, Bool.and_eq_true, beq_iff_eq, decide_eq_true_eq, Bool.not_eq_true', Bool.or_eq_true] at h
  refine ⟨by simp_all, by simp_all, by simp_all, by simp_all, ⟨by simp_all, fun p a => ?_⟩, by simp_all, by simp_all, by simp_all,
    by simp_all, by simp_all, by simp_all, fun hs => by simp_all, fun p => ?_, by simp_all⟩
  · simp [State.tile, h1, tabAt_replicate]
  · exact of_tabAt (fun x : LanPort => x.provAsk = none) _ _ _ (fun x hx => of_decide_eq_true (List.all_eq_true.mp h2 x hx)) rfl

namespace Whole

def wsby : State := { dev 2 [(F.RPS_PWR_STAT_STATE, 2)] with pending := [.pllLock] }
def x1 : State := dev 1 [(F.HCH_UERR_COUNT, 5)]
def x2 : State := { dev 1 [] with pending := [.pllLock] }
def x3 : State := { wsby with pending := [] }
def x4 : State := { dev 1 [] with pending := [.powerOn, .pllLock] }
def x5 : State := dev 2 []
def x6 : State := dev 1 []

theorem test_witness_StepRunsTheFrontCommand :
    x4.pending = [Instr.powerOn, Instr.pllLock] := by
  decide +kernel

theorem test_witness_EmptyQueueTicks :
    x6.pending = [] := by
  decide +kernel

theorem test_witness_EveryStepKeepsIdentity :
    Identity { } x4 ∧ (∃ t, step x4 = Host.Outcome.next t) := by
  exact ⟨⟨by decide +kernel, by decide +kernel, by decide +kernel, by decide +kernel⟩, _, rfl⟩

theorem test_witness_EveryStepKeepsStandby :
    Standby wsby wsby ∧ (∃ t, step wsby = Host.Outcome.next t) := by
  exact ⟨⟨by decide +kernel, by decide +kernel, rfl⟩, _, rfl⟩

theorem test_witness_StandbyIsThePowerState :
    x5.pending = [] := by
  decide +kernel

theorem test_witness_StandbyServesOnlyTheIsland :
    wsby.asleep = true ∧ alwaysOn Instr.pllLock = false := by
  decide +kernel

theorem test_witness_MisalignedAccess :
    x6.asleep = false ∧ 1572865 % 4 ≠ 0 := by
  decide +kernel

theorem test_witness_RegisterReads :
    x1.asleep = false ∧ R.HCH_UERR % 4 = 0 ∧ R.HCH_UERR < 2 ^ 23 ∧ (regRow R.HCH_UERR).isSome = true ∧ ((regRow R.HCH_UERR).getD noRow).wide = 0 ∧ x1.reaches R.HCH_UERR = true ∧ x1.hiddenReg R.HCH_UERR = false ∧ R.HCH_UERR ≠ R.TIM_NOW_NS ∧ R.HCH_UERR ≠ R.CMT_DPORT_DATA ∧ R.HCH_UERR ≠ R.NVS_RD_DATA := by
  decide +kernel

end Whole

namespace Resets

def chkRunD (c : Instr) (s : State) : State := match exec c s with | .next t => t | _ => s
def hopen : State := { dev 1 [(F.HCH_CTL_LOCK, 0), (F.MGT_MW_STAT_SST 1, 1)] with fuses := {} }
def x1 : State := dev 1 [(F.SYS_IMG_STAT_STATE 1, 1)]
def x2 : State := { dev 1 [] with mram := Mem.write [] 0x300000 [1,2,3] }
def x3 : State := dev 1 [(F.FMC_CFG_MASK, 15), (F.FMC_CH_STAT_STATE 1, 1)]
def x4 : State := { dev 1 [(F.FMC_CFG_MASK, 15), (F.FMC_CH_STAT_STATE 1, 1)] with fmc := { (dev 1 []).fmc with pass := [0,1,0,0] } }
def x5 : State := dev 0 [(F.RPS_BOOT_STAGE, 1)]
def x6 : State := dev 2 []
def x7 : State := dev 1 [(F.HCH_CTL_LOCK, 1)]
def x8 : State := dev 1 []
def x9 : State := { dev 1 [] with rps := { (dev 1 []).rps with deferred := [{ level := 2, source := 1 }] } }
def x10 : State := dev 0 [(F.RPS_BOOT_STAGE, 2)]
def x11 : State := { dev 2 [] with rps := { (dev 1 []).rps with chainReset := true } }

theorem test_witness_HatchFrames :
    (hopen.asleep = false ∧
      (hopen.f (F.MGT_MW_STAT_SST 1) = 1) ∧
      (hopen.hatchOpen = true ∧ 4128780 < 2 ^ 23 ∧ 4128780 % 4 = 0 ∧ regRow 4128780 = some ((regRow R.HCH_UERR).getD noRow) ∧ ((regRow R.HCH_UERR).getD noRow).wide ≠ 2 ∧ hopen.reaches 4128780 = true)) ∧
    (x7.asleep = false ∧ x7.hatchOpen = false) := by
  decide +kernel

theorem test_witness_ResetWaitsForPulse :
    (x8.asleep = false ∧
      (x8.part7440 = true ∧ x8.isTile = false) ∧
      (x8.rps.deferred = [])) ∧
    (x9.asleep = false ∧ x9.steady = true ∧ x9.rps.deferred = [{ level := 2, source := 1 }]) := by
  decide +kernel

theorem test_witness_SourcesEnterReset :
    (x8.steady = true ∧ x8.part7440 = true ∧ x8.isTile = false) ∧
    (x11.steady = true ∧ x11.isTile = true ∧ x11.rps.chainReset = true) := by
  decide +kernel

theorem test_witness_ShortResetPulses :
    x6.isTile = true := by
  decide +kernel

theorem test_witness_CoreReset :
    x8.steady = true ∧ ((x8.cmt.pend.any fun x => x.heavy) = false) ∧ x8.mgt.act = none ∧ BitVec.getLsbD (5 : BitVec 4) 3 = false := by
  decide +kernel

theorem test_witness_BringUpSteps :
    (State.reset.rps.held = true ∧ State.reset.rps.latch = false ∧
      (State.reset.rps.level = 3) ∧
      (State.reset.asleep = false)) ∧
    (x10.asleep = false ∧ x10.rps.held = false ∧
      (x10.stage' ≠ 1) ∧
      (x10.stage' = 2 ∧ x10.fwBootOk 0 = false)) ∧
    (x5.asleep = false ∧ x5.rps.held = false ∧
      (x5.stage' ≠ 2) ∧
      (x5.stage' = 1)) := by
  decide +kernel

theorem test_witness_ChannelTraining :
    (x3.asleep = false ∧ 5 ≤ x3.stage' ∧ x3.present Blk.FMC = true ∧ x3.chansOn.contains 1 = true ∧ x3.f (F.FMC_CH_STAT_STATE 1) = 1 ∧ x3.fmc.pass.getD 1 0 = 0) ∧
    (x4.asleep = false ∧ 5 ≤ x4.stage' ∧ x4.present Blk.FMC = true ∧ x4.chansOn.contains 1 = true ∧ x4.f (F.FMC_CH_STAT_STATE 1) = 1 ∧ x4.fmc.pass.getD 1 0 = 1) := by
  decide +kernel

theorem test_witness_ImageCheck :
    (x2.asleep = false ∧ x2.f (F.SYS_IMG_STAT_STATE 1) ≠ 1 ∧ x2.slotEmpty 1 = false ∧ (Img.validate (x2.slotBytes 1) x2.part7440).fst ≠ 0) ∧
    (x1.asleep = false ∧ x1.f (F.SYS_IMG_STAT_STATE 1) = 1) ∧
    (x8.asleep = false ∧ x8.f (F.SYS_IMG_STAT_STATE 1) ≠ 1 ∧ x8.slotEmpty 1 = true) := by
  exact ⟨⟨by decide +kernel, by decide +kernel, by decide +kernel, validate_ne _ _ _ (by decide +kernel)⟩, by decide +kernel⟩

end Resets

namespace Frames

def sr (fs : List (Fld × Nat)) : State := upAll <| atSec 5 (dev 1 (runs ++ fs))
def tr (fs : List (Fld × Nat)) : State := atSec 5 (dev 2 (runs ++ fs))
def cm (n k : Nat) (heavy : Bool) (st : RegFile) : Commit := { gen := 4, n := n, slot := k, due := (tr []).boundaryOf (tr []).rate n k, tag := 7, heavy := heavy, sent := false, catchup := false, late := false, snap := st, cache := {} }
def x1 : State := sr [(F.DSP_TRIG_CTL_EN 3, 1), (F.DSP_TRIG_CTL_SLOT 3, 2)]
def x2 : State := sr []
def x3 : State := tr [(F.CMC_STATUS_ADMITTED, 1)]
def x4 : State := { tr [] with cmt := { (tr []).cmt with pend := [cm 310 0 true []], prepared := true, regionsDue := [3, 4] } }
def x5 : State := { sr [(F.SYS_UNITEN_CHAIN, 7)] with dsp := { (sr []).dsp with actCopies := [[1, 2], [3]] } }
def x6 : State := dev 1 []
def x7 : State := { tr [] with cmt := { (tr []).cmt with pend := [cm 310 0 true []] } }
def x8 : State := { sr [] with cmt := { (sr []).cmt with pend := [cm 310 0 false []] } }
def x9 : State := sr [(F.DSP_ACT_NS_NS, 1000000000)]
def x10 : State := sr [(F.DSP_STATUS_JOIN, 1)]

theorem test_witness_FrameBoundaryTime :
    (x2.asleep = false ∧ NothingDue x2) ∧
    (x3.asleep = false ∧ NothingDue x3 ∧ x3.isTile = true ∧ x3.on F.CMC_STATUS_ADMITTED = true ∧ x3.f F.RPS_BOOT_STAGE = 6 ∧ x3.cmc.got = false ∧ x3.updateFrame x3.nextFrame = true) := by
  repeat' apply And.intro
  all_goals first
    | exact nothingDue_of _ rfl (by decide +kernel) (by decide +kernel)
    | exact Or.inl ⟨by decide, by decide⟩
    | exact Or.inr (Or.inl ⟨3, by decide, by decide⟩)
    | exact Or.inr (Or.inr ⟨by decide, by decide⟩)
    | decide +kernel

theorem test_witness_SlotBoundaryTime :
    x2.asleep = false ∧ NothingDue x2 ∧ x2.isTile = false := by
  repeat' apply And.intro
  all_goals first
    | exact nothingDue_of _ rfl (by decide +kernel) (by decide +kernel)
    | exact Or.inl ⟨by decide, by decide⟩
    | exact Or.inr (Or.inl ⟨3, by decide, by decide⟩)
    | exact Or.inr (Or.inr ⟨by decide, by decide⟩)
    | decide +kernel

theorem test_witness_UnframedHasNoBoundaries :
    x6.framed = false := by
  decide +kernel

theorem test_witness_HeavyPreparation :
    (x7.asleep = false ∧ (List.find? (fun x => x.heavy) x7.cmt.pend = some (cm 310 0 true [])) ∧ x7.cmt.prepared = false ∧ State.imageChange x7.regs (cm 310 0 true []).snap = false) ∧
    (x4.asleep = false ∧ (List.find? (fun x => x.heavy) x4.cmt.pend = some (cm 310 0 true [])) ∧ x4.cmt.prepared = true) := by
  decide +kernel

theorem test_witness_ActionsAreScheduled :
    (x6.asleep = false ∧ x6.isSender = true ∧ x6.present Blk.PAR = false ∧ (x6.timed = false ∨ x6.on F.DSP_STATUS_JOIN = true ∨ 999999999 < BitVec.toNat (x6.reg R.DSP_ACT_NS) % 2 ^ 30)) ∧
    (x2.asleep = false ∧ x2.isSender = true ∧ x2.present Blk.PAR = false ∧ x2.timed = true ∧ x2.on F.DSP_STATUS_JOIN = false ∧ BitVec.toNat (x2.reg R.DSP_ACT_NS) % 2 ^ 30 ≤ 999999999) ∧
    (x9.asleep = false ∧ x9.isSender = true ∧ x9.present Blk.PAR = false ∧ (x9.timed = false ∨ x9.on F.DSP_STATUS_JOIN = true ∨ 999999999 < BitVec.toNat (x9.reg R.DSP_ACT_NS) % 2 ^ 30)) ∧
    (x10.asleep = false ∧ x10.isSender = true ∧ x10.present Blk.PAR = false ∧ (x10.timed = false ∨ x10.on F.DSP_STATUS_JOIN = true ∨ 999999999 < BitVec.toNat (x10.reg R.DSP_ACT_NS) % 2 ^ 30)) := by
  decide +kernel

theorem test_witness_ActionSecondCopies :
    x5.asleep = false ∧ x5.dsp.actCopies = [[1, 2], [3]] := by
  decide +kernel

theorem test_witness_TriggerEdges :
    x1.asleep = false ∧ x1.framed = true ∧ x1.role ≠ 0 ∧ x1.on (F.DSP_TRIG_CTL_EN 3) = true ∧ x1.on F.DSP_STATUS_JOIN = false ∧ x1.f (F.DSP_TRIG_CTL_SLOT 3) < x1.rate.slots := by
  decide +kernel

theorem test_witness_ShutterPointApplies :
    (x8.asleep = false ∧ x8.isSender = true ∧ x8.cmt.pend = [cm 310 0 false []] ∧ (cm 310 0 false []).heavy = false ∧ x8.present Blk.PAR = false ∧ RegFile.fld (cm 310 0 false []).snap F.SYS_IMG_SEL_SLOT = x8.runSlot) ∧
    (x2.asleep = false ∧ x2.isSender = true ∧ x2.cmt.pend = []) := by
  decide +kernel

end Frames

namespace Fabric

def sr (fs : List (Fld × Nat)) : State := atSec 5 (dev 1 (runs ++ fs))
def tr (fs : List (Fld × Nat)) : State := atSec 5 (dev 2 (runs ++ fs))
def tk : Tok := { err := false, bubble := false }
def cellS : State := { tr [(F.FAB_STAGE_CODE 0, 0x01010101)] with fab := { (tr []).fab with cells := tabMod (.replicate 1024 none) 4 fun _ => some tk, reload := [5, 7] } }
def bt : Tok := { bubble := true }
def cellB : State := { cellS with fab := { cellS.fab with cells := tabMod cellS.fab.cells 4 fun _ => some bt, sramErr := [(5, 3, true)] } }
def tk3 : Tok := { comps := [.sound 0x7fffff, .sound 3, .sound 9] }
def cellT : State := { cellS with fab := { cellS.fab with cells := tabMod cellS.fab.cells 4 fun _ => some tk3, sramErr := [(5, 3, true)], accs := tabMod cellS.fab.accs 5 fun _ => (7, 1) } }
def rnc : Run := { n := 301, slot := 2, idx := 0, first := 0, count := 2 }
def cellF : State := cellT.setPath 0 fun x => { x with run := some rnc }
def psG : List CellPrim := [.mac (.comp 0) (.comp 1), .rsh 2 none 3]
def psL : List CellPrim := [.sub 0 (.comp 2) (.lds 3 1 true 0)]
def inB : List (List (BitVec 24) × BitVec 48) := [([8], 0)]
def opsG : List CellOp := cellOps psG [] []
def opsB : List CellOp := cellOps psG inB []
def opsL : List CellOp := cellOps psL [] []
def ops0 : List CellOp := cellOps [] [] []
def rn : Run := { n := 301, slot := 2, idx := 0, first := 0, count := 2 }
def pth (b : State) (rep err : Bool) : State := { b with fab := { b.fab with paths := tabMod (.replicate 16 {}) 3 fun _ => { run := some rn, replay := rep, err := err } }, cor := { b.cor with passes := [] } }
def pthD (b : State) : State := { pth b false false with fab := { (pth b false false).fab with paths := tabMod (.replicate 16 {}) 3 fun _ => { run := some { rn with n := b.frameNow + 1 } } } }
def pl (fs : List (Fld × Nat)) : State := tr ([(F.FAB_STATUS_PSTATE, 1), (F.FAB_BUDGET_BUDGET, 100)] ++ fs)
def x1 : State := { pl [(F.FAB_STATUS_PSTATE, 3), (F.FAB_PLAN_CTL_HOLD, 1)] with fab := { (pl []).fab with avsFault := true } }
def x2 : State := { pl [(F.FAB_STATUS_PSTATE, 3)] with fab := { (pl []).fab with avsFault := true } }
def x3 : State := tr [(F.FAB_CPR_ADDR_BUSY, 1), (F.FAB_CPR_ADDR_CELL, 5)]
def x4 : State := pth (sr []) false false
def x5 : State := pth (tr []) true true
def x6 : State := (pl [(F.FAB_STATUS_PSTATE, 2), (F.FAB_PLAN_MARGIN, 50), (F.FAB_AVS_LIM_VMIN, 600), (F.FAB_AVS_LIM_VMAX, 850)]).setFab fun f => { f with frames := 64, v := 850 }
def x7 : State := { tr [(F.FAB_STAGE_CODE 0, 0x01010101)] with fab := { (tr []).fab with resSec := [7000], ageSum := 1000000, ageCnt := 7 } }
def x8 : State := tr [(F.THM_STATUS_MCOMP, 1)]
def x9 : State := { (pth (tr []) true false).setPath 3 fun x => { x with readBad := [7], lastCell := some 70 } with fab := { ((pth (tr []) true false).setPath 3 fun x => { x with readBad := [7], lastCell := some 70 }).fab with reload := [7] } }
def x10 : State := pthD (tr [])
def x11 : State := tr [(F.FAB_CPR_ADDR_BUSY, 1), (F.FAB_CPR_ADDR_CELL, 5), (F.FAB_CPR_ADDR_SPACE, 1)]
def x12 : State := (pl [(F.FAB_VCORE_TARGET, 600)]).setFab fun f => { f with verify := true, v := 600 }
def x13 : State := cellF.setF F.FAB_THR_APPLIED 3
def x14 : State := (pl []).setFab fun f => { f with frames := 64 }
def x15 : State := pl [(F.FAB_STATUS_PSTATE, 2), (F.FAB_AVS_STAT_FAILS, 2)]
def x16 : State := (pl [(F.FAB_VCORE_TARGET, 695)]).setFab fun f => { f with verify := true, v := 695 }
def x17 : State := pth (tr []) true false
def x18 : State := pl [(F.FAB_STATUS_PSTATE, 3)]
def x19 : State := tr [(F.FAB_STAGE_CODE 0, 0x01010101), (F.FAB_RES_THR_LIMIT, 5)]
def x20 : State := pth (tr []) false false
def x21 : State := (pl [(F.FAB_STATUS_PSTATE, 2), (F.FAB_PLAN_MARGIN, 50), (F.FAB_AVS_LIM_VMIN, 600), (F.FAB_AVS_LIM_VMAX, 850)]).setFab fun f => { f with frames := 64, v := 700 }
def x22 : State := { sr [] with fab := { (sr []).fab with resSec := [7000], ageSum := 100000, ageCnt := 7 } }
def x23 : State := tr []
def x24 : State := pth (tr []) false true

theorem test_witness_CellTokens :
    (cellT.asleep = false ∧
      (opsG = cellOps psG [] [] ∧ cellT.role ≠ 0 ∧ cellT.stageCode (5 / 64) ≠ 0 ∧ tabAt cellT.fab.cells 5 none = none ∧ 5 % 64 ≠ 0 ∧ tabAt cellT.fab.cells (5 - 1) none = some tk3 ∧ tk3.bubble = false ∧ cellT.lastCell 5 = false ∧
        ((¬(5, 4, true) ∈ cellT.fab.sramErr) ∧ (¬(5, 4, false) ∈ cellT.fab.sramErr)) ∧
        (tk3.comps = [FWord.sound 8388607, FWord.sound 3, FWord.sound 9] ∧ tk3.err = false) ∧
        (List.flatMap CellOp.reads opsG = [] ∧ (({ comps := tk3.comps, acc := (tabAt cellT.fab.accs 5 (0, 0)).fst, accCode := (tabAt cellT.fab.accs 5 (0, 0)).snd } : CellRun).program opsG (cellT.sramAt 5)).bad = 0)) ∧
      (opsB = cellOps psG inB [] ∧ cellT.role ≠ 0 ∧ cellT.stageCode (5 / 64) ≠ 0 ∧ tabAt cellT.fab.cells 5 none = none ∧ 5 % 64 ≠ 0 ∧ tabAt cellT.fab.cells (5 - 1) none = some tk3 ∧ tk3.bubble = false ∧ cellT.lastCell 5 = false ∧ List.flatMap CellOp.reads opsB = [] ∧ (({ comps := tk3.comps, acc := (tabAt cellT.fab.accs 5 (0, 0)).fst, accCode := (tabAt cellT.fab.accs 5 (0, 0)).snd } : CellRun).program opsB (cellT.sramAt 5)).bad ≠ 0)) ∧
    (cellB.asleep = false ∧ ops0 = cellOps [] [] [] ∧ cellB.role ≠ 0 ∧ cellB.stageCode (5 / 64) ≠ 0 ∧ tabAt cellB.fab.cells 5 none = none ∧ 5 % 64 ≠ 0 ∧ tabAt cellB.fab.cells (5 - 1) none = some bt ∧ bt.bubble = true) ∧
    (x13.asleep = false ∧ opsG = cellOps psG [] [] ∧ x13.role ≠ 0 ∧ x13.stageCode (0 / 64) ≠ 0 ∧ tabAt x13.fab.cells 0 none = none ∧ 0 % 64 = 0 ∧ x13.fab.slots.getD (0 / 64) 0 < x13.f F.FAB_THR_APPLIED) ∧
    (cellF.asleep = false ∧ opsG = cellOps psG [] [] ∧ cellF.role ≠ 0 ∧ cellF.stageCode (0 / 64) ≠ 0 ∧ tabAt cellF.fab.cells 0 none = none ∧ 0 % 64 = 0 ∧ cellF.f F.FAB_THR_APPLIED ≤ cellF.fab.slots.getD (0 / 64) 0 ∧ cellF.upstream 0 = none ∧ (cellF.path (cellF.pathOf (0 / 64))).run = some rnc ∧ (cellF.path (cellF.pathOf (0 / 64))).fed < rnc.count) := by
  repeat' apply And.intro
  all_goals first
    | exact nothingDue_of _ rfl (by decide +kernel) (by decide +kernel)
    | exact Or.inl ⟨by decide, by decide⟩
    | exact Or.inr (Or.inl ⟨3, by decide, by decide⟩)
    | exact Or.inr (Or.inr ⟨by decide, by decide⟩)
    | decide +kernel

theorem test_witness_RunsComplete :
    (x9.asleep = false ∧ x9.role ≠ 0 ∧ x9.runOf 3 = some rn ∧ x9.fab.work = [] ∧ (x9.path 3).replay = true ∧ x9.isTile = true ∧ ((x9.drainPath 3).fst = true ∨ ∃ c, c ∈ (x9.path 3).readBad ∧ c ∈ x9.fab.reload)) ∧
    (x4.asleep = false ∧ x4.role ≠ 0 ∧ x4.runOf 3 = some rn ∧ x4.fab.work = [] ∧ (x4.path 3).replay = false ∧ x4.isSender = true ∧ x4.farReads rn = ([], [])) ∧
    (x17.asleep = false ∧ x17.role ≠ 0 ∧ x17.runOf 3 = some rn ∧ x17.fab.work = [] ∧ (x17.path 3).replay = true ∧ x17.isTile = true ∧ (x17.drainPath 3).fst = false ∧ (∀ (c : Nat), c ∈ (x17.path 3).readBad → ¬c ∈ x17.fab.reload)) ∧
    (x24.asleep = false ∧ x24.role ≠ 0 ∧ x24.runOf 3 = some rn ∧ x24.fab.work = [] ∧ (x24.path 3).replay = false ∧ x24.isTile = true ∧ (x24.drainPath 3).fst = true) ∧
    (x20.asleep = false ∧ x20.role ≠ 0 ∧ x20.runOf 3 = some rn ∧ x20.fab.work = [] ∧ (x20.path 3).replay = false ∧ x20.isTile = true ∧ (x20.drainPath 3).fst = false) ∧
    (x5.asleep = false ∧ x5.role ≠ 0 ∧ x5.runOf 3 = some rn ∧ x5.fab.work = [] ∧ (x5.path 3).replay = true ∧ x5.isTile = true ∧ ((x5.drainPath 3).fst = true ∨ ∃ c, c ∈ (x5.path 3).readBad ∧ c ∈ x5.fab.reload)) := by
  decide +kernel

theorem test_witness_FabricDeadlines :
    (x10.asleep = false ∧ x10.framed = true ∧ x10.role ≠ 0 ∧ (x10.openRuns (x10.frameNow + 1) (if x10.isSender = true then none else some 2) ≠ []) ∧
      (x10.isTile = true) ∧
      (x10.fab.lateN ≠ some (x10.frameNow + 1))) ∧
    (x23.asleep = false ∧ x23.framed = true ∧ x23.role ≠ 0 ∧ (x23.openRuns (x23.frameNow + 1) (if x23.isSender = true then none else some 2) = [])) := by
  decide +kernel

theorem test_witness_FabricMonitors :
    (x7.asleep = false ∧ x7.role ≠ 0 ∧ x7.stageCode 3 ≠ 0 ∧ (x7.f F.FAB_RING_BAD_BAD).testBit 3 = false) ∧
    (x8.asleep = false ∧ x8.role ≠ 0 ∧
      (x8.mramOk = true ∧ (x8.f F.MGT_STATUS_RUNNING).testBit 3 = true) ∧
      (x8.stageCode 3 = 0)) ∧
    (x22.asleep = false ∧ x22.role ≠ 0 ∧ x22.fab.ageSum < 65536 * x22.fab.ageCnt) ∧
    (x19.asleep = false ∧ x19.role ≠ 0 ∧ x19.fab.ageCnt = 0) := by
  decide +kernel

theorem test_witness_MarginPlanner :
    (x1.asleep = false ∧
      (x1.present Blk.FAB = true ∧ x1.pstate ≠ 0 ∧
        (x1.pstate = 3 ∧ x1.fab.avsFault = true ∧ x1.on F.FAB_PLAN_CTL_HOLD = true) ∧
        (x1.fab.verify = false ∧ x1.fab.writeDue = false)) ∧
      (x1.plannerRuns = true ∧
        (70 ≤ x1.f F.FAB_BUDGET_BUDGET ∧ x1.fab.late = false ∧ x1.fab.writeDue = false) ∧
        (x1.fab.frames < 64))) ∧
    (x15.asleep = false ∧ x15.present Blk.FAB = true ∧ x15.pstate ≠ 0 ∧ x15.f F.FAB_AVS_STAT_FAILS = 2) ∧
    (x18.asleep = false ∧ x18.present Blk.FAB = true ∧ x18.pstate ≠ 0 ∧ x18.pstate = 3 ∧ x18.fab.avsFault = false) ∧
    (x16.asleep = false ∧ x16.present Blk.FAB = true ∧ x16.pstate ≠ 0 ∧ x16.fab.writeDue = false ∧ x16.fab.verify = true ∧ ((700 : Int) - ↑(x16.f F.FAB_VCORE_TARGET)).natAbs ≤ 10) ∧
    (x12.asleep = false ∧ x12.present Blk.FAB = true ∧ x12.pstate ≠ 0 ∧ x12.fab.writeDue = false ∧ x12.fab.verify = true ∧ 10 < ((700 : Int) - ↑(x12.f F.FAB_VCORE_TARGET)).natAbs ∧ x12.f F.FAB_AVS_STAT_FAILS < 2) ∧
    (x14.asleep = false ∧ x14.plannerRuns = true ∧ 64 ≤ x14.fab.frames ∧ x14.pstate = 1) ∧
    (x21.asleep = false ∧ x21.plannerRuns = true ∧ 64 ≤ x21.fab.frames ∧ x21.pstate = 2 ∧ x21.fab.smin.getD 0 < ↑(x21.f F.FAB_PLAN_MARGIN) ∧ x21.f F.FAB_THR_APPLIED = 0 ∧ x21.railRecent = false ∧ x21.f F.FAB_AVS_LIM_VMIN ≤ x21.fab.v + 10 ∧ x21.fab.v + 10 ≤ x21.f F.FAB_AVS_LIM_VMAX) ∧
    (x6.asleep = false ∧ x6.plannerRuns = true ∧ 64 ≤ x6.fab.frames ∧ x6.pstate = 2 ∧ x6.fab.smin.getD 0 < ↑(x6.f F.FAB_PLAN_MARGIN) ∧ x6.fab.v = x6.f F.FAB_AVS_LIM_VMAX) ∧
    (x2.asleep = false ∧ x2.present Blk.FAB = true ∧ x2.pstate ≠ 0 ∧ x2.pstate = 3 ∧ x2.fab.avsFault = true ∧ x2.on F.FAB_PLAN_CTL_HOLD = false) := by
  decide +kernel

theorem test_witness_CellProgramRead :
    (x3.asleep = false ∧ x3.role ≠ 0 ∧ x3.on F.FAB_CPR_ADDR_BUSY = true ∧ x3.on F.FAB_CPR_ADDR_SPACE = false) ∧
    (x11.asleep = false ∧ x11.role ≠ 0 ∧ x11.on F.FAB_CPR_ADDR_BUSY = true ∧ x11.on F.FAB_CPR_ADDR_SPACE = true ∧ (x11.sramAt (x11.f F.FAB_CPR_ADDR_CELL) (x11.f F.FAB_CPR_ADDR_WORD)).snd = false) := by
  decide +kernel

end Fabric

namespace Correction

def sr (fs : List (Fld × Nat)) : State := atSec 5 (dev 1 (runs ++ fs))
def tr (fs : List (Fld × Nat)) : State := atSec 5 (dev 2 (runs ++ fs))
def sg (outs : List (Nat × List Nat)) (bg : Bool) : Seg := { n := 301, slot := 2, entry := 0, port := 1, addr := 9, pixels := 8, derate := 256, runs := 1, outs := outs, begun := bg }
def sgS (x : Seg) (fs : List (Fld × Nat)) : State := { sr ([(F.SYS_UNITEN_CHAIN, 15)] ++ fs) with snd := { (sr []).snd with segs := [x] } }
def w1 := sg [(0, [1,2,3,4,5,6,7,8])] false
def w2 := sg [] false
def w3 := sg [] true
def hd (blocks : Nat) (crc : Nat) : List Byte := padTo 0x2C [] ++ leBytes 4 blocks ++ padTo (0x100 - 0x30) [] ++ leBytes 4 crc ++ leBytes 4 crc ++ leBytes 4 crc
def ld (b : Nat) (again : Bool) (blocks crc : Nat) : TabLoad := { set := 1, block := b, head := hd blocks crc, again := again, bad := false }
def ldS (l : TabLoad) (fs : List (Fld × Nat)) : State := { tr fs with cor := { (tr []).cor with load := some l } }
def blk : List Byte := List.replicate 65536 0
def x1 : State := sgS w1 []
def x2 : State := sr []
def x3 : State := sgS w3 [(F.SND_OFIFO_CTL_STEP 1, 7)]
def x4 : State := { tr [(F.COR_STATUS_SWEEP, 1), (F.THM_STATUS_MCOMP, 1)] with cor := { (tr []).cor with ckpt := some (5, 6, 0) } }
def x5 : State := tr [(F.DRV_DERATE_STAT_DRL, 77)]
def x6 : State := tr [(F.COR_STATUS_RUN, 1)]
def x7 : State := sgS w2 []
def x8 : State := sgS w2 [(F.SND_OFIFO_SIZE_SIZE 1, 8)]
def x9 : State := tr [(F.COR_TBL_ADDR_BUSY, 1), (F.COR_TBL_ADDR_OFFSET, 0x55), (F.COR_DOSE_LAMP_BUSY, 1), (F.COR_DOSE_LAMP_LAMP, 0x123)]
def x10 : State := ldS (ld 0 false 3 0) [(F.COR_GWY_SEL_ALT_EN, 0)]
def x11 : State := ldS (ld 3 false 3 5) []

theorem test_witness_SegmentsBeginAndUnderrun :
    (x1.asleep = false ∧ x1.isSender = true ∧ x1.portOn 1 = true ∧ x1.headSeg 1 = some w1 ∧
      (x1.carriesVideo 1 = true ∧ w1.begun = false ∧ w1.abandoned = false ∧ (State.segReady w1 = segBytes w1.pixels ∨ x1.prefetch 1 ≤ State.segReady w1)) ∧
      ((w1.begun = false ∨ State.segReady w1 = segBytes w1.pixels))) ∧
    (x3.asleep = false ∧ x3.isSender = true ∧ x3.portOn 1 = true ∧ x3.headSeg 1 = some w3 ∧ w3.begun = true ∧ State.segReady w3 ≠ segBytes w3.pixels ∧ x3.f (F.SND_OFIFO_CTL_STEP 1) = 7) ∧
    (x8.asleep = false ∧ x8.isSender = true ∧ x8.portOn 1 = true ∧ x8.headSeg 1 = some w2 ∧
      (x8.carriesVideo 1 = true ∧ w2.begun = false ∧ w2.abandoned = false ∧ State.segReady w2 ≠ segBytes w2.pixels ∧ State.segReady w2 < x8.prefetch 1) ∧
      ((w2.begun = false ∨ State.segReady w2 = segBytes w2.pixels))) := by
  decide +kernel

theorem test_witness_TransmitDeadlines :
    (x7.asleep = false ∧ x7.isSender = true ∧ x7.framed = true ∧ (List.filter (fun y => y.n == x7.frameNow + 1 && y.slot == 2 && !State.segDone y) x7.snd.segs = [w2]) ∧ w2.begun = false ∧ x7.carriesVideo w2.port = true) ∧
    (x2.asleep = false ∧ x2.isSender = true ∧ x2.framed = true ∧ (List.filter (fun y => y.n == x2.frameNow + 1 && y.slot == 2 && !State.segDone y) x2.snd.segs = [])) := by
  decide +kernel

theorem test_witness_ReceiveDeadlines :
    x5.asleep = false ∧ x5.isTile = true ∧ x5.framed = true ∧ 2 < (x5.rateAt (x5.frameNow + 1)).slots ∧ x5.repeatsHeavy (x5.frameNow + 1) = false := by
  decide +kernel

theorem test_witness_TableLoads :
    (x10.asleep = false ∧ 5 ≤ x10.stage' ∧ x10.cor.load = some (ld 0 false 3 0) ∧ ((ld 0 false 3 0).heavy = none → x10.on F.COR_GWY_SEL_ALT_EN = false) ∧ (∀ (q : TabPlan), (ld 0 false 3 0).heavy = some q → q.alt = false) ∧ (ld 0 false 3 0).block = 0 ∧ x10.headCode (ld 0 false 3 0) ([1]) ≠ 0 ∧ x10.isTile = true) ∧
    (x11.asleep = false ∧ 5 ≤ x11.stage' ∧ x11.cor.load = some (ld 3 false 3 5) ∧ (ld 3 false 3 5).head ≠ [] ∧ numAt (ld 3 false 3 5).head 44 4 ≤ (ld 3 false 3 5).block ∧ x11.isTile = true) := by
  decide +kernel

theorem test_witness_SweepsAndCheckpoints :
    (x4.asleep = false ∧ x4.isTile = true ∧
      (x4.on F.COR_STATUS_SWEEP = true ∧ x4.st1 = false) ∧
      (x4.st1 = false ∧ x4.on F.COR_STATUS_CKPT = false)) ∧
    (x6.asleep = false ∧ x6.isTile = true ∧ x6.on F.COR_STATUS_RUN = true ∧ x6.on F.COR_STATUS_SWEEP = false ∧ x6.st1 = false) := by
  decide +kernel

theorem test_witness_CorrectionReadback :
    x9.asleep = false ∧ x9.isTile = true ∧
      (x9.on F.COR_DOSE_LAMP_BUSY = true) ∧
      (x9.on F.COR_TBL_ADDR_BUSY = true) := by
  decide +kernel

end Correction

namespace Sweeps

def tr (fs : List (Fld × Nat)) : State := atSec 50 (dev 2 (runs ++ fs))
def k1 := { tr [(F.SYS_UNITEN_OPT, 8), (F.COR_STATUS_SWEEP, 1), (F.COR_DOSE_CTL_CPER, 49), (F.THM_STATUS_MCOMP, 1)] with cor := { (tr []).cor with ckpt := some (5, 6, 0) } }

theorem test_witness_SweepsAndCheckpoints :
    k1.asleep = false ∧ k1.isTile = true ∧
      (k1.cor.ckpt = some (5, 6, 0) ∧ k1.ckptList[0]? = some 65535 ∧ k1.mramOk = true ∧ k1.ckptList.length ≤ 0 + 1) ∧
      (k1.on F.COR_STATUS_SWEEP = true ∧ k1.st1 = false ∧ k1.cor.sweepAt + k1.f F.COR_DOSE_CTL_CPER * State.secU < k1.clk.wall) := by
  decide +kernel

end Sweeps

namespace Drive

def tr (fs : List (Fld × Nat)) : State := atSec 5 (dev 2 (runs ++ fs))
def dr (fs : List (Fld × Nat)) (g : DrvSt → DrvSt) : State := { tr ([(F.SYS_UNITEN_BUSES, 4), (F.DRV_SCAN_PM1, 3), (F.DRV_SCAN_NM1, 3), (F.DRV_STATUS_RUN, 1), (F.DRV_STATUS_HBLANK, 0)] ++ fs) with drv := g {} }
def p1 : List Byte := Hualer.packet 0x21 1 0 []
def p2 : List Byte := Hualer.packet 0x11 1 0 []
def lx (fs : List (Fld × Nat)) (g : LuxSt → LuxSt) : State := withImg 5 luxDesc { tr ([(F.SYS_UNITEN_OPT, 8)] ++ fs) with lux := g {} }
def wn (k : Nat) : LuxWin := { kind := k, groups := 1, frames := 4, start := 300 }
def x1 : State := lx [(F.LUX_CAL_STAT_BUSY, 1)] fun l => { l with win := some (wn 1) }
def x2 : State := lx [(F.LUX_CAL_STAT_BUSY, 1)] id
def x3 : State := dr [] id
def x4 : State := dr [(F.DRV_CTL_BLANK, 1), (F.DRV_STATUS_HBLANK, 1)] id
def x5 : State := lx [(F.LUX_G_SNS_STATE 0, 1), (F.LUX_G_STAT_FAILS 0, 2)] fun l => { l with win := some (wn 0) }
def x6 : State := dr [] fun d => { d with awaited := [(1, p1, false), (2, p2, false)] }
def x7 : State := dr [(F.DRV_BUS_STAT_STATE 2, 2)] fun d => { d with startAt := some 0, missing := tabMod d.missing 2 fun _ => 1 }
def x8 : State := dr [(F.DRV_BUS_STAT_STATE 2, 3)] fun d => { d with startAt := some 0 }
def x9 : State := lx [(F.LUX_G_SNS_STATE 0, 2)] id
def x10 : State := lx [] id
def x11 : State := dr [] fun d => { d with startAt := some 0 }
def x12 : State := dev 1 []
def x13 : State := dr [] fun d => { d with startAt := some 0, written := some (dr [] id).nextSlot }
def x14 : State := lx [(F.LUX_CTL_WIN_EN, 1)] id
def x15 : State := dr [(F.DRV_BUS_STAT_EXPECT 2, 5)] fun d => { d with startAt := some 0 }
def x16 : State := dr [(F.DRV_BUS_STAT_STATE 2, 2)] fun d => { d with awaited := [(1, p1, false), (2, p2, false)], missing := tabMod d.missing 2 fun _ => 1 }

theorem test_witness_DriveWritesAndRows :
    (x11.asleep = false ∧ x11.isTile = true ∧
      (x11.framed = true ∧ x11.drv.startAt.isSome = true ∧ x11.drv.written ≠ some x11.nextSlot) ∧
      (x11.on F.DRV_STATUS_RUN = true ∧ x11.on F.DRV_STATUS_HBLANK = false ∧ x11.drv.rowK + 1 < (x11.f F.DRV_SCAN_PM1 + 1) * (x11.f F.DRV_SCAN_NM1 + 1))) ∧
    (x13.asleep = false ∧ x13.isTile = true ∧ x13.framed = true ∧ x13.drv.startAt.isSome = true ∧ x13.drv.written = some x13.nextSlot) := by
  decide +kernel

theorem test_witness_DriverReturns :
    (x6.asleep = false ∧ x6.isTile = true ∧ (List.find? (fun x => x.fst == 2) x6.drv.awaited = some (2, p2, false)) ∧
      (Hualer.crcOk ([213] ++ List.drop 1 (Hualer.packet 0 0 0 [])) = true ∧ Hualer.cmd p2 ≠ 48 ∧ Hualer.cmd p2 ≠ 81) ∧
      (Hualer.crcOk [1, 2, 3, 4, 5, 6, 7, 8, 9] = false ∧ (¬Hualer.cmd p2 ∈ [33, 48, 81]))) ∧
    (x16.asleep = false ∧ x16.isTile = true ∧ (List.find? (fun x => x.fst == 2) x16.drv.awaited = some (2, p2, false)) ∧ 1 ≤ tabAt x16.drv.missing 2 0 ∧ x16.busState 2 ≠ 3) ∧
    (x3.asleep = false ∧ x3.isTile = true ∧ (List.find? (fun x => x.fst == 2) x3.drv.awaited = none)) := by
  decide +kernel

theorem test_witness_BusEnumeration :
    (x7.asleep = false ∧ x7.isTile = true ∧ x7.drv.startAt.isSome = true ∧ x7.busesOn.contains 2 = true ∧
      (1 ≤ tabAt x7.drv.missing 2 0 ∧ x7.busState 2 ≠ 3) ∧
      (5 ≠ x7.f (F.DRV_BUS_STAT_EXPECT 2))) ∧
    (x8.asleep = false ∧ x8.isTile = true ∧ x8.busState 2 = 3) ∧
    (x15.asleep = false ∧ x15.isTile = true ∧
      (x15.drv.startAt.isSome = true ∧ x15.busesOn.contains 2 = true ∧ tabAt x15.drv.missing 2 0 = 0) ∧
      (x15.busState 2 ≠ 3)) := by
  decide +kernel

theorem test_witness_HardBlank :
    (x3.asleep = false ∧ x3.isTile = true ∧ x3.on F.DRV_CTL_BLANK = false) ∧
    (x4.asleep = false ∧ x4.isTile = true ∧ x4.on F.DRV_CTL_BLANK = true) := by
  decide +kernel

theorem test_witness_SensorBuses :
    (x9.asleep = false ∧
      (x9.isTile = true) ∧
      (x9.present Blk.LUX = true ∧ 0 < x9.luxN ∧ x9.f (F.LUX_G_SNS_STATE 0) = 2)) ∧
    (x12.asleep = false ∧ x12.isTile = false) := by
  decide +kernel

theorem test_witness_LuxWindows :
    (x14.asleep = false ∧ x14.present Blk.LUX = true ∧
      (x14.on F.LUX_CTL_WIN_EN = true ∧ x14.framed = true) ∧
      (0 < x14.luxN) ∧
      (x14.lux.win = none)) ∧
    (x5.asleep = false ∧ x5.present Blk.LUX = true ∧
      (0 < x5.luxN ∧
        (x5.f (F.LUX_G_SNS_STATE 0) = 1 ∧ x5.lux.win = some (wn 0) ∧ State.luxPhase (wn 0) x5.frameNow = some 0 ∧ (wn 0).groups.testBit 0 = true ∧ (wn 0).acc.length = 48 ∧ (x5.sampleAt (wn 0) 0 0).fst ≤ (x5.sampleAt (wn 0) 0 0).snd) ∧
        (2 ≤ x5.f (F.LUX_G_STAT_FAILS 0) ∧ x5.f (F.LUX_G_SNS_STATE 0) ≠ 2)) ∧
      (x5.lux.win = some (wn 0) ∧ (wn 0).kind = 0)) := by
  decide +kernel

theorem test_witness_LuxCalibration :
    (x1.asleep = false ∧ x1.present Blk.LUX = true ∧ x1.lux.win = some (wn 1) ∧ (wn 1).kind = 1 ∧ x1.luxN = 1 ∧ (wn 1).groups = 1 ∧ x1.luxCode (wn 1) 0 0 [2, 7, 8] ≠ 0) ∧
    (x10.asleep = false ∧ x10.present Blk.LUX = true ∧ x10.on F.LUX_CAL_STAT_BUSY = false ∧ (F.LUX_CAL_KIND.get 4113 = 1 ∨ F.LUX_CAL_KIND.get 4113 = 2)) ∧
    (x2.asleep = false ∧ x2.present Blk.LUX = true ∧ x2.on F.LUX_CAL_STAT_BUSY = true) := by
  decide +kernel

end Drive

namespace Lanes

def sr (fs : List (Fld × Nat)) : State := atSec 5 (dev 1 (runs ++ [(F.SYS_UNITEN_CHAIN, 15)] ++ fs))
def tr (fs : List (Fld × Nat)) : State := atSec 5 (dev 2 (runs ++ [(F.SYS_UNITEN_CHAIN, 3)] ++ fs))
def b0 : BitVec 4096 := 0
def b1 : BitVec 4096 := 0x400D
def pr (s : State) (p : Nat) (g : LanPort → LanPort) : State := s.lanP p g
def wd : List (List Nat) := List.replicate 4 (List.range 37)
def stt (l : Fin 4) : LaneStat := { port := 1, lane := l, ones := 2 ^ 23, runs := 2 ^ 22, runs1 := 2 ^ 21, longest := 20, trans := 2 ^ 22, edge := 2 ^ 21, keep := true }
def sts : List LaneStat := [stt 0, stt 1, stt 2, stt 3]
def trl : List (Nat × Nat × Int) := [(1, 0, 3), (1, 1, 3), (1, 2, 3), (1, 3, 3)]
def kk (n : Nat) (d : Option Nat) : LanCal := { ports := 2, step := n, trial := trl, down := d }
def kst (k : LanCal) (fs : List (Fld × Nat)) : State := { tr fs with lan := { (tr fs).lan with cal := some k } }
def x1 : State := tr [(F.LAN_P_STAT_RXST 1, 2), (F.LAN_P_EQMODE_MODE 1, 1)]
def x2 : State := pr (tr []) 1 fun l => { l with cur := [1] }
def x3 : State := tr [(F.LAN_P_STAT_CLKDET 0, 1), (F.LAN_P_STAT_CLKDET 1, 1), (F.LAN_CLK_REFSRC, 2), (F.LAN_P_STAT_RXST 1, 5), (F.LAN_CLK_CTL_REVERT, 1)]
def x4 : State := kst (kk 6 none) [(F.THM_STATUS_MCOMP, 1)]
def x5 : State := sr []
def x6 : State := kst (kk 2 none) []
def x7 : State := tr [(F.LAN_P_STAT_RXST 1, 5), (F.LAN_P_EQMODE_MODE 1, 2), (F.LAN_P_L_EQ 1 2, 5)]
def x8 : State := sr [(F.LAN_CLK_CTL_REVERT, 1)]
def x9 : State := tr [(F.LAN_P_STAT_RXST 1, 2), (F.LAN_P_L_EQFIX 1 2, 7), (F.LAN_P_EQMODE_MODE 1, 0)]
def x10 : State := tr [(F.LAN_P_STAT_CLKDET 1, 1), (F.LAN_CLK_REFSRC, 2), (F.LAN_P_STAT_RXST 1, 3)]
def x11 : State := tr [(F.LAN_P_STAT_RXST 1, 5)]
def x12 : State := kst (kk 0 (some 1)) []
def x13 : State := tr []
def x14 : State := pr (tr [(F.LAN_P_CTL_LOOP 1, 2)]) 1 fun l => { l with loopIn := 2 }

theorem test_witness_ClockPath :
    (x3.asleep = false ∧
      (x3.role ≠ 0 ∧ x3.laneOn 1 = true ∧ x3.on (F.LAN_P_STAT_CLKDET 1) = true ∧
        (2 ≤ x3.rxst 1) ∧
        (x3.isSender = false ∧ x3.f F.LAN_CLK_REFSRC = 1 + 1 ∧ x3.on (F.LAN_P_STAT_CLKDET (1 - 1)) = true)) ∧
      (x3.isSender = false ∧ x3.on F.LAN_CLK_CTL_REVERT = true ∧ x3.on (F.LAN_P_STAT_CLKDET 0) = true ∧ x3.f F.LAN_CLK_REFSRC = 2)) ∧
    (x13.asleep = false ∧
      (x13.role ≠ 0 ∧ x13.laneOn 1 = true ∧ x13.rxst 1 < 2) ∧
      (x13.isSender = false ∧ x13.on (F.LAN_P_STAT_CLKDET 0) = false ∧ x13.on (F.LAN_P_STAT_CLKDET 1) = false)) ∧
    (x10.asleep = false ∧ x10.role ≠ 0 ∧ x10.laneOn 1 = true ∧ x10.on (F.LAN_P_STAT_CLKDET 1) = true ∧ x10.isSender = false ∧ x10.f F.LAN_CLK_REFSRC = 1 + 1 ∧ x10.on (F.LAN_P_STAT_CLKDET (1 - 1)) = false) ∧
    (x8.asleep = false ∧ (x8.isSender = true ∨ x8.on F.LAN_CLK_CTL_REVERT = false)) := by
  decide +kernel

theorem test_witness_Equalisers :
    (x7.asleep = false ∧ x7.laneOn 1 = true ∧ x7.rxst 1 = 5 ∧ x7.f (F.LAN_P_EQMODE_MODE 1) = 2 ∧
      (9 < 10 + 2 ∧ 11 < 10 + 2) ∧
      (0 < x7.f (F.LAN_P_L_EQ 1 2) ∧ 10 + 2 ≤ 12) ∧
      (x7.f (F.LAN_P_L_EQ 1 2) < 36 ∧ 10 + 2 ≤ 12)) ∧
    (x9.asleep = false ∧ x9.laneOn 1 = true ∧
      (x9.rxst 1 = 2 ∧ 2 < (Lane.shape 1 false).fst ∧ x9.f (F.LAN_P_EQMODE_MODE 1) = 0) ∧
      ((x9.rxst 1 ≠ 5 ∨ x9.f (F.LAN_P_EQMODE_MODE 1) ≠ 2))) ∧
    (x1.asleep = false ∧ x1.laneOn 1 = true ∧
      (x1.rxst 1 = 2 ∧ 2 < (Lane.shape 1 false).fst ∧ x1.f (F.LAN_P_EQMODE_MODE 1) ≠ 0) ∧
      ((x1.rxst 1 ≠ 5 ∨ x1.f (F.LAN_P_EQMODE_MODE 1) ≠ 2))) := by
  decide +kernel

theorem test_witness_LoopsAndPatterns :
    (x14.asleep = false ∧ x14.laneOn 1 = true ∧
      ((x14.port 1).cur = [] ∧ (x14.port 1).singleAsk = none ∧
        (x14.f (F.LAN_P_CTL_LOOP 1) = (x14.port 1).loopIn) ∧
        ((x14.port 1).loopIn ≠ 0) ∧
        ((x14.port 1).loopIn ≠ 0 + 1)) ∧
      (x14.isSender = false)) ∧
    (x2.asleep = false ∧ x2.laneOn 1 = true ∧ (x2.port 1).cur ≠ []) ∧
    (x5.asleep = false ∧ x5.laneOn 1 = true ∧ (x5.port 1).cur = [] ∧ (x5.port 1).singleAsk = none ∧ x5.f (F.LAN_P_CTL_LOOP 1) = (x5.port 1).loopIn ∧ x5.isSender = true) := by
  decide +kernel

theorem test_witness_OffsetCalibration :
    (x12.asleep = false ∧ x12.lan.cal = some (kk 0 (some 1)) ∧ (kk 0 (some 1)).lost = none ∧ (kk 0 (some 1)).df = none ∧ (kk 0 (some 1)).down = some 1) ∧
    (x11.asleep = false ∧ x11.on F.LAN_CAL_STAT_BUSY = false ∧ F.LAN_CAL_PORTS.get 2 ≠ 0 ∧ (∀ (p : Nat), p < 9 → (F.LAN_CAL_PORTS.get 2).testBit p = true → x11.portUp p = true)) ∧
    (x13.asleep = false ∧
      (x13.on F.LAN_CAL_STAT_BUSY = false ∧ F.LAN_CAL_PORTS.get 2 = 2 ^ 1 ∧ x13.portUp 1 = false) ∧
      (x13.lan.cal = none)) ∧
    (x4.asleep = false ∧ x4.lan.cal = some (kk 6 none) ∧ (kk 6 none).lost = none ∧ (kk 6 none).df = none ∧ (kk 6 none).down = none ∧ (∀ (x : Nat × Nat), x ∈ State.calLanes (kk 6 none).ports → ∃ y, y ∈ sts ∧ ↑y.port = x.fst ∧ ↑y.lane = x.snd) ∧ (∀ (x : LaneStat), x ∈ sts → ∀ (code : Nat), code < 8 → (kk 6 none).ports.testBit ↑x.port = true → State.laneFails (kk 6 none) x code ((Option.map (fun x => x.snd.snd) (List.find? (fun y => y.fst == ↑x.port && y.snd.fst == ↑x.lane) (kk 6 none).trial)).getD 0) = false) ∧ 6 ≤ (kk 6 none).step ∧ x4.mramOk = true ∧ x4.nvs.jobs = []) ∧
    (x6.asleep = false ∧ x6.lan.cal = some (kk 2 none) ∧ (kk 2 none).lost = none ∧ (kk 2 none).df = none ∧ (kk 2 none).down = none ∧
      ((∀ (x : Nat × Nat), x ∈ State.calLanes (kk 2 none).ports → ∃ y, y ∈ sts ∧ ↑y.port = x.fst ∧ ↑y.lane = x.snd) ∧ (∀ (x : LaneStat), x ∈ sts → ∀ (code : Nat), code < 8 → (kk 2 none).ports.testBit ↑x.port = true → State.laneFails (kk 2 none) x code ((Option.map (fun x => x.snd.snd) (List.find? (fun y => y.fst == ↑x.port && y.snd.fst == ↑x.lane) (kk 2 none).trial)).getD 0) = false) ∧ (kk 2 none).step < 6) ∧
      ((kk 2 none).ports ≠ 0 ∧ (kk 2 none).ports < 2 ^ 9)) := by
  decide +kernel

end Lanes

namespace Offsets

def sr (fs : List (Fld × Nat)) : State := atSec 5 (dev 1 (runs ++ [(F.SYS_UNITEN_CHAIN, 15)] ++ fs))
def tr (fs : List (Fld × Nat)) : State := atSec 5 (dev 2 (runs ++ [(F.SYS_UNITEN_CHAIN, 3)] ++ fs))
def b0 : BitVec 4096 := 0
def b1 : BitVec 4096 := 0x400D
def pr (s : State) (p : Nat) (g : LanPort → LanPort) : State := s.lanP p g
def s1 := pr (tr [(F.LAN_P_STAT_RXST 1, 5)]) 1 fun l => { l with bad := #v[0, 0, 3, 0] }
def s2 := pr (tr [(F.LAN_P_STAT_RXST 1, 3)]) 1 fun l => { l with good := #v[3, 0, 0, 0], single := true }
def s3 := pr (tr [(F.LAN_CLK_LOCK, 1)]) 1 fun l => { l with cur := List.replicate 2048 5, idle := false }
def s4 := pr { tr [(F.LAN_CLK_LOCK, 1)] with lan := { (tr []).lan with subs := [(1, List.replicate 2048 7)] } } 1 fun l => { l with idle := false }
def s5 := pr (tr []) 1 fun l => { l with loopIn := 3 }
def s6 := pr (sr []) 1 fun l => { l with cur := List.replicate 2048 5, idle := false }
def bb : List Byte := List.replicate 2048 7
def eqs := tr [(F.LAN_P_STAT_RXST 1, 5), (F.LAN_P_EQMODE_MODE 1, 2), (F.LAN_P_L_EQ 1 2, 5)]
def x1 : State := tr [(F.LAN_P_STAT_RXST 0, 5)]
def x2 : State := tr []

theorem test_witness_LaneAlignment :
    (s1.asleep = false ∧ s1.laneOn 1 = true ∧ s1.rxst 1 = 5 ∧ 2 < (Lane.shape 1 (s1.port 1).single).fst ∧ tabAt (s1.port 1).bad 2 0 = 3 ∧ Lane.syncOk (Lane.ctlOf b0) = false) ∧
    (s2.asleep = false ∧ s2.laneOn 1 = true ∧ s2.rxst 1 = 3 ∧ (s2.port 1).single = true ∧ tabAt (s2.port 1).good 0 0 = 3 ∧ Lane.syncOk (Lane.ctlOf b1) = true ∧ Lane.laneOf (Lane.ctlOf b1) = 0 ∧ s2.polls = false) ∧
    (x2.asleep = false ∧ x2.rxst 1 < 3) := by
  decide +kernel

theorem test_witness_LaneTransmission :
    (s4.asleep = false ∧ s4.laneOn 1 = true ∧ s4.isSender = false ∧ (s4.port 1).idle = false ∧ (s4.port 1).loopIn = 0 ∧ (s4.port 1).cur = [] ∧ s4.repeating 1 = false ∧ s4.lan.subs = [(1, bb)] ∧ numAt bb 0 1 ≠ 48) ∧
    (x1.asleep = false ∧ x1.laneOn 1 = true ∧
      ((x1.port 1).idle = true ∧ (x1.port 1).loopIn = 0) ∧
      (x1.isSender = false ∧ x1.repeating 1 = true)) ∧
    (s3.asleep = false ∧ s3.laneOn 1 = true ∧ (s3.port 1).idle = false ∧ (s3.port 1).loopIn = 0 ∧ 2 < (Lane.shape 1 (s3.port 1).single).fst ∧ (s3.port 1).cur ≠ [] ∧ (s3.port 1).sent = []) ∧
    (s5.asleep = false ∧ s5.laneOn 1 = true ∧ (s5.port 1).loopIn = 3) := by
  decide +kernel

end Offsets

namespace Chain

def sr (fs : List (Fld × Nat)) : State := upAll <| atSec 5 (dev 1 (runs ++ [(F.SYS_UNITEN_CHAIN, 15), (F.CMC_STATUS_MASTER, 1)] ++ fs))
def tr (fs : List (Fld × Nat)) : State := atSec 5 (dev 2 (runs ++ [(F.SYS_UNITEN_CHAIN, 3)] ++ fs))
def po (fs : List (Fld × Nat)) (p : PortPoll) (t : TileSt) : State := ((sr fs).setPoll 1 fun _ => p).setTile 1 4 fun _ => t
def m1 := po [(F.CMC_POLL_MISS, 3), (F.CMC_T_MISSES 1 4, 2), (F.CMC_T_TSTATE 1 4, 2)] { out := [(9, 4, 1)] } {}
def m2 := po [(F.CMC_POLL_MISS, 3), (F.CMC_T_MISSES 1 4, 1), (F.CMC_T_TSTATE 1 4, 2)] { out := [(9, 4, 1)] } {}
def m3 := po [(F.CMC_POLL_MISS, 3)] { out := [(9, 4, 1)] } { quietTo := 10 ^ 18 }
def u1 : Unacked := { typ := 7, tag := 9, block := [1, 2] }
def q1 := po [(F.CMC_T_TSTATE 1 4, 2)] {} {}
def q2 := po [(F.CMC_T_TSTATE 1 4, 2)] {} { unacked := [{ u1 with resends := 4 }] }
def q3 := po [(F.CMC_T_TSTATE 1 4, 2)] {} { unacked := [u1] }
def q4 := po [(F.CMC_T_TSTATE 1 4, 2)] {} { unacked := [{ u1 with resends := 3 }] }
def e1 := sr [(F.CMC_P_STAT_ESTATE 1, 1)]
def e2 := sr []
def a1 := po [(F.CMC_T_TSTATE 1 4, 1)] {} { passed := true }
def a2 := po [(F.CMC_T_TSTATE 1 4, 2)] {} { passed := true, unacked := [u1] }
def a3 := tr []
def c0 : Commit := { noCommit with gen := 0x04030201, n := 301, slot := 1 }
def bb : List Byte := [0, 0, 0, 0, 0, 0, 0, 0, 1, 2, 3, 4]
def cm2 := { sr [] with cmt := { (sr []).cmt with pend := [c0], copies := [(some 1, bb), (none, bb)] } }
def cm := { sr [] with cmt := { (sr []).cmt with pend := [c0], copies := [(none, bb), (some 3, bb)] } }
def pm := sr [(F.SYS_UNITEN_OPT, 2), (F.PAR_STATUS_PSTATE, 1), (F.PAR_STATUS_HB, 1), (F.PAR_STATUS_PPSTATE, 3)]
def x1 : State := sr []

theorem test_witness_PollTimeouts :
    (m1.asleep = false ∧ m1.polls = true ∧ m1.present Blk.PAR = false ∧ (m1.poll 1).out = [(9, 3 + 1, 1)] ∧ (m1.poll 1).queue = [] ∧ (m1.tile 1 (3 + 1)).quietTo ≤ m1.clk.now ∧ m1.f F.CMC_POLL_MISS ≤ min (m1.f (F.CMC_T_MISSES 1 (3 + 1)) + 1) 255 ∧ m1.tileState 1 (3 + 1) ≠ 4) ∧
    (m3.asleep = false ∧ m3.polls = true ∧ m3.present Blk.PAR = false ∧ (m3.poll 1).out = [(9, 3 + 1, 1)] ∧ (m3.poll 1).queue = [] ∧ m3.clk.now < (m3.tile 1 (3 + 1)).quietTo) ∧
    (m2.asleep = false ∧ m2.polls = true ∧ m2.present Blk.PAR = false ∧ (m2.poll 1).out = [(9, 3 + 1, 1)] ∧ (m2.poll 1).queue = [] ∧ (m2.tile 1 (3 + 1)).quietTo ≤ m2.clk.now ∧ min (m2.f (F.CMC_T_MISSES 1 (3 + 1)) + 1) 255 < m2.f F.CMC_POLL_MISS) := by
  decide +kernel

theorem test_witness_SequencedResends :
    (q2.asleep = false ∧ q2.polls = true ∧ q2.present Blk.PAR = false ∧ (((q2.tile 1 (3 + 1)).unacked.any fun u => decide (4 ≤ u.resends)) = true) ∧ q2.tileState 1 (3 + 1) ≠ 4) ∧
    (q3.asleep = false ∧ q3.polls = true ∧ q3.present Blk.PAR = false ∧ (q3.tile 1 (3 + 1)).unacked = [u1] ∧ u1.resends < 4 ∧ (q3.tile 1 (3 + 1)).farSide = false ∧ (q3.port 1).idle = false ∧ (q3.port 1).loopIn = 0) ∧
    (q1.asleep = false ∧ q1.polls = true ∧ q1.present Blk.PAR = false ∧ (q1.tile 1 (3 + 1)).unacked = []) := by
  decide +kernel

theorem test_witness_Enumerations :
    (e1.asleep = false ∧ e1.isSender = true ∧
      (e1.f (F.CMC_P_STAT_ESTATE 1) = 1) ∧
      (e1.polls = true ∧
        (F.CMC_ENUM_PORTS.get 2 = 2 ^ 1 ∧ e1.portOn 1 = true ∧ (e1.poll 1).noEnum = false ∧ (e1.port 1).idle = false ∧ (e1.port 1).loopIn = 0) ∧
        (F.RPS_CHRST_PORTS.get 2 = 2 ^ 1 ∧ e1.portOn 1 = true ∧ e1.present Blk.PAR = false ∧ (e1.port 1).idle = false ∧ (e1.port 1).loopIn = 0))) ∧
    (e2.asleep = false ∧ e2.isSender = true ∧ e2.f (F.CMC_P_STAT_ESTATE 1) ≠ 1) := by
  decide +kernel

theorem test_witness_Admission :
    (a1.asleep = false ∧ a1.present Blk.PAR = false ∧ a1.polls = true ∧
      (a1.tileState 1 (3 + 1) ≠ 0) ∧
      (a1.framed = true ∧ a1.tileState 1 (3 + 1) = 1 ∧ (a1.tile 1 (3 + 1)).passed = true ∧ (a1.tile 1 (3 + 1)).admitAt = none)) ∧
    (a3.asleep = false ∧ a3.present Blk.PAR = false ∧ a3.polls = false) := by
  decide +kernel

theorem test_witness_CatchUpAndSecondCopies :
    (cm2.asleep = false ∧ cm2.role ≠ 0 ∧
      (cm2.polls = true ∧ cm2.framed = true ∧ cm2.portOn 1 = true ∧ (cm2.tile 1 (3 + 1)).farSide = false ∧ (cm2.port 1).idle = false ∧ (cm2.port 1).loopIn = 0) ∧
      (cm2.cmt.copies = [(some 1, bb), (none, bb)] ∧ (cm2.tile 1 (numAt bb 4 1)).farSide = false ∧ (cm2.port 1).idle = false ∧ (cm2.port 1).loopIn = 0)) ∧
    (cm.asleep = false ∧ cm.role ≠ 0 ∧ cm.cmt.copies = [(none, bb), (some 3, bb)]) ∧
    (a3.asleep = false ∧ a3.role ≠ 0 ∧ a3.polls = false) ∧
    (x1.asleep = false ∧ x1.role ≠ 0 ∧ x1.cmt.copies = []) := by
  decide +kernel

theorem test_witness_PollHandover :
    pm.asleep = false ∧ pm.isPrimary = true ∧ pm.heard = true ∧ pm.f F.PAR_STATUS_PPSTATE = 3 := by
  decide +kernel

end Chain

namespace Time

def sr (fs : List (Fld × Nat)) : State := upAll <| atSec 5 (dev 1 (runs ++ [(F.SYS_UNITEN_CHAIN, 15), (F.CMC_STATUS_MASTER, 1)] ++ fs))
def tr (fs : List (Fld × Nat)) : State := atSec 5 (dev 2 (runs ++ [(F.SYS_UNITEN_CHAIN, 3), (F.CMC_ADDR_ADDR, 4)] ++ fs))
def t1 := tr [(F.TIM_DOM_STAT_DSTATE 1, 2)]
def n1 := sr [(F.SYS_UNITEN_OPT, 4), (F.TIM_SRC_SRC, 1)]
def ann : List Byte := [0x1B, 2] ++ padTo 62 (List.range 62 |>.map (BitVec.ofNat 8))
def a1 := tr [(F.TIM_SRC_SRC, 3)]
def n2 := sr [(F.SYS_UNITEN_OPT, 4), (F.TIM_SRC_SRC, 1), (F.TIM_SRC_TRANSPORT, 1), (F.TIM_SRC_DOMA, Ptp.domain ann)]
def annF : List Byte := (n2.ptpFrame ann).1
def h1 := tr [(F.TIM_DOM_STAT_DSTATE 1, 2)]
def h2 := tr [(F.TIM_STATUS_TSTATE, 4)]
def s1 := sr [(F.TIM_SET_SL_SEC, 77), (F.TIM_SET_NS_NS, 999999999)]
def s2 := sr [(F.TIM_SET_NS_NS, 1000000000)]
def s3 := sr [(F.TIM_STATUS_STEPPEND, 1)]
def fr : List Byte := List.replicate 6 0xFF ++ List.replicate 54 3
def e1 := sr [(F.SYS_UNITEN_OPT, 4), (F.TIM_ERX_CTL_EN, 1), (F.FMC_SIZE_MB, 1), (F.TIM_ERX_CTL_LOG2, 4)]
def e2 := sr [(F.SYS_UNITEN_OPT, 4), (F.TIM_ERX_CTL_EN, 1), (F.TIM_ERX_CTL_LOG2, 4), (F.TIM_ERX_HEAD_HEAD, 15), (F.TIM_ETH_STAT_LINK, 1)]
def e3 := { sr [(F.SYS_UNITEN_OPT, 4), (F.TIM_ETX_CTL_EN, 1), (F.TIM_ETX_CTL_LOG2, 4), (F.TIM_ETX_HEAD_HEAD, 1), (F.FMC_SIZE_MB, 1)] with dram := Mem.write [] 0 (60 :: padTo 80 []) }
def e4 := sr [(F.SYS_UNITEN_OPT, 4), (F.TIM_ETX_CTL_EN, 1), (F.TIM_ETX_CTL_LOG2, 4), (F.TIM_ETX_HEAD_HEAD, 1)]
def r1 := sr [(F.TIM_SREF_CTL_EN, 1), (F.TIM_SREF_STAT_PRESENT, 1)]
def r2 := { sr [(F.TIM_SREF_CTL_EN, 1)] with tim := { (sr []).tim with srefLines := 63 } }
def r3 := { sr [(F.TIM_OUT_CTL_MODE 2, 1), (F.TIM_CAP_CTL_EDGE 3, 3), (F.TIM_CAP_CTL_EVT 3, 1)] with tim := { (sr []).tim with noticeCopies := [[1], [2]] } }
def r4 := { sr [(F.TIM_OUT_CTL_MODE 2, 2), (F.TIM_OUT_PER_NS_NS 2, 5000), (F.TIM_CAP_CTL_EDGE 3, 1)] with tim := { (sr []).tim with caps := #v[[], [], [], List.replicate 16 ⟨1, 2, true⟩] } }
def r5 := { sr [(F.TIM_CAP_CTL_EDGE 3, 2)] with tim := { (sr []).tim with caps := #v[[], [], [], List.replicate 15 ⟨1, 2, true⟩] } }
def x1 : State := sr []
def x2 : State := tr []

theorem test_witness_TimeMessagesSent :
    (x1.asleep = false ∧
      (x1.isSender = true) ∧
      (x1.ethOn = false)) ∧
    (t1.asleep = false ∧ t1.isSender = false ∧ t1.addr ≠ 126 ∧ t1.f (F.TIM_DOM_STAT_DSTATE 1) ≠ 0 ∧ t1.tickU ≠ 0) ∧
    (n1.asleep = false ∧ n1.ethOn = true ∧ n1.source = 1 ∧ n1.on F.TIM_SRC_EN_B = false ∧ (tabAt n1.tim.queues 9 []).length < 64) := by
  decide +kernel

theorem test_witness_AnnouncesTaken :
    (n2.asleep = false ∧ n2.ethOn = true ∧
      (n2.ptpOf annF = some ann ∧ Ptp.mtype ann = 11 ∧ n2.domainOf 9 (Ptp.domain ann) = some 0 ∧ (n2.dom 0).gm = none ∧ n2.pair (R.TIM_DOM_GMID_LO 0) (R.TIM_DOM_GMID_HI 0) ≠ Ptp.gmIdentity ann) ∧
      (n2.ptpOf [1, 2] = none)) ∧
    (a1.asleep = false ∧
      (a1.ethOn = false) ∧
      (a1.domainOf 1 (Ptp.domain ann) = some 1 ∧ (a1.dom 1).gm = none ∧ a1.pair (R.TIM_DOM_GMID_LO 1) (R.TIM_DOM_GMID_HI 1) ≠ Ptp.gmIdentity ann)) ∧
    (x1.asleep = false ∧ x1.domainOf 1 (Ptp.domain ann) = none) := by
  decide +kernel

theorem test_witness_Holdover :
    (h1.asleep = false ∧
      (h1.f (F.TIM_DOM_STAT_DSTATE 1) ≠ 0 ∧ h1.f (F.TIM_DOM_STAT_DSTATE 1) ≠ 3 ∧ h1.active ≠ 1) ∧
      ((h1.f F.TIM_STATUS_TSTATE ≠ 4 ∨ h1.tim.holdTold = true))) ∧
    (h2.asleep = false ∧
      (h2.f F.TIM_STATUS_TSTATE = 4 ∧ h2.tim.holdTold = false) ∧
      ((h2.f (F.TIM_DOM_STAT_DSTATE 1) = 0 ∨ h2.f (F.TIM_DOM_STAT_DSTATE 1) = 3))) ∧
    (x2.asleep = false ∧
      ((x2.f F.TIM_STATUS_TSTATE ≠ 4 ∨ x2.tim.holdTold = true)) ∧
      ((x2.f (F.TIM_DOM_STAT_DSTATE 1) = 0 ∨ x2.f (F.TIM_DOM_STAT_DSTATE 1) = 3))) := by
  decide +kernel

theorem test_witness_TimeSetting :
    (s3.asleep = false ∧ s3.on F.DSP_STATUS_RUN = false ∧
      (s3.on F.TIM_STATUS_STEPPEND = true) ∧
      (s3.source = 0 ∧ s3.f F.TIM_SET_NS_NS ≤ 999999999)) ∧
    (s2.asleep = false ∧ s2.on F.DSP_STATUS_RUN = false ∧ 999999999 < s2.f F.TIM_SET_NS_NS) := by
  decide +kernel

theorem test_witness_EthernetPort :
    (e3.asleep = false ∧ e3.ethOn = true ∧
      (e3.on F.TIM_ETX_CTL_EN = true ∧ e3.f F.TIM_ETX_HEAD_HEAD % 2 ^ e3.f F.TIM_ETX_CTL_LOG2 ≠ e3.f F.TIM_ETX_TAIL_TAIL % 2 ^ e3.f F.TIM_ETX_CTL_LOG2 ∧ 0 = e3.pair R.TIM_ETX_BASE_LO R.TIM_ETX_BASE_HI + e3.f F.TIM_ETX_TAIL_TAIL % 2 ^ e3.f F.TIM_ETX_CTL_LOG2 * 2048 ∧ 60 = leVal (e3.dramRd 0 2)) ∧
      (e3.on F.TIM_ETH_STAT_LINK = false)) ∧
    (e1.asleep = false ∧ e1.ethOn = true ∧ fr.length ≤ 1518 ∧ State.ethDst fr = 2 ^ 48 - 1 ∧ e1.on F.TIM_ERX_CTL_EN = true ∧ State.ringFull (e1.f F.TIM_ERX_CTL_LOG2) (e1.f F.TIM_ERX_HEAD_HEAD) (e1.f F.TIM_ERX_TAIL_TAIL) = false ∧ 0 = e1.pair R.TIM_ERX_BASE_LO R.TIM_ERX_BASE_HI + e1.f F.TIM_ERX_HEAD_HEAD % 2 ^ e1.f F.TIM_ERX_CTL_LOG2 * 2048 ∧ 0 + 16 + fr.length ≤ e1.dramSize) ∧
    (e2.asleep = false ∧ e2.ethOn = true ∧
      (fr.length ≤ 1518 ∧ State.ethDst fr = 2 ^ 48 - 1 ∧ e2.on F.TIM_ERX_CTL_EN = true ∧ State.ringFull (e2.f F.TIM_ERX_CTL_LOG2) (e2.f F.TIM_ERX_HEAD_HEAD) (e2.f F.TIM_ERX_TAIL_TAIL) = true) ∧
      (e2.on F.TIM_ETH_STAT_LINK = true)) ∧
    (e4.asleep = false ∧ e4.ethOn = true ∧ e4.on F.TIM_ETX_CTL_EN = true ∧ e4.f F.TIM_ETX_HEAD_HEAD % 2 ^ e4.f F.TIM_ETX_CTL_LOG2 ≠ e4.f F.TIM_ETX_TAIL_TAIL % 2 ^ e4.f F.TIM_ETX_CTL_LOG2 ∧ 0 = e4.pair R.TIM_ETX_BASE_LO R.TIM_ETX_BASE_HI + e4.f F.TIM_ETX_TAIL_TAIL % 2 ^ e4.f F.TIM_ETX_CTL_LOG2 * 2048 ∧ 0 = leVal (e4.dramRd 0 2) ∧ (0 < 60 ∨ 1514 < 0)) := by
  decide +kernel

theorem test_witness_SyncReferenceAndTimedPins :
    (r1.asleep = false ∧
      (r1.isSender = true ∧ r1.on F.TIM_SREF_CTL_EN = true ∧ r1.on F.TIM_SREF_STAT_PRESENT = true ∧ r1.source ≠ 2) ∧
      (r1.on (F.DSP_TRIG_CTL_EN 2) = false ∧ r1.f (F.TIM_OUT_CTL_MODE 2) = 0)) ∧
    (r3.asleep = false ∧
      (r3.tim.noticeCopies = [[1], [2]]) ∧
      (((r3.f (F.TIM_CAP_CTL_EDGE 3)).testBit (if true = true then 0 else 1) = true) ∧ (tabAt r3.tim.caps 3 []).length < 16 ∧ r3.on (F.TIM_CAP_CTL_EVT 3) = true) ∧
      (r3.on (F.DSP_TRIG_CTL_EN 2) = false ∧ (r3.f (F.TIM_OUT_CTL_MODE 2) = 2 ∧ r3.outPeriod 2 ≠ 0 ∨ r3.f (F.TIM_OUT_CTL_MODE 2) = 1 ∧ (r3.tim.fired.getD 2 false = false ∨ r3.on (F.TIM_OUT_STAT_LEVEL 2) ≠ r3.on (F.TIM_OUT_CTL_POL 2))))) ∧
    (r4.asleep = false ∧
      (((r4.f (F.TIM_CAP_CTL_EDGE 3)).testBit (if true = true then 0 else 1) = true) ∧ 16 ≤ (tabAt r4.tim.caps 3 []).length) ∧
      (r4.on (F.DSP_TRIG_CTL_EN 2) = false ∧ (r4.f (F.TIM_OUT_CTL_MODE 2) = 2 ∧ r4.outPeriod 2 ≠ 0 ∨ r4.f (F.TIM_OUT_CTL_MODE 2) = 1 ∧ (r4.tim.fired.getD 2 false = false ∨ r4.on (F.TIM_OUT_STAT_LEVEL 2) ≠ r4.on (F.TIM_OUT_CTL_POL 2))))) ∧
    (r2.asleep = false ∧ r2.isSender = true ∧ r2.on F.TIM_SREF_CTL_EN = true ∧ r2.tim.srefLines = 63 ∧ r2.source ≠ 2) := by
  decide +kernel

end Time

namespace Commits

def staged (s : State) : State := { s with stage := s.regs }
def sr (fs : List (Fld × Nat)) : State := staged (atSec 5 (dev 1 (runs ++ [(F.SYS_UNITEN_CHAIN, 15), (F.CMC_STATUS_MASTER, 1)] ++ fs)))
def corDesc : List Byte := leBytes 2 0x18 ++ leBytes 2 0 ++ leBytes 4 0x20 ++ leBytes 2 8 ++ leBytes 2 8 ++ [4] ++ padTo 19 []
def tr (fs : List (Fld × Nat)) : State := withImg 5 corDesc (staged (atSec 5 (dev 2 (runs ++ [(F.SYS_UNITEN_CHAIN, 3), (F.CMC_ADDR_ADDR, 4),
  (F.COR_STATUS_TABLES_OK, 1), (F.DRV_SCAN_TDIV, 1), (F.DRV_SCAN_NM1, 15), (F.DRV_SCAN_PM1, 3), (F.TIM_SRC_SRC, 3), (F.FAB_STAGE_CODE 0, 0x1111)] ++ fs))))
def cc (s : State) : Commit := { gen := 1, n := 301, slot := 0, due := s.clk.wall + 10 ^ 9 * 2 ^ 31, tag := 0, cache := {}, heavy := false, catchup := false, sent := false, snap := s.stage }
def k (s : State) (cs : List Commit) : State := { s with cmt := { s.cmt with checking := cs } }
def s0 := sr []
def s1 := sr [(F.CMT_TGT_NS_NS, 1000000000)]
def s2 := k (sr []) [cc (sr [])]
def c0 := cc (sr [])
def d1 := k (sr [(F.CMT_STATUS_RESULT, 1)]) [c0, c0]
def drop (s : State) : State := (s.setCmt fun c => { c with checking := [c0] }).setF F.SND_STATUS_CAPTURE 0
def d2 := drop d1
def t0 := cc (tr [])
def t1 := k (tr []) [t0]
def t2 := (t1.setCmt fun c => { c with checking := [] })
def t0' := { t0 with slot := 4 }
def t1' := k (tr []) [t0']
def p1 := sr [(F.CMT_PEEK_ADDR_BUSY, 1), (F.CMT_PEEK_ADDR_ADDR, 0x60)]
def p2 := sr [(F.CMT_PEEK_ADDR_BUSY, 1), (F.CMT_PEEK_ADDR_ADDR, 0x62)]
def u1 := sr []
def u2 := sr [(F.CMT_DUMP_STAT_STATE, 1), (F.CMT_DUMP_CTL_SEL, 2), (F.CMT_DUMP_LEN_LEN, 64), (F.FMC_SIZE_MB, 1)]
def u4 := sr [(F.CMT_DUMP_STAT_STATE, 1), (F.CMT_DUMP_CTL_SEL, 0), (F.CMT_DUMP_LEN_LEN, 64), (F.FMC_SIZE_MB, 1)]
def u3 := { u2 with cmt := { u2.cmt with dumpAbort := true } }

theorem test_witness_CommitRequests :
    (s0.asleep = false ∧ s0.isSender = true ∧ s0.present Blk.PAR = false ∧ s0.f F.CMT_TGT_NS_NS ≤ 999999999 ∧ s0.framed = true ∧ s0.coreUp 0 = true ∧ s0.cmt.checking = [] ∧ s0.cmt.pend = [] ∧ BitVec.getLsbD (4608 : Word) 0 = false) ∧
    (s2.asleep = false ∧ s2.isSender = true ∧ s2.present Blk.PAR = false ∧ s2.f F.CMT_TGT_NS_NS ≤ 999999999 ∧ s2.framed = true ∧ s2.coreUp 0 = true ∧ s2.cmt.checking ≠ []) ∧
    (s1.asleep = false ∧ s1.isSender = true ∧ s1.present Blk.PAR = false ∧ 999999999 < s1.f F.CMT_TGT_NS_NS) := by
  decide +kernel

theorem test_witness_CommitChecks :
    d1.asleep = false ∧ d1.isSender = true ∧ d1.present Blk.PAR = false ∧ d1.cmt.checking = [c0, c0] ∧ d1.f F.CMT_STATUS_RESULT = 1 ∧ (d2 = (d1.setCmt fun c => { c with checking := [c0] }).setF F.SND_STATUS_CAPTURE 0) ∧
      (d2.checkRules c0 none false = none) ∧
      (d2.checkRules c0 none true = some (75, 0, 0)) := by
  exact ⟨by decide +kernel, by decide +kernel, by decide +kernel, by decide +kernel, by decide +kernel, rfl, by decide +kernel⟩

theorem test_witness_TileCommitChecks :
    (t1'.asleep = false ∧ t1'.isTile = true ∧ t1'.cmt.checking = [t0'] ∧ (t2 = t1'.setCmt fun c => { c with checking := [] }) ∧ t2.checkRules t0' (some t0'.heavy) false = some (1, 0, 0)) ∧
    (t1.asleep = false ∧ t1.isTile = true ∧ t1.cmt.checking = [t0] ∧ (t2 = t1.setCmt fun c => { c with checking := [] })) := by
  exact ⟨⟨by decide +kernel, by decide +kernel, by decide +kernel, rfl, by decide +kernel⟩, ⟨by decide +kernel, by decide +kernel, by decide +kernel, rfl⟩⟩

theorem test_witness_Peeks :
    (p1.asleep = false ∧ p1.role ≠ 0 ∧ p1.on F.CMT_PEEK_ADDR_BUSY = true ∧ p1.f F.CMT_PEEK_ADDR_ADDR % 4 = 0 ∧ p1.reaches (State.view (p1.f F.CMT_PEEK_ADDR_ADDR)).snd = true) ∧
    (p2.asleep = false ∧ p2.role ≠ 0 ∧ p2.on F.CMT_PEEK_ADDR_BUSY = true ∧ p2.f F.CMT_PEEK_ADDR_ADDR % 4 ≠ 0) := by
  decide +kernel

theorem test_witness_Dumps :
    (u2.asleep = false ∧ u2.role ≠ 0 ∧ u2.f F.CMT_DUMP_STAT_STATE = 1 ∧ u2.on F.THM_STATUS_STAGE = false) ∧
    (u4.asleep = false ∧ u4.role ≠ 0 ∧ u4.f F.CMT_DUMP_STAT_STATE = 1 ∧ u4.on F.THM_STATUS_STAGE = false ∧ u4.cmt.dumpAbort = false ∧ u4.on F.CMT_DUMP_CTL_TARGET = false ∧ 64 + (State.dumpBody u4.dumpSections).fst.length ≤ u4.f F.CMT_DUMP_LEN_LEN) := by
  decide +kernel

end Commits

namespace Memory

def tr (fs : List (Fld × Nat)) : State := atSec 5 (dev 2 (runs ++ [(F.SYS_UNITEN_CHAIN, 3), (F.SYS_UNITEN_DRAM, 15), (F.FMC_CFG_MASK, 15), (F.FMC_CH_STAT_STATE 0, 2), (F.FMC_CH_STAT_STATE 1, 2),
  (F.FMC_CH_STAT_STATE 2, 2), (F.FMC_CH_STAT_STATE 3, 2), (F.FMC_SIZE_MB, 1)] ++ fs))
def bk (g : BankSt → BankSt) (s : State) : State := { s with fmc := { s.fmc with banks := tabMod s.fmc.banks (State.bankIdx 1 1 15) g } }
def r1 := tr []
def r2 := bk (fun b => { b with debt := 8 }) (tr [])
def r2' := bk (fun b => { b with debt := 7 }) (tr [])
def r3 := bk (fun b => { b with isOpen := true, row := 5 }) (tr [(F.FMC_SCHED_IDLE, 9)])
def dd : BitVec 512 := BitVec.ofNat 512 0x0102030405060708090A
def dw : DramReq := ⟨0xFFFC1, some dd, none⟩
def drr : DramReq := ⟨0xFFFC1, none, some 1⟩
def dow : DramReq := ⟨0x100000, some dd, none⟩
def dor : DramReq := ⟨0x100000, none, none⟩
def chn : Fin 4 := Fin.ofNat 4 ((tr []).placeOf 0xFFFC0).ch
def w1 : DramWait := ⟨dw, 5000⟩
def w2 : DramWait := ⟨⟨0x40, none, none⟩, 10⟩
def r4 := (tr [(F.FMC_SCHED_AGEMAX, 4000)]).setSched chn.val fun x => { x with queue := [w1, w2] }
def s1 := tr [(F.FMC_CTL_SCRUB_EN, 1), (F.FMC_SCRUB_POS_POS, 16383)]
def s2 := tr [(F.FMC_CTL_SCRUB_EN, 1), (F.FMC_SCRUB_POS_POS, 16382)]
def s3 := tr [(F.FMC_CTL_SCRUB_EN, 0)]

theorem test_witness_RefreshAndRows :
    (r3.asleep = false ∧ r3.role ≠ 0 ∧
      (r3.f (F.FMC_CH_STAT_STATE 1) = 2 ∧
        ((r3.bank (State.bankIdx 1 1 15)).debt - 0 < 8) ∧
        (r3.f (State.rrField 1) ≠ 5)) ∧
      (((if 1 = 0 then r3.isSender else r3.isTile) = true)) ∧
      (r3.f F.FMC_SCHED_IDLE ≠ 0 ∧ (r3.sched 1).queue = [] ∧ (r3.bank (State.bankIdx 1 1 15)).isOpen = true)) ∧
    (r2.asleep = false ∧ r2.role ≠ 0 ∧ r2.f (F.FMC_CH_STAT_STATE 1) = 2 ∧ 8 ≤ (r2.bank (State.bankIdx 1 1 15)).debt - 0) := by
  decide +kernel

theorem test_witness_FrameMemoryAccesses :
    (r1.asleep = false ∧ r1.role ≠ 0 ∧
      (r1.dramIn (1048513 / 64 * 64) 64 = true ∧ (r1.placeOf (1048513 / 64 * 64)).ch = 0 ∧ r1.f (F.FMC_CH_STAT_STATE 0) = 2 ∧ (r1.sched 0).queue = [] ∧ (r1.sched 0).outside = [] ∧
        (drr.data = none ∧
          ((Ecc.ok = Ecc.ok ∨ Ecc.ok = Ecc.corrected)) ∧
          (Ecc.die.bad = true) ∧
          ((Ecc.corrected = Ecc.ok ∨ Ecc.corrected = Ecc.corrected))) ∧
        (dw.data = some dd ∧ (1048511 < 1048513 / 64 * 64 ∨ 1048513 / 64 * 64 + 64 ≤ 1048511))) ∧
      (r1.dramIn (1048576 / 64 * 64) 64 = false ∧ (r1.sched 0).queue = [] ∧ dow.data.isSome = true)) ∧
    (r4.asleep = false ∧ r4.role ≠ 0 ∧ r4.f (F.FMC_CH_STAT_STATE 0) = 2 ∧ (r4.sched 0).queue = [w1, w2] ∧ (r4.sched 0).outside = [] ∧ (∀ (v : DramWait), v ∈ [w1, w2] → v.req.client = none) ∧ r4.f F.FMC_SCHED_AGEMAX < w1.waited) := by
  decide +kernel

theorem test_witness_Scrubbing :
    (s3.asleep = false ∧ s3.role ≠ 0 ∧ s3.scrubRuns = false) ∧
    (s1.asleep = false ∧ s1.role ≠ 0 ∧ s1.scrubRuns = true ∧ s1.dramSize / 64 ≤ s1.f F.FMC_SCRUB_POS_POS + 1 ∧ 0 < s1.dramSize ∧
      ((Ecc.ok = Ecc.ok ∨ Ecc.ok = Ecc.corrected)) ∧
      ((Ecc.corrected = Ecc.ok ∨ Ecc.corrected = Ecc.corrected))) ∧
    (s2.asleep = false ∧ s2.role ≠ 0 ∧ s2.scrubRuns = true ∧ s2.f F.FMC_SCRUB_POS_POS + 1 < s2.dramSize / 64 ∧
      ((Ecc.ok = Ecc.ok ∨ Ecc.ok = Ecc.corrected)) ∧
      ((Ecc.corrected = Ecc.ok ∨ Ecc.corrected = Ecc.corrected))) ∧
    (r1.asleep = false ∧ r1.role ≠ 0 ∧ r1.scrubRuns = true ∧ r1.f F.FMC_SCRUB_POS_POS + 1 < r1.dramSize / 64 ∧
      ((Ecc.ok = Ecc.ok ∨ Ecc.ok = Ecc.corrected)) ∧
      ((Ecc.corrected = Ecc.ok ∨ Ecc.corrected = Ecc.corrected))) := by
  decide +kernel

end Memory

namespace HostPort

def h (fs : List (Fld × Nat)) : State := atSec 5 (dev 1 (runs ++ [(F.SYS_UNITEN_CHAIN, 15), (F.SYS_UNITEN_OPT, 1), (F.FMC_SIZE_MB, 4), (F.CMC_STATUS_MASTER, 1)] ++ fs))
def pc (g : Pcie → Pcie) (s : State) : State := { s with hst := { s.hst with pcie := g s.hst.pcie } }
def rg (n : Nat) (r : RingSt) (s : State) : State := { s with hst := { s.hst with rings := tabMod s.hst.rings n fun _ => r } }
def l1 := h []
def l2 := rg 3 { busy := true } (h [(F.HST_LOAD_LOAD, 4000), (F.HST_SRC_STAT_STATE 3, 1), (F.HST_LINK_UP, 1)])
def b1 := pc (fun p => { p with bar2On := true }) (h [(F.HST_W2_SIZE_SIZE, 0), (F.HST_W2_BASE_LO_BASE, 0x1000)])
def b2 := pc (fun p => { p with ready := true }) (h [])
def bs : List Byte := [1, 2, 3, 4, 5, 6, 7]
def m1 := pc (fun p => { p with hold := 4, pba := 4, msixOn := true, table := tabMod p.table 2 fun _ => (0x1000, 77, false) }) (h [])
def m3 := pc (fun p => { p with hold := 4, pba := 4 }) (h [])
def m2 := pc (fun p => { p with hold := 4 }) (h [])
def r1 := h [(F.HST_SRC_STAT_STATE 3, 2)]
def r2 := rg 3 { busy := true } (h [(F.HST_SRC_CTL_RUN 3, 1), (F.HST_SRC_STAT_STATE 3, 1)])
def r3 := h [(F.HST_PGR_CTL_RUN, 1), (F.HST_PGR_CTL_STATE, 1)]
def f3 := pc (fun p => { p with bme := true }) (h [(F.HST_SRC_CTL_RUN 3, 1), (F.HST_SRC_STAT_STATE 3, 1), (F.HST_LINK_UP, 1), (F.HST_SRC_CTL_LOG2 3, 4), (F.HST_SRC_HEAD_HEAD 3, 1), (F.SND_SRC_SIZE_HM1 3, 1), (F.SND_SRC_STRIDE_STRIDE 3, 64), (F.HST_SRC_CTL_NLBUF 3, 2), (F.HST_SRC_LSTEP_STEP 3, 128), (F.HST_SRC_STAT_NEXT 3, 1),
  (F.HST_PGR_CTL_RUN, 1), (F.HST_PGR_CTL_STATE, 1), (F.HST_PGR_CTL_LOG2, 4), (F.HST_PGR_HEAD_HEAD, 3)])
def d1 : List Byte := padTo 32 [0, 16]
def d2 : List Byte := padTo 32 [2]
def d3 : List Byte := padTo 32 [1, 1, 1]
def fb : List Byte := List.replicate 128 9
def c1 := rg 3 { busy := true, desc := padTo 32 [0, 16, 0, 0, 0, 0, 0, 0, 0, 0, 0, 0, 1], buf := 1 } f3
def c2 := rg 3 { busy := true, stopping := true, desc := d1, buf := 1 } f3
def c3 := h [(F.HST_SRC_CTL_MODE 3, 1), (F.HST_SRC_STAT_NEXT 3, 1), (F.HST_SRC_CTL_NLBUF 3, 2)]
def pd1 : List Byte := [1, 1, 0, 0, 64, 0, 0, 0] ++ leBytes 8 0 ++ leBytes 8 0x1000 ++ leBytes 8 0
def pd2 : List Byte := [2, 1, 0, 0, 0, 0, 0, 0] ++ leBytes 8 5 ++ leBytes 8 0x200000 ++ [3] ++ padTo 7 []
def g1 := rg 8 { busy := true, desc := pd1 } f3
def g2 := rg 8 { busy := true, desc := pd2 } f3
def pg : List Byte := List.replicate 64 8
def q1 := h [(F.REL_P_STAT_STATE 5, 1), (F.REL_P_FRAMES_FRAMES 5, 9), (F.REL_SEEK_FRAME, 8), (F.REL_ACT_SL_SEC, 7)]
def q2 := h [(F.REL_P_STAT_STATE 5, 1), (F.REL_P_FRAMES_FRAMES 5, 9), (F.REL_SEEK_FRAME, 9), (F.REL_ACT_NS_NS, 1000000000)]
def v (m : Nat) (fs : List (Fld × Nat)) : State := { h ([(F.REL_P_STAT_STATE 5, 1), (F.REL_P_FRAMES_FRAMES 5, 9), (F.REL_P_CTL_PREFETCH 5, 2), (F.REL_P_CTL_SRC 5, 3), (F.SND_SRC_SIZE_HM1 3, 1),
  (F.SND_SRC_STRIDE_STRIDE 3, 64), (F.REL_P_FSTRIDE_FSTRIDE 5, 128), (F.REL_P_START_LO_START 5, 0x200040)] ++ fs) with dram := Mem.write [] (16 * m) (leBytes 8 0x200000 ++ [3] ++ padTo 7 []) }
def v1 := v 1 []
def v2 := v 2 []
def v3 := { v1 with dram := Mem.write [] 16 (leBytes 8 0x200000 ++ [1] ++ padTo 7 []) }

theorem test_witness_HostLink :
    l2.asleep = false ∧ l2.present Blk.HST = true ∧ State.linkCapy 0 0 < l2.f F.HST_LOAD_LOAD := by
  decide +kernel

theorem test_witness_HostRequests :
    (b2.asleep = false ∧ b2.present Blk.HST = true ∧ 33 = b2.f F.HST_W2_BASE_LO_BASE + 2 ^ 32 * b2.f F.HST_W2_BASE_HI_BASE + 33 ∧
      (b2.hst.pcie.ready = true ∧ b2.hst.pcie.pba = 0) ∧
      (b2.hst.pcie.bar2On = false)) ∧
    (b1.asleep = false ∧ b1.present Blk.HST = true ∧ 4129 = b1.f F.HST_W2_BASE_LO_BASE + 2 ^ 32 * b1.f F.HST_W2_BASE_HI_BASE + 33 ∧
      (b1.hst.pcie.bar2On = true ∧
        (33 + bs.length ≤ 2 ^ (30 + b1.f F.HST_W2_SIZE_SIZE) ∧ 4129 + bs.length ≤ b1.dramSize) ∧
        (33 + 4096 ≤ 2 ^ (30 + b1.f F.HST_W2_SIZE_SIZE) ∧ 4129 + 4096 ≤ b1.dramSize)) ∧
      (b1.hst.pcie.ready = false)) := by
  decide +kernel

theorem test_witness_MsixVectors :
    (m1.asleep = false ∧ m1.present Blk.HST = true ∧
      (1016 % 16 = 8 ∧ 2 ≠ 1016 / 16) ∧
      (m1.hst.pcie.hold.getLsbD 2 = true ∧ m1.hst.pcie.pba.getLsbD 2 = true ∧ m1.hst.pcie.msixOn = true ∧ m1.hst.pcie.funMask = false ∧ tabAt m1.hst.pcie.table 2 (0, 0, true) = (4096, 77, false))) ∧
    (m3.asleep = false ∧ m3.present Blk.HST = true ∧ m3.hst.pcie.hold.getLsbD 2 = true ∧ m3.hst.pcie.pba.getLsbD 2 = true ∧ (m3.hst.pcie.msixOn = false ∨ m3.hst.pcie.funMask = true ∨ (tabAt m3.hst.pcie.table 2 (0, 0, true)).snd.snd = true)) ∧
    (m2.asleep = false ∧ m2.present Blk.HST = true ∧ m2.hst.pcie.hold.getLsbD 2 = true ∧ m2.hst.pcie.pba.getLsbD 2 = false) ∧
    (l1.asleep = false ∧ l1.present Blk.HST = true ∧ l1.hst.pcie.hold.getLsbD 2 = false) := by
  decide +kernel

theorem test_witness_RingsStartAndStop :
    (r2.asleep = false ∧ r2.present Blk.HST = true ∧ r2.on (State.ringRunF 3) = true ∧ r2.f (State.ringState 3) = 1 ∧ (r2.ring 3).busy = true) ∧
    (r1.asleep = false ∧ r1.present Blk.HST = true ∧ r1.on (State.ringRunF 3) = false ∧ r1.f (State.ringState 3) ≠ 3) := by
  decide +kernel

theorem test_witness_DescriptorsFetched :
    (f3.asleep = false ∧
      (d1.length = 32 ∧ f3.ringReady 3 = true ∧
        (State.srcDescOk d1 = true) ∧
        ((Instr.ringHalt 3 3 true = Instr.descriptorFetch 3 d1 ∧ 3 = 4 ∧ (if 3 < 8 then State.srcDescOk d1 else State.pageDescOk d1) = false ∨ Instr.ringHalt 3 3 true = Instr.ringHalt 3 3 true ∧ 3 = 3))) ∧
      (d2.length = 32 ∧ f3.ringReady 8 = true ∧
        (State.pageDescOk d2 = true ∧ numAt d2 0 1 = 2) ∧
        ((Instr.ringHalt 8 3 true = Instr.descriptorFetch 8 d2 ∧ 3 = 4 ∧ (if 8 < 8 then State.srcDescOk d2 else State.pageDescOk d2) = false ∨ Instr.ringHalt 8 3 true = Instr.ringHalt 8 3 true ∧ 3 = 3))) ∧
      (d3.length = 32 ∧
        (f3.ringReady 3 = true ∧
          ((Instr.descriptorFetch 3 d3 = Instr.descriptorFetch 3 d3 ∧ 4 = 4 ∧ (if 3 < 8 then State.srcDescOk d3 else State.pageDescOk d3) = false ∨ Instr.descriptorFetch 3 d3 = Instr.ringHalt 3 3 true ∧ 4 = 3)) ∧
          ((Instr.ringHalt 3 3 true = Instr.descriptorFetch 3 d3 ∧ 3 = 4 ∧ (if 3 < 8 then State.srcDescOk d3 else State.pageDescOk d3) = false ∨ Instr.ringHalt 3 3 true = Instr.ringHalt 3 3 true ∧ 3 = 3))) ∧
        (f3.ringReady 8 = true ∧ (Instr.ringHalt 8 3 true = Instr.descriptorFetch 8 d3 ∧ 3 = 4 ∧ (if 8 < 8 then State.srcDescOk d3 else State.pageDescOk d3) = false ∨ Instr.ringHalt 8 3 true = Instr.ringHalt 8 3 true ∧ 3 = 3)))) ∧
    (l1.asleep = false ∧ d1.length = 32 ∧ l1.ringReady 3 = false) := by
  decide +kernel

theorem test_witness_BuffersComplete :
    (c1.asleep = false ∧ c1.present Blk.HST = true ∧ c1.present Blk.SND = true ∧ (c1.ring 3).busy = true ∧ (c1.ring 3).buf = 1 ∧ fb.length = c1.srcBytes 3 ∧ c1.bufAddr 3 1 + fb.length ≤ c1.dramSize ∧
      ((127 < c1.bufAddr 3 1 ∨ c1.bufAddr 3 1 + fb.length ≤ 127)) ∧
      ((numAt (c1.ring 3).desc 12 1).testBit 0 = true) ∧
      ((256 < c1.bufAddr 3 1 ∨ c1.bufAddr 3 1 + fb.length ≤ 256))) ∧
    (c3.asleep = false ∧ c3.present Blk.HST = true ∧ c3.present Blk.SND = true ∧
      (c3.f (F.HST_SRC_CTL_MODE 3) = 1 ∧
        ((¬(2 = c3.f (F.HST_SRC_STAT_NEXT 3) ∧ 2 < c3.f (F.HST_SRC_CTL_NLBUF 3)))) ∧
        (1 = c3.f (F.HST_SRC_STAT_NEXT 3) ∧ 1 < c3.f (F.HST_SRC_CTL_NLBUF 3))) ∧
      ((c3.ring 3).busy = false)) ∧
    (c2.asleep = false ∧ c2.present Blk.HST = true ∧ c2.present Blk.SND = true ∧ (c2.ring 3).busy = true ∧ (c2.ring 3).buf = 1 ∧ fb.length = c2.srcBytes 3 ∧ c2.bufAddr 3 1 + fb.length ≤ c2.dramSize ∧
      ((c2.ring 3).stopping = true) ∧
      ((127 < c2.bufAddr 3 1 ∨ c2.bufAddr 3 1 + fb.length ≤ 127)) ∧
      ((256 < c2.bufAddr 3 1 ∨ c2.bufAddr 3 1 + fb.length ≤ 256))) := by
  decide +kernel

theorem test_witness_Paging :
    (g1.asleep = false ∧ g1.present Blk.HST = true ∧ g1.present Blk.REL = true ∧ (g1.ring 8).busy = true ∧ (g1.ring 8).desc = pd1 ∧ pd1.length = 32 ∧ (Instr.pagingCopy pg = Instr.pagingCopy pg ∧ numAt pd1 0 1 = 1 ∧ 4096 = numAt pd1 16 8 ∧ pg = padTo (numAt pd1 4 4) pg ∨ Instr.pagingCopy pg = Instr.pagingMap ∧ numAt pd1 0 1 = 2 ∧ pg = slice pd1 16 16 ∧ 4096 = g1.f F.REL_PT_BASE_LO_BASE + 2 ^ 32 * g1.f F.REL_PT_BASE_HI_BASE + 16 * numAt pd1 8 8) ∧ 4096 + pg.length ≤ g1.dramSize ∧
      ((4095 < 4096 ∨ 4096 + pg.length ≤ 4095)) ∧
      ((numAt pd1 1 1).testBit 0 = true) ∧
      ((4160 < 4096 ∨ 4096 + pg.length ≤ 4160))) ∧
    (g2.asleep = false ∧ g2.present Blk.HST = true ∧ g2.present Blk.REL = true ∧ (g2.ring 8).busy = true ∧ (g2.ring 8).desc = pd2 ∧ pd2.length = 32 ∧ (Instr.pagingMap = Instr.pagingCopy pg ∧ numAt pd2 0 1 = 1 ∧ 80 = numAt pd2 16 8 ∧ slice pd2 16 16 = padTo (numAt pd2 4 4) pg ∨ Instr.pagingMap = Instr.pagingMap ∧ numAt pd2 0 1 = 2 ∧ slice pd2 16 16 = slice pd2 16 16 ∧ 80 = g2.f F.REL_PT_BASE_LO_BASE + 2 ^ 32 * g2.f F.REL_PT_BASE_HI_BASE + 16 * numAt pd2 8 8) ∧ 80 + (slice pd2 16 16).length ≤ g2.dramSize ∧
      ((79 < 80 ∨ 80 + (slice pd2 16 16).length ≤ 79)) ∧
      ((96 < 80 ∨ 80 + (slice pd2 16 16).length ≤ 96)) ∧
      ((numAt pd2 1 1).testBit 0 = true)) := by
  decide +kernel

theorem test_witness_ReelCommands :
    (q1.asleep = false ∧ q1.present Blk.REL = true ∧ q1.present Blk.PAR = false ∧ q1.f (F.REL_P_STAT_STATE 5) ≠ 0 ∧ q1.f F.REL_ACT_NS_NS ≤ 999999999 ∧ q1.framed = true ∧ q1.on F.DSP_STATUS_JOIN = false ∧ (1 = 3 → q1.f F.REL_SEEK_FRAME < q1.f (F.REL_P_FRAMES_FRAMES 5))) ∧
    (q2.asleep = false ∧ q2.present Blk.REL = true ∧ q2.present Blk.PAR = false ∧
      ((q2.f (F.REL_P_STAT_STATE 5) = 0 ∨ 999999999 < q2.f F.REL_ACT_NS_NS ∨ q2.framed = false ∨ q2.on F.DSP_STATUS_JOIN = true ∨ 1 = 3 ∧ q2.f (F.REL_P_FRAMES_FRAMES 5) ≤ q2.f F.REL_SEEK_FRAME)) ∧
      ((q2.f (F.REL_P_STAT_STATE 5) = 0 ∨ 999999999 < q2.f F.REL_ACT_NS_NS ∨ q2.framed = false ∨ q2.on F.DSP_STATUS_JOIN = true ∨ 2 = 3 ∧ q2.f (F.REL_P_FRAMES_FRAMES 5) ≤ q2.f F.REL_SEEK_FRAME)) ∧
      ((q2.f (F.REL_P_STAT_STATE 5) = 0 ∨ 999999999 < q2.f F.REL_ACT_NS_NS ∨ q2.framed = false ∨ q2.on F.DSP_STATUS_JOIN = true ∨ 3 = 3 ∧ q2.f (F.REL_P_FRAMES_FRAMES 5) ≤ q2.f F.REL_SEEK_FRAME))) ∧
    (l1.asleep = false ∧ l1.present Blk.REL = true ∧ l1.present Blk.PAR = false ∧
      ((l1.f (F.REL_P_STAT_STATE 5) = 0 ∨ 999999999 < l1.f F.REL_ACT_NS_NS ∨ l1.framed = false ∨ l1.on F.DSP_STATUS_JOIN = true ∨ 1 = 3 ∧ l1.f (F.REL_P_FRAMES_FRAMES 5) ≤ l1.f F.REL_SEEK_FRAME)) ∧
      ((l1.f (F.REL_P_STAT_STATE 5) = 0 ∨ 999999999 < l1.f F.REL_ACT_NS_NS ∨ l1.framed = false ∨ l1.on F.DSP_STATUS_JOIN = true ∨ 2 = 3 ∧ l1.f (F.REL_P_FRAMES_FRAMES 5) ≤ l1.f F.REL_SEEK_FRAME)) ∧
      ((l1.f (F.REL_P_STAT_STATE 5) = 0 ∨ 999999999 < l1.f F.REL_ACT_NS_NS ∨ l1.framed = false ∨ l1.on F.DSP_STATUS_JOIN = true ∨ 3 = 3 ∧ l1.f (F.REL_P_FRAMES_FRAMES 5) ≤ l1.f F.REL_SEEK_FRAME))) := by
  decide +kernel

theorem test_witness_ReelFetches :
    (v2.asleep = false ∧ v2.present Blk.REL = true ∧ v2.f (F.REL_P_STAT_STATE 5) ≠ 0 ∧ v2.clipAhead 5 (v2.hst.reelPos.getD 5 0) = [0, 1] ∧ (List.lookup 0 (tabAt v2.hst.ready 5 [])).isNone = true ∧ 128 = v2.srcBytes (v2.f (F.REL_P_CTL_SRC 5)) ∧ 2097216 = v2.f (F.REL_P_START_LO_START 5) + 2 ^ 32 * v2.f (F.REL_P_START_HI_START 5) + 0 * v2.f (F.REL_P_FSTRIDE_FSTRIDE 5) ∧ 1 = 2097216 / 2 ^ 21 ∧ (2097216 + 128 - 1) / 2 ^ 21 = 1 ∧
      ((State.pageOf (v2.pageEntry 1) = none ∧ 1 = 1 ∧ 129 = 129 ∨ (State.pageOf (v2.pageEntry 1)).isSome = true ∧ none = some 0 ∧ 1 = 2 ∧ 129 = 130)) ∧
      ((State.pageOf (v2.pageEntry 1) = none ∧ 1 = 1 ∧ 129 = 129 ∨ (State.pageOf (v2.pageEntry 1)).isSome = true ∧ some 0 = some 0 ∧ 1 = 2 ∧ 129 = 130))) ∧
    (v1.asleep = false ∧ v1.present Blk.REL = true ∧ v1.f (F.REL_P_STAT_STATE 5) ≠ 0 ∧ v1.clipAhead 5 (v1.hst.reelPos.getD 5 0) = [0, 1] ∧ (List.lookup 0 (tabAt v1.hst.ready 5 [])).isNone = true ∧ 128 = v1.srcBytes (v1.f (F.REL_P_CTL_SRC 5)) ∧ 2097216 = v1.f (F.REL_P_START_LO_START 5) + 2 ^ 32 * v1.f (F.REL_P_START_HI_START 5) + 0 * v1.f (F.REL_P_FSTRIDE_FSTRIDE 5) ∧ 1 = 2097216 / 2 ^ 21 ∧ (2097216 + 128 - 1) / 2 ^ 21 = 1 ∧ State.pageOf (v1.pageEntry 1) = some (2097152, 3) ∧ 2097152 + 2097216 % 2 ^ 21 + 128 ≤ v1.dramSize) ∧
    (l1.asleep = false ∧ l1.present Blk.REL = true ∧ (l1.f (F.REL_P_STAT_STATE 5) = 0 ∨ l1.f (F.REL_P_CTL_PREFETCH 5) = 0)) ∧
    (v3.asleep = false ∧ v3.present Blk.REL = true ∧ v3.f (F.REL_P_STAT_STATE 5) ≠ 0 ∧ v3.clipAhead 5 (v3.hst.reelPos.getD 5 0) = [0, 1] ∧ (List.lookup 0 (tabAt v3.hst.ready 5 [])).isNone = true ∧ 128 = v3.srcBytes (v3.f (F.REL_P_CTL_SRC 5)) ∧ 2097216 = v3.f (F.REL_P_START_LO_START 5) + 2 ^ 32 * v3.f (F.REL_P_START_HI_START 5) + 0 * v3.f (F.REL_P_FSTRIDE_FSTRIDE 5) ∧ 1 = 2097216 / 2 ^ 21 ∧ (2097216 + 128 - 1) / 2 ^ 21 = 1 ∧ (State.pageOf (v3.pageEntry 1) = none ∧ 2 = 1 ∧ 130 = 129 ∨ (State.pageOf (v3.pageEntry 1)).isSome = true ∧ some 0 = some 0 ∧ 2 = 2 ∧ 130 = 130)) := by
  decide +kernel

end HostPort

namespace Pair

def pr (st : Nat) (fs : List (Fld × Nat)) : State := atSec 5 (dev 1 (runs ++ [(F.SYS_UNITEN_CHAIN, 15), (F.SYS_UNITEN_OPT, 2), (F.CMC_STATUS_MASTER, if st < 3 then 1 else 0), (F.PAR_STATUS_PSTATE, st)] ++ fs))
def lk (s : State) : State := s.lanP 8 fun l => { l with idle := false }
def n0 := dev 1 []
def a1 := lk (pr 1 [])
def a2 := lk (pr 2 [(F.CMT_GEN_GEN, 9)])
def a3 := lk (pr 3 [])
def a4 := lk (pr 4 [(F.PAR_STATUS_RSTEP, 1), (F.PAR_RSYNC_MS_MS, 65535)])
def hb (e ps : Nat) (gen : Nat) : List Byte := [BitVec.ofNat 8 ps, 1, BitVec.ofNat 8 e, 0] ++ leBytes 4 gen ++ leBytes 4 0x77 ++ padTo 8 [] ++ padTo 32 (Img.hash (dev 1 []).runImg) ++ padTo 44 []
def h1 := hb 0 3 5
def h2 := padTo 96 [3, 1, 1]
def h2' := padTo 20 [3, 1, 1] ++ List.replicate 76 1
def h3 := hb 1 3 5
def h4 := hb 1 1 10
def p1 := lk (pr 1 [(F.PAR_STATUS_HB, 1)])
def p3 := lk (pr 3 [(F.PAR_STATUS_HB, 1)])
def p4 := lk (pr 4 [(F.PAR_STATUS_HB, 1), (F.PAR_STATUS_RSTEP, 2)])
def p5 := lk (pr 3 [(F.PAR_CFG_AUTOPROMOTE, 1)])
def p5' := lk (pr 3 [(F.PAR_CFG_AUTOPROMOTE, 0)])
def p6 := lk (pr 4 [(F.PAR_CFG_PREF, 1)])
def p6' := lk (pr 4 [(F.PAR_CFG_PREF, 0)])
def p7 := { p4 with par := { p4.par with rsyncAt := some 7 } }
def tx (l : Nat) : List Byte := leBytes 4 l ++ leBytes 4 l ++ [0, 0]
def m1 := leBytes 4 R.SND_CANVAS ++ leBytes 4 0x01020304
def s3 := { p3 with par := { p3.par with commit := some ([], []) } }
def s4 := { p4 with par := { p4.par with snap := [1] } }
def s5 := { s3 with regs := (s3.setF F.DSP_NUM_NUM 0).regs }
def sp : List Byte := leBytes 4 0 ++ padTo 4 []
def ap1 : List Byte := padTo 64 [0, 1]
def ap2 : List Byte := padTo 64 [1, 2, 5, 3]
def p3r := p3.setF F.SYS_UNITEN_OPT 3
def pst : List Byte := padTo 16 [2, 5, 3, 7, 1, 0, 0, 0, 2]
def p4' := p4.setF F.PAR_STATUS_RSTEP 4
def un (n : Nat) : Unacked := { typ := 0x81, tag := 9, block := [1, 2, 3], resends := n }
def ws (s : State) (n : Nat) : State := { s with par := { s.par with unacked := [un n] } }
def r1 := ws p1 2
def r2 := ws p1 3
def r3 := ws p3 3
def c1 := { p1 with par := { p1.par with snapBusy := some 1, snapCopy := [1, 2, 3], snapAt := some (7, 8) } }
def c2 := c1.setF F.THM_STATUS_MCOMP 1

theorem test_witness_Heartbeats :
    (a3.asleep = false ∧ a3.present Blk.PAR = true ∧
      (numAt h3 2 1 % 2 ≠ a3.f F.PAR_CFG_END ∧ slice h3 20 32 = padTo 32 (Img.hash a3.runImg) ∧ a3.pairState = 3) ∧
      (numAt h2' 2 1 % 2 ≠ a3.f F.PAR_CFG_END ∧ slice h2' 20 32 ≠ padTo 32 (Img.hash a3.runImg)) ∧
      (a3.pairState ≠ 4 ∧ (a3.port 8).idle = false ∧ (a3.port 8).loopIn = 0)) ∧
    (a1.asleep = false ∧ a1.present Blk.PAR = true ∧
      (numAt h1 2 1 % 2 = a1.f F.PAR_CFG_END) ∧
      (numAt h4 2 1 % 2 ≠ a1.f F.PAR_CFG_END ∧ slice h4 20 32 = padTo 32 (Img.hash a1.runImg) ∧ (a1.pairState = 1 ∨ a1.pairState = 2) ∧ (numAt h4 0 1 = 1 ∨ numAt h4 0 1 = 2) ∧ a1.f F.CMT_GEN_GEN < numAt h4 4 4)) ∧
    (a2.asleep = false ∧ a2.present Blk.PAR = true ∧
      (numAt h3 2 1 % 2 ≠ a2.f F.PAR_CFG_END ∧ slice h3 20 32 = padTo 32 (Img.hash a2.runImg) ∧ a2.pairState = 2 ∧ numAt h3 0 1 = 3) ∧
      (numAt h4 2 1 % 2 ≠ a2.f F.PAR_CFG_END ∧ slice h4 20 32 = padTo 32 (Img.hash a2.runImg) ∧ (a2.pairState = 1 ∨ a2.pairState = 2) ∧ (numAt h4 0 1 = 1 ∨ numAt h4 0 1 = 2) ∧ a2.f F.CMT_GEN_GEN < numAt h4 4 4)) ∧
    (a4.asleep = false ∧ a4.present Blk.PAR = true ∧ a4.pairState = 4 ∧ a4.f F.PAR_STATUS_RSTEP ≠ 3) ∧
    (n0.asleep = false ∧ n0.present Blk.PAR = false) := by
  decide +kernel

theorem test_witness_PartnerLoss :
    (p5.asleep = false ∧ p5.present Blk.PAR = true ∧ p5.heard = false ∧ p5.pairState = 3 ∧ p5.on F.PAR_CFG_AUTOPROMOTE = true) ∧
    (p1.asleep = false ∧ p1.heard = true ∧ p1.isPrimary = true ∧ p1.pairState = 1) ∧
    (p4.asleep = false ∧ p4.heard = true ∧ p4.pairState = 4) ∧
    (p6.asleep = false ∧ p6.present Blk.PAR = true ∧ p6.heard = false ∧ p6.pairState = 4 ∧ p6.on F.PAR_CFG_PREF = true ∧ List.filter p6.portUp p6.portsOn = []) ∧
    (p7.asleep = false ∧ p7.present Blk.PAR = true ∧ p7.pairState = 4 ∧ p7.par.rsyncAt.isSome = true) ∧
    (p3.asleep = false ∧ p3.heard = true ∧ p3.pairState = 3) ∧
    (p6'.asleep = false ∧ p6'.present Blk.PAR = true ∧ p6'.heard = false ∧ p6'.pairState = 4 ∧ p6'.on F.PAR_CFG_PREF = false) ∧
    (p5'.asleep = false ∧ p5'.present Blk.PAR = true ∧ p5'.heard = false ∧ p5'.pairState = 3 ∧ p5'.on F.PAR_CFG_AUTOPROMOTE = false) ∧
    (n0.asleep = false ∧ n0.par.rsyncAt = none) := by
  decide +kernel

theorem test_witness_PairFramesApply :
    (p3.asleep = false ∧ p3.present Blk.PAR = true ∧
      (p3.pairNext 129 5 = false) ∧
      ((p3.pairState = 3 ∨ p3.pairState = 4) ∧
        (p3.pairNext 129 1 = true ∧ R.SND_CANVAS < 2 ^ 23 ∧ State.mirrored R.SND_CANVAS = true ∧ p3.hiddenBits R.SND_CANVAS = 0 ∧ m1 = leBytes 4 R.SND_CANVAS ++ leBytes 4 16909060) ∧
        (p3.pairNext 130 5 = true) ∧
        (p3.pairNext 132 1 = true ∧ p3.framed = true ∧ numAt ap1 0 1 = 0 ∧ p3.pairState = 3) ∧
        (p3.pairNext 134 1 = true ∧
          (p3.par.hand = [] ∧ pst.length = 16 ∧ numAt (tx 16) 0 4 ≤ 16 ∧ numAt pst 0 1 = 2 ∧ numAt pst 1 1 = 4 + 1 ∧ numAt pst 12 2 = 0) ∧
          (p3.par.hand.length + m1.length < numAt (tx 99) 0 4)) ∧
        (p3.pairNext 131 5 = true ∧ p3.par.snap.length + m1.length < numAt (tx 99) 4 4) ∧
        (p3.pairNext 134 5 = true ∧ p3.par.hand.length + m1.length < numAt (tx 99) 0 4) ∧
        (p3.pairNext 130 1 = true) ∧
        (p3.pairNext 131 1 = true ∧ p3.par.snap.length + m1.length < numAt (tx 99) 4 4)) ∧
      (p3.pairNext 136 0 = false) ∧
      (p3.pairNext 132 0 = false) ∧
      (p3.pairNext 131 0 = false) ∧
      (p3.pairNext 130 0 = false) ∧
      (p3.pairNext 134 0 = false) ∧
      (p3.pairNext 133 0 = false)) ∧
    (p3r.asleep = false ∧ p3r.present Blk.PAR = true ∧ (p3r.pairState = 3 ∨ p3r.pairState = 4) ∧
      (p3r.pairNext 132 1 = true ∧ p3r.framed = true ∧ numAt ap2 0 1 ≠ 0 ∧ p3r.present Blk.REL = true) ∧
      (p3r.pairNext 130 1 = true)) ∧
    (s4.asleep = false ∧ s4.present Blk.PAR = true ∧ (s4.pairState = 3 ∨ s4.pairState = 4) ∧
      (s4.pairNext 131 1 = true ∧ numAt (tx 8) 4 4 ≤ s4.par.snap.length + sp.length ∧ s4.par.commit = none ∧ s4.pairState = 4) ∧
      (s4.pairNext 130 1 = true) ∧
      (s4.pairNext 132 1 = true ∧ s4.framed = true ∧ numAt sp 0 1 = 0 ∧ s4.pairState = 4)) ∧
    (s5.asleep = false ∧ s5.present Blk.PAR = true ∧ (s5.pairState = 3 ∨ s5.pairState = 4) ∧
      (s5.pairNext 131 1 = true ∧ numAt (tx 8) 4 4 ≤ s5.par.snap.length + sp.length ∧ s5.par.commit.isSome = true ∧ s5.framed = false) ∧
      (s5.pairNext 130 1 = true)) ∧
    (p4.asleep = false ∧ p4.present Blk.PAR = true ∧ (p4.pairState = 3 ∨ p4.pairState = 4) ∧
      (p4.pairNext 132 1 = true ∧ p4.framed = true ∧ numAt ap1 0 1 = 0 ∧ p4.pairState = 4) ∧
      (p4.pairNext 130 5 = true) ∧
      (p4.pairNext 130 1 = true) ∧
      (p4.pairNext 131 5 = true ∧ p4.par.snap.length + m1.length < numAt (tx 99) 4 4) ∧
      (p4.pairNext 131 1 = true ∧
        (p4.par.snap.length + m1.length < numAt (tx 99) 4 4) ∧
        (numAt (tx 8) 4 4 ≤ p4.par.snap.length + ap1.length ∧ p4.par.commit = none ∧ p4.pairState = 4)) ∧
      (p4.pairNext 134 5 = true ∧ p4.par.hand.length + m1.length < numAt (tx 99) 0 4) ∧
      (p4.pairNext 134 1 = true ∧ p4.par.hand.length + m1.length < numAt (tx 99) 0 4) ∧
      (p4.pairNext 129 1 = true ∧ R.SND_CANVAS < 2 ^ 23 ∧ State.mirrored R.SND_CANVAS = true ∧ p4.hiddenBits R.SND_CANVAS = 0 ∧ m1 = leBytes 4 R.SND_CANVAS ++ leBytes 4 16909060)) ∧
    (s3.asleep = false ∧ s3.present Blk.PAR = true ∧ (s3.pairState = 3 ∨ s3.pairState = 4) ∧
      (s3.pairNext 130 1 = true) ∧
      (s3.pairNext 132 1 = true ∧ s3.framed = true ∧ numAt sp 0 1 = 0 ∧ s3.pairState = 3)) := by
  repeat' apply And.intro
  all_goals first
    | exact nothingDue_of _ rfl (by decide +kernel) (by decide +kernel)
    | exact Or.inl ⟨by decide, by decide⟩
    | exact Or.inr (Or.inl ⟨3, by decide, by decide⟩)
    | exact Or.inr (Or.inr ⟨by decide, by decide⟩)
    | decide +kernel

theorem test_witness_PairHandover :
    (p4'.asleep = false ∧ p4'.present Blk.PAR = true ∧
      (p4'.pairNext 136 1 = true ∧ p4'.pairState = 4 ∧ numAt (tx 0) 0 4 = 0 ∧ 4 ≤ p4'.f F.PAR_STATUS_RSTEP) ∧
      (p4'.pairNext 133 1 = true ∧ p4'.pairState ≠ 3) ∧
      (p4'.steady = true)) ∧
    (p3.asleep = false ∧ p3.present Blk.PAR = true ∧ p3.pairNext 133 1 = true ∧ p3.pairState = 3 ∧
      (p3.par.hand = [] ∧ numAt (tx 0) 0 4 = 0) ∧
      (p3.par.hand.length + [1].length < numAt (tx 8) 0 4)) ∧
    (p4.asleep = false ∧ p4.present Blk.PAR = true ∧ p4.pairNext 136 1 = true ∧ p4.pairState = 4 ∧ p4.par.state.length + [1].length < numAt (tx 8) 0 4) := by
  decide +kernel

theorem test_witness_PairResends :
    (r3.asleep = false ∧ r3.present Blk.PAR = true ∧ (r3.port 8).idle = false ∧ (r3.port 8).loopIn = 0 ∧ r3.par.unacked = [un 3] ∧ (un 3).resends = 3 ∧ r3.pairState = 3) ∧
    (r1.asleep = false ∧ r1.present Blk.PAR = true ∧ (r1.port 8).idle = false ∧ (r1.port 8).loopIn = 0 ∧ r1.par.unacked = [un 2] ∧ (un 2).resends < 3) ∧
    (r2.asleep = false ∧ r2.present Blk.PAR = true ∧ (r2.port 8).idle = false ∧ (r2.port 8).loopIn = 0 ∧ r2.par.unacked = [un 3] ∧ (un 3).resends = 3 ∧ r2.pairState = 1) ∧
    (p1.asleep = false ∧ p1.present Blk.PAR = true ∧ (p1.port 8).idle = false ∧ (p1.port 8).loopIn = 0 ∧ p1.par.unacked = []) := by
  decide +kernel

theorem test_witness_PairCommands :
    (p1.asleep = false ∧ p1.present Blk.PAR = true ∧
      (p1.isPrimary = true ∧ p1.heard = true ∧ p1.snapNewest = none) ∧
      ((p1.port 8).idle = false ∧ (p1.port 8).loopIn = 0)) ∧
    (p5.asleep = false ∧ p5.present Blk.PAR = true ∧
      (p5.isPrimary = false) ∧
      (p5.isSecondary = true ∧ p5.heard = false) ∧
      (p5.par.snapBusy = none)) ∧
    (c2.asleep = false ∧ c2.present Blk.PAR = true ∧ c2.par.snapBusy = some 1 ∧ c2.mramOk = true ∧ c2.par.snapCopy.length ≤ 1048576 ∧ c2.par.snapAt = some (7, 8)) ∧
    (c1.asleep = false ∧ c1.present Blk.PAR = true ∧ c1.par.snapBusy = some 1 ∧ c1.mramOk = false) := by
  decide +kernel

end Pair

namespace Firmware

def d (fs : List (Fld × Nat)) : State := atSec 50 (dev 1 (runs ++ [(F.SYS_UNITEN_CHAIN, 15), (F.FMC_SIZE_MB, 4), (F.THM_STATUS_MCOMP, 1), (F.CMC_STATUS_MASTER, 1)] ++ fs))
def mg (g : MgtSt → MgtSt) (s : State) : State := { s with mgt := g s.mgt }
def g0 := d [(F.MGT_STATUS_RUNNING, 7)]
def g1 := d [(F.MGT_GSE_EN_EN, 0), (F.MGT_GSE_STAT_VERDICT, 1)]
def g2 := d [(F.MGT_GSE_EN_EN, 32), (F.THM_STATUS_STAGE, 2)]
def g3 := mg (fun m => { m with levels := #v[0, 0, 0, 0, 0, 2, 0] }) (d [(F.MGT_GSE_EN_EN, 32)])
def g4 := mg (fun m => { m with lower := tabMod m.lower 5 fun _ => some 40000000000 }) g3
def g5 := mg (fun m => { m with lower := tabMod m.lower 5 fun _ => some 40000000001 }) g3
def w1 := d [(F.MGT_WD_CTL_PERIOD 3, 5), (F.MGT_STATUS_UNCONF, 8)]
def w2 := d [(F.MGT_WD_CTL_PERIOD 3, 0)]
def msg (cmd svc : Nat) (ws : List Word) : Msg := { path := 0, words := BitVec.ofNat 32 (svc + cmd * 256 + 2 ^ 26 * 3) :: ws, ref := 0 }
def ask (c : Nat) (m : Msg) (fs : List (Fld × Nat)) : State := mg (fun g => { g with queues := tabMod g.queues c fun _ => [m] }) (d fs)
def b0 := d []
def b1 := d [(F.MGT_MW_STAT_SST 1, 2)]
def b2 := d [(F.MGT_MW_STAT_SST 1, 3)]
def b3 := mg (fun g => { g with queues := tabMod g.queues 2 fun _ => List.replicate 8 (msg 1 0 []) }) (d [])
def b4 := ask 2 (msg 1 0 []) []
def b5 := ask 2 (msg 2 0 []) []
def b6 := ask 2 (msg 9 9 []) []
def ses (st tgt path : Nat) : List (Fld × Nat) := [(F.MGT_SESS_HELD, 1), (F.MGT_SESS_STATE, st), (F.MGT_SESS_TARGET, tgt), (F.MGT_SESS_PATH, path)]
def u (m : Msg) (fs : List (Fld × Nat)) (g : MgtSt → MgtSt) : State := mg g (ask 3 m fs)
def o1 := msg 1 1 [0x50003, 458752]
def o2 := msg 1 1 [0x50003, 458753]
def o3 := msg 1 1 [0x50005, 4]
def x1 := u o1 [] id
def x2 := u o2 [] id
def x3 := u o3 [] id
def x4 := u o1 (ses 1 2 1) id
def o4 := msg 2 1 [4, 0x01020304, 0x05060708]
def x5 := u o4 (ses 1 2 0) fun g => { g with total := 12 }
def x6 := u o4 [] id
def x7 := u o4 (ses 1 2 1) id
def o5 := msg 7 1 []
def x8 := u o5 (ses 1 2 0) id
def o6 := msg 3 1 []
def o7 := msg 4 1 [1]
def o8 := msg 5 1 []
def o9 := msg 6 1 []
def o10 := msg 8 1 []
def y1 := u o6 (ses 1 2 0) id
def y2 := u o7 (ses 2 2 0 ++ [(F.MGT_CORE_SVN_CNT 2, 1)]) id
def y3 := u o7 (ses 2 2 0) id
def y4 := u o8 (ses 4 2 0) id
def y5 := u o9 (ses 3 2 0) id
def y6 := u o9 (ses 2 2 0) id
def y7 := u o10 (ses 3 2 0) id
def y8 := u o10 (ses 2 2 0) id
def im : List Byte := List.replicate 40 5
def z1 := mg (fun g => { g with act := some { core := 2, image := im } }) (d (ses 3 2 0 ++ [(F.MGT_STATUS_RUNNING, 11)]))
def z2 := d [(F.MGT_CONF_CTL_AUTOCONF, 1), (F.MGT_STATUS_UNCONF, 4)]
def z3 := d [(F.MGT_CONF_CTL_AUTOCONF, 0)]

theorem test_witness_GooseAndWatchdogs :
    (g1.asleep = false ∧
      (g1.coreUp 3 = true ∧ g1.coreHeld 3 = false ∧ g1.f F.RPS_PWR_STAT_STATE = 0 ∧ g1.present Blk.PAR = false ∧ g1.f F.MGT_GSE_EN_EN = 0 ∧ g1.f F.MGT_GSE_STAT_VERDICT ≠ 0) ∧
      ((g1.coreUp 3 = false ∨ g1.f (F.MGT_WD_CTL_PERIOD 3) = 0))) ∧
    (w1.asleep = false ∧ w1.coreUp 3 = true ∧ w1.f (F.MGT_WD_CTL_PERIOD 3) ≠ 0 ∧ w1.present Blk.PAR = false ∧
      ((w1.f F.MGT_STATUS_UNCONF).testBit 3 = true) ∧
      (w1.steady = true ∧ ((w1.cmt.pend.any fun x => x.heavy) = false) ∧ w1.mgt.act = none)) ∧
    (g2.asleep = false ∧
      (g2.coreUp 3 = true ∧ g2.coreHeld 3 = false ∧ g2.f F.RPS_PWR_STAT_STATE = 0 ∧ g2.present Blk.PAR = false ∧ g2.f F.MGT_GSE_EN_EN = 32 ∧ g2.f F.THM_STATUS_STAGE = 2 ∧ tabAt g2.mgt.levels 5 0 < 2 ∧ g2.f F.MGT_GSE_STAT_VERDICT ≠ 2) ∧
      ((g2.coreUp 3 = false ∨ g2.f (F.MGT_WD_CTL_PERIOD 3) = 0))) ∧
    (g3.asleep = false ∧
      (g3.coreUp 3 = true ∧ g3.coreHeld 3 = false ∧ g3.f F.RPS_PWR_STAT_STATE = 0 ∧ g3.present Blk.PAR = false ∧ g3.f F.MGT_GSE_EN_EN = 32 ∧ g3.f F.THM_STATUS_STAGE = 0 ∧ g3.f F.THM_STATUS_WARN = 0 ∧ tabAt g3.mgt.levels 5 0 = 2 ∧ tabAt g3.mgt.lower 5 none = none) ∧
      ((g3.coreUp 3 = false ∨ g3.f (F.MGT_WD_CTL_PERIOD 3) = 0))) ∧
    (g0.asleep = false ∧
      (g0.coreUp 3 = false) ∧
      ((g0.coreUp 3 = false ∨ g0.f (F.MGT_WD_CTL_PERIOD 3) = 0))) ∧
    (g4.asleep = false ∧
      (g4.coreUp 3 = true ∧ g4.coreHeld 3 = false ∧ g4.f F.RPS_PWR_STAT_STATE = 0 ∧ g4.present Blk.PAR = false ∧ g4.f F.MGT_GSE_EN_EN = 32 ∧ g4.f F.THM_STATUS_STAGE = 0 ∧ g4.f F.THM_STATUS_WARN = 0 ∧ tabAt g4.mgt.levels 5 0 = 2 ∧ tabAt g4.mgt.lower 5 none = some 40000000000) ∧
      ((g4.coreUp 3 = false ∨ g4.f (F.MGT_WD_CTL_PERIOD 3) = 0))) ∧
    (g5.asleep = false ∧ (g5.coreUp 3 = false ∨ g5.f (F.MGT_WD_CTL_PERIOD 3) = 0)) ∧
    (w2.asleep = false ∧ (w2.coreUp 3 = false ∨ w2.f (F.MGT_WD_CTL_PERIOD 3) = 0)) := by
  decide +kernel

theorem test_witness_Mailboxes :
    (b0.asleep = false ∧
      (b0.mbox 2 = []) ∧
      ((b0.f (F.MGT_MW_STAT_SST 1) = 0 ∨ b0.f (F.MGT_MW_STAT_SST 1) = 3) ∧ (b0.mbox 2).length < 8)) ∧
    (b3.asleep = false ∧ (b3.f (F.MGT_MW_STAT_SST 1) = 0 ∨ b3.f (F.MGT_MW_STAT_SST 1) = 3) ∧ 8 ≤ (b3.mbox 2).length) ∧
    (b5.asleep = false ∧
      (Asks 2 (msg 2 0 []) [] b5 ∧
        ((msg 2 0 []).svc = 0 ∧ (msg 2 0 []).cmd = 2) ∧
        (State.msgKnown 2 (msg 2 0 []) = true)) ∧
      ((b5.f (F.MGT_MW_STAT_SST 1) = 0 ∨ b5.f (F.MGT_MW_STAT_SST 1) = 3) ∧ (b5.mbox 2).length < 8)) ∧
    (b1.asleep = false ∧ (b1.f (F.MGT_MW_STAT_SST 1) = 1 ∨ b1.f (F.MGT_MW_STAT_SST 1) = 2)) ∧
    (b4.asleep = false ∧
      (Asks 2 (msg 1 0 []) [] b4 ∧ (msg 1 0 []).svc = 0 ∧ (msg 1 0 []).cmd = 1) ∧
      ((b4.f (F.MGT_MW_STAT_SST 1) = 0 ∨ b4.f (F.MGT_MW_STAT_SST 1) = 3) ∧ (b4.mbox 2).length < 8)) ∧
    (b6.asleep = false ∧
      (Asks 2 (msg 9 9 []) [] b6 ∧ State.msgKnown 2 (msg 9 9 []) = false) ∧
      ((b6.f (F.MGT_MW_STAT_SST 1) = 0 ∨ b6.f (F.MGT_MW_STAT_SST 1) = 3) ∧ (b6.mbox 2).length < 8)) ∧
    (b2.asleep = false ∧ (b2.f (F.MGT_MW_STAT_SST 1) = 0 ∨ b2.f (F.MGT_MW_STAT_SST 1) = 3) ∧ (b2.mbox 2).length < 8) := by
  simp only [asks_iff]
  exact ⟨by decide +kernel, by decide +kernel, by decide +kernel, by decide +kernel, by decide +kernel, by decide +kernel, by decide +kernel⟩

theorem test_witness_UpdateSessions :
    (Asks 3 o1 [] x1 ∧ o1.svc = 1 ∧ o1.cmd = 1 ∧ x1.sessHeld = false ∧ o1.word 1 % 8 < 4 ∧ o1.word 2 ≤ 458752) ∧
    (Asks 3 o4 [] x5 ∧ o4.svc = 1 ∧ o4.cmd = 2 ∧ x5.sessHeld = true ∧ x5.f F.MGT_SESS_PATH = o4.path ∧ x5.sessTarget ≠ 4 ∧ (x5.sessState = 1 ∨ x5.sessState = 2 ∨ x5.sessState = 5) ∧ o4.word 1 % 4 = 0 ∧ o4.word 1 + (o4.bytesFrom 2).length ≤ x5.mgt.total ∧ o4.bytesFrom 2 ≠ [] ∧
      ((3 < o4.word 1 ∨ o4.word 1 + (o4.bytesFrom 2).length ≤ 3)) ∧
      ((12 < o4.word 1 ∨ o4.word 1 + (o4.bytesFrom 2).length ≤ 12))) ∧
    (Asks 3 o1 [] x4 ∧ o1.svc = 1 ∧ o1.cmd = 1 ∧ x4.sessHeld = true) ∧
    (Asks 3 o3 [] x3 ∧ o3.svc = 1 ∧ o3.cmd = 1 ∧ x3.sessHeld = false ∧ 4 < o3.word 1 % 8) ∧
    (Asks 3 o5 [] x8 ∧ o5.svc = 1 ∧ o5.cmd = 7) ∧
    (Asks 3 o2 [] x2 ∧ o2.svc = 1 ∧ o2.cmd = 1 ∧ x2.sessHeld = false ∧ o2.word 1 % 8 < 4 ∧ 458752 < o2.word 2) ∧
    (Asks 3 o4 [] x6 ∧ o4.svc = 1 ∧ o4.cmd = 2 ∧ x6.sessHeld = false) ∧
    (Asks 3 o4 [] x7 ∧ o4.svc = 1 ∧ o4.cmd = 2 ∧ x7.sessHeld = true ∧ x7.f F.MGT_SESS_PATH ≠ o4.path) := by
  simp only [asks_iff]
  exact ⟨by decide +kernel, by decide +kernel, by decide +kernel, by decide +kernel, by decide +kernel, by decide +kernel, by decide +kernel, by decide +kernel⟩

theorem test_witness_UpdateOutcomes :
    (Asks 3 o8 [] y4 ∧ o8.svc = 1 ∧ y4.sessHeld = true ∧ y4.f F.MGT_SESS_PATH = o8.path ∧ y4.sessTarget = 2 ∧
      (o8.cmd = 5 ∧ y4.sessState = 4 ∧ y4.f (F.MGT_CORE_SVN_SVN 2) ≤ y4.f (F.MGT_CORE_SVN_CNT 2)) ∧
      (y4.sessState ≠ 3)) ∧
    (Asks 3 o7 [] y3 ∧ o7.svc = 1 ∧ y3.sessHeld = true ∧ y3.f F.MGT_SESS_PATH = o7.path ∧ y3.sessTarget = 2 ∧ o7.cmd = 4 ∧ y3.sessState = 2 ∧ y3.f (F.MGT_CORE_SVN_CNT 2) ≤ Fw.svn y3.ubufImage ∧ y3.fwCompatible 2 y3.ubufImage = true ∧ (y3.fwCold 2 y3.ubufImage = false ∨ o7.word 1 % 2 = 1) ∧ y3.slotsLocked = false ∧ y3.mgt.act = none ∧ y3.mramOk = true) ∧
    (Asks 3 o7 [] y2 ∧ o7.svc = 1 ∧ y2.sessHeld = true ∧ y2.f F.MGT_SESS_PATH = o7.path ∧ y2.sessTarget = 2 ∧ o7.cmd = 4 ∧ y2.sessState = 2 ∧ Fw.svn y2.ubufImage < y2.f (F.MGT_CORE_SVN_CNT 2)) ∧
    (Asks 3 o6 [] y1 ∧ o6.svc = 1 ∧ y1.sessHeld = true ∧ y1.f F.MGT_SESS_PATH = o6.path ∧ y1.sessTarget = 2 ∧ o6.cmd = 3 ∧ y1.sessState = 1 ∧ y1.fwCode 2 y1.ubufImage ≠ 0) ∧
    (Asks 3 o9 [] y6 ∧ o9.svc = 1 ∧ y6.sessHeld = true ∧ y6.f F.MGT_SESS_PATH = o9.path ∧ y6.sessTarget = 2 ∧ o9.cmd = 6 ∧ y6.sessState ≠ 3) ∧
    (Asks 3 o9 [] y5 ∧ o9.svc = 1 ∧ y5.sessHeld = true ∧ y5.f F.MGT_SESS_PATH = o9.path ∧ y5.sessTarget = 2 ∧ o9.cmd = 6 ∧ y5.sessState = 3) := by
  simp only [asks_iff]
  exact ⟨by decide +kernel, by decide +kernel, by decide +kernel, by decide +kernel, by decide +kernel, by decide +kernel⟩

theorem test_witness_Activations :
    (z1.asleep = false ∧ z1.mgt.act = some { core := 2, image := im } ∧ im.length ≤ 524280 ∧ z1.mramOk = true ∧ (2 = 1 → z1.isSender = false ∨ z1.on F.CMC_STATUS_MASTER = false) ∧ (2 = 0 → (z1.f F.MGT_STATUS_NEEDIMG).testBit 0 = false) ∧ z1.sessHeld = true) ∧
    (z2.asleep = false ∧
      (z2.on F.MGT_CONF_CTL_AUTOCONF = true ∧ (z2.f F.MGT_STATUS_UNCONF).testBit 2 = true ∧ z2.coreUp 2 = true ∧ z2.f (F.MGT_CORE_SVN_SVN 2) ≤ z2.f (F.MGT_CORE_SVN_CNT 2)) ∧
      (z2.mgt.act = none)) ∧
    (z3.asleep = false ∧ z3.on F.MGT_CONF_CTL_AUTOCONF = false) := by
  decide +kernel

end Firmware

namespace Power

def se (fs : List (Fld × Nat)) : State := atSec 50 (dev 1 (runs ++ [(F.SYS_UNITEN_CHAIN, 15)] ++ fs))
def ti (fs : List (Fld × Nat)) : State := atSec 50 (dev 2 (runs ++ [(F.SYS_UNITEN_CHAIN, 3)] ++ fs))
def rp (g : RpsSt → RpsSt) (s : State) : State := { s with rps := g s.rps }
def cm (s : State) : State := { s with cmt := { s.cmt with pend := [noCommit] } }
def a1 := se []
def a2 := ti [(F.MGT_SESS_STATE, 3)]
def a3 := cm (ti [])
def a4 := rp (fun r => { r with latch := true }) (ti [])
def a5 := ti [(F.RPS_PWR_NS_NS, 1000000000)]
def a6 := ti [(F.RPS_PWR_SL_SEC, 50)]
def a7 := ti [(F.DSP_NUM_NUM, 0)]
def a8 := rp (fun r => { r with ask := some (1, 99) }) (ti [])
def a9 := rp (fun r => { r with relay := true }) (ti [(F.RPS_PWR_STAT_STATE, 1)])
def a10 := rp (fun r => { r with waking := true }) (ti [])
def w1 := se [(F.RPS_PWR_STAT_STATE, 2), (F.RPS_WAKE_EN, 15), (F.TIM_SREF_CTL_EN, 1)]
def w2 := rp (fun r => { r with waking := true }) (ti [(F.RPS_PWR_STAT_STATE, 2), (F.RPS_WAKE_EN, 2)])
def w3 := ti [(F.RPS_PWR_STAT_STATE, 2), (F.RPS_WAKE_EN, 2)]
def t1 := rp (fun r => { r with tones := 6 }) (se [])
def t2 := rp (fun r => { r with tones := 2 }) (ti [(F.RPS_AON_TONE, 1)])

theorem test_witness_PowerRequests :
    (a9.asleep = false ∧
      (a9.dozing = true ∧ a9.rps.relay = true) ∧
      (a9.rps.ask = none) ∧
      ((1 = 2 ∨ a9.isTile = true) ∧ a9.sessState ≠ 3 ∧ a9.cmt.pend = [] ∧ a9.rps.latch = false ∧ a9.rps.waking = false ∧ a9.f F.RPS_PWR_NS_NS ≤ 999999999 ∧ a9.framed = true ∧ State.countOf (a9.f F.RPS_PWR_SL_SEC + 2 ^ 32 * a9.f F.RPS_PWR_SH_SEC) (a9.f F.RPS_PWR_NS_NS) ≤ a9.clk.wall)) ∧
    (a1.asleep = false ∧
      ((1 = 1 ∧ 1 = 1 ∧ a1.isTile = false ∨ (1 = 2 ∨ a1.isTile = true) ∧ (1 = 2 ∧ a1.sessState = 3 ∨ a1.sessState ≠ 3 ∧ (1 = 3 ∧ a1.cmt.pend ≠ [] ∨ a1.cmt.pend = [] ∧ (1 = 4 ∧ (a1.rps.latch = true ∨ a1.rps.waking = true) ∨ 1 = 5 ∧ a1.rps.latch = false ∧ a1.rps.waking = false ∧ 999999999 < a1.f F.RPS_PWR_NS_NS))))) ∧
      ((a1.dozing && a1.rps.relay) = false) ∧
      ((2 = 2 ∨ a1.isTile = true) ∧ a1.sessState ≠ 3 ∧ a1.cmt.pend = [] ∧ a1.rps.latch = false ∧ a1.rps.waking = false ∧ a1.f F.RPS_PWR_NS_NS ≤ 999999999 ∧ a1.framed = true ∧ State.countOf (a1.f F.RPS_PWR_SL_SEC + 2 ^ 32 * a1.f F.RPS_PWR_SH_SEC) (a1.f F.RPS_PWR_NS_NS) ≤ a1.clk.wall)) ∧
    (a6.asleep = false ∧
      ((1 = 2 ∨ a6.isTile = true) ∧ a6.sessState ≠ 3 ∧ a6.cmt.pend = [] ∧ a6.rps.latch = false ∧ a6.rps.waking = false ∧ a6.f F.RPS_PWR_NS_NS ≤ 999999999 ∧ a6.framed = true ∧ State.countOf (a6.f F.RPS_PWR_SL_SEC + 2 ^ 32 * a6.f F.RPS_PWR_SH_SEC) (a6.f F.RPS_PWR_NS_NS) ≤ a6.clk.wall) ∧
      ((2 = 2 ∨ a6.isTile = true) ∧ a6.sessState ≠ 3 ∧ a6.cmt.pend = [] ∧ a6.rps.latch = false ∧ a6.rps.waking = false ∧ a6.f F.RPS_PWR_NS_NS ≤ 999999999 ∧ a6.framed = true ∧ State.countOf (a6.f F.RPS_PWR_SL_SEC + 2 ^ 32 * a6.f F.RPS_PWR_SH_SEC) (a6.f F.RPS_PWR_NS_NS) ≤ a6.clk.wall)) ∧
    (a7.asleep = false ∧ (2 = 2 ∨ a7.isTile = true) ∧ a7.sessState ≠ 3 ∧ a7.cmt.pend = [] ∧ a7.rps.latch = false ∧ a7.rps.waking = false ∧ a7.f F.RPS_PWR_NS_NS ≤ 999999999 ∧ a7.framed = false) ∧
    (a8.asleep = false ∧
      (a8.rps.ask.isSome = true) ∧
      ((1 = 2 ∨ a8.isTile = true) ∧ a8.sessState ≠ 3 ∧ a8.cmt.pend = [] ∧ a8.rps.latch = false ∧ a8.rps.waking = false ∧ a8.f F.RPS_PWR_NS_NS ≤ 999999999 ∧ a8.framed = true ∧ State.countOf (a8.f F.RPS_PWR_SL_SEC + 2 ^ 32 * a8.f F.RPS_PWR_SH_SEC) (a8.f F.RPS_PWR_NS_NS) ≤ a8.clk.wall)) ∧
    (a2.asleep = false ∧
      ((2 = 1 ∧ 1 = 1 ∧ a2.isTile = false ∨ (1 = 2 ∨ a2.isTile = true) ∧ (2 = 2 ∧ a2.sessState = 3 ∨ a2.sessState ≠ 3 ∧ (2 = 3 ∧ a2.cmt.pend ≠ [] ∨ a2.cmt.pend = [] ∧ (2 = 4 ∧ (a2.rps.latch = true ∨ a2.rps.waking = true) ∨ 2 = 5 ∧ a2.rps.latch = false ∧ a2.rps.waking = false ∧ 999999999 < a2.f F.RPS_PWR_NS_NS))))) ∧
      ((2 = 1 ∧ 2 = 1 ∧ a2.isTile = false ∨ (2 = 2 ∨ a2.isTile = true) ∧ (2 = 2 ∧ a2.sessState = 3 ∨ a2.sessState ≠ 3 ∧ (2 = 3 ∧ a2.cmt.pend ≠ [] ∨ a2.cmt.pend = [] ∧ (2 = 4 ∧ (a2.rps.latch = true ∨ a2.rps.waking = true) ∨ 2 = 5 ∧ a2.rps.latch = false ∧ a2.rps.waking = false ∧ 999999999 < a2.f F.RPS_PWR_NS_NS)))))) ∧
    (a3.asleep = false ∧
      ((3 = 1 ∧ 1 = 1 ∧ a3.isTile = false ∨ (1 = 2 ∨ a3.isTile = true) ∧ (3 = 2 ∧ a3.sessState = 3 ∨ a3.sessState ≠ 3 ∧ (3 = 3 ∧ a3.cmt.pend ≠ [] ∨ a3.cmt.pend = [] ∧ (3 = 4 ∧ (a3.rps.latch = true ∨ a3.rps.waking = true) ∨ 3 = 5 ∧ a3.rps.latch = false ∧ a3.rps.waking = false ∧ 999999999 < a3.f F.RPS_PWR_NS_NS))))) ∧
      ((3 = 1 ∧ 2 = 1 ∧ a3.isTile = false ∨ (2 = 2 ∨ a3.isTile = true) ∧ (3 = 2 ∧ a3.sessState = 3 ∨ a3.sessState ≠ 3 ∧ (3 = 3 ∧ a3.cmt.pend ≠ [] ∨ a3.cmt.pend = [] ∧ (3 = 4 ∧ (a3.rps.latch = true ∨ a3.rps.waking = true) ∨ 3 = 5 ∧ a3.rps.latch = false ∧ a3.rps.waking = false ∧ 999999999 < a3.f F.RPS_PWR_NS_NS)))))) ∧
    (a4.asleep = false ∧ (4 = 1 ∧ 1 = 1 ∧ a4.isTile = false ∨ (1 = 2 ∨ a4.isTile = true) ∧ (4 = 2 ∧ a4.sessState = 3 ∨ a4.sessState ≠ 3 ∧ (4 = 3 ∧ a4.cmt.pend ≠ [] ∨ a4.cmt.pend = [] ∧ (4 = 4 ∧ (a4.rps.latch = true ∨ a4.rps.waking = true) ∨ 4 = 5 ∧ a4.rps.latch = false ∧ a4.rps.waking = false ∧ 999999999 < a4.f F.RPS_PWR_NS_NS))))) ∧
    (a5.asleep = false ∧ (5 = 1 ∧ 1 = 1 ∧ a5.isTile = false ∨ (1 = 2 ∨ a5.isTile = true) ∧ (5 = 2 ∧ a5.sessState = 3 ∨ a5.sessState ≠ 3 ∧ (5 = 3 ∧ a5.cmt.pend ≠ [] ∨ a5.cmt.pend = [] ∧ (5 = 4 ∧ (a5.rps.latch = true ∨ a5.rps.waking = true) ∨ 5 = 5 ∧ a5.rps.latch = false ∧ a5.rps.waking = false ∧ 999999999 < a5.f F.RPS_PWR_NS_NS))))) ∧
    (a10.asleep = false ∧ (4 = 1 ∧ 1 = 1 ∧ a10.isTile = false ∨ (1 = 2 ∨ a10.isTile = true) ∧ (4 = 2 ∧ a10.sessState = 3 ∨ a10.sessState ≠ 3 ∧ (4 = 3 ∧ a10.cmt.pend ≠ [] ∨ a10.cmt.pend = [] ∧ (4 = 4 ∧ (a10.rps.latch = true ∨ a10.rps.waking = true) ∨ 4 = 5 ∧ a10.rps.latch = false ∧ a10.rps.waking = false ∧ 999999999 < a10.f F.RPS_PWR_NS_NS))))) := by
  repeat' apply And.intro
  all_goals first
    | exact nothingDue_of _ rfl (by decide +kernel) (by decide +kernel)
    | exact Or.inl ⟨by decide, by decide⟩
    | exact Or.inr (Or.inl ⟨3, by decide, by decide⟩)
    | exact Or.inr (Or.inr ⟨by decide, by decide⟩)
    | decide +kernel

theorem test_witness_Wakes :
    (w1.asleep = true ∧
      ((w1.f F.RPS_WAKE_EN).testBit 0 = true ∧ (0 = 2 → w1.isSender = true ∧ w1.on F.TIM_SREF_CTL_EN = true) ∧ w1.rps.waking = false) ∧
      ((w1.f F.RPS_WAKE_EN).testBit 2 = true ∧ (2 = 2 → w1.isSender = true ∧ w1.on F.TIM_SREF_CTL_EN = true) ∧ w1.rps.waking = false) ∧
      ((w1.f F.RPS_WAKE_EN).testBit 1 = true ∧ (1 = 2 → w1.isSender = true ∧ w1.on F.TIM_SREF_CTL_EN = true) ∧ w1.rps.waking = false)) ∧
    (w2.asleep = true ∧ w2.rps.waking = true) ∧
    ((a1.f F.RPS_WAKE_EN).testBit 2 = false) ∧
    (a1.asleep = false) := by
  decide +kernel

theorem test_witness_WakeTones :
    (t2.asleep = false ∧
      (t2.isSender = false) ∧
      ((t2.isSender = false ∨ t2.rps.tones = 0))) ∧
    (t1.asleep = false ∧ t1.isSender = true ∧ t1.rps.tones ≠ 0) ∧
    (a1.asleep = false ∧
      (a1.isSender = true) ∧
      ((a1.isSender = false ∨ a1.rps.tones = 0))) := by
  decide +kernel

end Power

namespace Thermal

def se (fs : List (Fld × Nat)) : State := atSec 50 (dev 1 (runs ++ [(F.SYS_UNITEN_CHAIN, 15)] ++ fs))
def ti (fs : List (Fld × Nat)) : State := atSec 50 (dev 2 (runs ++ [(F.SYS_UNITEN_CHAIN, 3)] ++ fs))
def th (g : ThmSt → ThmSt) (s : State) : State := { s with thm := g s.thm }
def run (i b g : Nat) : State → State := th fun t => { t with bad := tabMod t.bad i fun _ => b, good := tabMod t.good i fun _ => g }
def d1 := run 5 2 3 (ti [])
def d2 := run 5 3 14 (ti [])
def d3 := run 5 3 15 (ti [])
def d4 := run 5 1 0 (ti [])
def b1 := th (fun t => { t with found := 8 }) (ti [(F.THM_B_CFG_EN 3, 1), (F.THM_B_CFG_FMT 3, 1)])
def b2 := th (fun t => { t with found := 8 }) (ti [(F.THM_B_CFG_EN 3, 1)])
def b3 := ti [(F.THM_MASK_DIE, 32)]
def zo (k : Nat) (fs : List (Fld × Nat)) : State := th (fun t => { t with dwell := tabMod (tabMod t.dwell 0 fun _ => k) 1 fun _ => k }) (ti ([(F.THM_D_STATE 0, 1), (F.THM_D_T16 0, 1600), (F.THM_LIMD_WARN, 100), (F.THM_LIMD_THROT, 100)] ++ fs))
def z1 := zo 250 []
def z2 := zo 249 []
def z4 := zo 249 ([(F.NVS_STATUS_REPAIR, 1), (F.NVS_STATUS_FALLBACK, 1), (F.NVS_STATUS_LOADED, 1)] ++ (List.range 32).flatMap fun d => [(F.THM_D_STATE d, 1), (F.THM_D_T16 d, 800)])
def z3 := zo 249 [(F.THM_LIMD_WARN, 101)]
def s0 := ti []
def s1 := ti [(F.THM_STATUS_STAGE, 1), (F.THM_Z_OVER 0, 2), (F.FAB_THR_REQ, 45)]
def s2 := ti [(F.THM_STATUS_STAGE, 2), (F.THM_Z_OVER 0, 2), (F.FAB_THR_REQ, 40), (F.FAB_STATUS_THROTTLED, 1)]
def s3 := ti [(F.THM_STATUS_STAGE, 2), (F.FAB_THR_REQ, 40), (F.THM_SCAPREQ_REQ, 2)]
def s3' := ti [(F.THM_STATUS_STAGE, 2), (F.FAB_THR_REQ, 5), (F.THM_SCAPREQ_REQ, 3)]
def s4 := ti [(F.THM_STATUS_STAGE, 2), (F.FAB_THR_REQ, 5)]
def s5 := ti [(F.THM_STATUS_STAGE, 2), (F.FAB_THR_REQ, 4)]
def r1 := se [(F.THM_SCAPREQ_REQ, 2)]
def rp (g : RpsSt → RpsSt) (s : State) : State := { s with rps := g s.rps }
def r2 := rp (fun r => { r with latch := true, autoRel := true, held := true }) (se [(F.THM_D_STATE 0, 1), (F.THM_D_STATE 1, 1), (F.THM_D_STATE 2, 1), (F.THM_D_STATE 3, 1), (F.THM_D_STATE 4, 1), (F.THM_D_STATE 5, 1), (F.THM_D_STATE 6, 1), (F.THM_D_STATE 7, 1), (F.THM_D_STATE 8, 1), (F.THM_D_STATE 9, 1), (F.THM_D_STATE 10, 1), (F.THM_D_STATE 11, 1), (F.THM_D_T16 0, 1648)])
def fv (n : Nat) : Word := BitVec.ofNat 32 (n % 2 ^ 24 * 2 ^ F.THM_SCAP_FRAME.lo + 3 * 2 ^ F.THM_SCAP_CAP.lo)

theorem test_witness_DieSensors :
    (d1.asleep = false ∧ d1.masked 5 = false ∧
      (2400 = 2400 + sgn 16 (leVal (d1.recRead (416 + 2 * 5) 2)) ∧ -640 ≤ 2400 ∧ tabAt d1.thm.bad 5 0 < 3) ∧
      ((some 2401 = none ∨ some 2401 = some 2401 ∧ (2401 + sgn 16 (leVal (d1.recRead (416 + 2 * 5) 2)) < -640 ∨ 2400 < 2401 + sgn 16 (leVal (d1.recRead (416 + 2 * 5) 2)))) ∧ tabAt d1.thm.bad 5 0 = 2) ∧
      (((none : Option Int) = none ∨ none = some 0 ∧ (0 + sgn 16 (leVal (d1.recRead (416 + 2 * 5) 2)) < -640 ∨ 2400 < 0 + sgn 16 (leVal (d1.recRead (416 + 2 * 5) 2)))) ∧ tabAt d1.thm.bad 5 0 = 2)) ∧
    (d4.asleep = false ∧ d4.masked 5 = false ∧
      ((some 2401 = none ∨ some 2401 = some 2401 ∧ (2401 + sgn 16 (leVal (d4.recRead (416 + 2 * 5) 2)) < -640 ∨ 2400 < 2401 + sgn 16 (leVal (d4.recRead (416 + 2 * 5) 2)))) ∧ tabAt d4.thm.bad 5 0 < 2) ∧
      (((none : Option Int) = none ∨ none = some 0 ∧ (0 + sgn 16 (leVal (d4.recRead (416 + 2 * 5) 2)) < -640 ∨ 2400 < 0 + sgn 16 (leVal (d4.recRead (416 + 2 * 5) 2)))) ∧ tabAt d4.thm.bad 5 0 < 2)) ∧
    (d3.asleep = false ∧ d3.masked 5 = false ∧ 2400 = 2400 + sgn 16 (leVal (d3.recRead (416 + 2 * 5) 2)) ∧ -640 ≤ 2400 ∧ tabAt d3.thm.bad 5 0 = 3 ∧ 15 ≤ tabAt d3.thm.good 5 0) ∧
    (d2.asleep = false ∧ d2.masked 5 = false ∧ 2400 = 2400 + sgn 16 (leVal (d2.recRead (416 + 2 * 5) 2)) ∧ -640 ≤ 2400 ∧ tabAt d2.thm.bad 5 0 = 3 ∧ tabAt d2.thm.good 5 0 < 15) := by
  decide +kernel

theorem test_witness_BoardSensorsAndMasks :
    (b3.asleep = false ∧
      (F.THM_MASK_SET_KEY.get 2122383365 = 32385 ∧ F.THM_MASK_SET_SENSOR.get 2122383365 = 5 ∧ F.THM_MASK_SET_VALUE.get 2122383365 = 0 ∧ b3.masked 5 = true) ∧
      (F.THM_MASK_SET_KEY.get 2122318085 ≠ 32385) ∧
      (b3.sensors.contains (16 + 3) = false)) ∧
    (b1.asleep = false ∧
      (F.THM_MASK_SET_KEY.get 2122383621 = 32385 ∧ F.THM_MASK_SET_SENSOR.get 2122383621 = 5 ∧ F.THM_MASK_SET_VALUE.get 2122383621 = 1 ∧ b1.masked 5 = false) ∧
      (b1.sensors.contains (16 + 3) = true ∧ b1.masked (16 + 3) = false ∧ tabAt b1.thm.bad (16 + 3) 0 < 3 ∧ (400 = if b1.on (F.THM_B_CFG_FMT 3) = true then sgn 16 400 else sgn 16 400 / 16) ∧ -640 ≤ 400)) := by
  decide +kernel

theorem test_witness_ZoneSamples :
    (z3.asleep = false ∧
      (z3.zoneValue 0 = some (0, 1600) ∧ z3.zoneOver 0 0 = false ∧ 1600 < z3.threshold 0 0) ∧
      (z3.on F.NVS_STATUS_REPAIR = false)) ∧
    (z4.asleep = false ∧ z4.on F.NVS_STATUS_REPAIR = true ∧ z4.nvs.jobs = []) ∧
    (z2.asleep = false ∧ z2.zoneValue 0 = some (0, 1600) ∧ z2.zoneOver 0 0 = false ∧ z2.threshold 0 0 ≤ 1600 ∧ tabAt z2.thm.dwell (3 * 0) 0 < 250) ∧
    (z1.asleep = false ∧
      (z1.rps.held = false ∧ z1.f F.THM_STATUS_STAGE = 0) ∧
      (z1.zoneValue 0 = some (0, 1600) ∧ z1.zoneOver 0 0 = false ∧ z1.threshold 0 0 ≤ 1600 ∧ tabAt z1.thm.dwell (3 * 0) 0 = 250)) := by
  decide +kernel

theorem test_witness_ThrottleStages :
    (s2.asleep = false ∧
      (s2.anyThrottle = true ∧
        (s2.f F.THM_STATUS_STAGE = 2) ∧
        (s2.f F.THM_STATUS_STAGE ≠ 0 ∧ s2.on F.FAB_STATUS_THROTTLED = true ∧ (3, s2.f F.DSP_STATUS_SACT) ∈ [(6, 8), (4, 6), (3, 4), (2, 3), (1, 2)])) ∧
      ((s2.f F.THM_STATUS_STAGE ≠ 1 ∨ s2.anyThrottle = false))) ∧
    (s1.asleep = false ∧ s1.f F.THM_STATUS_STAGE = 1 ∧ s1.anyThrottle = true) ∧
    (s5.asleep = false ∧
      (s5.anyThrottle = false ∧ s5.f F.THM_STATUS_STAGE ≠ 0 ∧ s5.f F.THM_SCAPREQ_REQ = 0 ∧ s5.f F.FAB_THR_REQ ≤ 4 ∧ s5.rps.held = false) ∧
      ((s5.f F.THM_STATUS_STAGE ≠ 1 ∨ s5.anyThrottle = false))) ∧
    (s4.asleep = false ∧
      (s4.anyThrottle = false ∧ s4.f F.THM_STATUS_STAGE ≠ 0 ∧ s4.f F.THM_SCAPREQ_REQ = 0 ∧ 4 < s4.f F.FAB_THR_REQ) ∧
      ((s4.f F.THM_STATUS_STAGE ≠ 1 ∨ s4.anyThrottle = false))) ∧
    (s3.asleep = false ∧
      (s3.anyThrottle = false ∧ s3.f F.THM_STATUS_STAGE ≠ 0 ∧ s3.f F.FAB_THR_REQ ≠ 0 ∧ s3.f F.DSP_MODE_SLOTS = 4 ∧ s3.f F.THM_SCAPREQ_REQ = 2) ∧
      ((s3.f F.THM_STATUS_STAGE ≠ 1 ∨ s3.anyThrottle = false))) ∧
    (s3'.asleep = false ∧
      (s3'.anyThrottle = false ∧ s3'.f F.THM_STATUS_STAGE ≠ 0 ∧ s3'.f F.FAB_THR_REQ ≠ 0 ∧ s3'.f F.DSP_MODE_SLOTS = 4 ∧ s3'.f F.THM_SCAPREQ_REQ = 3) ∧
      ((s3'.f F.THM_STATUS_STAGE ≠ 1 ∨ s3'.anyThrottle = false))) ∧
    (s0.asleep = false ∧
      (s0.f F.THM_STATUS_STAGE = 0) ∧
      ((s0.f F.THM_STATUS_STAGE ≠ 1 ∨ s0.anyThrottle = false))) := by
  decide +kernel

theorem test_witness_SlotCapAndRelease :
    (r2.asleep = false ∧
      (r2.rps.latch = true ∧ r2.rps.autoRel = true ∧ (∀ (z : Nat), z < 4 → r2.zoneSubst z = [] ∧ Option.any (fun p => decide (p.snd ≤ 16 * 103)) (r2.zoneShut z) = true)) ∧
      (r2.role ≠ 0 ∧ r2.timed = true ∧
        ((State.resolve r2.frameNow (F.THM_SCAP_FRAME.get (fv (3000 + 2))) = some 3002 ∧ r2.frameNow + 2 ≤ 3002 ∧ false = false ∨ Option.all (fun m => decide (m < r2.frameNow + 2)) (State.resolve r2.frameNow (F.THM_SCAP_FRAME.get (fv (3000 + 2)))) = true ∧ 3002 = r2.frameNow + 2 ∧ false = true)) ∧
        ((State.resolve r2.frameNow (F.THM_SCAP_FRAME.get (fv (3000 + 1))) = some 3002 ∧ r2.frameNow + 2 ≤ 3002 ∧ true = false ∨ Option.all (fun m => decide (m < r2.frameNow + 2)) (State.resolve r2.frameNow (F.THM_SCAP_FRAME.get (fv (3000 + 1)))) = true ∧ 3002 = r2.frameNow + 2 ∧ true = true)))) ∧
    (r1.asleep = false ∧
      (r1.role ≠ 0 ∧ r1.timed = true ∧
        ((State.resolve r1.frameNow (F.THM_SCAP_FRAME.get (fv (3000 + 2))) = some 3002 ∧ r1.frameNow + 2 ≤ 3002 ∧ false = false ∨ Option.all (fun m => decide (m < r1.frameNow + 2)) (State.resolve r1.frameNow (F.THM_SCAP_FRAME.get (fv (3000 + 2)))) = true ∧ 3002 = r1.frameNow + 2 ∧ false = true)) ∧
        ((State.resolve r1.frameNow (F.THM_SCAP_FRAME.get (fv (3000 + 1))) = some 3002 ∧ r1.frameNow + 2 ≤ 3002 ∧ true = false ∨ Option.all (fun m => decide (m < r1.frameNow + 2)) (State.resolve r1.frameNow (F.THM_SCAP_FRAME.get (fv (3000 + 1)))) = true ∧ 3002 = r1.frameNow + 2 ∧ true = true))) ∧
      ((r1.rps.latch = false ∨ r1.rps.autoRel = false))) := by
  decide +kernel

end Thermal

namespace Records

def se (fs : List (Fld × Nat)) : State := atSec 50 (dev 1 (runs ++ [(F.SYS_UNITEN_CHAIN, 15)] ++ fs))
def ti (fs : List (Fld × Nat)) : State := atSec 50 (dev 2 (runs ++ [(F.SYS_UNITEN_CHAIN, 3)] ++ fs))
def a1 := se [(F.THM_STATUS_MCOMP, 1)]
def a2 := se [(F.NVS_OPT_OPT 1, 2 ^ 20)]
def a3 := se [(F.MGT_SESS_HELD, 1)]
def a4 := se []
def nj (j : RecJob) (s : State) : State := { s with nvs := { s.nvs with jobs := [j] } }
def j1 : RecJob := { kind := 0, edits := [(0x40, [1, 2])] }
def b1 := nj j1 (se [(F.NVS_STATUS_LOADED, 1), (F.NVS_STATUS_WBUSY, 1), (F.NVS_WSTAT_STATE, 1)])
def w1 := se [(F.NVS_WIN_ADDR_OFFSET, 0xFFFF), (F.NVS_RD_ADDR_OFFSET, 0xFFFC)]
def w2 := ti [(F.COR_LOAD_STAT_RESULT, 1), (F.COR_LOAD_STAT_UID_MISM, 1)]
def w3 := ti [(F.COR_LOAD_STAT_RESULT, 1), (F.COR_LOAD_STAT_ALT_USED, 1)]
def w4 := ti [(F.COR_LOAD_STAT_RESULT, 1), (F.THM_STATUS_MCOMP, 1), (F.COR_GWY_CALTIME_CALTIME 0, 5)]

theorem test_witness_RecordRequests :
    (a1.asleep = false ∧
      (a1.on F.MGT_SESS_HELD = false ∧ a1.optLocked = false ∧ a1.recCode (Mem.read a1.ubuf 0 65536) ≠ 0) ∧
      (a1.optLocked = false ∧ a1.nvs.jobs = [] ∧ (Instr.optionWrite 15450 = Instr.optionWrite 15450 ∧ 0 = 0 ∨ Instr.optionWrite 15450 = Instr.recordImageWrite 15450 ∧ 0 = 1 ∧ a1.on F.MGT_SESS_HELD = false ∧ a1.recCode (Mem.read a1.ubuf 0 65536) = 0) ∧ a1.mramOk = true)) ∧
    (a3.asleep = false ∧
      (a3.optLocked = false ∧ a3.nvs.jobs = [] ∧ (Instr.optionWrite 15450 = Instr.optionWrite 15450 ∧ 0 = 0 ∨ Instr.optionWrite 15450 = Instr.recordImageWrite 15450 ∧ 0 = 1 ∧ a3.on F.MGT_SESS_HELD = false ∧ a3.recCode (Mem.read a3.ubuf 0 65536) = 0) ∧ a3.mramOk = false) ∧
      (a3.on F.MGT_SESS_HELD = true)) ∧
    (a2.asleep = false ∧ a2.optLocked = true) ∧
    (a4.asleep = false ∧ a4.optLocked = false ∧ a4.nvs.jobs = [] ∧ (Instr.optionWrite 15450 = Instr.optionWrite 15450 ∧ 0 = 0 ∨ Instr.optionWrite 15450 = Instr.recordImageWrite 15450 ∧ 0 = 1 ∧ a4.on F.MGT_SESS_HELD = false ∧ a4.recCode (Mem.read a4.ubuf 0 65536) = 0) ∧ a4.mramOk = false) := by
  decide +kernel

theorem test_witness_RecordCopies :
    (b1.asleep = false ∧ b1.nvs.jobs = [j1] ∧ j1.kind ≤ 1) ∧
    (a1.asleep = false ∧ a1.nvs.jobs = []) := by
  decide +kernel

theorem test_witness_RecordWindowsAndMarks :
    (w1.asleep = false ∧
      (w1.on F.MGT_SESS_HELD = false ∧
        (65531 ≠ R.NVS_WIN_DATA ∧ 65531 ≠ R.NVS_WIN_ADDR) ∧
        ((65531 < w1.f F.NVS_WIN_ADDR_OFFSET / 4 * 4 ∨ w1.f F.NVS_WIN_ADDR_OFFSET / 4 * 4 + 4 ≤ 65531)) ∧
        ((65536 < w1.f F.NVS_WIN_ADDR_OFFSET / 4 * 4 ∨ w1.f F.NVS_WIN_ADDR_OFFSET / 4 * 4 + 4 ≤ 65536))) ∧
      ((1 = 1 ∧ (w1.present Blk.COR = false ∨ w1.f F.COR_LOAD_STAT_RESULT ≠ 1) ∨ w1.present Blk.COR = true ∧ w1.f F.COR_LOAD_STAT_RESULT = 1 ∧ (1 = 2 ∧ w1.on F.COR_LOAD_STAT_UID_MISM = true ∨ w1.on F.COR_LOAD_STAT_UID_MISM = false ∧ 1 = 3 ∧ w1.on F.COR_LOAD_STAT_ALT_USED = true)))) ∧
    (w4.asleep = false ∧
      (w4.present Blk.COR = true ∧ w4.f F.COR_LOAD_STAT_RESULT = 1 ∧ w4.on F.COR_LOAD_STAT_UID_MISM = false ∧ w4.on F.COR_LOAD_STAT_ALT_USED = false ∧ w4.nvs.jobs = [] ∧ w4.mramOk = true ∧ w4.f (F.NVS_CALREC_SL_SEC 3) + 2 ^ 32 * w4.f (F.NVS_CALREC_SH_SEC 3) < w4.f (F.COR_GWY_CALTIME_CALTIME 0) + 2 ^ 32 * (w4.f (F.COR_GWY_CALTIME_CALTIME 1) % 2 ^ 16) ∧ 65531 ≠ R.NVS_CALMARK ∧ 65531 ≠ R.NVS_STATUS) ∧
      (w4.on F.MGT_SESS_HELD = false ∧
        ((65531 < w4.f F.NVS_WIN_ADDR_OFFSET / 4 * 4 ∨ w4.f F.NVS_WIN_ADDR_OFFSET / 4 * 4 + 4 ≤ 65531)) ∧
        ((65536 < w4.f F.NVS_WIN_ADDR_OFFSET / 4 * 4 ∨ w4.f F.NVS_WIN_ADDR_OFFSET / 4 * 4 + 4 ≤ 65536)))) ∧
    (a3.asleep = false ∧
      (a3.on F.MGT_SESS_HELD = true) ∧
      ((1 = 1 ∧ (a3.present Blk.COR = false ∨ a3.f F.COR_LOAD_STAT_RESULT ≠ 1) ∨ a3.present Blk.COR = true ∧ a3.f F.COR_LOAD_STAT_RESULT = 1 ∧ (1 = 2 ∧ a3.on F.COR_LOAD_STAT_UID_MISM = true ∨ a3.on F.COR_LOAD_STAT_UID_MISM = false ∧ 1 = 3 ∧ a3.on F.COR_LOAD_STAT_ALT_USED = true)))) ∧
    (w2.asleep = false ∧
      ((2 = 1 ∧ (w2.present Blk.COR = false ∨ w2.f F.COR_LOAD_STAT_RESULT ≠ 1) ∨ w2.present Blk.COR = true ∧ w2.f F.COR_LOAD_STAT_RESULT = 1 ∧ (2 = 2 ∧ w2.on F.COR_LOAD_STAT_UID_MISM = true ∨ w2.on F.COR_LOAD_STAT_UID_MISM = false ∧ 2 = 3 ∧ w2.on F.COR_LOAD_STAT_ALT_USED = true))) ∧
      (w2.on F.MGT_SESS_HELD = false ∧
        ((65531 < w2.f F.NVS_WIN_ADDR_OFFSET / 4 * 4 ∨ w2.f F.NVS_WIN_ADDR_OFFSET / 4 * 4 + 4 ≤ 65531)) ∧
        ((65536 < w2.f F.NVS_WIN_ADDR_OFFSET / 4 * 4 ∨ w2.f F.NVS_WIN_ADDR_OFFSET / 4 * 4 + 4 ≤ 65536)))) ∧
    (w3.asleep = false ∧
      ((3 = 1 ∧ (w3.present Blk.COR = false ∨ w3.f F.COR_LOAD_STAT_RESULT ≠ 1) ∨ w3.present Blk.COR = true ∧ w3.f F.COR_LOAD_STAT_RESULT = 1 ∧ (3 = 2 ∧ w3.on F.COR_LOAD_STAT_UID_MISM = true ∨ w3.on F.COR_LOAD_STAT_UID_MISM = false ∧ 3 = 3 ∧ w3.on F.COR_LOAD_STAT_ALT_USED = true))) ∧
      (w3.on F.MGT_SESS_HELD = false ∧
        ((65531 < w3.f F.NVS_WIN_ADDR_OFFSET / 4 * 4 ∨ w3.f F.NVS_WIN_ADDR_OFFSET / 4 * 4 + 4 ≤ 65531)) ∧
        ((65536 < w3.f F.NVS_WIN_ADDR_OFFSET / 4 * 4 ∨ w3.f F.NVS_WIN_ADDR_OFFSET / 4 * 4 + 4 ≤ 65536)))) := by
  repeat' apply And.intro
  all_goals first
    | exact nothingDue_of _ rfl (by decide +kernel) (by decide +kernel)
    | exact Or.inl ⟨by decide, by decide⟩
    | exact Or.inr (Or.inl ⟨3, by decide, by decide⟩)
    | exact Or.inr (Or.inr ⟨by decide, by decide⟩)
    | decide +kernel

end Records

namespace Registers

def se (fs : List (Fld × Nat)) : State := atSec 50 (dev 1 (runs ++ [(F.SYS_UNITEN_CHAIN, 15)] ++ fs))
def ti (fs : List (Fld × Nat)) : State := atSec 50 (dev 2 (runs ++ [(F.SYS_UNITEN_CHAIN, 3)] ++ fs))
def a1 := se [(F.CMT_LWE_CNT_COUNT, 4294967295)]
def a2 := se [(F.CMT_STATUS_LIVE_WR_ERR, 1)]
def a3 := dev 0 []
def a4 := se [(F.SYS_UNITEN_OPT, 2), (F.PAR_STATUS_PSTATE, 3)]
def a5 := se [(F.SYS_UNITEN_OPT, 2), (F.PAR_STATUS_PSTATE, 1), (F.PAR_STATUS_HB, 1), (F.PAR_STATUS_PPSTATE, 3)]
def a6 := { se [] with stage := [(R.DSP_MODE, 0x55)] }
def row (a : Nat) := (regRow a).getD noRow
def md : Word := stMask R.DSP_MODE
def mc : Word := stMask R.CMC_POLL
def mh : Word := stMask (R.HST_SRC_CTL 3)
def hw (s : State) : Word := s.reg (R.HST_SRC_CTL 3)
def b1 := se [(F.HST_SRC_CTL_LOG2 3, 5), (F.HST_SRC_CTL_RUN 3, 1)]
def mp : Word := stMask R.HST_PGR_CTL
def b2 := se [(F.HST_PGR_CTL_RUN, 1), (F.HST_PGR_CTL_STATE, 1)]
def mdd : Word := stMask R.DRV_CTL
def d1 := ti []
def d2 := ti [(F.DRV_CTL_BLANK, 1)]
def l1 := se [(⟨R.SND_SEG_SENT, 0, 32⟩, 5), (⟨R.SND_SEG_SENT + 4, 0, 32⟩, 7)]
def l2 := { l1 with latch := [(R.SND_SEG_SENT + 4, 9)] }
def r1 := { (se []) with cmt := { (se []).cmt with pend := [{ noCommit with heavy := true }] }, mgt := { (se []).mgt with act := some { core := 1, image := [] } } }

theorem test_witness_AbsentBlockAccess :
    a1.asleep = false ∧ 1572864 % 4 = 0 ∧ a1.reaches (1572864 % 2 ^ 23) = false := by
  decide +kernel

theorem test_witness_LatchingReads :
    (l1.asleep = false ∧ R.SND_SEG_SENT % 4 = 0 ∧ R.SND_SEG_SENT + 4 < 2 ^ 23 ∧ regRow R.SND_SEG_SENT = some (row R.SND_SEG_SENT) ∧ l1.reaches R.SND_SEG_SENT = true ∧ l1.hiddenReg R.SND_SEG_SENT = false ∧ (row R.SND_SEG_SENT).wide = 1) ∧
    (l2.asleep = false ∧ (R.SND_SEG_SENT + 4) % 4 = 0 ∧ R.SND_SEG_SENT + 4 + 4 < 2 ^ 23 ∧ regRow (R.SND_SEG_SENT + 4) = some (row (R.SND_SEG_SENT + 4)) ∧ l2.reaches (R.SND_SEG_SENT + 4) = true ∧ l2.hiddenReg (R.SND_SEG_SENT + 4) = false ∧ (row (R.SND_SEG_SENT + 4)).wide = 2) := by
  decide +kernel

theorem test_witness_StagedFields :
    (a1.asleep = false ∧
      (R.HST_SRC_CTL 3 < 2 ^ 23 ∧ R.HST_SRC_CTL 3 % 4 = 0 ∧ a1.reaches (R.HST_SRC_CTL 3) = true ∧ a1.hiddenReg (R.HST_SRC_CTL 3) = false ∧ mh = stMask (R.HST_SRC_CTL 3) &&& ~~~a1.hiddenBits (R.HST_SRC_CTL 3) ∧ 1 = BitVec.setWidth 32 (1 : BitVec 64) ∧
        ((R.HST_SRC_CTL 3 = R.DRV_CTL ∧ F.HST_SRC_CTL_RUN 3 = F.DRV_CTL_BLANK ∨ (∃ n, R.HST_SRC_CTL 3 = R.HST_SRC_CTL ↑n ∧ F.HST_SRC_CTL_RUN 3 = F.HST_SRC_CTL_RUN ↑n) ∨ R.HST_SRC_CTL 3 = R.HST_PGR_CTL ∧ F.HST_SRC_CTL_RUN 3 = F.HST_PGR_CTL_RUN)) ∧
        ((State.mirrored (R.HST_SRC_CTL 3) = false ∨ a1.isSecondary = false))) ∧
      (R.DSP_MODE < 2 ^ 23 ∧ R.DSP_MODE % 4 = 0 ∧ a1.reaches R.DSP_MODE = true ∧ a1.hiddenReg R.DSP_MODE = false ∧ md = stMask R.DSP_MODE &&& ~~~a1.hiddenBits R.DSP_MODE ∧ 51 = BitVec.setWidth 32 (1311768464867721267 : BitVec 64) ∧
        ((State.mirrored R.DSP_MODE = false ∨ a1.isSecondary = false)) ∧
        (stMask R.DSP_MODE ≠ 0) ∧
        (regRow R.DSP_MODE = some (row R.DSP_MODE) ∧ (((row R.DSP_MODE).fields.all fun f => f.acc == Acc.st || f.acc == Acc.ro) = true) ∧ (row R.DSP_MODE).fields ≠ [] ∧ (((row R.DSP_MODE).fields.all fun f => f.acc == Acc.st) = true ∨ (51 ^^^ a1.reg R.DSP_MODE) &&& stMask R.DSP_MODE ≠ 0) ∧ a1.present Blk.CMT = true ∧ a1.f F.CMT_STATUS_LIVE_WR_ERR = 0)) ∧
      (R.CMC_POLL < 2 ^ 23 ∧ R.CMC_POLL % 4 = 0 ∧ a1.reaches R.CMC_POLL = true ∧ a1.hiddenReg R.CMC_POLL = false ∧ mc = stMask R.CMC_POLL &&& ~~~a1.hiddenBits R.CMC_POLL ∧ 4294967295 = BitVec.setWidth 32 (4294967295 : BitVec 64) ∧
        ((State.mirrored R.CMC_POLL = false ∨ a1.isSecondary = false)) ∧
        (regRow R.CMC_POLL = some (row R.CMC_POLL) ∧ (((row R.CMC_POLL).fields.all fun f => f.acc == Acc.st || f.acc == Acc.ro) = true) ∧ (row R.CMC_POLL).fields ≠ [] ∧ (((row R.CMC_POLL).fields.all fun f => f.acc == Acc.st) = true ∨ (4294967295 ^^^ a1.reg R.CMC_POLL) &&& stMask R.CMC_POLL ≠ 0) ∧ a1.present Blk.CMT = true ∧ a1.f F.CMT_STATUS_LIVE_WR_ERR = 0)) ∧
      (R.HST_PGR_CTL < 2 ^ 23 ∧ R.HST_PGR_CTL % 4 = 0 ∧ a1.reaches R.HST_PGR_CTL = true ∧ a1.hiddenReg R.HST_PGR_CTL = false ∧ mp = stMask R.HST_PGR_CTL &&& ~~~a1.hiddenBits R.HST_PGR_CTL ∧
        (0 = BitVec.setWidth 32 (0 : BitVec 64) ∧ (R.HST_PGR_CTL = R.DRV_CTL ∧ F.HST_PGR_CTL_RUN = F.DRV_CTL_BLANK ∨ (∃ n, R.HST_PGR_CTL = R.HST_SRC_CTL ↑n ∧ F.HST_PGR_CTL_RUN = F.HST_SRC_CTL_RUN ↑n) ∨ R.HST_PGR_CTL = R.HST_PGR_CTL ∧ F.HST_PGR_CTL_RUN = F.HST_PGR_CTL_RUN)) ∧
        (1 = BitVec.setWidth 32 (1 : BitVec 64) ∧ (R.HST_PGR_CTL = R.DRV_CTL ∧ F.HST_PGR_CTL_RUN = F.DRV_CTL_BLANK ∨ (∃ n, R.HST_PGR_CTL = R.HST_SRC_CTL ↑n ∧ F.HST_PGR_CTL_RUN = F.HST_SRC_CTL_RUN ↑n) ∨ R.HST_PGR_CTL = R.HST_PGR_CTL ∧ F.HST_PGR_CTL_RUN = F.HST_PGR_CTL_RUN)))) ∧
    (a4.asleep = false ∧ R.DSP_MODE < 2 ^ 23 ∧ R.DSP_MODE % 4 = 0 ∧ a4.reaches R.DSP_MODE = true ∧ a4.hiddenReg R.DSP_MODE = false ∧ md = stMask R.DSP_MODE &&& ~~~a4.hiddenBits R.DSP_MODE ∧ 51 = BitVec.setWidth 32 (1311768464867721267 : BitVec 64) ∧
      (State.mirrored R.DSP_MODE = true ∧ a4.isSecondary = true) ∧
      (regRow R.DSP_MODE = some (row R.DSP_MODE) ∧ (((row R.DSP_MODE).fields.all fun f => f.acc == Acc.st || f.acc == Acc.ro) = true) ∧ (row R.DSP_MODE).fields ≠ [] ∧ (((row R.DSP_MODE).fields.all fun f => f.acc == Acc.st) = true ∨ (51 ^^^ a4.reg R.DSP_MODE) &&& stMask R.DSP_MODE ≠ 0) ∧ a4.present Blk.CMT = true ∧ a4.f F.CMT_STATUS_LIVE_WR_ERR = 0)) ∧
    (a2.asleep = false ∧ R.DSP_MODE < 2 ^ 23 ∧ R.DSP_MODE % 4 = 0 ∧ a2.reaches R.DSP_MODE = true ∧ a2.hiddenReg R.DSP_MODE = false ∧ md = stMask R.DSP_MODE &&& ~~~a2.hiddenBits R.DSP_MODE ∧ 51 = BitVec.setWidth 32 (1311768464867721267 : BitVec 64) ∧
      (regRow R.DSP_MODE = some (row R.DSP_MODE) ∧ (((row R.DSP_MODE).fields.all fun f => f.acc == Acc.st || f.acc == Acc.ro) = true) ∧ (row R.DSP_MODE).fields ≠ [] ∧ (((row R.DSP_MODE).fields.all fun f => f.acc == Acc.st) = true ∨ (51 ^^^ a2.reg R.DSP_MODE) &&& stMask R.DSP_MODE ≠ 0) ∧ a2.present Blk.CMT = true ∧ a2.f F.CMT_STATUS_LIVE_WR_ERR = 1) ∧
      ((State.mirrored R.DSP_MODE = false ∨ a2.isSecondary = false))) ∧
    (a3.asleep = false ∧
      (R.CMC_POLL < 2 ^ 23 ∧ R.CMC_POLL % 4 = 0 ∧ a3.reaches R.CMC_POLL = true ∧ a3.hiddenReg R.CMC_POLL = false ∧ mc = stMask R.CMC_POLL &&& ~~~a3.hiddenBits R.CMC_POLL ∧ 4294967295 = BitVec.setWidth 32 (4294967295 : BitVec 64) ∧
        (regRow R.CMC_POLL = some (row R.CMC_POLL) ∧ (((row R.CMC_POLL).fields.all fun f => f.acc == Acc.st || f.acc == Acc.ro) = true) ∧ (row R.CMC_POLL).fields ≠ [] ∧ (((row R.CMC_POLL).fields.all fun f => f.acc == Acc.st) = true ∨ (4294967295 ^^^ a3.reg R.CMC_POLL) &&& stMask R.CMC_POLL ≠ 0) ∧ a3.present Blk.CMT = false) ∧
        ((State.mirrored R.CMC_POLL = false ∨ a3.isSecondary = false))) ∧
      (R.HST_SRC_CTL 3 < 2 ^ 23 ∧ R.HST_SRC_CTL 3 % 4 = 0 ∧ a3.reaches (R.HST_SRC_CTL 3) = true ∧ a3.hiddenReg (R.HST_SRC_CTL 3) = false ∧ mh = stMask (R.HST_SRC_CTL 3) &&& ~~~a3.hiddenBits (R.HST_SRC_CTL 3) ∧ 1 = BitVec.setWidth 32 (1 : BitVec 64) ∧
        ((State.mirrored (R.HST_SRC_CTL 3) = false ∨ a3.isSecondary = false)) ∧
        ((R.HST_SRC_CTL 3 = R.DRV_CTL ∧ F.HST_SRC_CTL_RUN 3 = F.DRV_CTL_BLANK ∨ (∃ n, R.HST_SRC_CTL 3 = R.HST_SRC_CTL ↑n ∧ F.HST_SRC_CTL_RUN 3 = F.HST_SRC_CTL_RUN ↑n) ∨ R.HST_SRC_CTL 3 = R.HST_PGR_CTL ∧ F.HST_SRC_CTL_RUN 3 = F.HST_PGR_CTL_RUN)))) ∧
    (a5.asleep = false ∧ R.DSP_MODE < 2 ^ 23 ∧ R.DSP_MODE % 4 = 0 ∧ a5.reaches R.DSP_MODE = true ∧ a5.hiddenReg R.DSP_MODE = false ∧ md = stMask R.DSP_MODE &&& ~~~a5.hiddenBits R.DSP_MODE ∧ 51 = BitVec.setWidth 32 (1311768464867721267 : BitVec 64) ∧
      ((State.mirrored R.DSP_MODE = false ∨ a5.isSecondary = false)) ∧
      (regRow R.DSP_MODE = some (row R.DSP_MODE) ∧ (((row R.DSP_MODE).fields.all fun f => f.acc == Acc.st || f.acc == Acc.ro) = true) ∧ (row R.DSP_MODE).fields ≠ [] ∧ (((row R.DSP_MODE).fields.all fun f => f.acc == Acc.st) = true ∨ (51 ^^^ a5.reg R.DSP_MODE) &&& stMask R.DSP_MODE ≠ 0) ∧ a5.present Blk.CMT = true ∧ a5.f F.CMT_STATUS_LIVE_WR_ERR = 0)) ∧
    (a6.asleep = false ∧ R.DSP_MODE < 2 ^ 23 ∧ R.DSP_MODE % 4 = 0 ∧ a6.reaches R.DSP_MODE = true ∧ a6.hiddenReg R.DSP_MODE = false ∧ md = stMask R.DSP_MODE &&& ~~~a6.hiddenBits R.DSP_MODE ∧ 51 = BitVec.setWidth 32 (1311768464867721267 : BitVec 64) ∧
      ((State.mirrored R.DSP_MODE = false ∨ a6.isSecondary = false)) ∧
      (regRow R.DSP_MODE = some (row R.DSP_MODE) ∧ (((row R.DSP_MODE).fields.all fun f => f.acc == Acc.st || f.acc == Acc.ro) = true) ∧ (row R.DSP_MODE).fields ≠ [] ∧ (((row R.DSP_MODE).fields.all fun f => f.acc == Acc.st) = true ∨ (51 ^^^ a6.reg R.DSP_MODE) &&& stMask R.DSP_MODE ≠ 0) ∧ a6.present Blk.CMT = true ∧ a6.f F.CMT_STATUS_LIVE_WR_ERR = 0)) ∧
    (b1.asleep = false ∧ R.HST_SRC_CTL 3 < 2 ^ 23 ∧ R.HST_SRC_CTL 3 % 4 = 0 ∧ b1.reaches (R.HST_SRC_CTL 3) = true ∧ b1.hiddenReg (R.HST_SRC_CTL 3) = false ∧ mh = stMask (R.HST_SRC_CTL 3) &&& ~~~b1.hiddenBits (R.HST_SRC_CTL 3) ∧
      (20 = BitVec.setWidth 32 (20 : BitVec 64) ∧ (R.HST_SRC_CTL 3 = R.DRV_CTL ∧ F.HST_SRC_CTL_RUN 3 = F.DRV_CTL_BLANK ∨ (∃ n, R.HST_SRC_CTL 3 = R.HST_SRC_CTL ↑n ∧ F.HST_SRC_CTL_RUN 3 = F.HST_SRC_CTL_RUN ↑n) ∨ R.HST_SRC_CTL 3 = R.HST_PGR_CTL ∧ F.HST_SRC_CTL_RUN 3 = F.HST_PGR_CTL_RUN)) ∧
      (65 = BitVec.setWidth 32 (65 : BitVec 64) ∧ (R.HST_SRC_CTL 3 = R.DRV_CTL ∧ F.HST_SRC_CTL_RUN 3 = F.DRV_CTL_BLANK ∨ (∃ n, R.HST_SRC_CTL 3 = R.HST_SRC_CTL ↑n ∧ F.HST_SRC_CTL_RUN 3 = F.HST_SRC_CTL_RUN ↑n) ∨ R.HST_SRC_CTL 3 = R.HST_PGR_CTL ∧ F.HST_SRC_CTL_RUN 3 = F.HST_PGR_CTL_RUN))) ∧
    (b2.asleep = false ∧ R.HST_PGR_CTL < 2 ^ 23 ∧ R.HST_PGR_CTL % 4 = 0 ∧ b2.reaches R.HST_PGR_CTL = true ∧ b2.hiddenReg R.HST_PGR_CTL = false ∧ mp = stMask R.HST_PGR_CTL &&& ~~~b2.hiddenBits R.HST_PGR_CTL ∧
      (0 = BitVec.setWidth 32 (0 : BitVec 64) ∧ (R.HST_PGR_CTL = R.DRV_CTL ∧ F.HST_PGR_CTL_RUN = F.DRV_CTL_BLANK ∨ (∃ n, R.HST_PGR_CTL = R.HST_SRC_CTL ↑n ∧ F.HST_PGR_CTL_RUN = F.HST_SRC_CTL_RUN ↑n) ∨ R.HST_PGR_CTL = R.HST_PGR_CTL ∧ F.HST_PGR_CTL_RUN = F.HST_PGR_CTL_RUN)) ∧
      (1 = BitVec.setWidth 32 (1 : BitVec 64) ∧ (R.HST_PGR_CTL = R.DRV_CTL ∧ F.HST_PGR_CTL_RUN = F.DRV_CTL_BLANK ∨ (∃ n, R.HST_PGR_CTL = R.HST_SRC_CTL ↑n ∧ F.HST_PGR_CTL_RUN = F.HST_SRC_CTL_RUN ↑n) ∨ R.HST_PGR_CTL = R.HST_PGR_CTL ∧ F.HST_PGR_CTL_RUN = F.HST_PGR_CTL_RUN))) := by
  repeat' apply And.intro
  all_goals first
    | exact nothingDue_of _ rfl (by decide +kernel) (by decide +kernel)
    | exact Or.inl ⟨by decide, by decide⟩
    | exact Or.inr (Or.inl ⟨3, by decide, by decide⟩)
    | exact Or.inr (Or.inr ⟨by decide, by decide⟩)
    | decide +kernel

theorem test_witness_ResetRegister :
    r1.asleep = false ∧
      (2781020163 = BitVec.setWidth 32 (2781020163 : BitVec 64) ∧ (F.RPS_RST_KEY.get 2781020163 ≠ 42435 ∨ ¬F.RPS_RST_LEVEL.get 2781020163 ∈ [1, 2])) ∧
      (2781020177 = BitVec.setWidth 32 (2781020177 : BitVec 64) ∧ F.RPS_RST_KEY.get 2781020177 = 42435 ∧ r1.steady = true ∧ F.RPS_RST_LEVEL.get 2781020177 = 1) ∧
      (2781020402 = BitVec.setWidth 32 (2781020402 : BitVec 64) ∧ F.RPS_RST_KEY.get 2781020402 = 42435 ∧ r1.steady = true ∧ F.RPS_RST_LEVEL.get 2781020402 = 2) ∧
      (2780954625 = BitVec.setWidth 32 (2780954625 : BitVec 64) ∧ (F.RPS_RST_KEY.get 2780954625 ≠ 42435 ∨ ¬F.RPS_RST_LEVEL.get 2780954625 ∈ [1, 2])) := by
  decide +kernel

end Registers

/-! ### The terms that WellFormed refuses: for each check one it refuses and one it takes -/

theorem test_wf_registerWrite : (Instr.registerWrite .host 2 false 0).wellFormed = false ∧ (Instr.registerWrite .host 4 false 0).wellFormed = true := by decide
theorem test_wf_absentBlockAccess : (Instr.absentBlockAccess .host 1 false none).wellFormed = false ∧ (Instr.absentBlockAccess .host 8 false none).wellFormed = true := by decide
theorem test_wf_rcRead : (Instr.rcRead .host 3 false).wellFormed = false ∧ (Instr.rcRead .host 4 false).wellFormed = true := by decide
theorem test_wf_counterLowRead : (Instr.counterLowRead .host 3 false).wellFormed = false ∧ (Instr.counterLowRead .host 4 false).wellFormed = true := by decide
theorem test_wf_runComplete : (Instr.runComplete 0 0 [1024]).wellFormed = false ∧ (Instr.runComplete 0 0 [1023, 0]).wellFormed = true := by decide
theorem test_wf_recomputeComplete : (Instr.recomputeComplete 0 0 [3, 3]).wellFormed = false ∧ (Instr.recomputeComplete 0 0 []).wellFormed = true := by decide
theorem test_wf_tableBlockRead : (Instr.tableBlockRead [1, 2]).wellFormed = false := by decide
theorem test_wf_i3cEntdaa : (Instr.i3cEntdaa 0 [1, 2, 3]).wellFormed = false ∧ (Instr.i3cEntdaa 0 [1, 2]).wellFormed = true := by decide
theorem test_wf_eqTrainDone : (Instr.eqTrainDone 8 [List.replicate 37 5]).wellFormed = false ∧
    (Instr.eqTrainDone 8 [List.replicate 36 5, List.replicate 37 5]).wellFormed = false ∧
    (Instr.eqTrainDone 8 [List.replicate 37 33, List.replicate 37 5]).wellFormed = false ∧
    (Instr.eqTrainDone 8 [List.replicate 37 32, List.replicate 37 5]).wellFormed = true := by decide +kernel
theorem test_wf_announceRx : (Instr.announceRx 0 (List.replicate 63 0)).wellFormed = false ∧ (Instr.announceRx 0 (List.replicate 64 0)).wellFormed = true := by decide +kernel
theorem test_wf_refreshInterval : (Instr.refreshInterval 0 0 0 10).wellFormed = false ∧ (Instr.refreshInterval 0 0 0 9).wellFormed = true := by decide
theorem test_wf_dramAccessDone : (Instr.dramAccessDone 0 0 [32] [none] [none] .ok).wellFormed = false ∧
    (Instr.dramAccessDone 0 0 [64] [] [none] .ok).wellFormed = false ∧ (Instr.dramAccessDone 0 0 [64] [none] [] .ok).wellFormed = false ∧
    (Instr.dramAccessDone 0 0 [64] [none] [none] .ok).wellFormed = true := by decide +kernel
theorem test_wf_linkTrained : (Instr.linkTrained 0 16).wellFormed = false ∧ (Instr.linkTrained 6 16).wellFormed = false ∧
    (Instr.linkTrained 5 0).wellFormed = false ∧ (Instr.linkTrained 5 16).wellFormed = true := by decide
theorem test_wf_bar2Access : (Instr.bar2Access 0 none 0 false).wellFormed = false ∧ (Instr.bar2Access 0 (some [none]) 2 false).wellFormed = false ∧
    (Instr.bar2Access 0 (some [none]) 1 false).wellFormed = true := by decide
theorem test_wf_descriptorFetch : (Instr.descriptorFetch 0 (List.replicate 31 0)).wellFormed = false ∧ (Instr.descriptorFetch 0 (List.replicate 32 0)).wellFormed = true := by decide +kernel
theorem test_wf_heartbeatRx : (Instr.heartbeatRx (List.replicate 95 0)).wellFormed = false ∧ (Instr.heartbeatRx (List.replicate 96 0)).wellFormed = true := by decide +kernel
theorem test_wf_mirrorRx : (Instr.mirrorRx 1 (List.replicate 9 0)).wellFormed = false ∧ (Instr.mirrorRx 1 (List.replicate 2008 0)).wellFormed = false ∧
    (Instr.mirrorRx 1 (List.replicate 16 0)).wellFormed = true := by decide +kernel
theorem test_wf_pairCommitRx : (Instr.pairCommitRx 1 (List.replicate 9 0) []).wellFormed = false ∧ (Instr.pairCommitRx 1 (List.replicate 10 0) []).wellFormed = true := by decide +kernel
theorem test_wf_snapdataRx : (Instr.snapdataRx 1 (List.replicate 10 0) (List.replicate 2001 0)).wellFormed = false ∧ (Instr.snapdataRx 1 (List.replicate 10 0) []).wellFormed = true := by decide +kernel
theorem test_wf_pairActionRx : (Instr.pairActionRx 1 (List.replicate 2001 0)).wellFormed = false ∧ (Instr.pairActionRx 1 []).wellFormed = true := by decide +kernel
theorem test_wf_handoverRx : (Instr.handoverRx 1 [] []).wellFormed = false ∧ (Instr.handoverRx 1 (List.replicate 10 0) []).wellFormed = true := by decide +kernel
theorem test_wf_pollstateRx : (Instr.pollstateRx 1 [] []).wellFormed = false ∧ (Instr.pollstateRx 1 (List.replicate 10 0) []).wellFormed = true := by decide +kernel
theorem test_wf_stateRx : (Instr.stateRx 1 [] []).wellFormed = false ∧ (Instr.stateRx 1 (List.replicate 10 0) []).wellFormed = true := by decide +kernel
theorem test_wf_hatchMailbox : (Instr.hatchMailbox 0 []).wellFormed = false ∧ (Instr.hatchMailbox 0 (List.replicate 501 0)).wellFormed = false ∧
    (Instr.hatchMailbox 0 [0]).wellFormed = true := by decide +kernel
theorem test_wf_msixTableAccess : (Instr.msixTableAccess 2 none).wellFormed = false ∧ (Instr.msixTableAccess 4 none).wellFormed = true := by decide

/-! ### Commands on small states -/

/-- The state a command leaves meets a condition. -/
def leaves (c : Instr) (s : State) (p : State → Bool) : Bool := match exec c s with | .next t => p t | _ => false

/-- R4: an access to the correction block of a Sender is dropped and raises event 3. -/
theorem test_absent_block : leaves (.absentBlockAccess .host 0x180000 false none) (dev 1 []) (fun t => t.evBit 3) = true := by decide +kernel
/-- R12: a read of a read-to-clear counter clears it. -/
theorem test_rc_read : leaves (.rcRead .host (BitVec.ofNat 24 R.HCH_UERR) false) (dev 1 [(F.HCH_UERR_COUNT, 5)])
    (fun t => t.f F.HCH_UERR_COUNT == 0 && t.outs.contains (.readData .host R.HCH_UERR 5)) = true := by decide +kernel
/-- R10: a write through the stage view, 0x80_0000 above, leaves the value in use and is read back there. -/
theorem test_stage_write : leaves (.registerWrite .host (BitVec.ofNat 24 (R.CMC_POLL + 0x800000)) false 5) (dev 1 [])
    (fun t => t.f F.CMC_POLL_CYCLEM1 == (dev 1 []).f F.CMC_POLL_CYCLEM1 && t.fStage F.CMC_POLL_CYCLEM1 == 5) = true := by decide +kernel
/-- R376: a pulse of 999 ns on RST_N is counted and raises event 4. -/
theorem test_short_pulse : leaves (.rstNAssert 999 false) (dev 1 []) (fun t => t.evBit 4 && t.f F.RPS_GLITCH_COUNT == 1) = true := by decide +kernel
/-- Standby: a command that needs power does nothing (R390). -/
theorem test_standby : leaves .hardBlank (dev 2 [(F.RPS_PWR_STAT_STATE, 2)]) (fun t => !t.evBit 168 && t.outs == []) = true := by decide +kernel
/-- R29: the CRC-32 of the digits 1 to 9, the check value of that algorithm. -/
theorem test_crc32 : crc32 [0x31, 0x32, 0x33, 0x34, 0x35, 0x36, 0x37, 0x38, 0x39] = 0xCBF43926 := by decide +kernel
/-- R8 and log entry 203: the second word of a 64-bit read at the end of the space is that at its start, SYS_BLK_ID. -/
theorem test_wide_read_wraps : leaves (.rcRead .host 0xFFFFFC true) (dev 1 [])
    (fun t => t.outs == [.readData .host 0xFFFFFC 0, .readData .host 0 0x00010001]) = true := by decide +kernel
/-- R417: the repair of a record copy begins with a sample of the zones that permits MRAM writes. -/
theorem test_repair : leaves (.zoneSample true) Thermal.z4 (fun t => t.nvs.jobs.length == 1 && t.on F.NVS_STATUS_WBUSY) = true := by decide +kernel
/-- HCH_STAT shows a boundary-scan instruction of the last millisecond. -/
theorem test_tck : leaves (.boundaryScanInstruction true) (dev 1 []) (fun t => t.derived R.HCH_STAT == some 1) = true := by decide +kernel
/-- An empty queue lets a tick of 2 ns pass (log entry 3). -/
theorem test_idle : (match step State.reset with | .next t => t.clk.now | _ => 0) = 2 := by decide +kernel

namespace Correction

/-- The CRC that the header of the tables stores for block 1. -/
theorem stored (n : Nat) (h : n < 2 ^ 32) : numAt (hd 3 n) 260 4 = n := by
  have e : slice (hd 3 n) 260 4 = leBytes 4 n := rfl
  simp [numAt, e, leVal, leBytes]; omega

/-- Block 1 as it should be, and one that differs from what the header says. -/
def good : TabLoad := ld 1 false 3 (crc32 (padTo 65536 [])).toNat
def other : TabLoad := ld 1 false 3 (((crc32 (padTo 65536 [])).toNat + 1) % 2 ^ 32)

theorem test_witness_TableBlocks :
    ((ldS good []).asleep = false ∧ 5 ≤ (ldS good []).stage' ∧ (ldS good []).cor.load = some good ∧ 0 < good.block ∧
      good.block < numAt good.head 0x2C 4 ∧ (crc32 (padTo 65536 [])).toNat = numAt good.head (0x100 + 4 * good.block) 4) ∧
    ((ldS other []).asleep = false ∧ 5 ≤ (ldS other []).stage' ∧ (ldS other []).cor.load = some other ∧ 0 < other.block ∧
      other.block < numAt other.head 0x2C 4 ∧ other.again = false ∧
      (crc32 (padTo 65536 [])).toNat ≠ numAt other.head (0x100 + 4 * other.block) 4) := by
  have hc : (crc32 (padTo 65536 [])).toNat < 2 ^ 32 := (crc32 (padTo 65536 [])).isLt
  have h1 : numAt good.head (0x100 + 4 * good.block) 4 = (crc32 (padTo 65536 [])).toNat := stored _ hc
  have h2 : numAt other.head (0x100 + 4 * other.block) 4 = ((crc32 (padTo 65536 [])).toNat + 1) % 2 ^ 32 :=
    stored _ (Nat.mod_lt _ (by decide))
  refine ⟨⟨rfl, by decide +kernel, rfl, by decide, by decide +kernel, h1.symm⟩, rfl, by decide +kernel, rfl, by decide, by decide +kernel, rfl,
    ?_⟩
  rw [h2]; omega

end Correction

end Sys2Proof.Tests
end

section
/-! SUPPORT. What a command leaves as it was: frames composed from the updates of the state, and what the raising of an event puts
out. -/

namespace Sys2Proof.Machine

/-! ### Frames -/

theorem Frame.refl (own : Nat → Bool) (s : State) : Frame own s s :=
  ⟨fun _ _ _ => rfl, rfl, rfl, fun _ => rfl, fun _ => rfl, fun _ => rfl, fun _ => rfl⟩

theorem Frame.trans {own : Nat → Bool} {s t u : State} (h : Frame own s t) (k : Frame own t u) : Frame own s u :=
  ⟨fun a ho he => (k.regs a ho he).trans (h.regs a ho he), k.stage.trans h.stage, k.latch.trans h.latch,
    fun a => (k.dram a).trans (h.dram a), fun a => (k.mram a).trans (h.mram a),
    fun a => (k.lineStore a).trans (h.lineStore a), fun a => (k.ubuf a).trans (h.ubuf a)⟩

/-- An update of the registers alone, all of them owned, is within the frame. -/
theorem Frame.of_regs {own : Nat → Bool} {s : State} {g : List (Nat × Word)}
    (h : ∀ a, own a = false → RegFile.get g a = s.reg a) : Frame own s { s with regs := g } :=
  ⟨fun a ho _ => h a ho, rfl, rfl, fun _ => rfl, fun _ => rfl, fun _ => rfl, fun _ => rfl⟩

theorem Frame.setReg {own : Nat → Bool} (s : State) {a : Nat} (v : Word) (h : own a = true) : Frame own s (s.setReg a v) :=
  Frame.of_regs fun b hb => State.reg_setReg_ne s v (by rintro rfl; simp [h] at hb)

theorem Frame.setF {own : Nat → Bool} (s : State) {x : Fld} (v : Nat) (h : own x.addr = true) : Frame own s (s.setF x v) :=
  Frame.of_regs fun b hb => State.reg_setF_ne s v (by rintro rfl; simp [h] at hb)

theorem Frame.emit (own : Nat → Bool) (s : State) (o : Out) : Frame own s (s.emit o) :=
  ⟨fun _ _ _ => rfl, rfl, rfl, fun _ => rfl, fun _ => rfl, fun _ => rfl, fun _ => rfl⟩

theorem Frame.setHst (own : Nat → Bool) (s : State) (g : HstSt → HstSt) : Frame own s (s.setHst g) :=
  ⟨fun _ _ _ => rfl, rfl, rfl, fun _ => rfl, fun _ => rfl, fun _ => rfl, fun _ => rfl⟩

theorem Frame.setRps (own : Nat → Bool) (s : State) (g : RpsSt → RpsSt) : Frame own s (s.setRps g) :=
  ⟨fun _ _ _ => rfl, rfl, rfl, fun _ => rfl, fun _ => rfl, fun _ => rfl, fun _ => rfl⟩

theorem State.OnlyEvents.frame {s t : State} (h : State.OnlyEvents s t) (own : Nat → Bool) : Frame own s t := by
  obtain ⟨⟨_, _, _, _, rfl⟩, hreg⟩ := h
  exact ⟨fun a _ he => hreg a he, rfl, rfl, fun _ => rfl, fun _ => rfl, fun _ => rfl, fun _ => rfl⟩

theorem Frame.raise (own : Nat → Bool) (s : State) (n : Nat) : Frame own s (s.raise n) := (State.onlyEvents_raise s n).frame own

theorem Frame.raiseIf (own : Nat → Bool) (s : State) (c : Bool) (n : Nat) : Frame own s (s.raiseIf c n) :=
  (State.onlyEvents_raiseIf s c n).frame own

theorem Frame.sealed {own : Nat → Bool} {s t : State} (h : Frame own s t) : Frame own s (s.sealed t) :=
  ⟨h.regs, h.stage, h.latch, h.dram, h.mram, h.lineStore, h.ubuf⟩

namespace State

/-! ### What the raising of an event puts out -/

@[simp] theorem raiseDrop_outs (s : State) : s.raiseDrop.outs = s.outs := by
  unfold raiseDrop; dsimp only
  repeat' split
  all_goals rfl

@[simp] theorem raiseDrop_hst (s : State) : s.raiseDrop.hst = s.hst := by
  unfold raiseDrop; dsimp only
  repeat' split
  all_goals rfl

@[simp] theorem addRec_outs (s : State) (n : Nat) : (s.addRec n).outs = s.outs := by
  unfold addRec
  split
  · rfl
  split
  · rfl
  · simp [bump]

@[simp] theorem addRec_hst (s : State) (n : Nat) : (s.addRec n).hst = s.hst := by
  unfold addRec
  split
  · rfl
  split
  · rfl
  · simp [bump]

/-- Raising an event leaves the outputs and the host port as they are, or hands the event to the vector of an MSI-X message. -/
theorem raise_delivery (s : State) (n : Nat) :
    ((s.raise n).outs = s.outs ∧ (s.raise n).hst = s.hst) ∨
      ∃ t v, s.raise n = msixSend t v ∧ t.outs = s.outs ∧ t.hst = s.hst := by
  unfold raise
  dsimp only
  split
  · exact .inl ⟨rfl, rfl⟩
  split
  · exact .inl ⟨rfl, rfl⟩
  split
  · split
    · exact .inl ⟨by rw [addRec_outs]; rfl, by rw [addRec_hst]; rfl⟩
    · exact .inl ⟨rfl, rfl⟩
  split
  · exact .inr ⟨_, _, rfl, rfl, rfl⟩
  · exact .inl ⟨rfl, rfl⟩

/-- A message is sent after everything put out before. -/
theorem msixSend_outs (s : State) (v : Nat) : ∃ l, (s.msixSend v).outs = s.outs ++ l := by
  unfold msixSend; dsimp only; split
  · exact ⟨[], by simp⟩
  · exact ⟨_, rfl⟩

@[simp] theorem msixSend_rings (s : State) (v : Nat) : (s.msixSend v).hst.rings = s.hst.rings := by
  unfold msixSend; dsimp only; split <;> rfl

@[simp] theorem msixSend_table (s : State) (v : Nat) : (s.msixSend v).hst.pcie.table = s.hst.pcie.table := by
  unfold msixSend; dsimp only; split <;> rfl

@[simp] theorem raise_rings (s : State) (n : Nat) : (s.raise n).hst.rings = s.hst.rings := by
  rcases raise_delivery s n with ⟨-, h⟩ | ⟨t, v, h, -, hh⟩
  · rw [h]
  · rw [h, msixSend_rings, hh]

/-- What has been put out stays when an event is raised. -/
theorem mem_outs_raise {s : State} {o : Out} (n : Nat) (h : o ∈ s.outs) : o ∈ (s.raise n).outs := by
  rcases raise_delivery s n with ⟨ho, -⟩ | ⟨t, v, hr, ho, -⟩
  · rwa [ho]
  · obtain ⟨l, hl⟩ := msixSend_outs t v
    rw [hr, hl, ho]
    exact List.mem_append_left _ h

end State

end Sys2Proof.Machine
end

section
/-! SUPPORT. Reads of the register space: the two views, what a read answers and what it changes. -/

namespace Sys2Proof.Machine

/-! ### The register tables -/

/-- Every block, register and step of a series lies at a multiple of 4. -/
theorem rows_aligned : ∀ b ∈ Blk.all, b.base % 4 = 0 ∧ ∀ r ∈ b.rows, r.off % 4 = 0 ∧ ∀ d ∈ r.dims, d.1 % 4 = 0 := by
  decide +kernel

/-- The members of a series whose steps are multiples of 4 lie at multiples of 4. -/
theorem dimsHit_aligned {ds : List (Nat × Nat)} {o : Nat} (h : dimsHit ds o = true) (hd : ∀ d ∈ ds, d.1 % 4 = 0) : o % 4 = 0 := by
  induction ds generalizing o with
  | nil => simp [dimsHit] at h; omega
  | cons d ds ih =>
    simp only [dimsHit, Bool.and_eq_true] at h
    have hstep : 4 ∣ d.1 := Nat.dvd_of_mod_eq_zero (hd d (by simp))
    have hrest := ih h.2 fun e he => hd e (by simp [he])
    rwa [Nat.mod_mod_of_dvd o hstep] at hrest

/-- Every register lies at a multiple of 4 (R8). -/
theorem regRow_aligned {a : Nat} {r : RegRow} (h : regRow a = some r) : a % 4 = 0 := by
  obtain ⟨b, hb, hr⟩ := Option.bind_eq_some_iff.1 h
  have hin := List.find?_some hb
  have hhit := List.find?_some hr
  obtain ⟨hbase, hrows⟩ := rows_aligned b (List.mem_of_find?_eq_some hb)
  obtain ⟨hoff, hdims⟩ := hrows r (List.mem_of_find?_eq_some hr)
  simp only [RegRow.hit, Bool.and_eq_true, decide_eq_true_eq] at hin hhit
  have := dimsHit_aligned hhit.2 hdims
  omega

namespace State

/-! ### The two views -/

theorem view_active {a : Nat} (h : a < 2 ^ 23) : view a = (false, a) := by
  simp only [view, Nat.mod_eq_of_lt h, Prod.mk.injEq, and_true, decide_eq_false_iff_not]
  omega

theorem toNat_active {a : Nat} (h : a < 2 ^ 23) : (BitVec.ofNat 24 a).toNat = a := by
  rw [BitVec.toNat_ofNat]; omega

/-- A read of the active view where a block answers. -/
theorem read32_active {s : State} {a : Nat} (ha : a < 2 ^ 23) (h : s.reaches a = true) :
    s.read32 a = (s.readWord a, s.readEffect a) := by
  simp [read32, view_active ha, h]

/-- A read where no block answers (R4). -/
theorem read32_absent {s : State} {addr : Nat} (h : s.reaches (addr % 2 ^ 23) = false) : s.read32 addr = (0, s.raise 3) := by
  simp only [read32, view, h]; rfl

/-- A write where no block answers (R4). -/
theorem write32_absent {s : State} {addr : Nat} (path : Path) (v : Word) (h : s.reaches (addr % 2 ^ 23) = false) :
    s.write32 path addr v = s.raise 3 := by
  simp only [write32, view, h]; rfl

theorem value_eq {s : State} {a : Nat} (h : s.hiddenReg a = false) :
    s.value a = (s.derived a).getD (s.reg a) &&& accMask a (fun _ => true) &&& ~~~ s.hiddenBits a := by
  unfold value accMask
  cases regRow a <;> simp [h]

/-- Only CMC_WPk_CTL has staged bits of the other role. -/
theorem hiddenBits_outside {s : State} {a : Nat} (h : a < R.CMC_WP_CTL 0 ∨ R.CMC_WP_CTL 7 < a) : s.hiddenBits a = 0 := by
  simp only [hiddenBits, ite_eq_right_iff, Bool.and_eq_true, List.any_eq_true, List.mem_range, beq_iff_eq]
  rintro ⟨-, k, hk, rfl⟩
  simp only [R.CMC_WP_CTL] at h
  omega

theorem peekAt_active {s : State} {a : Nat} (ha : a < 2 ^ 23) (h : s.reaches a = true) : s.peekAt a = s.value a := by
  simp [peekAt, view_active ha, h]

/-! ### What a read answers and changes -/

theorem readWord_value {s : State} {a : Nat} {r : RegRow} (hr : regRow a = some r) (h : r.wide ≠ 2) : s.readWord a = s.value a := by
  simp [readWord, hr, h]

theorem readWord_high {s : State} {a : Nat} {r : RegRow} (hr : regRow a = some r) (h : r.wide = 2) (hh : s.hiddenReg a = false) :
    s.readWord a = (s.latch.lookup a).getD 0 := by
  simp [readWord, hr, h, hh]

theorem readEffect_high {s : State} {a : Nat} {r : RegRow} (hr : regRow a = some r) (h : r.wide = 2) : s.readEffect a = s := by
  simp [readEffect, hr, h]

theorem readEffect_low {s : State} {a : Nat} {r : RegRow} (hr : regRow a = some r) (h : r.wide = 1) (hh : s.hiddenReg a = false) :
    s.readEffect a = { (s.setReg a 0).setReg (a + 4) 0 with
      latch := RegFile.put (a + 4) (s.reg (a + 4)) (s.latch.filter fun p => p.1 != a + 4) } := by
  simp [readEffect, hr, h, hh]

/-- A read of a register that is no half of a wide counter and no latching or data port clears its read-to-clear bits (R12). -/
theorem readEffect_plain {s : State} {a : Nat} {r : RegRow} (hr : regRow a = some r) (h : r.wide = 0) (hh : s.hiddenReg a = false)
    (h1 : a ≠ R.TIM_NOW_NS) (h2 : a ≠ R.CMT_DPORT_DATA) (h3 : a ≠ R.NVS_RD_DATA) :
    s.readEffect a = if accMask a (fun f => f.acc == .rc) = 0 then s
      else s.setReg a (s.reg a &&& ~~~ accMask a fun f => f.acc == .rc) := by
  simp [readEffect, accMask, hr, h, hh, h1, h2, h3]

/-! ### Read commands -/

/-- A 32-bit read of an aligned address: the word is answered after the read's effect. -/
theorem busAccess_read {s : State} {addr : Nat} (path : Path) (h : addr % 4 = 0) :
    s.busAccess path addr false none = (s.read32 addr).2.emit (.readData path addr (s.read32 addr).1) := by
  simp [busAccess, busRead, h]

/-- A 32-bit write of an aligned address. -/
theorem busAccess_write {s : State} {addr : Nat} (path : Path) (v : BitVec 64) (h : addr % 4 = 0) :
    s.busAccess path addr false (some v) = s.write32 path addr (v.setWidth 32) := by
  simp [busAccess, busWrite, h]

end State

theorem exec_rcRead (path : Path) (addr : BitVec 24) (wide : Bool) (s : State) :
    exec (.rcRead path addr wide) s = s.finish (s.awake fun s => s.busAccess path addr.toNat wide none) := rfl

theorem exec_registerWrite (path : Path) (addr : BitVec 24) (wide : Bool) (v : BitVec 64) (s : State) :
    exec (.registerWrite path addr wide v) s = s.finish (s.awake fun s => s.busAccess path addr.toNat wide (some v)) := rfl

/-- A read of a register of the active view answers its word and has the effect of the read. -/
theorem completes_read_active {s : State} {a : Nat} {P : State → Prop} (path : Path) (hs : s.asleep = false) (h4 : a % 4 = 0)
    (ha : a < 2 ^ 23) (h : s.reaches a = true) (hp : P (s.sealed ((s.readEffect a).emit (.readData path a (s.readWord a))))) :
    Completes (.rcRead path (BitVec.ofNat 24 a) false) s P := by
  refine completes_awake (exec_rcRead _ _ _ _) hs ?_
  rwa [State.toNat_active ha, State.busAccess_read path h4, State.read32_active ha h]

end Sys2Proof.Machine
end

section
/-! OBLIGATIONS. BLK_ID and absent blocks (R4), wide counters and latching reads (R14, R241), and reads of the register space by the
bus, the Hatch and boundary scan (R10, R12, R370, R407). -/

namespace Sys2Proof.Machine

theorem Blk.mem_all (b : Blk) : b ∈ Blk.all := by cases b <;> decide

/-- The BLK_ID register of each block lies in it, and its reset value is not zero. -/
theorem blkId_reset : ∀ b ∈ Blk.all, blkOf b.base = some b ∧ resetWord b.base &&& accMask b.base (fun _ => true) ≠ 0 := by
  decide +kernel

namespace State

/-! ### BLK_ID -/

theorem derived_blkId (s : State) (b : Blk) : s.derived b.base = none := by cases b <;> rfl

theorem hiddenReg_blkId (s : State) (b : Blk) : s.hiddenReg b.base = false := by cases b <;> rfl

theorem hiddenBits_blkId (s : State) (b : Blk) : s.hiddenBits b.base = 0 := by
  refine hiddenBits_outside ?_
  cases b <;> decide

/-- The BLK_ID register of a present block reads other than zero while it holds its reset value (R4). -/
theorem peekAt_blkId {s : State} {b : Blk} (hp : s.present b = true) (hreg : s.reg b.base = resetWord b.base) :
    s.peekAt b.base ≠ 0 := by
  obtain ⟨hblk, hne⟩ := blkId_reset b b.mem_all
  have hr : s.reaches b.base = true := by simp [reaches, hblk, hp]
  have hlt : b.base < 2 ^ 23 := by cases b <;> decide
  rw [peekAt_active hlt hr, value_eq (hiddenReg_blkId s b), derived_blkId, hiddenBits_blkId, Option.getD_none, hreg]
  rwa [show ~~~(0 : Word) = BitVec.allOnes 32 from rfl, BitVec.and_allOnes]

end State

/-- Settles O9: where no block answers, the access is the raising of event 3 and, for a read, the answer 0. -/
theorem absentBlockAccess : Obligations.AbsentBlockAccess := by
  unfold Obligations.AbsentBlockAccess
  intro path addr v s hs h4
  refine ⟨fun b => State.peekAt_blkId, fun habs => ⟨?_, ?_⟩⟩
  · have hread : Frame noReg s (s.sealed (s.busAccess path addr.toNat false none)) ∧
        (s.sealed (s.busAccess path addr.toNat false none)).evBit 3 = true ∧
        (s.sealed (s.busAccess path addr.toNat false none)).outs = (s.raise 3).outs ++ [.readData path addr.toNat 0] := by
      rw [State.busAccess_read path h4, State.read32_absent habs]
      exact ⟨((Frame.raise _ s 3).trans (Frame.emit _ _ _)).sealed, State.evBit_raise_self (n := 3) rfl, rfl⟩
    intro c hc
    rcases (List.mem_cons.1 hc).imp_right List.mem_singleton.1 with rfl | rfl <;> exact completes_awake rfl hs hread
  · have hwrite : s.busAccess path addr.toNat false (some v) = s.raise 3 := by
      rw [State.busAccess_write path v h4, State.write32_absent path _ habs]
    intro c hc
    rcases (List.mem_cons.1 hc).imp_right List.mem_singleton.1 with rfl | rfl <;>
      refine completes_awake rfl hs ?_ <;> rw [hwrite] <;>
      exact ⟨(Frame.raise _ s 3).sealed, State.evBit_raise_self (n := 3) rfl, rfl⟩

/-! ### Wide counters and latching reads -/

theorem lookup_put_self (l : List (Nat × Word)) (a : Nat) (v : Word) :
    (RegFile.put a v (l.filter fun p => p.1 != a)).lookup a = some v := by
  induction l with
  | nil => simp [RegFile.put]
  | cons p l ih =>
    obtain ⟨b, w⟩ := p
    by_cases hb : b = a
    · simpa [hb] using ih
    · simp only [List.filter_cons, bne_iff_ne, ne_eq, hb, not_false_eq_true, if_true, RegFile.put]
      split
      · simp
      · rw [List.lookup_cons, beq_false_of_ne (Ne.symm hb)]
        exact ih

namespace State

/-- A read of the low word of a wide counter holds its high word and clears both (R14). -/
theorem latch_readEffect_low {s : State} {a : Nat} {r : RegRow} (hr : regRow a = some r) (h : r.wide = 1)
    (hh : s.hiddenReg a = false) : (s.readEffect a).latch.lookup (a + 4) = some (s.reg (a + 4)) := by
  rw [readEffect_low hr h hh]
  exact lookup_put_self _ _ _

theorem reg_readEffect_low {s : State} {a : Nat} {r : RegRow} (hr : regRow a = some r) (h : r.wide = 1)
    (hh : s.hiddenReg a = false) (b : Nat) :
    (s.readEffect a).reg b = if b = a + 4 then 0 else if b = a then 0 else s.reg b := by
  rw [readEffect_low hr h hh]
  exact (reg_setReg _ _ _ _).trans (by rw [reg_setReg])

/-! ### TIM_NOW -/

theorem readEffect_timNow (s : State) : s.readEffect R.TIM_NOW_NS =
    ((s.setF F.TIM_NOW_SL_SEC (secOf s.clk.wall)).setF F.TIM_NOW_SH_SEC (secOf s.clk.wall / 2 ^ 32)).setF
      F.TIM_NOW_FR_FR (frOf s.clk.wall) := by
  have hrow : (regRow R.TIM_NOW_NS).map RegRow.wide = some 0 := by decide +kernel
  obtain ⟨r, hr, hw⟩ := Option.map_eq_some_iff.1 hrow
  have hh : s.hiddenReg R.TIM_NOW_NS = false := rfl
  simp [readEffect, hr, hw, hh]

theorem readWord_timNow (s : State) : s.readWord R.TIM_NOW_NS = BitVec.ofNat 32 (nsOf s.clk.wall) &&& 0x3FFFFFFF := by
  have hrow : (regRow R.TIM_NOW_NS).map RegRow.wide = some 0 := by decide +kernel
  obtain ⟨r, hr, hw⟩ := Option.map_eq_some_iff.1 hrow
  rw [readWord_value hr (by omega), value_eq rfl, hiddenBits_outside (by decide),
    show accMask R.TIM_NOW_NS (fun _ => true) = 0x3FFFFFFF by decide +kernel,
    show ~~~(0 : Word) = BitVec.allOnes 32 from rfl, BitVec.and_allOnes]
  rfl

end State

/-- Settles O11: the read commands answer `readWord` and have `readEffect`, whose three cases these are. -/
theorem latchingReads : Obligations.LatchingReads := by
  unfold Obligations.LatchingReads
  intro path a r s hs
  refine ⟨fun h4 hlt hr hreach hh => ⟨fun hw => ?low, fun hw => ?high⟩, ?timNow⟩
  case low =>
    have hreg := State.reg_readEffect_low hr hw hh
    refine completes_read_active path hs h4 (by omega) hreach ⟨?_, ?_, ?_, ?_, fun b h1 h2 => ?_, ?_⟩
    · rw [State.readWord_value hr (by omega), State.readEffect_low hr hw hh]; rfl
    · exact (hreg a).trans (by simp)
    · exact (hreg (a + 4)).trans (by simp)
    · exact State.latch_readEffect_low hr hw hh
    · exact (hreg b).trans (by simp [h1, h2])
    · rw [State.readEffect_low hr hw hh]; rfl
  case high =>
    refine completes_read_active path hs h4 (by omega) hreach ?_
    rw [State.readEffect_high hr hw, State.readWord_high hr hw hh]
    exact ⟨rfl, rfl⟩
  case timNow =>
    refine completes_awake rfl hs ?_
    rw [State.busAccess_read path (by decide), State.read32_active (by decide) rfl, State.readWord_timNow, State.readEffect_timNow]
    refine ⟨rfl, ?_, ?_, ?_, ?_⟩
    · rw [State.sealed_f, State.emit_f, State.f_setF_ne _ _ (by decide), State.f_setF_ne _ _ (by decide),
        State.f_setF_self _ _ _ (by decide)]
    · rw [State.sealed_f, State.emit_f, State.f_setF_ne _ _ (by decide), State.f_setF_self _ _ _ (by decide)]
    · rw [State.sealed_f, State.emit_f, State.f_setF_self _ _ _ (by decide)]
    · exact ((((Frame.setF s _ (by decide)).trans (Frame.setF _ _ (by decide))).trans (Frame.setF _ _ (by decide))).trans
        (Frame.emit _ _ _)).sealed

end Sys2Proof.Machine
end

section
/-! OBLIGATIONS. Reads of the register space by the bus and the Hatch, Hatch frames and boundary scan (R10, R12, R370, R407). -/

namespace Sys2Proof.Machine

namespace State

/-! ### The Hatch -/

theorem hatch_locked {s : State} (h : s.hatchOpen = false) (addr : Nat) (v : Word) :
    s.hatchRead addr = s ∧ s.hatchWrite addr v = s := by
  simp [hatchRead, hatchWrite, h]

/-- A Hatch read of a register answers the word that a peek of its address shows (R370). -/
theorem hatchRead_open {s : State} {a : Nat} {r : RegRow} (h : s.hatchOpen = true) (ha : a < 2 ^ 23) (h4 : a % 4 = 0)
    (hr : regRow a = some r) (hw : r.wide ≠ 2) (hreach : s.reaches a = true) :
    s.hatchRead a = (s.readEffect a).emit (.uart (uartFrame (leBytes 4 (s.peekAt a).toNat))) := by
  rw [peekAt_active ha hreach]
  have hmod : a % 2 ^ 24 = a := by omega
  simp only [hatchRead, h, h4, hmod, read32_active ha hreach, readWord_value hr hw]
  rfl

/-- A read changes nothing of what has been put out. -/
theorem readEffect_outs (s : State) (a : Nat) : (s.readEffect a).outs = s.outs := by
  unfold readEffect
  split
  · rfl
  · dsimp only
    repeat' split
    all_goals rfl

/-- A message of one word through a window that still waits for an answer is copied into the buffer, and SEND names its core. -/
theorem hatchMailbox_waiting {s : State} (c : Nat) (v : Word) (h : s.f (F.MGT_MW_STAT_SST 1) = 1) :
    s.hatchMailbox c [v] = (s.setReg (R.MGT_MW_BUF 1 0) v).setF (F.MGT_MW_SEND_CORE 1) c := by
  have hsst : ((s.setReg (R.MGT_MW_BUF 1 0) v).setF (F.MGT_MW_SEND_CORE 1) c).f (F.MGT_MW_STAT_SST 1) = 1 := by
    rw [f_setF_ne _ _ (by decide), f_setReg_ne _ _ (by decide), h]
  show (s.setReg (R.MGT_MW_BUF 1 0) v).mailboxSend 1 c = _
  simp [mailboxSend, hsst]

end State

/-! ### The parts of O13 -/

/-- A plain read answers the value of its register and clears its read-to-clear bits (R10, R12). -/
theorem completes_plainRead {s : State} {a : Nat} {r : RegRow} (path : Path) (hs : s.asleep = false) (h4 : a % 4 = 0)
    (ha : a < 2 ^ 23) (hr : regRow a = some r) (hw : r.wide = 0) (hreach : s.reaches a = true) (hh : s.hiddenReg a = false)
    (h1 : a ≠ R.TIM_NOW_NS) (h2 : a ≠ R.CMT_DPORT_DATA) (h3 : a ≠ R.NVS_RD_DATA) :
    Completes (.rcRead path (BitVec.ofNat 24 a) false) s fun t =>
      t.outs = s.outs ++ [.readData path a (s.value a)] ∧
      t.reg a = s.reg a &&& ~~~ accMask a (fun f => f.acc == .rc) ∧ Frame (fun b => b == a) s t := by
  refine completes_read_active path hs h4 ha hreach ?_
  rw [State.readWord_value hr (by omega), State.readEffect_plain hr hw hh h1 h2 h3]
  by_cases hm : accMask a (fun f => f.acc == .rc) = 0
  · rw [if_pos hm, hm]
    exact ⟨rfl, (show _ &&& BitVec.allOnes 32 = _ from BitVec.and_allOnes).symm, (Frame.emit _ _ _).sealed⟩
  · rw [if_neg hm]
    exact ⟨rfl, State.reg_setReg_self s a _, ((Frame.setReg s _ (by simp)).trans (Frame.emit _ _ _)).sealed⟩

/-- A Hatch write is the register write of its address, with an empty answer (R370). -/
theorem exec_hatchWrite_open {s : State} (addr v : Word) (hs : s.asleep = false) (h : s.hatchOpen = true) :
    ∃ u, exec (.registerWrite .hatch (addr.setWidth 24) false (v.setWidth 64)) s = .next u ∧
      exec (.hatchWrite addr v) s = .next { u with outs := u.outs ++ [.uart (uartFrame [])] } := by
  refine ⟨_, exec_registerWrite _ _ _ _ _, ?_⟩
  show s.finish (s.awake fun s => s.hatchWrite addr.toNat v) = _
  simp [State.awake, hs, State.hatchWrite, h, State.finish, BitVec.toNat_setWidth]
  rfl

/-- Entering or leaving a boundary-scan instruction (R407): TCK toggles now, and MCOMP is off while the instruction lasts. -/
theorem completes_boundaryScan (enter : Bool) (s : State) : Completes (.boundaryScanInstruction enter) s fun t =>
    t.rps.bscan = enter ∧ t.derived R.HCH_STAT = some 1 ∧ (enter = true → t.f F.THM_STATUS_MCOMP = 0) ∧
    Frame (fun a => a == R.THM_STATUS) s t ∧ t.outs = s.outs := by
  refine completes_always rfl ⟨rfl, ?_, ?_, ?_, rfl⟩
  · show some (BitVec.ofNat 32 (decide (s.clk.now ≤ s.clk.now + 1000000)).toNat) = some 1
    simp
  · rintro rfl
    simp [State.boundaryScan, State.noteMcomp, State.f_setF_self]
  · exact ((Frame.setRps _ s _).trans (Frame.setF _ _ rfl)).sealed

/-- Settles O13. -/
theorem readsHatchAndBoundaryScan : Obligations.ReadsHatchAndBoundaryScan := by
  unfold Obligations.ReadsHatchAndBoundaryScan
  refine ⟨fun path a s hs h4 ha r hr hw hreach hh h1 h2 h3 => completes_plainRead path hs h4 ha hr hw hreach hh h1 h2 h3,
    fun addr v core s hs => ⟨fun hlock => ?locked, fun r hopen ha h4 hr hw hreach => ?read,
      exec_hatchWrite_open addr v hs, ?bad, fun hsst => ?mailbox⟩, completes_boundaryScan⟩
  case locked =>
    obtain ⟨hread, hwrite⟩ := State.hatch_locked hlock addr.toNat v
    constructor
    · show s.finish (s.awake fun s => s.hatchRead addr.toNat) = _
      simp [State.awake, hs, hread, State.finish, State.sealed]
    · show s.finish (s.awake fun s => s.hatchWrite addr.toNat v) = _
      simp [State.awake, hs, hwrite, State.finish, State.sealed]
  case read =>
    refine completes_awake rfl hs ?_
    rw [State.hatchRead_open hopen ha h4 hr hw hreach]
    simp [State.readEffect_outs]
  case bad =>
    refine completes_awake rfl hs ⟨?_, (Frame.setF s _ rfl).sealed, rfl⟩
    exact State.f_setF_self s F.HCH_UERR_COUNT _ (by decide)
  case mailbox =>
    refine completes_awake rfl hs ?_
    rw [State.hatchMailbox_waiting core.val v hsst]
    refine ⟨?_, ?_, ((Frame.setReg s _ (by decide)).trans (Frame.setF _ _ (by decide))).sealed⟩
    · rw [State.sealed_reg, State.reg_setF_ne _ _ (by decide), State.reg_setReg_self]
    · rw [State.sealed_f, State.f_setF_self _ _ _ (by decide)]
      exact Nat.mod_eq_of_lt core.isLt

end Sys2Proof.Machine
end

section
/-! OBLIGATIONS. The host link (R308, R314) and the interrupt vectors (R321). -/

namespace Sys2Proof.Machine

/-! ### Vectors of entries -/

theorem tabAt_tabMod_self {α : Type} {n : Nat} (v : Vector α n) {i : Nat} (g : α → α) (d : α) (h : i < n) :
    tabAt (tabMod v i g) i d = g (tabAt v i d) := by
  simp [tabAt, tabMod, List.getD_eq_getElem?_getD, h]

theorem tabAt_tabMod_ne {α : Type} {n : Nat} (v : Vector α n) {i j : Nat} (g : α → α) (d : α) (h : j ≠ i) :
    tabAt (tabMod v i g) j d = tabAt v j d := by
  simp [tabAt, tabMod, List.getD_eq_getElem?_getD, Ne.symm h]

theorem getLsbD_twoPow_self {v : Nat} (h : v < 64) : (BitVec.ofNat 64 (2 ^ v)).getLsbD v = true := by
  rw [BitVec.getLsbD_ofNat, Nat.testBit_two_pow_self, decide_eq_true h]; rfl

/-! ### Register files -/

theorem RegFile.get_of_not_mem {r : RegFile} {a : Nat} (h : ∀ q ∈ r, q.1 ≠ a) : RegFile.get r a = resetWord a := by
  induction r with
  | nil => rfl
  | cons q r ih =>
    obtain ⟨b, w⟩ := q
    have hb : a ≠ b := Ne.symm (h (b, w) (by simp))
    rw [RegFile.get, if_neg hb]
    exact ih fun q hq => h q (by simp [hq])

/-- A cleared register holds its reset value, every other one its word. -/
theorem RegFile.get_clear (r : RegFile) (p : Nat → Bool) (a : Nat) :
    RegFile.get (RegFile.clear r p) a = if p a then resetWord a else RegFile.get r a := by
  induction r with
  | nil => simp [RegFile.clear, RegFile.get]
  | cons q r ih =>
    obtain ⟨b, w⟩ := q
    rw [RegFile.clear] at ih ⊢
    by_cases hb : p b = true
    · simp only [List.filter_cons, hb, Bool.not_true, Bool.false_eq_true, if_false, ih, RegFile.get]
      repeat' split
      all_goals simp_all
    · simp only [List.filter_cons, hb, Bool.not_false, if_true, RegFile.get, ih]
      repeat' split
      all_goals simp_all

/-- A word with the bits of `m` taken from `o`. -/
def mergeBits (m w o : Word) : Word := (w &&& ~~~ m) ||| (o &&& m)

theorem mergeBits_idem (m w o : Word) : mergeBits m (mergeBits m w o) o = mergeBits m w o := by
  unfold mergeBits; ext i; simp; grind

theorem mergeBits_zero (w o : Word) : mergeBits 0 w o = w := by
  show w &&& BitVec.allOnes 32 ||| o &&& 0#32 = w
  rw [BitVec.and_allOnes, BitVec.and_zero, BitVec.or_zero]

theorem mergeBits_self (m w : Word) : mergeBits m w w = w := by
  unfold mergeBits; ext i; simp; grind

namespace State

theorem present_hst_of {s t : State} (hf : t.fuses = s.fuses) (hr : t.reg R.SYS_ROLE = s.reg R.SYS_ROLE) :
    t.present .HST = s.present .HST := by
  have hrole : t.role = s.role := congrArg F.SYS_ROLE_ROLE.get hr
  simp [present, part7440, isTile, hf, hrole]

/-! ### The return of the port to its reset values (R308) -/

/-- The staged bits of one register taken from the register file `old` (R308). -/
def keepStaged (old : RegFile) (s : State) (p : Nat × Word) : State :=
  if stMask p.1 = 0 then s else s.setReg p.1 (mergeBits (stMask p.1) (s.reg p.1) (RegFile.get old p.1))

theorem keepStaged_eq (old : RegFile) (s : State) (p : Nat × Word) : ∃ g, keepStaged old s p = { s with regs := g } ∧
    ∀ b, RegFile.get g b = if b = p.1 then mergeBits (stMask b) (s.reg b) (RegFile.get old b) else s.reg b := by
  unfold keepStaged
  split
  · rename_i hm
    refine ⟨s.regs, rfl, fun b => ?_⟩
    split
    · rename_i hb
      rw [hb, hm, mergeBits_zero]; rfl
    · rfl
  · refine ⟨_, rfl, fun b => ?_⟩
    rw [RegFile.get_set]
    split
    · rename_i hb; rw [hb]
    · rfl

theorem foldl_keepStaged (old : RegFile) (l : List (Nat × Word)) (s : State) :
    ∃ g, l.foldl (keepStaged old) s = { s with regs := g } ∧ ∀ b, RegFile.get g b =
      if b ∈ l.map Prod.fst then mergeBits (stMask b) (s.reg b) (RegFile.get old b) else s.reg b := by
  induction l generalizing s with
  | nil => exact ⟨s.regs, rfl, fun b => rfl⟩
  | cons p l ih =>
    obtain ⟨g, hg, hgb⟩ := keepStaged_eq old s p
    obtain ⟨g', hg', hgb'⟩ := ih { s with regs := g }
    refine ⟨g', by rw [List.foldl_cons, hg, hg'], fun b => ?_⟩
    rw [hgb' b, show ({ s with regs := g } : State).reg b = RegFile.get g b from rfl, hgb b]
    by_cases hp : b = p.1 <;> by_cases hl : b ∈ l.map Prod.fst <;> simp [hp, hl, mergeBits_idem]

/-- What a link loss and a function-level reset do: every register of the port at its reset value but for its staged bits, the size
of the window from the record, the rings stopped. -/
theorem hstReset_eq (s : State) : ∃ g t, t = { s with regs := g } ∧
    s.hstReset = ((t.setF F.HST_W2_SIZE_SIZE (t.f (F.NVS_OPT_OPT 1) / 2 ^ 16)).setHst fun h =>
      { h with rings := .replicate 9 {} }).setPcie (fun p => { ready := p.ready, bar2On := p.bar2On }) ∧
    ∀ a, RegFile.get g a = if inBlk .HST a then mergeBits (stMask a) (resetWord a) (s.reg a) else s.reg a := by
  obtain ⟨g, hg, hgb⟩ := foldl_keepStaged s.regs (s.regs.filter fun p => inBlk .HST p.1)
    { s with regs := RegFile.clear s.regs (inBlk .HST) }
  refine ⟨g, _, hg, rfl, fun a => ?_⟩
  have hclear : ({ s with regs := RegFile.clear s.regs (inBlk .HST) } : State).reg a =
      if inBlk .HST a then resetWord a else s.reg a := RegFile.get_clear _ _ _
  rw [hgb a, hclear]
  by_cases hin : inBlk .HST a = true
  · by_cases hmem : a ∈ (s.regs.filter fun p => inBlk .HST p.1).map Prod.fst
    · simp [hmem, hin]; rfl
    · have hreset : s.reg a = resetWord a := RegFile.get_of_not_mem fun q hq hqa =>
        hmem (List.mem_map.2 ⟨q, List.mem_filter.2 ⟨hq, by rw [hqa]; exact hin⟩, hqa⟩)
      simp [hmem, hin, hreset, mergeBits_self]
  · have hmem : a ∉ (s.regs.filter fun p => inBlk .HST p.1).map Prod.fst := by
      rintro h
      obtain ⟨q, hq, rfl⟩ := List.mem_map.1 h
      exact hin (List.mem_filter.1 hq).2
    simp [hmem, hin]

/-- The registers after a link loss or a function-level reset: those of the port as `hstReset_eq` says, every other one its word. -/
theorem reg_hstReset (s : State) {a : Nat} (ha : a ≠ R.HST_W2_SIZE) :
    s.hstReset.reg a = if inBlk .HST a then mergeBits (stMask a) (resetWord a) (s.reg a) else s.reg a := by
  obtain ⟨g, t, rfl, he, hg⟩ := hstReset_eq s
  rw [he, ← hg a, setPcie, setHst_reg, setHst_reg, reg_setF_ne _ _ ha]
  rfl

theorem frame_hstReset (s : State) : Frame (inBlk .HST) s s.hstReset := by
  obtain ⟨g, t, rfl, he, hg⟩ := hstReset_eq s
  rw [he]
  refine Frame.trans (Frame.of_regs fun a ha => ?_) ((Frame.setF _ _ (by decide)).trans
    ((Frame.setHst _ _ _).trans (Frame.setHst _ _ _)))
  rw [hg a, ha]; rfl

theorem rings_hstReset (s : State) : s.hstReset.hst.rings = .replicate 9 {} := by
  obtain ⟨g, t, rfl, he, -⟩ := hstReset_eq s
  rw [he]; rfl

theorem present_hstReset (s : State) : s.hstReset.present .HST = s.present .HST := by
  refine present_hst_of ?_ (reg_hstReset s (by decide))
  obtain ⟨g, t, rfl, he, -⟩ := hstReset_eq s
  rw [he]; rfl

/-- No register of the host port is one that events write. -/
theorem evReg_hst {a : Nat} (h : inBlk .HST a = true) : evReg a = false := by
  have hlt : 0x300000 ≤ a ∧ a < 0x300000 + 0x400 := of_decide_eq_true h
  have hev : ¬ (0x360000 ≤ a ∧ a < 0x360900) := by omega
  have hdrop : a ≠ 0x24068C := by omega
  simp [evReg, hev, hdrop]

/-- The return of the port to its reset values, with the event of its cause. -/
theorem hstReset_raise {s : State} {n : Nat} (hp : s.present .HST = true) (hn : evOwner n = some .HST) :
    (∀ a, inBlk .HST a = true → a ≠ R.HST_W2_SIZE →
      (s.hstReset.raise n).reg a = (resetWord a &&& ~~~ stMask a) ||| (s.reg a &&& stMask a)) ∧
    (s.hstReset.raise n).hst.rings = .replicate 9 {} ∧ (s.hstReset.raise n).evBit n = true ∧
    Frame (inBlk .HST) s (s.hstReset.raise n) := by
  refine ⟨fun a ha hsize => ?_, ?_, evBit_raise_self (evLive_of_owner hn ((present_hstReset s).trans hp)),
    (frame_hstReset s).trans (Frame.raise _ _ n)⟩
  · rw [reg_raise _ _ (evReg_hst ha), reg_hstReset s hsize, if_pos ha]; rfl
  · rw [raise_rings, rings_hstReset]

/-! ### Training of the link (R314) -/

theorem linkCapy_lt : ∀ speed ≤ 5, ∀ width ≤ 16, linkCapy speed width < 2 ^ 16 := by decide

/-- The state with the speed, the width and the capacity of the trained link shown. -/
def linkShown (s : State) (speed width : Nat) : State :=
  (((s.setF F.HST_LINK_SPEED speed).setF F.HST_LINK_WIDTH width).setF F.HST_LINK_UP 1).setF F.HST_LINK_CAPY (linkCapy speed width)

theorem linkTrained_eq {s : State} (speed width : Nat) (hp : s.present .HST = true) : s.linkTrained speed width =
    ((s.linkShown speed width).raise 137).raiseIf (decide (linkCapy speed width < s.f F.HST_LOAD_LOAD)) 138 := by
  have hload : (s.linkShown speed width).f F.HST_LOAD_LOAD = s.f F.HST_LOAD_LOAD := by
    rw [linkShown, f_setF_ne _ _ (by decide), f_setF_ne _ _ (by decide), f_setF_ne _ _ (by decide), f_setF_ne _ _ (by decide)]
  rw [← hload]
  simp only [linkTrained, hp]; rfl

theorem linkShown_fields {s : State} {speed width : Nat} (hs : speed ≤ 5) (hw : width ≤ 16) :
    (s.linkShown speed width).f F.HST_LINK_SPEED = speed ∧ (s.linkShown speed width).f F.HST_LINK_WIDTH = width ∧
    (s.linkShown speed width).f F.HST_LINK_UP = 1 ∧ (s.linkShown speed width).f F.HST_LINK_CAPY = linkCapy speed width := by
  have hc := linkCapy_lt speed hs width hw
  refine ⟨?_, ?_, ?_, ?_⟩ <;> simp [linkShown, f_setF_disjoint, f_setF_self] <;> omega

theorem present_linkShown (s : State) (speed width : Nat) : (s.linkShown speed width).present .HST = s.present .HST :=
  present_hst_of rfl (by
    rw [linkShown, reg_setF_ne _ _ (by decide), reg_setF_ne _ _ (by decide), reg_setF_ne _ _ (by decide), reg_setF_ne _ _ (by decide)])

theorem frame_linkShown (s : State) (speed width : Nat) : Frame (fun a => a == R.HST_LINK) s (s.linkShown speed width) :=
  (((Frame.setF s _ rfl).trans (Frame.setF _ _ rfl)).trans (Frame.setF _ _ rfl)).trans (Frame.setF _ _ rfl)

/-! ### Vectors (R321) -/

theorem onlyEvents_msixFlush (s : State) : OnlyEvents s s.msixFlush := by
  unfold msixFlush
  generalize List.range 64 = l
  induction l generalizing s with
  | nil => exact OnlyEvents.refl s
  | cons v l ih =>
    rw [List.foldl_cons]
    refine OnlyEvents.trans ?_ (ih _)
    split
    · exact onlyEvents_msixSend s v
    · exact OnlyEvents.refl s

theorem msixFlush_table (s : State) : s.msixFlush.hst.pcie.table = s.hst.pcie.table := by
  unfold msixFlush
  generalize List.range 64 = l
  induction l generalizing s with
  | nil => rfl
  | cons v l ih =>
    rw [List.foldl_cons, ih]
    split
    · exact msixSend_table s v
    · rfl

/-- Every queued message sent: the change of an entry stays, and registers and memories are as they were. -/
theorem frame_setPcie_flush (s : State) (g : Pcie → Pcie) : Frame noReg s (s.setPcie g).msixFlush :=
  (Frame.setHst _ s _).trans ((onlyEvents_msixFlush _).frame _)

/-- A masked, disabled or held vector keeps its event pending. -/
theorem msixSend_kept {s : State} {v : Nat} (h : s.hst.pcie.msixOn = false ∨ s.hst.pcie.funMask = true ∨
    (tabAt s.hst.pcie.table v (0, 0, true)).2.2 = true ∨ s.hst.pcie.hold.getLsbD v = true) :
    s.msixSend v = s.setPcie fun p => { p with pba := p.pba ||| BitVec.ofNat 64 (2 ^ v) } := by
  unfold msixSend
  dsimp only
  rw [if_pos (by rcases h with h | h | h | h <;> simp only [h, Bool.or_true, Bool.true_or, Bool.not_false])]
  rfl

/-- The hold-off bits after a message of a vector: its own is set where its hold-off time is not 0. -/
def heldAfter (s : State) (v : Nat) : BitVec 64 :=
  if s.f (F.EVT_VEC_CTL_HOLDOFF v) = 0 then s.hst.pcie.hold else s.hst.pcie.hold ||| BitVec.ofNat 64 (2 ^ v)

/-- A vector that nothing keeps back sends its message and enters its hold-off. -/
theorem msixSend_sent {s : State} {v addr : Nat} {data : Word} (hon : s.hst.pcie.msixOn = true) (hmask : s.hst.pcie.funMask = false)
    (he : tabAt s.hst.pcie.table v (0, 0, true) = (addr, data, false)) (hh : s.hst.pcie.hold.getLsbD v = false) :
    s.msixSend v = (s.setPcie fun p => { p with pba := p.pba &&& ~~~ BitVec.ofNat 64 (2 ^ v), hold := s.heldAfter v }).emit
      (.msix v addr data) := by
  unfold msixSend
  dsimp only
  rw [if_neg (by rw [hon, hmask, he, hh]; simp), he]
  rfl

/-- The state in which the hold-off of a vector is over. -/
def released (s : State) (v : Nat) : State := s.setPcie fun p => { p with hold := p.hold &&& ~~~ BitVec.ofNat 64 (2 ^ v) }

theorem released_hold (s : State) {v : Nat} (hv : v < 64) : (s.released v).hst.pcie.hold.getLsbD v = false := by
  show (s.hst.pcie.hold &&& ~~~ BitVec.ofNat 64 (2 ^ v)).getLsbD v = false
  rw [BitVec.getLsbD_and, BitVec.getLsbD_not, getLsbD_twoPow_self hv]
  simp

theorem holdoffEnd_eq (s : State) (v : Nat) : s.holdoffEnd v =
    if s.hst.pcie.hold.getLsbD v then (if s.hst.pcie.pba.getLsbD v then (s.released v).msixSend v else s.released v) else s := by
  unfold holdoffEnd
  cases s.hst.pcie.hold.getLsbD v <;> rfl

end State

/-! ### The parts of O44 -/

theorem completes_linkTrained {s : State} (speed : Fin 8) (width : Fin 32) (hs : s.asleep = false) (hp : s.present .HST = true)
    (h5 : speed.val ≤ 5) (h16 : width.val ≤ 16) : Completes (.linkTrained speed width) s fun t =>
      t.f F.HST_LINK_SPEED = speed.val ∧ t.f F.HST_LINK_WIDTH = width.val ∧ t.f F.HST_LINK_UP = 1 ∧
      t.f F.HST_LINK_CAPY = State.linkCapy speed.val width.val ∧ t.evBit 137 = true ∧
      (State.linkCapy speed.val width.val < s.f F.HST_LOAD_LOAD → t.evBit 138 = true) ∧ Frame (fun a => a == R.HST_LINK) s t := by
  refine completes_awake rfl hs ?_
  rw [State.linkTrained_eq _ _ hp]
  generalize hu : s.linkShown speed.val width.val = u
  generalize hc : decide (State.linkCapy speed.val width.val < s.f F.HST_LOAD_LOAD) = c
  obtain ⟨f1, f2, f3, f4⟩ := hu ▸ State.linkShown_fields (s := s) h5 h16
  have hpu : u.present .HST = true := hu ▸ (State.present_linkShown s _ _).trans hp
  have hf : ∀ {x : Fld}, evReg x.addr = false → (s.sealed ((u.raise 137).raiseIf c 138)).f x = u.f x := fun hx =>
    (State.f_raiseIf _ _ _ hx).trans (State.f_raise _ _ hx)
  have hbit : (u.raise 137).evBit 137 = true := State.evBit_raise_self (State.evLive_of_owner rfl hpu)
  have hp138 : (u.raise 137).present .HST = true :=
    (State.present_hst_of (State.raise_fuses _ _) (State.reg_raise _ _ rfl)).trans hpu
  refine ⟨(hf rfl).trans f1, (hf rfl).trans f2, (hf rfl).trans f3, (hf rfl).trans f4, ?_, fun hlt => ?_, ?_⟩
  · show ((u.raise 137).raiseIf c 138).evBit 137 = true
    unfold State.raiseIf
    split
    · exact State.evBit_raise_mono _ (by decide) hbit
    · exact hbit
  · rw [decide_eq_true hlt] at hc
    subst hc
    exact State.evBit_raise_self (State.evLive_of_owner rfl hp138)
  · exact ((hu ▸ State.frame_linkShown s _ _).trans ((Frame.raise _ _ _).trans (Frame.raiseIf _ _ _ _))).sealed

theorem completes_hostReset {s : State} (hs : s.asleep = false) (hp : s.present .HST = true) :
    ∀ c ∈ [Instr.linkDown, .functionLevelReset], Completes c s fun t =>
      (∀ a, inBlk .HST a = true → a ≠ R.HST_W2_SIZE → t.reg a = (resetWord a &&& ~~~ stMask a) ||| (s.reg a &&& stMask a)) ∧
      t.hst.rings = .replicate 9 {} ∧ t.evBit (if c = .linkDown then 137 else 140) = true ∧ Frame (inBlk .HST) s t := by
  intro c hc
  rcases (List.mem_cons.1 hc).imp_right List.mem_singleton.1 with rfl | rfl
  · obtain ⟨hreg, hrings, hbit, hframe⟩ := State.hstReset_raise (n := 137) hp rfl
    refine completes_awake rfl hs ?_
    rw [State.linkDown, if_pos hp, if_pos rfl]
    exact ⟨hreg, hrings, hbit, hframe.sealed⟩
  · obtain ⟨hreg, hrings, hbit, hframe⟩ := State.hstReset_raise (n := 140) hp rfl
    refine completes_awake rfl hs ?_
    rw [State.functionLevelReset, if_pos hp, if_neg (by simp)]
    exact ⟨hreg, hrings, hbit, hframe.sealed⟩

/-- The data word of an entry of the MSI-X table as written and as read (R321). -/
theorem completes_msixData {s : State} (o : BitVec 12) (w : Word) (hs : s.asleep = false) (hp : s.present .HST = true)
    (ho : o.toNat < 1024) (h8 : o.toNat % 16 = 8) :
    Completes (.msixTableAccess o (some w)) s (fun t => (tabAt t.hst.pcie.table (o.toNat / 16) (0, 0, true)).2.1 = w ∧
      (∀ u, u ≠ o.toNat / 16 → tabAt t.hst.pcie.table u (0, 0, true) = tabAt s.hst.pcie.table u (0, 0, true)) ∧ Frame noReg s t) ∧
    Completes (.msixTableAccess o none) s fun t => t = { s with outs := s.outs ++
      [.completion 0 (leBytes 4 (tabAt s.hst.pcie.table (o.toNat / 16) (0, 0, true)).2.1.toNat)] } := by
  have hv : o.toNat / 16 < 64 := by omega
  have hdata : o.toNat % 16 / 4 = 2 := by omega
  constructor
  · refine completes_awake rfl hs ?_
    have he : s.msixTable o.toNat (some w) = (s.setPcie fun p => { p with table := tabMod p.table (o.toNat / 16) fun _ =>
        ((tabAt s.hst.pcie.table (o.toNat / 16) (0, 0, true)).1, w, (tabAt s.hst.pcie.table (o.toNat / 16) (0, 0, true)).2.2) }).msixFlush := by
      simp [State.msixTable, hp, Nat.not_le.2 hv, hdata]
    rw [he]
    refine ⟨?_, fun u hu => ?_, (State.frame_setPcie_flush s _).sealed⟩
    · rw [State.sealed_hst, State.msixFlush_table]
      exact congrArg (fun e : Nat × Word × Bool => e.2.1) (tabAt_tabMod_self _ _ _ hv)
    · rw [State.sealed_hst, State.msixFlush_table]
      exact tabAt_tabMod_ne _ _ _ hu
  · refine completes_awake rfl hs ?_
    simp [State.msixTable, hp, hv, hdata]
    rfl

/-- The end of a hold-off (R321): what merged during it is sent, or stays pending under a mask. -/
theorem completes_holdoffEnd {s : State} (v : Fin 64) (hs : s.asleep = false) (hhold : s.hst.pcie.hold.getLsbD v.val = true) :
    (s.hst.pcie.pba.getLsbD v.val = false → Completes (.msixHoldoffEnd v) s fun t =>
      t.hst.pcie = { s.hst.pcie with hold := s.hst.pcie.hold &&& ~~~ BitVec.ofNat 64 (2 ^ v.val) } ∧ t.outs = s.outs ∧
      Frame noReg s t) ∧
    (s.hst.pcie.pba.getLsbD v.val = true → s.hst.pcie.msixOn = true →
      s.hst.pcie.funMask = false → ∀ addr data, tabAt s.hst.pcie.table v.val (0, 0, true) = (addr, data, false) →
      Completes (.msixHoldoffEnd v) s fun t => t.outs = s.outs ++ [.msix v.val addr data] ∧
        t.hst.pcie.pba.getLsbD v.val = false ∧ t.hst.pcie.hold.getLsbD v.val = decide (s.f (F.EVT_VEC_CTL_HOLDOFF v) ≠ 0) ∧
        Frame noReg s t) ∧
    (s.hst.pcie.pba.getLsbD v.val = true →
      s.hst.pcie.msixOn = false ∨ s.hst.pcie.funMask = true ∨ (tabAt s.hst.pcie.table v.val (0, 0, true)).2.2 = true →
      Completes (.msixHoldoffEnd v) s fun t => t.outs = s.outs ∧ t.hst.pcie.pba.getLsbD v.val = true ∧
        t.hst.pcie.hold.getLsbD v.val = false ∧ Frame noReg s t) := by
  have hfree := s.released_hold v.isLt
  have hset := getLsbD_twoPow_self v.isLt
  refine ⟨fun hpba => ?idle, fun hpba hon hmask addr data he => ?sent, fun hpba hkeep => ?kept⟩ <;>
    refine completes_awake rfl hs ?_ <;> rw [State.holdoffEnd_eq, if_pos hhold]
  case idle =>
    rw [if_neg (by rw [hpba]; decide)]
    exact ⟨rfl, rfl, (Frame.setHst _ s _).sealed⟩
  case sent =>
    rw [if_pos hpba, State.msixSend_sent (s := s.released v.val) hon hmask he hfree]
    refine ⟨rfl, ?_, ?_, ((Frame.setHst _ s _).trans ((Frame.setHst _ _ _).trans (Frame.emit _ _ _))).sealed⟩
    · show (s.hst.pcie.pba &&& ~~~ BitVec.ofNat 64 (2 ^ v.val)).getLsbD v.val = false
      rw [BitVec.getLsbD_and, BitVec.getLsbD_not, hset]; simp
    · show ((s.released v.val).heldAfter v.val).getLsbD v.val = decide (s.f (F.EVT_VEC_CTL_HOLDOFF v) ≠ 0)
      unfold State.heldAfter
      rw [show (s.released v.val).f (F.EVT_VEC_CTL_HOLDOFF v.val) = s.f (F.EVT_VEC_CTL_HOLDOFF v.val) from rfl]
      split
      · rename_i h0
        rw [hfree, h0]; rfl
      · rename_i h0
        rw [BitVec.getLsbD_or, hset, Bool.or_true, decide_eq_true h0]
  case kept =>
    rw [if_pos hpba, State.msixSend_kept (s := s.released v.val) (hkeep.imp_right (·.imp_right .inl))]
    refine ⟨rfl, ?_, hfree, ((Frame.setHst _ s _).trans (Frame.setHst _ _ _)).sealed⟩
    show (s.hst.pcie.pba ||| BitVec.ofNat 64 (2 ^ v.val)).getLsbD v.val = true
    rw [BitVec.getLsbD_or, hset, Bool.or_true]

/-- Settles O44. -/
theorem hostLinkAndVectors : Obligations.HostLinkAndVectors := by
  unfold Obligations.HostLinkAndVectors
  refine ⟨fun speed width s hs hp => ⟨completes_linkTrained speed width hs hp, completes_hostReset hs hp⟩,
    fun o w v s hs hp => ⟨completes_msixData o w hs hp, fun hhold => ?_,
      fun hhold => (completes_holdoffEnd v hs hhold).1, fun hhold => (completes_holdoffEnd v hs hhold).2.1,
      fun hhold => (completes_holdoffEnd v hs hhold).2.2⟩⟩
  show s.finish (s.awake fun s => s.holdoffEnd v.val) = _
  rw [State.awake, State.holdoffEnd_eq, hhold, hs]
  rfl

end Sys2Proof.Machine
end

section
/-! SUPPORT. No write to the register space changes the queue of commands or the fuses: one lemma for each operation that a write may
start, in the order in which they build on each other. -/

namespace Sys2Proof.Machine

namespace State

/-- What no command may change: the queue and the fuses. -/
def given (s : State) : List Instr × Fuses := (s.pending, s.fuses)

@[simp] theorem given_mk {pending fuses regs stage latch clk tim dsp cmt hst thm fmc fab snd cmc cor drv lux nvs ubuf lan par mgt rps
    recs evSeq dram mram lineStore outs free} : given ⟨pending, fuses, regs, stage, latch, clk, tim, dsp, cmt, hst, thm, fmc, fab, snd,
    cmc, cor, drv, lux, nvs, ubuf, lan, par, mgt, rps, recs, evSeq, dram, mram, lineStore, outs, free⟩ = (pending, fuses) := by
  unfold given; rfl

@[simp] theorem pending_fuses (s : State) : (s.pending, s.fuses) = s.given := by
  unfold given; rfl

theorem sealed_of_given {s t : State} (h : t.given = s.given) : s.sealed t = t := by
  obtain ⟨hp, hf⟩ := Prod.mk.inj h
  rw [State.sealed, ← hp, ← hf]

theorem given_foldl {α : Type} {g : State → α → State} (hg : ∀ s x, (g s x).given = s.given) (l : List α) (s : State) :
    (l.foldl g s).given = s.given := by
  induction l generalizing s with
  | nil => rfl
  | cons x l ih => rw [List.foldl_cons, ih, hg]

@[simp] theorem raise_given (s : State) (n : Nat) : (s.raise n).given = s.given :=
  Prod.ext (raise_pending s n) (raise_fuses s n)

@[simp] theorem raiseIf_given (s : State) (c : Bool) (n : Nat) : (s.raiseIf c n).given = s.given :=
  Prod.ext (raiseIf_pending s c n) (raiseIf_fuses s c n)

@[simp] theorem setF_given (s : State) (x : Fld) (v : Nat) : (s.setF x v).given = s.given := by simp [setF]

@[simp] theorem setReg_given (s : State) (a : Nat) (v : Word) : (s.setReg a v).given = s.given := by simp [setReg]

@[simp] theorem bump_given (s : State) (x : Fld) : (s.bump x).given = s.given := by simp [bump]

@[simp] theorem emit_given (s : State) (o : Out) : (s.emit o).given = s.given := by simp [emit]

@[simp] theorem storeStage_given (s : State) (a : Nat) (v : Word) : (s.storeStage a v).given = s.given := by simp [storeStage]

@[simp] theorem setPar_given (s : State) (g : ParSt → ParSt) : (s.setPar g).given = s.given := by simp [setPar]

@[simp] theorem lanP_given (s : State) (p : Nat) (g : LanPort → LanPort) : (s.lanP p g).given = s.given := by simp [lanP]

@[simp] theorem sendBlock_given (s : State) (p : Nat) (b : List Byte) : (s.sendBlock p b).given = s.given := by
  simp [sendBlock, apply_ite given]

@[simp] theorem pairSeq_given (s : State) (typ : Nat) (tspec payload : List Byte) :
    (s.pairSeq typ tspec payload).given = s.given := by
  simp [pairSeq, apply_ite given]

@[simp] theorem stageWrite_given (s : State) (a : Nat) (v : Word) : (s.stageWrite a v).given = s.given := by
  simp [stageWrite, apply_ite given]

@[simp] theorem calNote_given (s : State) (p : Nat) (g : LanCal → LanCal) : (s.calNote p g).given = s.given := by simp [calNote]

@[simp] theorem senderRef_given (s : State) : s.senderRef.given = s.given := by simp [senderRef, apply_ite given]

@[simp] theorem rxTo_given (s : State) (p st : Nat) : (s.rxTo p st).given = s.given := by simp [rxTo, apply_ite given]

@[simp] theorem txEdge_given (s : State) (p : Nat) : (s.txEdge p).given = s.given := by simp [txEdge, apply_ite given]

@[simp] theorem toIdle_given (s : State) (p : Nat) : (s.toIdle p).given = s.given := by simp [toIdle]

@[simp] theorem loopEdge_given (s : State) (p : Nat) : (s.loopEdge p).given = s.given := by simp [loopEdge, apply_ite given]

@[simp] theorem singleEdge_given (s : State) (p : Nat) : (s.singleEdge p).given = s.given := by unfold singleEdge; split <;> simp

@[simp] theorem noteTx_given (s : State) (p : Nat) : (s.noteTx p).given = s.given := by simp [noteTx, apply_ite given]

@[simp] theorem loopExit_given (s : State) (p : Nat) : (s.loopExit p).given = s.given := by simp [loopExit, apply_ite given]

@[simp] theorem loopEnter_given (s : State) (p v : Nat) : (s.loopEnter p v).given = s.given := by
  simp [loopEnter, apply_ite given]

@[simp] theorem takeFree_given (s : State) (w : Nat) : (s.takeFree w).2.given = s.given := by simp [takeFree]

@[simp] theorem testPattern_given (s : State) (p : Nat) : (s.testPattern p).given = s.given := by
  unfold testPattern
  split
  · rfl
  · exact (lanP_given _ _ _).trans ((given_foldl (fun _ _ => by simp) _ _).trans (setF_given _ _ _))

@[simp] theorem provSet_given (s : State) (p : Nat) (v : Bool) : (s.provSet p v).given = s.given := by
  simp [provSet, apply_ite given]

@[simp] theorem laneCtlWrite_given (s : State) (p : Nat) (v : Word) : (s.laneCtlWrite p v).given = s.given := by
  simp [laneCtlWrite, apply_ite given]

@[simp] theorem setThm_given (s : State) (g : ThmSt → ThmSt) : (s.setThm g).given = s.given := by simp [setThm]

@[simp] theorem scapWrite_given (s : State) (w : Word) : (s.scapWrite w).given = s.given := by
  unfold scapWrite
  dsimp only
  split
  · simp
  split
  · simp
  · split <;> simp

@[simp] theorem railRead_given (s : State) : s.railRead.given = s.given := by simp [railRead]

@[simp] theorem setFab_given (s : State) (g : FabSt → FabSt) : (s.setFab g).given = s.given := by simp [setFab]

@[simp] theorem settle_given (s : State) : s.settle.given = s.given := by simp [settle]

@[simp] theorem planHold_given (s : State) (hold : Bool) : (s.planHold hold).given = s.given := by
  simp [planHold, apply_ite given]

@[simp] theorem planHoldWrite_given (s : State) (hold : Bool) : (s.planHoldWrite hold).given = s.given := by
  simp [planHoldWrite, apply_ite given]

@[simp] theorem setHst_given (s : State) (g : HstSt → HstSt) : (s.setHst g).given = s.given := by simp [setHst]

@[simp] theorem setRing_given (s : State) (n : Nat) (g : RingSt → RingSt) : (s.setRing n g).given = s.given := by simp [setRing]

@[simp] theorem ringRunWritten_given (s : State) (n : Nat) (was now : Bool) : (s.ringRunWritten n was now).given = s.given := by
  simp [ringRunWritten, apply_ite given]

@[simp] theorem ringWrite_given (s : State) (n : Nat) (run : Bool) : (s.ringWrite n run).given = s.given := by
  simp [ringWrite, apply_ite given]

@[simp] theorem setRps_given (s : State) (g : RpsSt → RpsSt) : (s.setRps g).given = s.given := by simp [setRps]

@[simp] theorem setMgt_given (s : State) (g : MgtSt → MgtSt) : (s.setMgt g).given = s.given := by simp [setMgt]

@[simp] theorem noteMcomp_given (s : State) : s.noteMcomp.given = s.given := by simp [noteMcomp]

@[simp] theorem coreLost_given (s : State) (c : Nat) : (s.coreLost c).given = s.given := by
  unfold coreLost
  split
  · rfl
  · extract_lets s1 s2 s3 base s4 s5
    have h5 : s5.given = s4.given := by
      simp only [s5]
      split <;> simp
    simp [h5, s4, base, s3, s2, s1, apply_ite given]

@[simp] theorem setCmt_given (s : State) (g : CmtSt → CmtSt) : (s.setCmt g).given = s.given := by simp [setCmt]

@[simp] theorem loseHeavy_given (s : State) : s.loseHeavy.given = s.given := by simp [loseHeavy, apply_ite given]

@[simp] theorem dramPut_given (s : State) (a : Nat) (bs : List Byte) : (s.dramPut a bs).given = s.given := by simp [dramPut]

@[simp] theorem flushQueues_given (s : State) : s.flushQueues.given = s.given := by
  unfold flushQueues
  extract_lets s1
  have h1 : s1.given = s.given := given_foldl (fun s w => by split <;> simp) _ _
  simpa using h1

@[simp] theorem safeOutputs_given (s : State) : s.safeOutputs.given = s.given := by
  unfold safeOutputs
  extract_lets s1 s2
  have h2 : s2.given = s1.given := given_foldl (fun s p => by split <;> simp) _ _
  have h3 := given_foldl (g := fun s t => if s.on (F.TIM_OUT_STAT_LEVEL t) then s.emit (.timedOut t false) else s)
    (fun s t => by split <;> simp) (List.range 8) s2
  rw [h3, h2]
  simp [s1]

@[simp] theorem setBoth_given (s : State) (x : Fld) (v : Nat) : (s.setBoth x v).given = s.given := by simp [setBoth]

@[simp] theorem fromMram_given (s : State) (age : Bool) : (s.fromMram age).given = s.given := by
  unfold fromMram
  extract_lets s1 s2 s3 s4
  have h2 : s2.given = s.given := by simp [s2, s1, apply_ite given]
  have h3 : s3.given = s2.given := given_foldl (fun _ _ => setF_given _ _ _) _ _
  have h4 : s4.given = s3.given := by
    simp only [s4]
    split <;> simp
  rw [setBoth_given, h4, h3, h2]

@[simp] theorem clearAll_given (s : State) (power aon kept merged : Bool) : (s.clearAll power aon kept merged).given = s.given := by
  unfold clearAll
  extract_lets s1 lost tag timed held admitted calPorts loading restarts layout seen die thm thm' rps s2 s3 s4 s5 s6 s7 s8 s9 s10 s11
  have h1 : s1.given = s.given := by simp [s1, apply_ite given]
  have h2 : s2.given = s1.given := rfl
  clear_value s2 calPorts
  have h5 : s5.given = s4.given := by
    simp only [s5]
    split <;> simp [apply_ite given]
  simp [s11, s10, s9, s8, s7, s6, h5, s4, s3, h2, h1, apply_ite given]

@[simp] theorem noteReset_given (s : State) (level source cores : Nat) (kept merged : Bool) :
    (s.noteReset level source cores kept merged).given = s.given := by
  simp [noteReset, apply_ite given]

@[simp] theorem takeReset_given (s : State) (r : ResetReq) : (s.takeReset r).given = s.given := by
  unfold takeReset
  extract_lets early busy merge level kept cores cleared held s1 s2 ev s3
  have hcores : ∀ s : State, ((List.range 4).foldl (fun s c => if r.cores.testBit c then s.coreLost c else s) s).given = s.given :=
    given_foldl (fun s c => by split <;> simp) _
  have h1 : s1.given = s.given := by simp [s1, held, cleared, hcores, apply_ite given]
  simp [s3, s2, h1, apply_ite given]

@[simp] theorem requestReset_given (s : State) (r : ResetReq) (pulse : Bool) : (s.requestReset r pulse).given = s.given := by
  simp [requestReset, apply_ite given]

@[simp] theorem rstWrite_given (s : State) (w : Word) (pulse : Bool) : (s.rstWrite w pulse).given = s.given := by
  unfold rstWrite
  dsimp only
  split
  · simp
  · split <;> simp

@[simp] theorem setDrv_given (s : State) (g : DrvSt → DrvSt) : (s.setDrv g).given = s.given := by simp [setDrv]

@[simp] theorem setLux_given (s : State) (g : LuxSt → LuxSt) : (s.setLux g).given = s.given := by simp [setLux]

@[simp] theorem luxSpoil_given (s : State) : s.luxSpoil.given = s.given := by simp [luxSpoil]

@[simp] theorem hardBlank_given (s : State) : s.hardBlank.given = s.given := by simp [hardBlank, apply_ite given]

@[simp] theorem blankRelease_given (s : State) : s.blankRelease.given = s.given := by simp [blankRelease, apply_ite given]

@[simp] theorem blankWrite_given (s : State) (on' : Bool) : (s.blankWrite on').given = s.given := by
  simp [blankWrite, apply_ite given]
theorem ownWrite_given {s t : State} {a : Nat} {v : Word} (h : s.ownWrite a v = some t) : t.given = s.given := by
  unfold ownWrite at h
  repeat' split at h
  all_goals cases h
  all_goals simp

@[simp] theorem liveWriteErr_given (s : State) (path : Path) (a : Nat) : (s.liveWriteErr path a).given = s.given := by
  simp [liveWriteErr, apply_ite given]

@[simp] theorem storeLive_given (s : State) (path : Path) (a : Nat) (r : RegRow) (v : Word) :
    (s.storeLive path a r v).given = s.given := by
  simp [storeLive, apply_ite given]

theorem given_of_eq {f g : State → Nat → State} (h : f = g) (hg : ∀ s k, (g s k).given = s.given) (s : State) (k : Nat) :
    (f s k).given = s.given := by
  rw [h, hg]

-- The definition is taken in place of its name, not unfolded on its arguments: against the unfolded body the kernel would evaluate the
-- check of the image.
@[simp] theorem validateSlot_given (s : State) (k : Nat) : (s.validateSlot k).given = s.given := by
  refine given_of_eq (f := validateSlot) (g := ?g) ?hdef ?body s k
  case hdef =>
    delta validateSlot
    exact rfl
  intro s k
  extract_lets +onlyGivenNames b
  clear_value b
  split
  simp only [raiseIf_given, setF_given]

@[simp] theorem imgCheck_given (s : State) (k : Nat) : (s.imgCheck k).given = s.given := by simp [imgCheck, apply_ite given]

@[simp] theorem cprRead_given (s : State) : s.cprRead.given = s.given := by simp [cprRead]

@[simp] theorem tblRead_given (s : State) : s.tblRead.given = s.given := by simp [tblRead]

@[simp] theorem lampRead_given (s : State) : s.lampRead.given = s.given := by simp [lampRead]

@[simp] theorem diagNow_given (s : State) : s.diagNow.given = s.given := by simp [diagNow, apply_ite given]

@[simp] theorem luxCal_given (s : State) (kind groups frames : Nat) : (s.luxCal kind groups frames).given = s.given := by
  simp [luxCal, apply_ite given]

@[simp] theorem calFail_given (s : State) (code port lane : Nat) : (s.calFail code port lane).given = s.given := by simp [calFail]

@[simp] theorem calStart_given (s : State) (ports : Nat) : (s.calStart ports).given = s.given := by
  unfold calStart
  split
  · rfl
  · split <;> simp

@[simp] theorem eqFixed_given (s : State) (p : Nat) : (s.eqFixed p).given = s.given := by
  unfold eqFixed
  split
  · rfl
  · exact given_foldl (fun _ _ => setF_given _ _ _) _ _

@[simp] theorem setCmc_given (s : State) (g : CmcSt → CmcSt) : (s.setCmc g).given = s.given := by simp [setCmc]

@[simp] theorem setPoll_given (s : State) (p : Nat) (g : PortPoll → PortPoll) : (s.setPoll p g).given = s.given := by
  simp [setPoll]

@[simp] theorem pairSend_given (s : State) (typ : Nat) (tspec payload : List Byte) :
    (s.pairSend typ tspec payload).given = s.given := by
  simp [pairSend]

@[simp] theorem toTile_given (s : State) (p : Nat) (far : Bool) (w : WFrame) : (s.toTile p far w).given = s.given := by
  simp [toTile, apply_ite given]

@[simp] theorem sendEnum_given (s : State) (p : Nat) (far : Bool) (count : Nat) : (s.sendEnum p far count).given = s.given := by
  simp [sendEnum]

@[simp] theorem enumerate_given (s : State) (p : Nat) : (s.enumerate p).given = s.given := by simp [enumerate, apply_ite given]

@[simp] theorem enumCmd_given (s : State) (ports : Nat) : (s.enumCmd ports).given = s.given := by
  exact given_foldl enumerate_given _ s

@[simp] theorem pairStream_given (s : State) (typ : Nat) (tspec bytes : List Byte) :
    (s.pairStream typ tspec bytes).given = s.given := by
  exact given_foldl (fun _ _ => pairSeq_given _ _ _ _) _ s

@[simp] theorem sendPollState_given (s : State) (typ : Nat) (b : List Byte) : (s.sendPollState typ b).given = s.given := by
  simp [sendPollState]

@[simp] theorem withPollState_given (s : State) (p a : Nat) (g : State → State) (hg : ∀ s, (g s).given = s.given) :
    (s.withPollState p a g).given = s.given := by
  simp [withPollState, apply_ite given, hg]

@[simp] theorem setTile_given (s : State) (p a : Nat) (g : TileSt → TileSt) : (s.setTile p a g).given = s.given := by
  simp [setTile]

@[simp] theorem setDsp_given (s : State) (g : DspSt → DspSt) : (s.setDsp g).given = s.given := by simp [setDsp]

@[simp] theorem tellWall_given (s : State) (p a n kind : Nat) : (s.tellWall p a n kind).given = s.given := by simp [tellWall]

@[simp] theorem sendNumbered_given (s : State) (p a typ : Nat) (tspec payload : List Byte) :
    (s.sendNumbered p a typ tspec payload).2.given = s.given := by
  simp [sendNumbered]

@[simp] theorem sendScap_given (s : State) (p a : Nat) : (s.sendScap p a).given = s.given := by simp [sendScap]

@[simp] theorem admitTile_given (s : State) (p a : Nat) : (s.admitTile p a).given = s.given := by
  simp [admitTile, apply_ite given]

@[simp] theorem admitCmd_given (s : State) (p a : Nat) : (s.admitCmd p a).given = s.given := by simp [admitCmd, apply_ite given]

@[simp] theorem quarantine_given (s : State) (p a : Nat) : (s.quarantine p a).given = s.given := by simp [quarantine]

@[simp] theorem quarantineCmd_given (s : State) (p a : Nat) : (s.quarantineCmd p a).given = s.given := by
  simp [quarantineCmd, apply_ite given]

@[simp] theorem identify_given (s : State) (p a : Nat) : (s.identify p a).given = s.given := by simp [identify]

@[simp] theorem recheckCmd_given (s : State) (p a : Nat) : (s.recheckCmd p a).given = s.given := by
  simp [recheckCmd, apply_ite given]

@[simp] theorem admitWrite_given (s : State) (p a action : Nat) : (s.admitWrite p a action).given = s.given := by
  unfold admitWrite; split <;> simp

@[simp] theorem actRefuse_given (s : State) : s.actRefuse.given = s.given := by simp [actRefuse]

@[simp] theorem sendAll_given (s : State) (ps : List Nat) (b : List Byte) : (s.sendAll ps b).given = s.given := by
  exact given_foldl (fun _ _ => sendBlock_given _ _ _) _ s

@[simp] theorem sendAction_given (s : State) (a : Action) : (s.sendAction a).given = s.given := by simp [sendAction]

@[simp] theorem actRequest_given (s : State) (kind rampM1 : Nat) : (s.actRequest kind rampM1).given = s.given := by
  unfold actRequest
  split
  · rfl
  · extract_lets +onlyGivenNames s1
    have h1 : s1.given = s.given := by simp [s1]
    clear_value s1
    split
    split
    · simp [h1]
    · split
      simp [h1, apply_ite given]

@[simp] theorem noteStep_given (s : State) (n : Nat) : (s.noteStep n).given = s.given := by simp [noteStep]

@[simp] theorem setEdge_given (s : State) (t : Nat) (u : Option Nat) : (s.setEdge t u).given = s.given := by simp [setEdge]

@[simp] theorem drive_given (s : State) (t : Nat) (level : Bool) : (s.drive t level).given = s.given := by simp [drive]

@[simp] theorem fireOnce_given (s : State) (t : Nat) : (s.fireOnce t).given = s.given := by simp [fireOnce]

@[simp] theorem passOver_given (s : State) (t0 : Nat) : (s.passOver t0).given = s.given := by
  unfold passOver
  extract_lets passed b s1 move
  have h1 : s1.given = s.given := given_foldl (fun s t => by simp [apply_ite given]) _ _
  simpa using h1

@[simp] theorem jump_given (s : State) (delta : Int) : (s.jump delta).given = s.given := by simp [jump, apply_ite given]

@[simp] theorem announceStep_given (s : State) (n : Nat) (delta : Int) : (s.announceStep n delta).given = s.given := by
  simp [announceStep]

@[simp] theorem applyStep_given (s : State) (delta : Int) : (s.applyStep delta).given = s.given := by
  simp [applyStep, apply_ite given]

@[simp] theorem timCmd_given (s : State) (v : Word) : (s.timCmd v).given = s.given := by
  unfold timCmd
  split
  · simp [apply_ite given]
  · simp [apply_ite given]
  · rfl

@[simp] theorem capturePop_given (s : State) (c : Nat) : (s.capturePop c).given = s.given := by simp [capturePop]

@[simp] theorem requestRefuse_given (s : State) (result : Nat) : (s.requestRefuse result).given = s.given := by
  simp [requestRefuse]

@[simp] theorem ruleReport_given (s : State) (code idx fail tag : Nat) : (s.ruleReport code idx fail tag).given = s.given := by
  simp [ruleReport]

@[simp] theorem outOfRange_given (s : State) (a : Nat) (write : Bool) : (s.outOfRange a write).given = s.given := by
  simp [outOfRange]

@[simp] theorem dramReadNote_given (s : State) (a n : Nat) : (s.dramReadNote a n).given = s.given := by
  simp [dramReadNote, apply_ite given]

@[simp] theorem captureNote_given (s : State) (snap : RegFile) (c : PlcCache) : (s.captureNote snap c).given = s.given := by
  unfold captureNote
  split
  · rfl
  · exact (given_foldl (fun _ _ => dramReadNote_given _ _ _) _ _).trans (dramReadNote_given _ _ _)

@[simp] theorem commitRequest_given (s : State) (w : Word) : (s.commitRequest w).given = s.given := by
  unfold commitRequest
  split
  · rfl
  · extract_lets s1 tag k snap heavy s2
    split
    · simp [s2, s1]
    · split
      · simp [s2, s1]
      · split
        · simp [s2, s1]
        · split <;> simp [s2, s1]

@[simp] theorem catchupCmd_given (s : State) (p a : Nat) : (s.catchupCmd p a).given = s.given := by
  simp [catchupCmd, apply_ite given]

@[simp] theorem peekStart_given (s : State) (a : Nat) : (s.peekStart a).given = s.given := by simp [peekStart, apply_ite given]

@[simp] theorem dumpStart_given (s : State) : s.dumpStart.given = s.given := by simp [dumpStart, apply_ite given]

@[simp] theorem dumpAbort_given (s : State) : s.dumpAbort.given = s.given := by simp [dumpAbort, apply_ite given]

@[simp] theorem noteScrub_given (s : State) : s.noteScrub.given = s.given := by simp [noteScrub]

@[simp] theorem setSrc_given (s : State) (n : Nat) (g : SrcSt → SrcSt) : (s.setSrc n g).given = s.given := by simp [setSrc]

@[simp] theorem fixNext_given (s : State) (n : Nat) : (s.fixNext n).given = s.given := by simp [fixNext, apply_ite given]

@[simp] theorem completeBuffer_given (s : State) (n i : Nat) (tag : Word) : (s.completeBuffer n i tag).given = s.given := by
  simp [completeBuffer]

@[simp] theorem hstErr_given (s : State) (n code ev : Nat) : (s.hstErr n code ev).given = s.given := by simp [hstErr]

@[simp] theorem peerDoorbell_given (s : State) (n idx : Nat) : (s.peerDoorbell n idx).given = s.given := by
  simp [peerDoorbell, apply_ite given]

@[simp] theorem reelCmd_given (s : State) (p kind : Nat) : (s.reelCmd p kind).2.given = s.given := by
  unfold reelCmd
  extract_lets ns secondary
  split
  · rfl
  · split
    · simp
    · split
      simp [apply_ite given]

@[simp] theorem reelWrite_given (s : State) (p kind : Nat) : (s.reelWrite p kind).given = s.given := by
  unfold reelWrite
  split
  · rfl
  · extract_lets s1
    have h : (s1.reelCmd p kind).2.given = s.given := by simp [s1]
    generalize s1.reelCmd p kind = c at h ⊢
    obtain ⟨a, t⟩ := c
    cases a <;> simpa [apply_ite given] using h

@[simp] theorem parTake_given (s : State) : s.parTake.given = s.given := by simp [parTake, apply_ite given]

@[simp] theorem parResetPartner_given (s : State) : s.parResetPartner.given = s.given := by
  simp [parResetPartner, apply_ite given]

@[simp] theorem sendState_given (s : State) : s.sendState.given = s.given := by
  simp only [sendState]
  split <;> simp

@[simp] theorem parRestartResync_given (s : State) : s.parRestartResync.given = s.given := by
  simp [parRestartResync, apply_ite given]

@[simp] theorem parCmd_given (s : State) (kind : Nat) : (s.parCmd kind).given = s.given := by unfold parCmd; split <;> simp

@[simp] theorem setMbox_given (s : State) (c : Nat) (q : List Msg) : (s.setMbox c q).given = s.given := by simp [setMbox]

@[simp] theorem mailboxIn_given (s : State) (c : Nat) (m : Msg) : (s.mailboxIn c m).2.given = s.given := by
  unfold mailboxIn; split <;> simp

@[simp] theorem mailboxSend_given (s : State) (p c : Nat) : (s.mailboxSend p c).given = s.given := by
  simp [mailboxSend, apply_ite given]

@[simp] theorem mailboxRack_given (s : State) (p : Nat) : (s.mailboxRack p).given = s.given := by simp [mailboxRack]

@[simp] theorem chainResetCmd_given (s : State) (ports addr : Nat) : (s.chainResetCmd ports addr).given = s.given := by
  unfold chainResetCmd
  split
  · rfl
  · exact (raise_given _ _).trans (given_foldl (fun _ _ => by simp) _ _)

@[simp] theorem pwrRefuse_given (s : State) (code : Nat) : (s.pwrRefuse code).given = s.given := by simp [pwrRefuse]

@[simp] theorem closeAll_given (s : State) : s.closeAll.given = s.given := by simp [closeAll]

@[simp] theorem setChan_given (s : State) (c st : Nat) : (s.setChan c st).given = s.given := by simp [setChan]

@[simp] theorem selfRefresh_given (s : State) (doze : Bool) : (s.selfRefresh doze).given = s.given := by
  unfold selfRefresh
  split
  · rfl
  · extract_lets s1 s2
    have h2 : s2.given = s1.given := given_foldl (fun s c => by split <;> simp) _ _
    simp [h2, s1]

@[simp] theorem darken_given (s : State) : s.darken.given = s.given := by simp [darken, apply_ite given]

@[simp] theorem txHalt_given (s : State) (p : Nat) : (s.txHalt p).given = s.given := by simp [txHalt, apply_ite given]

@[simp] theorem singleMode_given (s : State) (p : Nat) (on : Bool) : (s.singleMode p on).given = s.given := by
  simp [singleMode, apply_ite given]

@[simp] theorem dozeEnter_given (s : State) : s.dozeEnter.given = s.given := by
  have hhalt : ∀ s : State, ((List.range 9).foldl txHalt s).given = s.given := given_foldl txHalt_given _
  simp [dozeEnter, hhalt]

@[simp] theorem planeNote_given (s : State) (base size : Nat) (ls : List Nat) : (s.planeNote base size ls).given = s.given := by
  unfold planeNote
  split
  · rfl
  · exact (raiseIf_given _ _ _).trans (given_foldl (fun _ _ => dramReadNote_given _ _ _) _ _)

@[simp] theorem doseNote_given (s : State) (ls : List Nat) : (s.doseNote ls).given = s.given := by simp [doseNote]

@[simp] theorem mramWr_given (s : State) (a : Nat) (bs : List Byte) : (s.mramWr a bs).given = s.given := by simp [mramWr]

@[simp] theorem mramRefuse_given (s : State) : s.mramRefuse.given = s.given := by simp [mramRefuse]

@[simp] theorem mramTry_given (s : State) (a : Nat) (bs : List Byte) : (s.mramTry a bs).2.given = s.given := by
  unfold mramTry; split <;> simp

@[simp] theorem bumpSat_given (s : State) (x : Fld) : (s.bumpSat x).given = s.given := by simp [bumpSat]

@[simp] theorem setCor_given (s : State) (g : CorSt → CorSt) : (s.setCor g).given = s.given := by simp [setCor]

@[simp] theorem ckptSkip_given (s : State) : s.ckptSkip.given = s.given := by simp [ckptSkip, apply_ite given]

@[simp] theorem ckptChunk_given (s : State) : s.ckptChunk.given = s.given := by
  unfold ckptChunk
  split
  · rfl
  · split
    · rfl
    · simp [apply_ite given]

@[simp] theorem ckptStart_given (s : State) : s.ckptStart.given = s.given := by simp [ckptStart, apply_ite given]

@[simp] theorem setPcie_given (s : State) (g : Pcie → Pcie) : (s.setPcie g).given = s.given := by simp [setPcie]

@[simp] theorem hstReset_given (s : State) : s.hstReset.given = s.given := by
  obtain ⟨g, t, rfl, he, -⟩ := hstReset_eq s
  simp [he, setPcie]

@[simp] theorem linkDown_given (s : State) : s.linkDown.given = s.given := by simp [linkDown, apply_ite given]

@[simp] theorem islandTake_given (s : State) : s.islandTake.given = s.given := by simp [islandTake]

@[simp] theorem standbyEnter_given (s : State) : s.standbyEnter.given = s.given := by
  unfold standbyEnter
  extract_lets s1 s2 s3 s4 s5 s6 s7 s8
  have h2 : s2.given = s1.given := by
    simp only [s2]
    split
    · exact (given_foldl (fun s _ => ckptChunk_given s) _ _).trans (ckptStart_given _)
    · rfl
  have h7 : s7.given = s6.given := given_foldl txHalt_given _ _
  have h6 : s6.given = s2.given := by simp [s6, s5, s4, s3, apply_ite given]
  simp [s8, h7, h6, h2, s1]

@[simp] theorem powerEnter_given (s : State) (req : Nat) : (s.powerEnter req).given = s.given := by
  simp [powerEnter, apply_ite given]

@[simp] theorem powerRequest_given (s : State) (req : Nat) : (s.powerRequest req).given = s.given := by
  unfold powerRequest
  extract_lets +onlyGivenNames s1
  have h1 : s1.given = s.given := by simp [s1]
  clear_value s1
  split
  · exact h1
  split
  · simp [h1, apply_ite given]
  split
  · simp [h1]
  split
  · simp [h1]
  split
  · simp [h1]
  split
  · simp [h1]
  · split
    split
    · simp [h1]
    · simp [h1, apply_ite given]

@[simp] theorem toneOut_given (s : State) (ports : Nat) (on' : Bool) : (s.toneOut ports on').given = s.given := by
  exact given_foldl (fun _ _ => emit_given _ _) _ s

@[simp] theorem toneGo_given (s : State) (ports : Nat) : (s.toneGo ports).given = s.given := by simp [toneGo, apply_ite given]

@[simp] theorem dozePorts_given (s : State) : s.dozePorts.given = s.given := by
  unfold dozePorts
  split
  · exact given_foldl (fun _ _ => singleMode_given _ _ _) _ _
  · rfl

@[simp] theorem noteSensor_given (s : State) (i : Nat) (failed : Bool) : (s.noteSensor i failed).given = s.given := by
  simp [noteSensor, apply_ite given]

@[simp] theorem maskSet_given (s : State) (w : Word) : (s.maskSet w).given = s.given := by simp [maskSet, apply_ite given]

@[simp] theorem wcmdRefuse_given (s : State) (code : Nat) : (s.wcmdRefuse code).given = s.given := by simp [wcmdRefuse]

@[simp] theorem recStart_given (s : State) : s.recStart.given = s.given := by
  unfold recStart
  extract_lets s1
  split <;> simp [s1, apply_ite given]

@[simp] theorem recRequest_given (s : State) (j : RecJob) : (s.recRequest j).2.given = s.given := by
  unfold recRequest
  repeat' split
  all_goals simp

@[simp] theorem wcmdWrite_given (s : State) (j : RecJob) : (s.wcmdWrite j).given = s.given := by simp [wcmdWrite, apply_ite given]

@[simp] theorem optionWrite_given (s : State) (key : Nat) : (s.optionWrite key).given = s.given := by
  simp [optionWrite, apply_ite given]

@[simp] theorem recordImageWrite_given (s : State) (key : Nat) : (s.recordImageWrite key).given = s.given := by
  simp [recordImageWrite, apply_ite given]

@[simp] theorem wcmdKey_given (s : State) (op key : Nat) : (s.wcmdKey op key).given = s.given := by unfold wcmdKey; split <;> simp

@[simp] theorem winDataWrite_given (s : State) (v : Word) : (s.winDataWrite v).given = s.given := by
  simp [winDataWrite, apply_ite given]

@[simp] theorem calRefuse_given (s : State) (code : Nat) : (s.calRefuse code).given = s.given := by simp [calRefuse]

@[simp] theorem calMark_given (s : State) (kind : Nat) : (s.calMark kind).given = s.given := by simp [calMark, apply_ite given]

@[simp] theorem trigger_given (s : State) (a : Nat) (v : Word) : (s.trigger a v).given = s.given := by
  simp [trigger, apply_ite given]

@[simp] theorem liveWrite_given (s : State) (path : Path) (a : Nat) (v : Word) : (s.liveWrite path a v).given = s.given := by
  unfold liveWrite
  split
  · rfl
  · split
    · rfl
    · split
      · rename_i t ht
        simp [ownWrite_given ht, apply_ite given]
      · simp

@[simp] theorem write32_given (s : State) (path : Path) (addr : Nat) (v : Word) : (s.write32 path addr v).given = s.given := by
  simp [write32, apply_ite given]

end State

end Sys2Proof.Machine
end

section
/-! OBLIGATIONS. Alignment and size of register accesses (R8). -/

namespace Sys2Proof.Machine

namespace State

/-! ### Reads one after another -/

@[simp] theorem readEffect_given (s : State) (a : Nat) : (s.readEffect a).given = s.given := by
  unfold readEffect
  split
  · rfl
  · repeat' split
    all_goals simp [apply_ite given]

/-- No field of RPS_PWR_STAT is cleared by a read. -/
theorem accMask_pwrStat_rc : accMask R.RPS_PWR_STAT (fun f => f.acc == .rc) = 0 := by decide +kernel

/-- A read leaves the power state as it is; the only other word that it can put into a register is 0. -/
theorem pwrStat_readEffect (s : State) (a : Nat) :
    (s.readEffect a).reg R.RPS_PWR_STAT = s.reg R.RPS_PWR_STAT ∨ (s.readEffect a).reg R.RPS_PWR_STAT = 0 := by
  unfold readEffect
  split
  · exact .inl rfl
  · rename_i r hr
    split
    · exact .inl rfl
    split
    · exact .inl rfl
    split
    · have h : ((s.setReg a 0).setReg (a + 4) 0).reg R.RPS_PWR_STAT = s.reg R.RPS_PWR_STAT ∨
          ((s.setReg a 0).setReg (a + 4) 0).reg R.RPS_PWR_STAT = 0 := by
        rw [reg_setReg, reg_setReg]
        split
        · exact .inr rfl
        split
        · exact .inr rfl
        · exact .inl rfl
      exact h
    split
    · exact .inl (by rw [reg_setF_ne _ _ (by decide), reg_setF_ne _ _ (by decide), reg_setF_ne _ _ (by decide)])
    split
    · exact .inl (reg_setReg_ne _ _ (by decide))
    split
    · exact .inl (reg_setF_ne _ _ (by decide))
    · dsimp only
      split
      · exact .inl rfl
      · rename_i hm
        refine .inl (reg_setReg_ne _ _ ?_)
        rintro rfl
        have hmask := accMask_pwrStat_rc
        rw [accMask, hr] at hmask
        exact hm hmask

theorem asleep_of_pwrStat {s t : State} (hs : s.asleep = false)
    (h : t.reg R.RPS_PWR_STAT = s.reg R.RPS_PWR_STAT ∨ t.reg R.RPS_PWR_STAT = 0) : t.asleep = false := by
  have hf : ∀ u : State, u.asleep = (F.RPS_PWR_STAT_STATE.get (u.reg R.RPS_PWR_STAT) == 2) := fun _ => rfl
  rcases h with h | h
  · rw [hf, h, ← hf, hs]
  · rw [hf, h]; decide

/-- A 32-bit read with its answer put out. -/
def readAnswered (s : State) (path : Path) (addr : Nat) : State := (s.read32 addr).2.emit (.readData path addr (s.read32 addr).1)

theorem read32_cases (s : State) (addr : Nat) : (s.read32 addr).2 = s.raise 3 ∨ (s.read32 addr).2 = s ∨
    (s.read32 addr).2 = s.readEffect (addr % 2 ^ 23) := by
  unfold read32 view
  dsimp only
  split
  · exact .inl rfl
  split
  · exact .inr (.inl rfl)
  · exact .inr (.inr rfl)

theorem readAnswered_given (s : State) (path : Path) (addr : Nat) : (s.readAnswered path addr).given = s.given := by
  rw [readAnswered, emit_given]
  rcases s.read32_cases addr with h | h | h <;> simp [h]

/-- A read puts no device into Standby. -/
theorem readAnswered_awake {s : State} (path : Path) (addr : Nat) (hs : s.asleep = false) : (s.readAnswered path addr).asleep = false := by
  refine asleep_of_pwrStat hs ?_
  rw [readAnswered, emit_reg]
  rcases s.read32_cases addr with h | h | h <;> rw [h]
  · exact .inl (reg_raise s 3 rfl)
  · exact .inl rfl
  · exact s.pwrStat_readEffect _

/-- A 64-bit read is two 32-bit reads (R8). -/
theorem busAccess_readWide {s : State} {addr : Nat} (path : Path) (h : addr % 4 = 0) :
    s.busAccess path addr true none = (s.readAnswered path addr).readAnswered path ((addr + 4) % 2 ^ 24) := by
  unfold busAccess
  rw [if_neg (by simp [h])]
  rfl

/-- A 64-bit write is two 32-bit writes (R8). -/
theorem busAccess_writeWide {s : State} {addr : Nat} (path : Path) (v : BitVec 64) (h : addr % 4 = 0) :
    s.busAccess path addr true (some v) =
      (s.write32 path addr (v.setWidth 32)).write32 path ((addr + 4) % 2 ^ 24) ((v >>> 32).setWidth 32) := by
  unfold busAccess
  rw [if_neg (by simp [h])]
  rfl

/-- An access at an address that is no multiple of 4 is a misaligned one, whatever its size (R8). -/
theorem busAccess_misaligned {s : State} {addr : Nat} (path : Path) (wide : Bool) (write : Option (BitVec 64)) (h : addr % 4 ≠ 0) :
    s.busAccess path addr wide write = s.misaligned path addr write.isSome := by
  unfold busAccess
  rw [if_pos h]

end State

theorem finish_of_given {s t : State} (h : t.given = s.given) : s.finish t = .next t := by
  rw [State.finish, State.sealed_of_given h]

theorem awake_apply {s : State} {g : State → State} (hs : s.asleep = false) : s.awake g = g s := by
  rw [State.awake, hs, if_neg Bool.false_ne_true]

theorem exec_misalignedAccess (path : Path) (addr : BitVec 24) (wr : Bool) (s : State) :
    exec (.misalignedAccess path addr wr) s = s.finish (s.awake fun s => s.misaligned path addr.toNat wr) := rfl

theorem exec_read {s : State} {addr : BitVec 24} (path : Path) (hs : s.asleep = false) (h4 : addr.toNat % 4 = 0) :
    exec (.rcRead path addr false) s = .next (s.readAnswered path addr.toNat) := by
  rw [exec_rcRead, awake_apply hs, State.busAccess_read path h4]
  exact finish_of_given (s.readAnswered_given path _)

theorem exec_write {s : State} {addr : BitVec 24} (path : Path) (v : BitVec 64) (hs : s.asleep = false) (h4 : addr.toNat % 4 = 0) :
    exec (.registerWrite path addr false v) s = .next (s.write32 path addr.toNat (v.setWidth 32)) := by
  rw [exec_registerWrite, awake_apply hs, State.busAccess_write path v h4]
  exact finish_of_given (s.write32_given path _ _)

/-- The word after the last word of the space is the first one (log entry 203). -/
theorem toNat_add_four (addr : BitVec 24) : (addr + 4).toNat = (addr.toNat + 4) % 2 ^ 24 := BitVec.toNat_add _ _

theorem toNat_add_four_mod {addr : BitVec 24} (h4 : addr.toNat % 4 = 0) : (addr + 4).toNat % 4 = 0 := by
  rw [toNat_add_four]
  omega

theorem exec_readWide {s : State} {addr : BitVec 24} (path : Path) (hs : s.asleep = false) (h4 : addr.toNat % 4 = 0) :
    exec (.rcRead path addr true) s = .next ((s.readAnswered path addr.toNat).readAnswered path (addr + 4).toNat) := by
  rw [exec_rcRead, awake_apply hs, State.busAccess_readWide path h4, ← toNat_add_four]
  exact finish_of_given ((State.readAnswered_given _ _ _).trans (State.readAnswered_given _ _ _))

theorem exec_writeWide {s : State} {addr : BitVec 24} (path : Path) (v : BitVec 64) (hs : s.asleep = false) (h4 : addr.toNat % 4 = 0) :
    exec (.registerWrite path addr true v) s =
      .next ((s.write32 path addr.toNat (v.setWidth 32)).write32 path (addr + 4).toNat ((v >>> 32).setWidth 32)) := by
  rw [exec_registerWrite, awake_apply hs, State.busAccess_writeWide path v h4, ← toNat_add_four]
  exact finish_of_given ((State.write32_given _ _ _ _).trans (State.write32_given _ _ _ _))

/-- What a misaligned access does (R8): nothing but event 3, and the answer 0 to a read. -/
theorem completes_misaligned {s : State} (path : Path) (addr : BitVec 24) (wr : Bool) (hs : s.asleep = false) :
    Completes (.misalignedAccess path addr wr) s fun t =>
      Frame noReg s t ∧ t.evBit 3 = true ∧ (wr = false → .readData path addr.toNat 0 ∈ t.outs) := by
  refine completes_awake rfl hs ?_
  cases wr with
  | false =>
    exact ⟨((Frame.emit _ _ _).trans (Frame.raise _ _ 3)).sealed, State.evBit_raise_self (n := 3) rfl,
      fun _ => State.mem_outs_raise 3 (by simp)⟩
  | true => exact ⟨(Frame.raise _ _ 3).sealed, State.evBit_raise_self (n := 3) rfl, nofun⟩

/-- Settles O10: a wide access is its two halves, because neither half changes what a command is given (`State.write32_given`), and a
read leaves the device awake. -/
theorem misalignedAccess : Obligations.MisalignedAccess := by
  unfold Obligations.MisalignedAccess
  intro path addr v s hs
  refine ⟨fun wr => completes_misaligned path addr wr hs, fun h4 => ⟨?noRow, fun wide => ⟨?write, ?read⟩⟩, fun h4 => ?halves⟩
  case noRow => exact Option.eq_none_iff_forall_ne_some.2 fun r hr => h4 (regRow_aligned hr)
  case write =>
    rw [exec_registerWrite, exec_misalignedAccess, awake_apply hs, awake_apply hs, State.busAccess_misaligned path wide _ h4]
    rfl
  case read =>
    rw [exec_rcRead, exec_misalignedAccess, awake_apply hs, awake_apply hs, State.busAccess_misaligned path wide _ h4]
    rfl
  case halves =>
    have h4' := toNat_add_four_mod h4
    have hnext := exec_read path (State.readAnswered_awake path addr.toNat hs) h4'
    refine ⟨⟨_, _, exec_read path hs h4, hnext, exec_readWide path hs h4⟩, _, exec_write path v hs h4, fun hawake => ?_⟩
    rw [exec_write path _ hawake h4', exec_writeWide path v hs h4]

end Sys2Proof.Machine
end

section
/-! OBLIGATIONS. Two statements that fail, each with a state in which the model does otherwise. -/

namespace Sys2Proof.Machine

/-- Port 0 takes its fixed equaliser codes (EQMODE.MODE 0), and lane 0 shows another code than its EQFIX of 12. -/
def fixedModePort0 : State := State.reset.setF (F.LAN_P_EQMODE_MODE 0) 0

/-- The equaliser code that lane 0 of port 0 shows after a command. -/
def laneEqAfter (c : Instr) (s : State) : Nat := match exec c s with
  | .next t => t.f (F.LAN_P_L_EQ 0 0)
  | _ => 0

/-- Refutes O8: LAN_Pp_STAT of port 1 has only read-only fields, so a write to it should do nothing; but its address lies in the range
of `State.trigger` that stands for EQMODE and EQFIX of the ports, and the write sets the codes of port 0 to their EQFIX. -/
theorem not_stagedFields : ¬ Obligations.StagedFields := by
  unfold Obligations.StagedFields
  intro h
  obtain ⟨-, -, -, -, -, hreadOnly, -⟩ := h .host (R.LAN_P_STAT 1) 0 _ 0 fixedModePort0 (by decide +kernel) (by decide) (by decide)
    (by decide +kernel) (by decide +kernel) rfl rfl
  have hnext := hreadOnly ((regRow (R.LAN_P_STAT 1)).getD ⟨"", 0, [], 0, []⟩) (by decide +kernel) (by decide +kernel)
    (by decide +kernel) (by decide +kernel)
  have hkept : laneEqAfter (.registerWrite .host (BitVec.ofNat 24 (R.LAN_P_STAT 1)) false 0) fixedModePort0 =
      fixedModePort0.f (F.LAN_P_L_EQ 0 0) := by rw [laneEqAfter, hnext]
  exact absurd hkept (by decide +kernel)

/-- A frame memory with two entries for address 0: not in the canonical form (`Mem.wf`) that the statement does not ask for. -/
def doubledDram : State :=
  { (State.reset.setF F.FMC_SIZE_MB 1).setPcie (fun p => { p with bar2On := true }) with dram := [(0, 5), (0, 7)] }

/-- The byte of local DRAM at address 0 after a command. -/
def dramByte0After (c : Instr) (s : State) : List Byte := match exec c s with
  | .next t => Mem.read t.dram 0 1
  | _ => []

/-- Refutes O45: the statement ranges over states whose memories are in no canonical form too, and in this one the write of a 0 through BAR2 takes
off the first entry of its address, so that a read finds the second. -/
theorem not_hostRequests : ¬ Obligations.HostRequests := by
  unfold Obligations.HostRequests
  intro h
  obtain ⟨-, hopen, -⟩ := h 0 [0] 0 0 doubledDram (by decide +kernel) (by decide +kernel) (by decide +kernel)
  obtain ⟨hwrite, -⟩ := hopen (by decide +kernel) (by decide +kernel)
  obtain ⟨t, hnext, hread, -⟩ := hwrite (by decide +kernel)
  have hzero : dramByte0After (.bar2Access 0 (some ([0].map some)) 0 false) doubledDram = [0] := by
    rw [dramByte0After, hnext]
    exact hread
  exact absurd hzero (by decide +kernel)

end Sys2Proof.Machine
end

section
/-! OBLIGATIONS. The identity that the fuses give a device (R43): no step changes what the register space shows of it. -/

namespace Sys2Proof.Machine

/-! ### What a step leaves of the queue and the fuses -/

/-- The meaning of every command ends in `State.finish`: it answers a next state with the queue and the fuses it was given. -/
theorem exec_finishes (c : Instr) (s : State) : ∃ t, exec c s = s.finish t := by
  cases c <;> exact ⟨_, rfl⟩

theorem exec_keeps_given {c : Instr} {s t : State} (h : exec c s = .next t) : t.given = s.given := by
  obtain ⟨u, hu⟩ := exec_finishes c s
  obtain rfl : s.sealed u = t := Host.Outcome.next.inj (hu.symm.trans h)
  rfl

/-- A step takes the front command from the queue, if there is one, and leaves the fuses. -/
theorem step_given {s t : State} (h : step s = .next t) : t.given = (s.pending.tail, s.fuses) := by
  unfold step at h
  split at h
  next c rest hq => rw [exec_keeps_given h, hq]; rfl
  next hq =>
    obtain rfl : s.ticks 1 = t := Host.Outcome.next.inj h
    show (s.pending, s.fuses) = _
    rw [hq]
    rfl

/-! ### The registers that the fuses give -/

namespace State

/-- No register below the lane ports is hidden. -/
theorem hiddenReg_below {s : State} {a : Nat} (h : a < R.LAN_P_STAT 0) : s.hiddenReg a = false := by
  simp only [R.LAN_P_STAT] at h
  simp only [hiddenReg, R.LAN_P_STAT, R.LAN_P_L, R.TIM_P_ASYM, R.TIM_ETH_CTL, Bool.or_eq_false_iff,
    Bool.and_eq_false_iff, decide_eq_false_iff_not]
  omega

/-- The value of a register that other state holds. -/
theorem value_of_derived {s : State} {a : Nat} {w : Word} (ha : a < R.LAN_P_STAT 0) (hd : s.derived a = some w) :
    s.value a = w &&& accMask a (fun _ => true) := by
  have hbits : s.hiddenBits a = 0 := hiddenBits_outside (.inl (by simp only [R.LAN_P_STAT] at ha; simp only [R.CMC_WP_CTL]; omega))
  rw [value_eq (hiddenReg_below ha), hd, hbits, Option.getD_some, show ~~~(0 : Word) = BitVec.allOnes 32 from rfl, BitVec.and_allOnes]

theorem value_sysId (s : State) : s.value R.SYS_ID =
    BitVec.ofNat 32 ((if s.fuses.part7440 then 0x7440 else 0x7420) + 0xB0 * 2 ^ 16) &&& accMask R.SYS_ID (fun _ => true) :=
  value_of_derived (by decide) rfl

theorem value_sysCaps (s : State) : s.value R.SYS_CAPS =
    (if s.fuses.part7440 then 0x000FFF1F else 0x00030300) &&& accMask R.SYS_CAPS (fun _ => true) :=
  value_of_derived (by decide) rfl

theorem value_unitId (s : State) {i : Nat} (hi : i < 3) : s.value (R.SYS_UNITID i) =
    (s.fuses.unitId >>> (32 * i)).setWidth 32 &&& accMask (R.SYS_UNITID i) (fun _ => true) := by
  refine value_of_derived (by simp only [R.SYS_UNITID, R.LAN_P_STAT]; omega) ?_
  match i, hi with
  | 0, _ => rfl
  | 1, _ => rfl
  | 2, _ => rfl

end State

/-- The identity speaks of the fuses alone: a state with the same fuses has the same identity. -/
theorem Identity.of_fuses {d : Fuses} {s t : State} (h : Identity d s) (hf : t.fuses = s.fuses) : Identity d t where
  fuses := hf.trans h.fuses
  id := by rw [State.value_sysId, hf, ← State.value_sysId, h.id]
  caps := by rw [State.value_sysCaps, hf, ← State.value_sysCaps, h.caps]
  unitId i hi := by rw [State.value_unitId t hi, hf, ← State.value_unitId s hi, h.unitId i hi]

/-- Settles O4: a step takes the front command and leaves the fuses (`step_given`), of which alone the identity speaks. -/
theorem everyStepKeepsIdentity : Obligations.EveryStepKeepsIdentity := by
  unfold Obligations.EveryStepKeepsIdentity
  intro d s s' hid hstep
  obtain ⟨hpending, hfuses⟩ := Prod.mk.inj (step_given hstep)
  exact ⟨hid.of_fuses hfuses, hpending⟩

end Sys2Proof.Machine
end

section
/-! SUPPORT. What lies outside a frame: fields and the presence of the frame memory controller; and that its state lies within every
frame. -/

namespace Sys2Proof.Machine

/-- A field of a register outside the frame is as it was. -/
theorem Frame.f_eq {own : Nat → Bool} {s t : State} (h : Frame own s t) {x : Fld} (ho : own x.addr = false)
    (he : evReg x.addr = false) : t.f x = s.f x :=
  congrArg x.get (h.regs x.addr ho he)

theorem Frame.setFmc (own : Nat → Bool) (s : State) (m : FmcSt) : Frame own s { s with fmc := m } :=
  ⟨fun _ _ _ => rfl, rfl, rfl, fun _ => rfl, fun _ => rfl, fun _ => rfl, fun _ => rfl⟩

theorem Frame.present_fmc {own : Nat → Bool} {s t : State} (h : Frame own s t) (ho : own R.SYS_ROLE = false) :
    t.present .FMC = s.present .FMC :=
  congrArg (· != 0) (h.f_eq (x := F.SYS_ROLE_ROLE) ho rfl)

end Sys2Proof.Machine
end

section
/-! OBLIGATIONS. The end of the training of a memory channel (R296) and the check of a slot of MRAM for a structure image (R34). -/

namespace Sys2Proof.Machine

/-! ### The frame memory controller's registers -/

theorem inBlk_fmc {a : Nat} : inBlk .FMC a = true ↔ 0x2C0000 ≤ a ∧ a < 0x2C0400 := decide_eq_true_iff

theorem inBlk_chStat {c : Nat} (hc : c < 4) : inBlk .FMC (R.FMC_CH_STAT c) = true := by
  rw [inBlk_fmc, R.FMC_CH_STAT]
  omega

/-- From `s` to `t` a channel's status word is as it was, no event's status bit has been cleared, and nothing has changed outside the
frame of the frame memory controller's registers. -/
structure KeepsChannel (c : Nat) (s t : State) : Prop where
  word : t.reg (R.FMC_CH_STAT c) = s.reg (R.FMC_CH_STAT c)
  events : ∀ k, k < 320 → s.evBit k = true → t.evBit k = true
  frame : Frame (inBlk .FMC) s t

namespace KeepsChannel

variable {c : Nat} {s t u : State}

theorem refl (c : Nat) (s : State) : KeepsChannel c s s := ⟨rfl, fun _ _ h => h, Frame.refl _ s⟩

theorem trans (h : KeepsChannel c s t) (k : KeepsChannel c t u) : KeepsChannel c s u :=
  ⟨k.word.trans h.word, fun n hn hb => k.events n hn (h.events n hn hb), h.frame.trans k.frame⟩

theorem f_eq (h : KeepsChannel c s t) {x : Fld} (hx : x.addr = R.FMC_CH_STAT c) : t.f x = s.f x :=
  congrArg x.get (hx ▸ h.word)

/-- No register of the frame memory controller is a status word of the event router. -/
theorem evBit_setF_fmc {x : Fld} (v : Nat) {k : Nat} (hx : inBlk .FMC x.addr = true) (h : s.evBit k = true) :
    (s.setF x v).evBit k = true := by
  rw [State.evBit_setF s v k, h]
  rw [inBlk_fmc] at hx
  rw [R.EVT_STAT]
  omega

theorem setF (s : State) {x : Fld} (v : Nat) (hx : inBlk .FMC x.addr = true) (hc : R.FMC_CH_STAT c ≠ x.addr) :
    KeepsChannel c s (s.setF x v) :=
  ⟨State.reg_setF_ne s v hc, fun _ _ => evBit_setF_fmc v hx, Frame.setF s v hx⟩

/-- The registers below those of the channels hold no channel's status. -/
theorem setF_common (s : State) {x : Fld} (v : Nat) (hx : 0x2C0000 ≤ x.addr ∧ x.addr < 0x2C0100) : KeepsChannel c s (s.setF x v) := by
  refine setF s v ?_ ?_
  · rw [inBlk_fmc]
    omega
  · rw [R.FMC_CH_STAT]
    omega

theorem raise (hc : c < 4) (s : State) (n : Nat) : KeepsChannel c s (s.raise n) :=
  ⟨State.reg_raise s n (by simp [evReg, R.FMC_CH_STAT, R.CMC_EVDROP]; omega), fun _ hk => State.evBit_raise_mono n hk,
    Frame.raise _ s n⟩

theorem raiseIf (hc : c < 4) (s : State) (b : Bool) (n : Nat) : KeepsChannel c s (s.raiseIf b n) := by
  unfold State.raiseIf
  split
  · exact raise hc s n
  · exact refl c s

theorem setFmc (c : Nat) (s : State) (m : FmcSt) : KeepsChannel c s { s with fmc := m } :=
  ⟨rfl, fun _ _ h => h, Frame.setFmc _ s m⟩

theorem setGeometry (c : Nat) (s : State) : KeepsChannel c s s.setGeometry := by
  unfold State.setGeometry
  split
  exact (((setF_common _ _ (by decide)).trans (setF_common _ _ (by decide))).trans (setF_common _ _ (by decide))).trans
    (setF_common _ _ (by decide))

theorem noteScrub (c : Nat) (s : State) : KeepsChannel c s s.noteScrub := setF_common s _ (by decide)

end KeepsChannel

namespace State

/-- The state of a channel is put into its status word; the rest goes to FMC_STATUS. -/
theorem keepsChannel_setChan (s : State) (c st : Nat) : KeepsChannel c (s.setF (F.FMC_CH_STAT_STATE c) st) (s.setChan c st) :=
  ((KeepsChannel.setF_common _ _ (by decide)).trans (KeepsChannel.setF_common _ _ (by decide))).trans
    (KeepsChannel.setF_common _ _ (by decide))

/-- A channel's status after its training: its state and its failure code. -/
def trained (s : State) (c st code : Nat) : State := (s.setChan c st).setF (F.FMC_CH_STAT_TFAIL c) code

theorem frame_trained (s : State) {c : Nat} (hc : c < 4) (st code : Nat) : Frame (inBlk .FMC) s (s.trained c st code) :=
  ((Frame.setF s st (inBlk_chStat hc)).trans (keepsChannel_setChan s c st).frame).trans (Frame.setF _ code (inBlk_chStat hc))

theorem trained_state (s : State) (c st code : Nat) : (s.trained c st code).f (F.FMC_CH_STAT_STATE c) = st % 8 := by
  rw [trained, f_setF_disjoint _ _ (by simp) (.inr (by simp)), (keepsChannel_setChan s c st).f_eq rfl, f_setF_self _ _ _ (by simp)]
  rfl

theorem trained_code (s : State) (c st code : Nat) : (s.trained c st code).f (F.FMC_CH_STAT_TFAIL c) = code % 16 :=
  f_setF_self _ _ _ (by simp)

/-! ### The outcomes of training -/

/-- A channel that trains: of a present controller, in use, in state 1. -/
structure Training (s : State) (c : Nat) : Prop where
  present : s.present .FMC = true
  used : c ∈ s.chansOn
  state : s.f (F.FMC_CH_STAT_STATE c) = 1

/-- A training that ended with an outcome: the channel's status says so, and an event has told. -/
structure Ended (c st code ev : Nat) (s t : State) : Prop where
  state : t.f (F.FMC_CH_STAT_STATE c) = st
  code : t.f (F.FMC_CH_STAT_TFAIL c) = code
  told : t.evBit ev = true
  frame : Frame (inBlk .FMC) s t

/-- The channel's status and the event are noted first; what follows keeps them. -/
theorem Ended.of_keeps {s s' t : State} {c st code ev : Nat} (hc : c < 4) (hp : s.present .FMC = true)
    (hev : evOwner ev = some .FMC) (hs : Frame (inBlk .FMC) s s') (ht : KeepsChannel c ((s'.trained c st code).raise ev) t) :
    Ended c (st % 8) (code % 16) ev s t := by
  have hframe := hs.trans (s'.frame_trained hc st code)
  have hlive : (s'.trained c st code).evLive ev = true := evLive_of_owner hev ((hframe.present_fmc rfl).trans hp)
  have hkeep := (KeepsChannel.raise hc _ ev).trans ht
  exact ⟨(hkeep.f_eq rfl).trans (trained_state ..), (hkeep.f_eq rfl).trans (trained_code ..),
    ht.events ev (evLive_lt hlive) (evBit_raise_self hlive), hframe.trans hkeep.frame⟩

theorem trainingDone_passed {s : State} {c : Nat} (ranks2 : Bool) (rowb : Nat) (hc : c < 4) (h : s.Training c) :
    ∃ t, s.trainingDone c ranks2 rowb 0 = (false, t) ∧ Ended c 2 0 (if s.fmc.pass.getD c 0 = 0 then 296 else 305) s t := by
  unfold trainingDone
  rw [if_neg (by simp [h.present, h.used, h.state])]
  extract_lets +onlyGivenNames p
  rw [if_pos rfl]
  extract_lets _ s1 s2 s3 _ s4 done gs s5
  have h1 : Frame (inBlk .FMC) s s1 := by
    simp only [s1]
    split
    · exact Frame.setFmc _ s _
    · exact Frame.refl _ s
  have h5 : KeepsChannel c s4 s5 := by
    simp only [s5]
    split
    · exact (KeepsChannel.setGeometry c s4).trans (KeepsChannel.raiseIf hc _ _ _)
    · exact KeepsChannel.refl c s4
  refine ⟨_, rfl, Ended.of_keeps hc h.present ?_ h1 (((KeepsChannel.setFmc c s3 _).trans h5).trans (KeepsChannel.noteScrub c s5))⟩
  split <;> rfl

/-- A failed first training ends. -/
theorem trainingDone_failed {s : State} {c fail : Nat} (ranks2 : Bool) (rowb : Nat) (hc : c < 4) (h : s.Training c) (hf : fail ≠ 0)
    (hp : s.fmc.pass.getD c 0 = 0) :
    ∃ t, s.trainingDone c ranks2 rowb fail = (false, t) ∧ Ended c 4 (fail % 16) 297 s t := by
  unfold trainingDone
  rw [if_neg (by simp [h.present, h.used, h.state])]
  extract_lets +onlyGivenNames p
  rw [if_neg hf, if_neg (by omega)]
  extract_lets s1 s2 done s3
  have h3 : KeepsChannel c s2 s3 := by
    simp only [s3]
    split
    · exact KeepsChannel.setGeometry c s2
    · exact KeepsChannel.refl c s2
  have hev : s2 = s1.raise 297 := congrArg s1.raise (if_pos hp)
  refine ⟨_, Prod.ext (beq_false_of_ne (by omega)) rfl, Ended.of_keeps (st := 4) hc h.present rfl (Frame.refl _ s) ?_⟩
  exact hev ▸ h3.trans (KeepsChannel.noteScrub c s3)

/-- A failed first retraining is followed by a second. -/
theorem trainingDone_again {s : State} {c fail : Nat} (ranks2 : Bool) (rowb : Nat) (h : s.Training c) (hf : fail ≠ 0)
    (hp : s.fmc.pass.getD c 0 = 1) :
    s.trainingDone c ranks2 rowb fail = (false, { s with fmc := { s.fmc with pass := setAt s.fmc.pass c fun _ => 2 } }) := by
  unfold trainingDone
  rw [if_neg (by simp [h.present, h.used, h.state])]
  exact (if_neg hf).trans (if_pos hp)

/-- A device that has ended its bring-up has no step of it to begin. -/
theorem bringupGo_booted {s : State} (h : 5 ≤ s.stage') : s.bringupGo = s := by
  have h3 : s.stage' ≠ 3 := by omega
  have h4 : s.stage' ≠ 4 := by omega
  simp [bringupGo, h3, h4]

/-- The end of training at a device that has ended its bring-up, where no reset follows. -/
theorem channelDone_booted {s t : State} {c rowb fail : Nat} {ranks2 : Bool} (pulse : Bool) (hs : 5 ≤ s.stage')
    (ht : s.trainingDone c ranks2 rowb fail = (false, t)) (hf : Frame (inBlk .FMC) s t) :
    s.channelDone c ranks2 rowb fail pulse = t := by
  have hstage : t.stage' = s.stage' := hf.f_eq (x := F.RPS_BOOT_STAGE) rfl rfl
  rw [channelDone, ht]
  exact bringupGo_booted (hstage ▸ hs)

end State

theorem exec_channelTrainingDone (c : Fin 4) (ranks2 : Bool) (rowb : Fin 4) (fail : BitVec 8) (pulse : Bool) (s : State) :
    exec (.channelTrainingDone c ranks2 rowb fail pulse) s =
      s.finish (s.awake fun s => s.channelDone c.val ranks2 rowb.val fail.toNat pulse) := rfl

/-- CHANNEL_TRAINING_DONE at a device that has ended its bring-up completes with the end of the training, where no reset follows. -/
theorem completes_training {s t : State} {c rowb : Fin 4} {ranks2 pulse : Bool} {fail : BitVec 8} {P : State → Prop}
    (ha : s.asleep = false) (hs : 5 ≤ s.stage') (ht : s.trainingDone c.val ranks2 rowb.val fail.toNat = (false, t))
    (hf : Frame (inBlk .FMC) s t) (hP : P (s.sealed t)) : Completes (.channelTrainingDone c ranks2 rowb fail pulse) s P := by
  refine completes_awake (exec_channelTrainingDone ..) ha ?_
  rwa [State.channelDone_booted pulse hs ht hf]

/-! ### The check of a slot -/

namespace State

/-- SYS_IMG_STATn as a check leaves it. -/
def slotNoted (s : State) (k st fail sect role : Nat) : State :=
  (((s.setF (F.SYS_IMG_STAT_STATE k) st).setF (F.SYS_IMG_STAT_FAIL k) fail).setF (F.SYS_IMG_STAT_SECT k) sect).setF
    (F.SYS_IMG_STAT_IMG_ROLE k) role

section slotNoted

variable (s : State) (k st fail sect role : Nat)

theorem slotNoted_state : (s.slotNoted k st fail sect role).f (F.SYS_IMG_STAT_STATE k) = st % 8 := by
  rw [slotNoted, f_setF_disjoint _ _ (by simp) (.inr (by simp)), f_setF_disjoint _ _ (by simp) (.inr (by simp)),
    f_setF_disjoint _ _ (by simp) (.inr (by simp)), f_setF_self _ _ _ (by simp)]
  rfl

theorem slotNoted_fail : (s.slotNoted k st fail sect role).f (F.SYS_IMG_STAT_FAIL k) = fail % 16 := by
  rw [slotNoted, f_setF_disjoint _ _ (by simp) (.inr (by simp)), f_setF_disjoint _ _ (by simp) (.inr (by simp)),
    f_setF_self _ _ _ (by simp)]
  rfl

theorem slotNoted_sect : (s.slotNoted k st fail sect role).f (F.SYS_IMG_STAT_SECT k) = sect % 2 ^ (F.SYS_IMG_STAT_SECT k).width := by
  rw [slotNoted, f_setF_disjoint _ _ (by simp) (.inr (by simp)), f_setF_self _ _ _ (by simp)]

theorem slotNoted_role : (s.slotNoted k st fail sect role).f (F.SYS_IMG_STAT_IMG_ROLE k) = role % 4 :=
  f_setF_self _ _ _ (by simp)

theorem frame_slotNoted {own : Nat → Bool} (h : own (R.SYS_IMG_STAT k) = true) : Frame own s (s.slotNoted k st fail sect role) :=
  (((Frame.setF s _ h).trans (Frame.setF _ _ h)).trans (Frame.setF _ _ h)).trans (Frame.setF _ _ h)

end slotNoted

/-- The state of a slot after a check that ended with a code. -/
def checkedState (s : State) (k fail : Nat) : Nat :=
  if s.slotEmpty k then 0 else if fail ≠ 0 then 3 else if s.role != 0 && s.runSlot == k then 4 else 2

theorem checkedState_lt (s : State) (k fail : Nat) : s.checkedState k fail < 8 := by
  unfold checkedState
  split
  · decide
  split
  · decide
  split <;> decide

/-- What a check of a slot leaves that ended with a code and a section (R34). -/
def slotReported (s : State) (k fail sect : Nat) : State :=
  (s.slotNoted k (s.checkedState k fail) (if s.slotEmpty k then 0 else fail) (if s.slotEmpty k then 0xFF else sect)
    (if s.slotEmpty k then 0 else Img.role (s.slotBytes k))).raiseIf (fail != 0 && !s.slotEmpty k) 56

-- As for `validateSlot_given`: the definition is taken in place of its name, so that the kernel evaluates no check of an image.
theorem validateSlot_eq {s : State} {k fail sect : Nat} (h : Img.validate (s.slotBytes k) s.part7440 = (fail, sect)) :
    s.validateSlot k = s.slotReported k fail sect := by
  refine (congrFun (congrFun (f := validateSlot) (g := ?body) ?hdef s) k).trans ?_
  case hdef =>
    delta validateSlot
    exact rfl
  extract_lets +onlyGivenNames b
  have hb : Img.validate b s.part7440 = (fail, sect) := h
  rw [hb]
  rfl

section slotReported

variable {s : State} {k : Nat} (fail sect : Nat)

theorem frame_slotReported {own : Nat → Bool} (h : own (R.SYS_IMG_STAT k) = true) : Frame own s (s.slotReported k fail sect) :=
  (frame_slotNoted s k _ _ _ _ h).trans (Frame.raiseIf own _ _ 56)

/-- The event leaves the slot's status as it was noted. -/
theorem f_slotReported {x : Fld} (hk : k < 2) (hx : x.addr = R.SYS_IMG_STAT k) : (s.slotReported k fail sect).f x =
    (s.slotNoted k (s.checkedState k fail) (if s.slotEmpty k then 0 else fail) (if s.slotEmpty k then 0xFF else sect)
      (if s.slotEmpty k then 0 else Img.role (s.slotBytes k))).f x := by
  refine f_raiseIf _ _ 56 ?_
  rw [hx]
  simp [evReg, R.SYS_IMG_STAT, R.CMC_EVDROP]
  omega

theorem slotReported_state (hk : k < 2) : (s.slotReported k fail sect).f (F.SYS_IMG_STAT_STATE k) = s.checkedState k fail := by
  rw [f_slotReported _ _ hk rfl, slotNoted_state]
  exact Nat.mod_eq_of_lt (checkedState_lt s k fail)

theorem slotReported_fail (hk : k < 2) :
    (s.slotReported k fail sect).f (F.SYS_IMG_STAT_FAIL k) = if s.slotEmpty k then 0 else fail % 16 := by
  rw [f_slotReported _ _ hk rfl, slotNoted_fail]
  split <;> rfl

theorem slotReported_sect (hk : k < 2) (he : s.slotEmpty k = false) :
    (s.slotReported k fail sect).f (F.SYS_IMG_STAT_SECT k) = sect % 2 ^ (F.SYS_IMG_STAT_SECT k).width := by
  rw [f_slotReported _ _ hk rfl, slotNoted_sect, if_neg (ne_true_of_eq_false he)]

theorem slotReported_role (hk : k < 2) (he : s.slotEmpty k = false) :
    (s.slotReported k fail sect).f (F.SYS_IMG_STAT_IMG_ROLE k) = Img.role (s.slotBytes k) % 4 := by
  rw [f_slotReported _ _ hk rfl, slotNoted_role, if_neg (ne_true_of_eq_false he)]

/-- A slot that is neither empty nor valid raises event 56. -/
theorem slotReported_event {fail : Nat} (hf : fail ≠ 0) (he : s.slotEmpty k = false) : (s.slotReported k fail sect).evBit 56 = true := by
  rw [slotReported, show (fail != 0 && !s.slotEmpty k) = true by simp [hf, he]]
  exact evBit_raise_self (n := 56) rfl

end slotReported

/-! ### The number of the slot to check -/

/-- The number of the slot is put into SYS_IMG_CHECK. -/
def slotNamed (s : State) (k : Nat) : State := s.setF F.SYS_IMG_CHECK_SLOT k

theorem slotNamed_slotBytes (s : State) (k : Nat) : (s.slotNamed k).slotBytes k = s.slotBytes k := by
  rw [slotBytes, slotBytes, mramRd, mramRd, slotNamed, setF_mram]

theorem slotNamed_slotEmpty (s : State) (k : Nat) : (s.slotNamed k).slotEmpty k = s.slotEmpty k := by
  rw [slotEmpty, slotEmpty, mramRd, mramRd, slotNamed, setF_mram]

theorem slotNamed_part7440 (s : State) (k : Nat) : (s.slotNamed k).part7440 = s.part7440 := rfl

theorem slotNamed_checkedState (s : State) (k fail : Nat) : (s.slotNamed k).checkedState k fail = s.checkedState k fail := by
  rw [checkedState, checkedState, slotNamed_slotEmpty,
    show (s.slotNamed k).role = s.role from f_setF_ne s k (by decide),
    show (s.slotNamed k).runSlot = s.runSlot from f_setF_ne s k (by decide)]

theorem slotNamed_state (s : State) (k : Nat) (hk : k < 2) :
    (s.slotNamed k).f (F.SYS_IMG_STAT_STATE k) = s.f (F.SYS_IMG_STAT_STATE k) :=
  f_setF_ne s k (by simp [R.SYS_IMG_STAT, R.SYS_IMG_CHECK]; omega)

theorem slotNamed_slot (s : State) {k : Nat} (hk : k < 2) : (s.slotNamed k).f F.SYS_IMG_CHECK_SLOT = k :=
  (f_setF_self s F.SYS_IMG_CHECK_SLOT k (by decide)).trans (Nat.mod_eq_of_lt hk)

end State

theorem exec_imgCheck (k : Fin 2) (s : State) :
    exec (.imgCheck k) s = s.finish (s.awake fun s => (s.slotNamed k.val).imgCheck k.val) := rfl

/-- Of a slot that is being written only the number is kept. -/
theorem completes_imgCheck_writing {s : State} (k : Fin 2) (ha : s.asleep = false) (hw : s.f (F.SYS_IMG_STAT_STATE k.val) = 1) :
    Completes (.imgCheck k) s fun t => t.f F.SYS_IMG_CHECK_SLOT = k.val ∧ t.outs = s.outs ∧
      Frame (fun a => a == R.SYS_IMG_CHECK) s t := by
  refine completes_awake (exec_imgCheck k s) ha ?_
  rw [State.imgCheck, if_pos ((s.slotNamed_state k.val k.isLt).trans hw)]
  exact ⟨s.slotNamed_slot k.isLt, rfl, (Frame.setF s k.val (by decide)).sealed⟩

/-- A check of another slot is reported in its status. -/
theorem completes_imgCheck {s : State} {fail sect : Nat} {P : State → Prop} (k : Fin 2) (ha : s.asleep = false)
    (hw : s.f (F.SYS_IMG_STAT_STATE k.val) ≠ 1) (hv : Img.validate (s.slotBytes k.val) s.part7440 = (fail, sect))
    (hP : P (s.sealed ((s.slotNamed k.val).slotReported k.val fail sect))) : Completes (.imgCheck k) s P := by
  refine completes_awake (exec_imgCheck k s) ha ?_
  rw [State.imgCheck, if_neg (by rwa [s.slotNamed_state k.val k.isLt]),
    State.validateSlot_eq (by rw [s.slotNamed_slotBytes, s.slotNamed_part7440, hv])]
  exact hP

/-- What a check of slot `k` of `s` that ended with a code and a section leaves. -/
structure Checked (k fail sect : Nat) (s t : State) : Prop where
  slot : t.f F.SYS_IMG_CHECK_SLOT = k
  empty : s.slotEmpty k = true → t.f (F.SYS_IMG_STAT_STATE k) = 0 ∧ t.f (F.SYS_IMG_STAT_FAIL k) = 0
  filled : s.slotEmpty k = false →
    t.f (F.SYS_IMG_STAT_STATE k) = (if fail ≠ 0 then 3 else if s.role != 0 && s.runSlot == k then 4 else 2) ∧
    t.f (F.SYS_IMG_STAT_FAIL k) = fail % 16 ∧ t.f (F.SYS_IMG_STAT_SECT k) = sect % 2 ^ (F.SYS_IMG_STAT_SECT k).width ∧
    t.f (F.SYS_IMG_STAT_IMG_ROLE k) = Img.role (s.slotBytes k) % 4 ∧ (fail ≠ 0 → t.evBit 56 = true)
  frame : Frame (fun a => a == R.SYS_IMG_CHECK || a == R.SYS_IMG_STAT k) s t

theorem checked_slotReported (s : State) {k : Nat} (hk : k < 2) (fail sect : Nat) :
    Checked k fail sect s ((s.slotNamed k).slotReported k fail sect) := by
  have hstate := (State.slotReported_state (s := s.slotNamed k) fail sect hk).trans (s.slotNamed_checkedState k fail)
  have hfail := State.slotReported_fail (s := s.slotNamed k) fail sect hk
  have hempty := s.slotNamed_slotEmpty k
  rw [hempty] at hfail
  refine ⟨?slot, fun he => ⟨hstate.trans (if_pos he), hfail.trans (if_pos he)⟩, fun he => ?filled, ?frame⟩
  case slot =>
    have hreport := State.frame_slotReported (s := s.slotNamed k) (k := k) (own := fun a => a == R.SYS_IMG_STAT k) fail sect (by simp)
    have hnumber := hreport.f_eq (x := F.SYS_IMG_CHECK_SLOT) (by simp [R.SYS_IMG_STAT, R.SYS_IMG_CHECK]; omega) (by decide)
    exact hnumber.trans (s.slotNamed_slot hk)
  case filled =>
    have he' := hempty.trans he
    rw [State.checkedState, he] at hstate
    rw [he] at hfail
    have hrole := State.slotReported_role fail sect hk he'
    rw [s.slotNamed_slotBytes] at hrole
    exact ⟨hstate, hfail, State.slotReported_sect fail sect hk he', hrole, fun hf => State.slotReported_event sect hf he'⟩
  case frame => exact (Frame.setF s k (by simp)).trans (State.frame_slotReported fail sect (by simp))

/-- Settles O17: the outcomes of a training are `State.trainingDone_passed`, `State.trainingDone_again` and
`State.trainingDone_failed`, and a check is reported as `State.slotReported` says. -/
theorem trainingAndImageCheck : Obligations.TrainingAndImageCheck := by
  unfold Obligations.TrainingAndImageCheck
  refine ⟨fun c ranks2 rowb fail pulse s ha hs hp hc hst => ?training,
    fun k s ha => ⟨completes_imgCheck_writing k ha, fun hw => ?check⟩⟩
  case training =>
    have htrain : s.Training c.val := ⟨hp, List.contains_iff_mem.1 hc, hst⟩
    have hfail : fail ≠ 0 → fail.toNat ≠ 0 := fun h h0 => h (BitVec.eq_of_toNat_eq h0)
    refine ⟨?passed, fun hf hpass => ?again, fun hf hpass => ?failed⟩
    case passed =>
      rintro rfl
      obtain ⟨t, ht, hend⟩ := State.trainingDone_passed ranks2 rowb.val c.isLt htrain
      exact completes_training ha hs ht hend.frame ⟨hend.state, hend.code, hend.told, hend.frame.sealed⟩
    case again =>
      exact completes_training ha hs (State.trainingDone_again ranks2 rowb.val htrain (hfail hf) hpass) (Frame.setFmc _ s _)
        ⟨rfl, (Frame.setFmc _ s _).sealed⟩
    case failed =>
      obtain ⟨t, ht, hend⟩ := State.trainingDone_failed ranks2 rowb.val c.isLt htrain (hfail hf) hpass
      exact completes_training ha hs ht hend.frame ⟨hend.state, hend.code, hend.told, hend.frame.sealed⟩
  case check =>
    obtain ⟨⟨fail, sect⟩, hv⟩ : ∃ r, Img.validate (s.slotBytes k.val) s.part7440 = r := ⟨_, rfl⟩
    obtain ⟨hslot, hempty, hfilled, hframe⟩ := checked_slotReported s k.isLt fail sect
    rw [hv]
    exact completes_imgCheck k ha hw hv ⟨hslot, hempty, hfilled, hframe.sealed⟩

end Sys2Proof.Machine
end

section
/-! OBLIGATIONS. Triggers, shutter points and heavy preparation: the statement fails where a table load is under way. -/

namespace Sys2Proof.Machine

/-- A heavy commit that changes the image to that of slot 1. -/
def imageCommit : Commit :=
  { gen := 1, n := 300, slot := 0, due := 0, tag := 0, heavy := true, sent := true, catchup := false,
    snap := [(F.SYS_IMG_SEL_SLOT.addr, 1)], cache := {} }

/-- A tile that has prepared that commit: region 0x11 is still due, and the load that fills it (R40, R113) has begun. -/
def reloadingTile : State :=
  { State.reset.setF F.SYS_ROLE_ROLE 2 with
    cmt := { pend := [imageCommit], regionsDue := [0x11], prepared := true, tabReload := true }
    cor := { load := some { set := 0, commit := some 0, heavy := some { slot := 1, bases := [0, 0], flash := 2 ^ 26, alt := false } } } }

/-- The regions that a heavy commit still waits for after a command. -/
def regionsDueAfter (c : Instr) (s : State) : List Nat := match exec c s with
  | .next t => t.cmt.regionsDue
  | _ => []

/-- Refutes O20: a region that REGION_READY names should no longer be due, but region 0x11 is ready only when its load ends (R112), so
the command leaves it due while the load runs. -/
theorem not_triggersShutterPointsAndPreparation : ¬ Obligations.TriggersShutterPointsAndPreparation := by
  unfold Obligations.TriggersShutterPointsAndPreparation
  intro h
  obtain ⟨-, -, hprepare⟩ := h
  obtain ⟨-, -, hready⟩ := hprepare reloadingTile imageCommit (by decide +kernel) (by decide +kernel)
  obtain ⟨t, hnext, hgone, -⟩ := hready 0x11
  have hkept : regionsDueAfter (.regionReady 0x11) reloadingTile = t.cmt.regionsDue := by rw [regionsDueAfter, hnext]
  rw [← hkept] at hgone
  exact hgone (by decide +kernel)

end Sys2Proof.Machine
end

section
/-! OBLIGATIONS. Segments and transmit deadlines: the statement fails where the wait for the deadline passes the join boundary. -/

namespace Sys2Proof.Machine

/-- A segment of frame 301 that has not begun, in slot 7. -/
def unbegunSegment : Seg := { n := 301, slot := 7, entry := 0, port := 1, addr := 9, pixels := 8, derate := 256, runs := 1 }

/-- A Sender of a pair at 60 Hz with four slots, in frame 300: it is in Resync and sends video from the join boundary 301 on (R334, R344). -/
def joiningSender : State :=
  let s := [(F.SYS_ROLE_ROLE, 1), (F.SYS_UNITEN_OPT, 2), (F.PAR_STATUS_PSTATE, 4), (F.TIM_STATUS_TSTATE, 3), (F.DSP_NUM_NUM, 60),
    (F.DSP_DEN_DEN, 1), (F.DSP_STATUS_SACT, 4)].foldl (fun s x => s.setF x.1 x.2) State.reset
  { s with
    clk := { s.clk with wall := 5 * State.secU }
    par := { s.par with joinAt := some 301 }
    snd := { s.snd with segs := [unbegunSegment] } }

/-- The count of dropped segments after a command. -/
def segDropsAfter (c : Instr) (s : State) : Nat := match exec c s with
  | .next t => t.f F.SND_SEG_DROP_COUNT
  | _ => 0

/-- Refutes O24: the statement ranges over slots that the frame does not have too.  The deadline of slot 7 of a frame of four slots lies
past the frame boundary, and where that is the join boundary of a member in Resync, the port that carried no video before the wait
carries it after: the segment is not only discarded, but counted in SND_SEG_DROP. -/
theorem not_segmentsAndTransmitDeadlines : ¬ Obligations.SegmentsAndTransmitDeadlines := by
  unfold Obligations.SegmentsAndTransmitDeadlines
  intro h
  obtain ⟨-, hdeadline⟩ := h
  obtain ⟨-, hdiscard, -⟩ := hdeadline 7 unbegunSegment joiningSender (by decide +kernel) (by decide +kernel) (by decide +kernel)
  obtain ⟨t, hnext, -, hframe⟩ := hdiscard (by decide +kernel) (by decide +kernel)
  have hkept : segDropsAfter (.transmitDeadline 7) joiningSender = joiningSender.f F.SND_SEG_DROP_COUNT := by
    rw [segDropsAfter, hnext]
    exact hframe.f_eq rfl (by decide)
  exact absurd hkept (by decide +kernel)

end Sys2Proof.Machine
end

section
/-! SUPPORT. What the operations of lamp correction leave as it was: registers outside a set, both memories and the clock; the
passing of time and the work of the fabric leave still more. -/

namespace Sys2Proof.Machine

theorem Frame.setCor (own : Nat → Bool) (s : State) (g : CorSt → CorSt) : Frame own s (s.setCor g) :=
  ⟨fun _ _ _ => rfl, rfl, rfl, fun _ => rfl, fun _ => rfl, fun _ => rfl, fun _ => rfl⟩

/-- The owning block's note that a region is loaded changes no register and no memory. -/
theorem Frame.regionLoaded (own : Nat → Bool) (s : State) (use : Nat) : Frame own s (s.regionLoaded use) :=
  ⟨fun _ _ _ => rfl, rfl, rfl, fun _ => rfl, fun _ => rfl, fun _ => rfl, fun _ => rfl⟩

theorem Frame.foldl {α : Type} {own : Nat → Bool} {g : State → α → State} {l : List α} (h : ∀ x ∈ l, ∀ s, Frame own s (g s x))
    (s : State) : Frame own s (l.foldl g s) := by
  induction l generalizing s with
  | nil => exact Frame.refl own s
  | cons x l ih => exact (h x (by simp) s).trans (ih (fun y hy => h y (by simp [hy])) _)

theorem Frame.isTile {own : Nat → Bool} {s t : State} (h : Frame own s t) (ho : own R.SYS_ROLE = false) : t.isTile = s.isTile :=
  congrArg (· == 2) (h.f_eq (x := F.SYS_ROLE_ROLE) ho rfl)

/-- From `s` to `t` every register outside those that satisfy `own` and those an event may write holds its word; the frame memory, the
MRAM and the clock are the same. -/
structure Keeps (own : Nat → Bool) (s t : State) : Prop where
  regs : ∀ a, own a = false → evReg a = false → t.reg a = s.reg a
  dram : t.dram = s.dram
  mram : t.mram = s.mram
  clk : t.clk = s.clk

namespace Keeps

variable {own : Nat → Bool} {s t u : State}

theorem refl (own : Nat → Bool) (s : State) : Keeps own s s := ⟨fun _ _ _ => rfl, rfl, rfl, rfl⟩

theorem trans (h : Keeps own s t) (k : Keeps own t u) : Keeps own s u :=
  ⟨fun a ho he => (k.regs a ho he).trans (h.regs a ho he), k.dram.trans h.dram, k.mram.trans h.mram, k.clk.trans h.clk⟩

theorem f_eq (h : Keeps own s t) {x : Fld} (ho : own x.addr = false) (he : evReg x.addr = false) : t.f x = s.f x :=
  congrArg x.get (h.regs x.addr ho he)

theorem setF (s : State) {x : Fld} (v : Nat) (h : own x.addr = true) : Keeps own s (s.setF x v) :=
  ⟨(Frame.setF s v h).regs, rfl, rfl, rfl⟩

theorem bump (s : State) {x : Fld} (h : own x.addr = true) : Keeps own s (s.bump x) := setF s _ h

theorem raise (own : Nat → Bool) (s : State) (n : Nat) : Keeps own s (s.raise n) :=
  ⟨(Frame.raise own s n).regs, State.raise_dram s n, State.raise_mram s n, State.raise_clk s n⟩

theorem raiseIf (own : Nat → Bool) (s : State) (c : Bool) (n : Nat) : Keeps own s (s.raiseIf c n) :=
  ⟨(Frame.raiseIf own s c n).regs, State.raiseIf_dram s c n, State.raiseIf_mram s c n, State.raiseIf_clk s c n⟩

theorem setCmc (own : Nat → Bool) (s : State) (g : CmcSt → CmcSt) : Keeps own s (s.setCmc g) := ⟨fun _ _ _ => rfl, rfl, rfl, rfl⟩

theorem setCor (own : Nat → Bool) (s : State) (g : CorSt → CorSt) : Keeps own s (s.setCor g) := ⟨fun _ _ _ => rfl, rfl, rfl, rfl⟩

theorem setDsp (own : Nat → Bool) (s : State) (g : DspSt → DspSt) : Keeps own s (s.setDsp g) := ⟨fun _ _ _ => rfl, rfl, rfl, rfl⟩

theorem foldl {α : Type} {g : State → α → State} (h : ∀ s x, Keeps own s (g s x)) (l : List α) (s : State) :
    Keeps own s (l.foldl g s) := by
  induction l generalizing s with
  | nil => exact refl own s
  | cons x l ih => exact (h s x).trans (ih _)

end Keeps

/-! ### Numbers in byte strings -/

theorem leVal_lt (bs : List Byte) : leVal bs < 256 ^ bs.length := by
  induction bs with
  | nil => decide
  | cons b bs ih =>
    have := b.isLt
    simp only [leVal, List.length_cons, Nat.pow_succ]
    omega

theorem numAt_lt (bs : List Byte) (o n : Nat) : numAt bs o n < 256 ^ n :=
  Nat.lt_of_lt_of_le (leVal_lt _) (Nat.pow_le_pow_right (by decide) (List.length_take_le n (bs.drop o)))

namespace State

/-! ### Reads of a plane of the frame memory -/

theorem keeps_dramReadNote (s : State) (a n : Nat) : Keeps (inBlk .FMC) s (s.dramReadNote a n) := by
  unfold dramReadNote outOfRange
  split
  · exact Keeps.refl _ s
  · exact ((((Keeps.bump s (by decide)).trans (Keeps.setF _ _ (by decide))).trans (Keeps.setF _ _ (by decide))).trans
      (Keeps.setF _ _ (by decide))).trans (Keeps.raise _ _ _)

/-- The report of reads of a plane touches the registers of the frame memory controller and those of events. -/
theorem keeps_planeNote (s : State) (base size : Nat) (ls : List Nat) : Keeps (inBlk .FMC) s (s.planeNote base size ls) := by
  unfold planeNote
  split
  · exact Keeps.refl _ s
  · exact (Keeps.foldl (fun s l => keeps_dramReadNote s _ _) ls s).trans (Keeps.raiseIf _ _ _ _)

theorem keeps_doseNote (s : State) (ls : List Nat) : Keeps (inBlk .FMC) s (s.doseNote ls) := keeps_planeNote s s.doseBase 8 ls

theorem keeps_cplNote (s : State) (ls : List Nat) : Keeps (inBlk .FMC) s (s.cplNote ls) := keeps_planeNote s s.cplBase 2 ls

/-! ### The fabric -/

/-- Steps that each change the state of the fabric alone change it alone together. -/
theorem foldl_setFab {α : Type} {g : State → α → State} (h : ∀ s x, ∃ fab, g s x = s.setFab fun _ => fab) (l : List α) (s : State) :
    ∃ fab, l.foldl g s = s.setFab fun _ => fab := by
  induction l generalizing s with
  | nil => exact ⟨s.fab, rfl⟩
  | cons x l ih =>
    obtain ⟨fab, hx⟩ := h s x
    obtain ⟨fab', hl⟩ := ih (g s x)
    exact ⟨fab', by rw [List.foldl_cons, hl, hx]; rfl⟩

theorem dealRuns_eq (s : State) : ∃ fab, s.dealRuns = s.setFab fun _ => fab := by
  refine foldl_setFab (fun s p => ?_) _ s
  split
  · exact ⟨s.fab, rfl⟩
  split
  · exact ⟨s.fab, rfl⟩
  · exact ⟨_, rfl⟩

theorem sramReloads_eq (s : State) : ∃ fab, s.sramReloads = s.setFab fun _ => fab := by
  refine foldl_setFab (fun s c => ?_) _ s
  unfold sramReload
  split
  · exact ⟨s.fab, rfl⟩
  · exact ⟨_, rfl⟩

theorem keeps_sramReloads (own : Nat → Bool) (s : State) : Keeps own s s.sramReloads := by
  obtain ⟨fab, h⟩ := s.sramReloads_eq
  rw [h]
  exact ⟨fun _ _ _ => rfl, rfl, rfl, rfl⟩

/-! ### Waiting -/

/-- Waiting lets time pass and does nothing else. -/
theorem waitTo_eq (s : State) (t : Nat) : ∃ c, s.waitTo t = { s with clk := c } ∧ s.clk.wall ≤ c.wall := by
  unfold waitTo
  split
  · exact ⟨s.clk, rfl, Nat.le_refl _⟩
  · exact ⟨_, rfl, Nat.le_add_right _ _⟩

end State

end Sys2Proof.Machine
end

section
/-! OBLIGATIONS. Receive deadlines (R103, R202) and table loads (R112). -/

namespace Sys2Proof.Machine

namespace State

/-! ### The start of a correction pass -/

/-- The pass of slot k of frame n has begun: it is the last one and is held, it has recorded the derate in use, and the memories are as
they were. -/
structure PassBegun (n k : Nat) (s t : State) : Prop where
  last : t.cor.lastPass = some (n, k)
  held : ∃ y ∈ t.cor.passes, y.n = n ∧ y.slot = k
  derate : t.f F.COR_DERATE_DRL = s.f F.DRV_DERATE_STAT_DRL
  wall : s.clk.wall ≤ t.clk.wall
  dram : t.dram = s.dram
  mram : t.mram = s.mram

/-- The state in which a pass begins: the reloads still due are made, and the reads of the compensation entries are reported. -/
def passReady (s : State) (k : Nat) : State := (if k = 0 then s.sramReloads else s).cplNote (List.range s.lamps)

/-- The pass of slot k of frame n with the factors it latches. -/
def passOf (s : State) (n k ramp : Nat) : Pass :=
  { n := n, slot := k, drl := s.f F.DRV_DERATE_STAT_DRL, drr := s.cor.drrs.getD k 16384, ramp := ramp, seg := s.cor.segs.getD k [],
    runs := cdiv s.tilePixels 1024 }

/-- The pass is held as the last one, and its factors are shown. -/
def passShown (s : State) (x : Pass) : State :=
  (((s.setCor fun c => { c with
    passes := (c.passes.filter fun y => decide (x.n ≤ y.n + 1) && !(y.n == x.n && y.slot == x.slot)) ++ [x]
    lastPass := some (x.n, x.slot) }).setF F.COR_DERATE_DRL x.drl).setF F.COR_DERATE_DRR x.drr).setF F.COR_RAMP_RAMP x.ramp

theorem passStart_eq (s : State) (n k ramp : Nat) : s.passStart n k ramp =
    (((s.passReady k).passShown (s.passOf n k ramp)).setFab fun f => { f with work := f.work ++ runsOf n k 0 s.tilePixels }).dealRuns :=
  rfl

theorem keeps_passReady (s : State) (k : Nat) : Keeps (inBlk .FMC) s (s.passReady k) := by
  unfold passReady
  refine Keeps.trans ?_ (keeps_cplNote _ _)
  split
  · exact keeps_sramReloads _ s
  · exact Keeps.refl _ s

theorem passShown_derate (s : State) (x : Pass) : (s.passShown x).f F.COR_DERATE_DRL = x.drl % 2 ^ 15 :=
  (f_setF_ne _ _ (by decide)).trans ((f_setF_disjoint _ _ (by decide) (by decide)).trans (f_setF_self _ _ _ (by decide)))

theorem passShown_held (s : State) (x : Pass) : x ∈ (s.passShown x).cor.passes := by simp [passShown]

theorem passStart_begun (s : State) (n k ramp : Nat) : PassBegun n k s (s.passStart n k ramp) := by
  have h := s.keeps_passReady k
  rw [passStart_eq]
  generalize hx : s.passOf n k ramp = x
  have hn : x.n = n := hx ▸ rfl
  have hk : x.slot = k := hx ▸ rfl
  have hdrl : x.drl = s.f F.DRV_DERATE_STAT_DRL := hx ▸ rfl
  generalize s.passReady k = u at h
  obtain ⟨fab, hdeal⟩ := ((u.passShown x).setFab fun f => { f with work := f.work ++ runsOf n k 0 s.tilePixels }).dealRuns_eq
  rw [hdeal]
  exact {
    last := congrArg some (Prod.ext hn hk)
    held := ⟨x, passShown_held u x, hn, hk⟩
    derate := (passShown_derate u x).trans ((Nat.mod_eq_of_lt (hdrl ▸ Fld.get_lt F.DRV_DERATE_STAT_DRL _)).trans hdrl)
    wall := Nat.le_of_eq (congrArg (·.wall) h.clk).symm
    dram := h.dram
    mram := h.mram }

/-! ### The judgement of a segment and the ramp -/

/-- Every register but that of the derate in use. -/
def notDerate : Nat → Bool := fun a => a != R.DRV_DERATE_STAT

theorem keeps_judgeSegment (s : State) (n k : Nat) : Keeps notDerate s (s.judgeSegment n k) := by
  have hdup : ∀ (s : State) (v : RxVid), Keeps notDerate s (s.bump (F.CMC_S_DUP_COUNT v.side)) := fun s v =>
    Keeps.bump s (by simp [notDerate, R.CMC_S_DUP, R.DRV_DERATE_STAT]; omega)
  unfold judgeSegment
  extract_lets fr vs pri pref clean s1
  have h1 : Keeps notDerate s s1 := Keeps.setCmc _ _ _
  split
  · extract_lets px drr s2 spare s3 s4 got
    have h3 : Keeps notDerate s2 s3 := (Keeps.bump _ rfl).trans (Keeps.foldl hdup _ _)
    have h4 : Keeps notDerate s3 s4 := by
      simp only [s4]
      split
      · exact (Keeps.bump _ rfl).trans (Keeps.raise _ _ _)
      · exact Keeps.refl _ s3
    exact (((h1.trans (Keeps.setCor _ _ _)).trans h3).trans h4).trans (Keeps.setCmc _ _ _)
  · exact (((h1.trans (Keeps.foldl hdup _ _)).trans (Keeps.bump _ rfl)).trans (Keeps.setCmc _ _ _)).trans (Keeps.raise _ _ _)

theorem keeps_takeRamp (s : State) (n k : Nat) : Keeps notDerate s (s.takeRamp n k).2 :=
  ((Keeps.setDsp _ s _).trans (Keeps.setF _ _ rfl)).trans (Keeps.setF _ _ rfl)

/-- What happens between the wait for the deadline and the start of the pass leaves the derate in use, the memories and the clock. -/
theorem PassBegun.of_keeps {n k : Nat} {s t u : State} (h : Keeps notDerate s t) (hp : PassBegun n k t u) : PassBegun n k s u where
  last := hp.last
  held := hp.held
  derate := hp.derate.trans (h.f_eq rfl rfl)
  wall := h.clk ▸ hp.wall
  dram := hp.dram.trans h.dram
  mram := hp.mram.trans h.mram

/-- The receive deadline of a slot of a frame that no heavy commit takes. -/
theorem receiveDeadline_begun {s : State} {k : Nat} (ht : s.isTile = true) (hf : s.framed = true)
    (hk : k < (s.rateAt (s.frameNow + 1)).slots) (hr : s.repeatsHeavy (s.frameNow + 1) = false) :
    PassBegun (s.frameNow + 1) k s (s.receiveDeadline k) := by
  unfold receiveDeadline
  rw [if_neg (by simp [ht, hf])]
  extract_lets n s1 s2
  obtain ⟨c, hwait, hle⟩ := s.waitTo_eq (s.receiveAt n k)
  have hr1 : s1.repeatsHeavy n = false := (congrArg (repeatsHeavy · n) hwait).trans hr
  rw [if_neg (Nat.not_le.2 hk), if_neg (ne_true_of_eq_false hr1)]
  have h2 : Keeps notDerate s1 s2 := by
    simp only [s2]
    split
    · exact Keeps.setCmc _ s1 _
    · exact keeps_judgeSegment s1 n k
  have hp := PassBegun.of_keeps (h2.trans (keeps_takeRamp s2 n k)) (passStart_begun _ n k (s2.takeRamp n k).1)
  have hs1 : s1 = { s with clk := c } := hwait
  rw [hs1] at hp
  exact { hp with wall := Nat.le_trans hle hp.wall }

/-! ### The end of a table load -/

/-- The registers that the failure of a load writes. -/
def loadRegs : Nat → Bool := fun a => a == R.COR_STATUS || a == R.COR_LOAD_STAT

/-- No other set may be tried for a load (R112 step 5). -/
structure NoOtherSet (s : State) (l : TabLoad) : Prop where
  active : l.heavy = none → s.on F.COR_GWY_SEL_ALT_EN = false
  planned : ∀ q, l.heavy = some q → q.alt = false

/-- The state in which the failure of a load is noted with its code, and with event 145 where block 0 failed. -/
def failureNoted (s : State) (code : Nat) (told : Bool) : State := (s.setF F.COR_LOAD_STAT_RESULT code).raiseIf told 145

/-- The state of the tables after a load that failed for good. -/
def tablesLost (s : State) : State := (((s.setF F.COR_STATUS_TABLES_OK 0).setF F.COR_STATUS_LOADING 0).setLoad none).regionLoaded 0x11

/-- Where no other set may be tried, the failure of a load ends it. -/
theorem tableFail_eq {s : State} {l : TabLoad} (h : NoOtherSet s l) : s.tableFail l = s.tablesLost.raise 147 := by
  unfold tableFail
  extract_lets alt
  have halt : alt = false := by
    simp only [alt]
    split
    · exact h.planned _ ‹_›
    · exact h.active ‹_›
  rw [halt]
  rfl

/-- A load has failed with a code: it has ended, the tables are not usable, and a tile has told so. -/
structure LoadFailed (code : Nat) (told : Bool) (s t : State) : Prop where
  result : t.f F.COR_LOAD_STAT_RESULT = code
  ended : t.cor.load = none
  unusable : t.f F.COR_STATUS_TABLES_OK = 0
  idle : t.f F.COR_STATUS_LOADING = 0
  header : s.isTile = true → told = true → t.evBit 145 = true
  failed : s.isTile = true → t.evBit 147 = true
  frame : Frame loadRegs s t

theorem frame_failureNoted (s : State) (code : Nat) (told : Bool) : Frame loadRegs s (s.failureNoted code told) :=
  (Frame.setF s code rfl).trans (Frame.raiseIf _ _ told 145)

theorem frame_tablesLost (s : State) : Frame loadRegs s s.tablesLost :=
  (((Frame.setF s 0 rfl).trans (Frame.setF _ 0 rfl)).trans (Frame.setCor _ _ _)).trans (Frame.regionLoaded _ _ _)

/-- The events of COR are raised at a tile. -/
theorem evBit_raise_cor {s t : State} {n : Nat} (hf : Frame loadRegs s t) (hs : s.isTile = true) (hn : evOwner n = some .COR) :
    (t.raise n).evBit n = true :=
  evBit_raise_self (evLive_of_owner hn ((hf.isTile rfl).trans hs))

theorem tablesLost_f (s : State) (x : Fld) :
    s.tablesLost.f x = ((s.setF F.COR_STATUS_TABLES_OK 0).setF F.COR_STATUS_LOADING 0).f x := rfl

theorem evBit_tablesLost (s : State) (n : Nat) : s.tablesLost.evBit n = s.evBit n := by
  have h : R.EVT_STAT (n / 32) ≠ R.COR_STATUS := by simp only [R.EVT_STAT, R.COR_STATUS]; omega
  rw [evBit_regs (t := s.tablesLost) (s := (s.setF F.COR_STATUS_TABLES_OK 0).setF F.COR_STATUS_LOADING 0) rfl,
    evBit_setF _ _ _ h, evBit_setF _ _ _ h]

theorem tableFail_failed {s : State} {l : TabLoad} {code : Nat} (told : Bool) (hcode : code < 16) (h : NoOtherSet s l) :
    LoadFailed code told s ((s.failureNoted code told).tableFail l) := by
  have hnoted := s.frame_failureNoted code told
  have hset : NoOtherSet (s.failureNoted code told) l :=
    ⟨fun hh => (congrArg (· != 0) (hnoted.f_eq (x := F.COR_GWY_SEL_ALT_EN) rfl rfl)).trans (h.active hh), h.planned⟩
  have hlost := hnoted.trans (frame_tablesLost _)
  rw [tableFail_eq hset]
  refine ⟨(f_raise _ _ rfl).trans ?_, (congrArg CorSt.load (raise_cor _ _)), (f_raise _ _ rfl).trans ?_, (f_raise _ _ rfl).trans ?_,
    fun ht htold => evBit_raise_mono _ (by decide) ?_, fun ht => evBit_raise_cor hlost ht rfl, hlost.trans (Frame.raise _ _ _)⟩
  · rw [tablesLost_f, f_setF_ne _ _ (by decide), f_setF_ne _ _ (by decide), failureNoted, f_raiseIf _ _ _ rfl,
      f_setF_self _ _ _ (by decide)]
    exact Nat.mod_eq_of_lt hcode
  · rw [tablesLost_f, f_setF_disjoint _ _ (by decide) (by decide), f_setF_self _ _ _ (by decide)]
    rfl
  · rw [tablesLost_f, f_setF_self _ _ _ (by decide)]
    rfl
  · rw [evBit_tablesLost, failureNoted, htold]
    exact evBit_raise_cor (Frame.setF s code rfl) ht rfl

theorem headCode_lt (s : State) (l : TabLoad) (b : List Byte) : s.headCode l b < 16 := by
  unfold headCode
  extract_lets d flash size blocks
  split
  · decide
  split
  · decide
  split
  · decide
  split
  · decide
  split
  · decide
  · decide

/-- The state in which a load has ended and its outcome and the ID of the set are shown. -/
def loadShown (s : State) (l : TabLoad) : State :=
  (((((s.setF F.COR_STATUS_TABLES_OK 1).setF F.COR_STATUS_LOADING 0).setF F.COR_STATUS_SET l.set).setF F.COR_LOAD_STAT_RESULT
    (if l.bad then 2 else 1)).setF F.COR_LOAD_TIME_MS (min ((s.clk.now - l.began) / 1000000) 0xFFFF)).setF F.COR_GWY_ID_TABLE_ID
    (numAt l.head 8 4)

/-- The calibration time of the set is shown. -/
def calTimeShown (s : State) (head : List Byte) : State :=
  (List.range 3).foldl (fun s i => s.setF (F.COR_GWY_CALTIME_CALTIME i) (numAt head (0x20 + 4 * i) (if i = 2 then 2 else 4))) s

/-- The load is over, and block 0 of its set stays known. -/
def loadOver (s : State) (head : List Byte) : State :=
  ((s.setLoad none).setCor fun c => { c with block0 := head }).regionLoaded 0x11

theorem loadOver_f (s : State) (head : List Byte) (x : Fld) : (s.loadOver head).f x = s.f x := rfl

theorem frame_loadOver (own : Nat → Bool) (s : State) (head : List Byte) : Frame own s (s.loadOver head) :=
  ((Frame.setCor _ s _).trans (Frame.setCor _ _ _)).trans (Frame.regionLoaded _ _ _)

theorem tableDone_eq (s : State) (l : TabLoad) :
    s.tableDone l = (((s.loadShown l).calTimeShown l.head).loadOver l.head).raise 144 := rfl

/-- The registers of the calibration time. -/
def calTimeRegs : Nat → Bool := fun a => decide (R.COR_GWY_CALTIME 0 ≤ a ∧ a ≤ R.COR_GWY_CALTIME 2)

theorem frame_calTimeShown {own : Nat → Bool} (h : ∀ a, calTimeRegs a = true → own a = true) (s : State) (head : List Byte) :
    Frame own s (s.calTimeShown head) := by
  refine Frame.foldl (fun i hi s => Frame.setF s _ (h _ ?_)) s
  simp only [List.mem_range] at hi
  simp only [calTimeRegs, R.COR_GWY_CALTIME, decide_eq_true_eq]
  omega

theorem inBlk_cor {a : Nat} : inBlk .COR a = true ↔ 0x180000 ≤ a ∧ a < 0x180200 := decide_eq_true_iff

theorem frame_loadShown (s : State) (l : TabLoad) : Frame (inBlk .COR) s (s.loadShown l) :=
  (((((Frame.setF s _ rfl).trans (Frame.setF _ _ rfl)).trans (Frame.setF _ _ rfl)).trans (Frame.setF _ _ rfl)).trans
    (Frame.setF _ _ rfl)).trans (Frame.setF _ _ rfl)

/-- A load has ended with its tables usable, and a tile has told so. -/
structure LoadDone (l : TabLoad) (s t : State) : Prop where
  usable : t.f F.COR_STATUS_TABLES_OK = 1
  idle : t.f F.COR_STATUS_LOADING = 0
  set : t.f F.COR_STATUS_SET = l.set % 2
  result : t.f F.COR_LOAD_STAT_RESULT = if l.bad then 2 else 1
  ended : t.cor.load = none
  told : s.isTile = true → t.evBit 144 = true
  tableId : t.f F.COR_GWY_ID_TABLE_ID = numAt l.head 8 4
  frame : Frame (inBlk .COR) s t

/-- What the outcome shows stays while the calibration time is shown. -/
theorem f_calTimeShown (s : State) (head : List Byte) {x : Fld} (h : calTimeRegs x.addr = false) (he : evReg x.addr = false) :
    (s.calTimeShown head).f x = s.f x :=
  (frame_calTimeShown (fun _ ha => ha) s head).f_eq h he

theorem loadShown_usable (s : State) (l : TabLoad) : (s.loadShown l).f F.COR_STATUS_TABLES_OK = 1 := by
  rw [loadShown, f_setF_ne _ _ (by decide), f_setF_ne _ _ (by decide), f_setF_ne _ _ (by decide),
    f_setF_disjoint _ _ (by decide) (by decide), f_setF_disjoint _ _ (by decide) (by decide), f_setF_self _ _ _ (by decide)]
  rfl

theorem loadShown_idle (s : State) (l : TabLoad) : (s.loadShown l).f F.COR_STATUS_LOADING = 0 := by
  rw [loadShown, f_setF_ne _ _ (by decide), f_setF_ne _ _ (by decide), f_setF_ne _ _ (by decide),
    f_setF_disjoint _ _ (by decide) (by decide), f_setF_self _ _ _ (by decide)]
  rfl

theorem loadShown_set (s : State) (l : TabLoad) : (s.loadShown l).f F.COR_STATUS_SET = l.set % 2 := by
  rw [loadShown, f_setF_ne _ _ (by decide), f_setF_ne _ _ (by decide), f_setF_ne _ _ (by decide), f_setF_self _ _ _ (by decide)]
  rfl

theorem loadShown_result (s : State) (l : TabLoad) : (s.loadShown l).f F.COR_LOAD_STAT_RESULT = if l.bad then 2 else 1 := by
  rw [loadShown, f_setF_ne _ _ (by decide), f_setF_ne _ _ (by decide), f_setF_self _ _ _ (by decide)]
  split <;> rfl

theorem loadShown_tableId (s : State) (l : TabLoad) : (s.loadShown l).f F.COR_GWY_ID_TABLE_ID = numAt l.head 8 4 := by
  rw [loadShown, f_setF_self _ _ _ (by decide)]
  exact Nat.mod_eq_of_lt (numAt_lt l.head 8 4)

theorem frame_calTimeShown_cor (s : State) (head : List Byte) : Frame (inBlk .COR) s (s.calTimeShown head) := by
  refine frame_calTimeShown (fun a ha => ?_) s head
  simp only [calTimeRegs, R.COR_GWY_CALTIME, decide_eq_true_eq] at ha
  rw [inBlk_cor]
  omega

theorem tableDone_done (s : State) (l : TabLoad) : LoadDone l s (s.tableDone l) := by
  rw [tableDone_eq]
  have hframe := ((frame_loadShown s l).trans (frame_calTimeShown_cor _ l.head)).trans (frame_loadOver _ _ l.head)
  have hf : ∀ {x : Fld}, calTimeRegs x.addr = false → evReg x.addr = false →
      ((((s.loadShown l).calTimeShown l.head).loadOver l.head).raise 144).f x = (s.loadShown l).f x :=
    fun hx he => by rw [f_raise _ _ he, loadOver_f, f_calTimeShown _ _ hx he]
  exact {
    usable := (hf rfl rfl).trans (loadShown_usable s l)
    idle := (hf rfl rfl).trans (loadShown_idle s l)
    set := (hf rfl rfl).trans (loadShown_set s l)
    result := (hf rfl rfl).trans (loadShown_result s l)
    ended := congrArg CorSt.load (raise_cor _ _)
    told := fun ht => evBit_raise_self (evLive_of_owner rfl ((hframe.isTile rfl).trans ht))
    tableId := (hf rfl rfl).trans (loadShown_tableId s l)
    frame := hframe.trans (Frame.raise _ _ _) }

/-! ### Blocks of a set -/

/-- A block that differs from what the header says is asked for again. -/
theorem tableBlock_again {s : State} {l : TabLoad} {bytes : List Byte} (hl : s.cor.load = some l) (h0 : 0 < l.block)
    (hn : l.block < numAt l.head 0x2C 4) (ha : l.again = false)
    (hc : (crc32 (padTo 65536 bytes)).toNat ≠ numAt l.head (0x100 + 4 * l.block) 4) :
    s.tableBlock bytes = (s.setLoad (some { l with again := true })).emit (.flashRead (s.loadBase l + 65536 * l.block) 65536) := by
  unfold tableBlock
  rw [hl]
  dsimp only
  rw [if_neg (by omega), if_neg (by omega), if_neg (by simpa using hc), if_pos (by simp [ha])]

/-- A write into a region of the line store changes nothing else. -/
theorem lineWrIn_eq (s : State) (r : Option (Nat × Nat)) (o : Nat) (bs : List Byte) :
    ∃ ls, s.lineWrIn r o bs = { s with lineStore := ls } := by
  unfold lineWrIn
  split
  · exact ⟨_, rfl⟩
  · exact ⟨s.lineStore, rfl⟩

/-- A block as the header says it is taken: the next one is awaited, and only the line store takes bytes. -/
theorem tableBlock_taken {s : State} {l : TabLoad} {bytes : List Byte} (hl : s.cor.load = some l) (h0 : 0 < l.block)
    (hn : l.block < numAt l.head 0x2C 4) (hc : (crc32 (padTo 65536 bytes)).toNat = numAt l.head (0x100 + 4 * l.block) 4) :
    ∃ ls outs, s.tableBlock bytes =
      { s with cor := { s.cor with load := some { l with block := l.block + 1, again := false } }, lineStore := ls, outs := outs } := by
  unfold tableBlock
  rw [hl]
  dsimp only
  rw [if_neg (by omega), if_neg (by omega), if_pos (by simpa using hc)]
  obtain ⟨ls, hls⟩ := s.lineWrIn_eq (regionIn (s.loadImg l) 0x11) (65536 * (l.block - 1))
    ((padTo 65536 bytes).take (Img.corW (Img.cor (s.loadImg l)) * Img.corH (Img.cor (s.loadImg l)) * 24 - 65536 * (l.block - 1)))
  rw [hls]
  split
  · exact ⟨ls, _, rfl⟩
  · exact ⟨ls, s.outs, rfl⟩

end State

/-! ### The parts of O25 -/

/-- A command of a table load at a device that has ended its bring-up leaves what the load's operation leaves. -/
theorem completes_load {c : Instr} {s : State} {g : State → State} {P : State → Prop}
    (hc : exec c s = s.finish (s.awake fun s => (g s).bringupGo)) (ha : s.asleep = false) (hs : 5 ≤ s.stage')
    (hstage : (g s).stage' = s.stage') (hp : P (s.sealed (g s))) : Completes c s P := by
  refine completes_awake hc ha ?_
  rwa [State.bringupGo_booted (hstage ▸ hs)]

/-- Settles O25: at the deadline only the wait, the judgement of the segment and the ramp come before the start of the pass, and none of
them touches the derate in use or a memory; a load that has no other set to try ends where it fails. -/
theorem receiveDeadlinesAndTableLoads : Obligations.ReceiveDeadlinesAndTableLoads := by
  unfold Obligations.ReceiveDeadlinesAndTableLoads
  refine ⟨fun k s ha ht hf hk hr => ?deadline, fun bytes l s ha hs hl => ⟨fun hact hplan => ?timeout, fun hact hplan h0 hcode => ?header,
    fun h0 hn hagain hc => ?again, fun h0 hn hc => ?taken, fun hh hn => ?complete⟩⟩
  case deadline =>
    have h := State.receiveDeadline_begun ht hf hk hr
    exact completes_awake rfl ha ⟨h.last, h.held, h.derate, h.wall, h.dram, h.mram⟩
  case timeout =>
    have he : s.tableTimeout = (s.failureNoted 7 (l.block == 0)).tableFail l := by rw [State.tableTimeout, hl]; rfl
    have h := State.tableFail_failed (s := s) (code := 7) (l.block == 0) (by decide) ⟨hact, hplan⟩
    rw [← he] at h
    exact completes_load rfl ha hs (h.frame.f_eq (x := F.RPS_BOOT_STAGE) rfl rfl)
      ⟨h.result, h.ended, h.unusable, h.idle, h.failed, h.frame.sealed⟩
  case header =>
    have he : s.tableBlock bytes = (s.failureNoted (s.headCode l (padTo 65536 bytes)) true).tableFail l := by
      unfold State.tableBlock
      rw [hl]
      exact (if_pos h0).trans (if_pos hcode)
    have h := State.tableFail_failed (s := s) true (s.headCode_lt l (padTo 65536 bytes)) ⟨hact, hplan⟩
    rw [← he] at h
    exact completes_load rfl ha hs (h.frame.f_eq (x := F.RPS_BOOT_STAGE) rfl rfl)
      ⟨h.result, h.ended, h.unusable, fun ht => ⟨h.header ht rfl, h.failed ht⟩, h.frame.sealed⟩
  case again =>
    have he := State.tableBlock_again hl h0 hn hagain hc
    refine completes_load (g := fun s => s.tableBlock bytes) rfl ha hs ?_ ?_ <;> simp only [he]
    · rfl
    · exact ⟨rfl, rfl, ((Frame.setCor _ s _).trans (Frame.emit _ _ _)).sealed⟩
  case taken =>
    obtain ⟨ls, outs, he⟩ := State.tableBlock_taken hl h0 hn hc
    refine completes_load (g := fun s => s.tableBlock bytes) rfl ha hs ?_ ?_ <;> simp only [he]
    · rfl
    · exact ⟨rfl, rfl, rfl, rfl⟩
  case complete =>
    have he : s.tableComplete = s.tableDone l := by
      unfold State.tableComplete
      rw [hl]
      exact if_pos ⟨by simpa using hh, hn⟩
    have h := he ▸ State.tableDone_done s l
    exact completes_load rfl ha hs (h.frame.f_eq (x := F.RPS_BOOT_STAGE) rfl rfl)
      ⟨h.usable, h.idle, h.set, h.result, h.ended, h.told, h.tableId, h.frame.sealed⟩

end Sys2Proof.Machine
end

section
/-! OBLIGATIONS. Compensation sweeps, checkpoints and readback: the statement fails where the MRAM is not in canonical form. -/

namespace Sys2Proof.Machine

/-! ### Writes above and at the cells of a memory -/

/-- A byte written above the cells of the first part of a memory is written into the rest. -/
theorem Mem.set_append {m : List Host.Cell} (rest : List Host.Cell) {a : Nat} (v : Byte) (h : ∀ p ∈ m, p.1 < a) :
    Mem.set a v (m ++ rest) = m ++ Mem.set a v rest := by
  induction m with
  | nil => rfl
  | cons p m ih =>
    have hp := h p (by simp)
    rw [List.cons_append, List.cons_append, Mem.set, if_neg (by omega), if_neg (by omega), ih fun q hq => h q (by simp [hq])]

/-- A byte string written above the cells of the first part of a memory is written into the rest. -/
theorem Mem.write_append {m : List Host.Cell} (rest : List Host.Cell) {a : Nat} (h : ∀ p ∈ m, p.1 < a) (bs : List Byte) :
    Mem.write (m ++ rest) a bs = m ++ Mem.write rest a bs := by
  induction bs generalizing rest a with
  | nil => rfl
  | cons v bs ih => rw [Mem.write, Mem.write, Mem.set_append rest v h, ih _ fun p hp => Nat.lt_succ_of_lt (h p hp)]

/-- A read above the cells of the first part of a memory is a read of the rest. -/
theorem Mem.get_append {m : List Host.Cell} (rest : List Host.Cell) {a : Nat} (h : ∀ p ∈ m, p.1 < a) :
    Mem.get (m ++ rest) a = Mem.get rest a := by
  induction m with
  | nil => rfl
  | cons p m ih =>
    have hp := h p (by simp)
    rw [List.cons_append, Mem.get, if_neg (by omega), if_neg (by omega), ih fun q hq => h q (by simp [hq])]

/-- Where a memory holds an address in two cells, a write of zero there takes one of them away, and a read answers the other. -/
theorem Mem.get_write_doubled {m : List Host.Cell} (rest : List Host.Cell) {a : Nat} (x : Byte) (h : ∀ p ∈ m, p.1 < a)
    (bs : List Byte) : Mem.get (Mem.write (m ++ (a, x) :: (a, x) :: rest) a (0 :: bs)) a = x := by
  have hzero : Mem.set a 0 ((a, x) :: (a, x) :: rest) = [(a, x)] ++ rest := by simp [Mem.set, Mem.empty]
  have hpast : Mem.write ([(a, x)] ++ rest) (a + 1) bs = (a, x) :: Mem.write rest (a + 1) bs := Mem.write_append rest (by simp) bs
  rw [Mem.write_append _ h, Mem.get_append _ h, Mem.write, hzero, hpast, Mem.get, if_pos rfl]

namespace State

/-! ### A chunk of a checkpoint -/

/-- The descriptor that ends the write of a chunk (R120). -/
def chunkDesc (s : State) (c seq sec : Nat) : List Byte :=
  leBytes 2 c ++ leBytes 2 0 ++ leBytes 4 seq ++ leBytes 4 (crc32 (s.ckptPayload c)).toNat ++ leBytes 4 sec

theorem mramOk_of_keeps {s t : State} (h : Keeps (inBlk .FMC) s t) : t.mramOk = s.mramOk := by
  have hval : t.fS (F.THM_Z_VAL 3) = s.fS (F.THM_Z_VAL 3) := congrArg (F.THM_Z_VAL 3).getS (h.regs _ rfl rfl)
  rw [mramOk, mramOk, on, on, h.f_eq rfl rfl, h.f_eq rfl rfl, hval]

/-- The next chunk goes to the spare slot, and then its descriptor (R121). -/
theorem ckptChunk_mram {s : State} {seq sec i c : Nat} (hc : s.cor.ckpt = some (seq, sec, i)) (hi : s.ckptList[i]? = some c)
    (hok : s.mramOk = true) : s.ckptChunk.mram =
      Mem.write (Mem.write s.mram (ckptSlot s.ckptSpare) (s.ckptPayload c)) (ckptDesc s.ckptSpare) (s.chunkDesc c seq sec) := by
  unfold ckptChunk
  rw [hc]
  dsimp only
  rw [hi]
  dsimp only
  generalize (List.range (min 32768 (s.lamps - 32768 * c))).map (fun l => 32768 * c + l) = ls
  generalize hs1 : (if c = 0xFFFF then s else s.doseNote ls) = s1
  have hkeeps : Keeps (inBlk .FMC) s s1 := by
    rw [← hs1]
    split
    · exact Keeps.refl _ s
    · exact keeps_doseNote s ls
  rw [mramTry, if_pos ((mramOk_of_keeps hkeeps).trans hok), if_neg (by simp)]
  rw [apply_ite State.mram, setCor_mram, setF_mram, setF_mram, setCor_mram, setF_mram, ite_self, mramWr, mramWr, hkeeps.mram, chunkDesc]

end State

/-! ### The counterexample -/

/-- A structure image of 92 bytes in slot 0: its section 5 holds the COR descriptor of a tile of one pixel. -/
def pixelImage : List Host.Cell :=
  [(0x100008, 92), (0x100018, 1), (0x100040, 5), (0x100044, 0x50), (0x100048, 12), (0x100050, 0x18), (0x100054, 12), (0x100058, 1),
    (0x10005A, 1)]

/-- The first byte of a descriptor held twice; its 0x60 is the INDEX of no chunk. -/
def descTwice (j : Nat) : List Host.Cell := [(State.ckptDesc j, 0x60), (State.ckptDesc j, 0x60)]

/-- A tile in the first chunk of a checkpoint whose MRAM holds the first byte of each descriptor in two cells. -/
def doubledTile : State :=
  { (State.reset.setF F.SYS_ROLE_ROLE 2).setF F.THM_STATUS_MCOMP 1 with
    cor := { ckpt := some (5, 6, 0) }
    mram := pixelImage ++ (List.range 98).flatMap descTwice }

theorem doubledTile_mram : doubledTile.mram =
    pixelImage ++ (State.ckptDesc 0, 0x60) :: (State.ckptDesc 0, 0x60) :: ((List.range 97).map (· + 1)).flatMap descTwice := by
  decide +kernel

theorem doubledTile_below_slot : ∀ p ∈ doubledTile.mram, p.1 < State.ckptSlot 0 := by decide +kernel

theorem doubledTile_spare : doubledTile.ckptSpare = 0 := by decide +kernel

/-- The descriptor's first byte, written as 0, still reads 0x60. -/
theorem doubledTile_desc (p desc : List Byte) :
    Mem.get (Mem.write (Mem.write doubledTile.mram (State.ckptSlot 0) p) (State.ckptDesc 0) (0 :: desc)) (State.ckptDesc 0) = 0x60 := by
  have happ := Mem.write_append [] doubledTile_below_slot p
  rw [List.append_nil] at happ
  rw [happ, doubledTile_mram, List.append_assoc, List.cons_append, List.cons_append]
  exact Mem.get_write_doubled _ _ (by decide +kernel) _

/-- The state that a command leaves which the device serves only while it is powered. -/
theorem awake_next {c : Instr} {s t : State} {g : State → State} (hc : exec c s = s.finish (s.awake g)) (ha : s.asleep = false)
    (ht : exec c s = .next t) : t = s.sealed (g s) := by
  rw [hc, State.awake, ha] at ht
  exact (Host.Outcome.next.inj ht).symm

/-- Refutes O26: the statement ranges over states whose sparse MRAM is not in canonical form too.  Where it holds the address of the
spare descriptor in two cells, the chunk number 0 that CHECKPOINT_CHUNK_DONE writes there takes one cell away, and the other shows
through. -/
theorem not_sweepsAndReadback : ¬ Obligations.SweepsAndReadback := by
  unfold Obligations.SweepsAndReadback
  intro h
  obtain ⟨hsweeps, -⟩ := h
  obtain ⟨-, -, -, -, hchunk, -⟩ := hsweeps doubledTile (by decide +kernel) (by decide +kernel)
  have hi : doubledTile.ckptList[0]? = some 0 := by decide +kernel
  have hok : doubledTile.mramOk = true := by decide +kernel
  obtain ⟨t, hnext, -, -, hread, -⟩ := hchunk 5 6 0 0 rfl hi hok
  have ht := awake_next (g := fun s => s.ckptChunk) rfl (by decide +kernel) hnext
  rw [ht, State.sealed_mram, State.ckptChunk_mram rfl hi hok, doubledTile_spare] at hread
  have hbyte := congrArg List.head? hread
  simp only [Mem.read, List.range_succ_eq_map, List.map_cons, List.head?_cons, Nat.add_zero] at hbyte
  have hzero : (leBytes 2 0).head? = some 0 := rfl
  have h60 := doubledTile_desc (doubledTile.ckptPayload 0) (doubledTile.chunkDesc 0 5 6).tail
  rw [hzero] at hbyte
  exact absurd (h60.symm.trans (Option.some.inj hbyte)) (by decide)

end Sys2Proof.Machine
end

section
/-! SUPPORT. Frames that grow, and the updates of the drive port, the monitor lamps, the sensors and the clock, which write no register. -/

namespace Sys2Proof.Machine

/-- What is within a frame is within every greater one. -/
theorem Frame.mono {own own' : Nat → Bool} {s t : State} (h : Frame own s t) (hle : ∀ a, own a = true → own' a = true) :
    Frame own' s t :=
  { h with regs := fun a ha => h.regs a (Bool.eq_false_iff.2 fun hn => Bool.false_ne_true (ha.symm.trans (hle a hn))) }

theorem Frame.setDrv (own : Nat → Bool) (s : State) (g : DrvSt → DrvSt) : Frame own s (s.setDrv g) :=
  ⟨fun _ _ _ => rfl, rfl, rfl, fun _ => rfl, fun _ => rfl, fun _ => rfl, fun _ => rfl⟩

theorem Frame.setLux (own : Nat → Bool) (s : State) (g : LuxSt → LuxSt) : Frame own s (s.setLux g) :=
  ⟨fun _ _ _ => rfl, rfl, rfl, fun _ => rfl, fun _ => rfl, fun _ => rfl, fun _ => rfl⟩

theorem Frame.setThm (own : Nat → Bool) (s : State) (g : ThmSt → ThmSt) : Frame own s (s.setThm g) :=
  ⟨fun _ _ _ => rfl, rfl, rfl, fun _ => rfl, fun _ => rfl, fun _ => rfl, fun _ => rfl⟩

theorem Frame.waitTo (own : Nat → Bool) (s : State) (t : Nat) : Frame own s (s.waitTo t) := by
  obtain ⟨c, h, -⟩ := s.waitTo_eq t
  rw [h]
  exact ⟨fun _ _ _ => rfl, rfl, rfl, fun _ => rfl, fun _ => rfl, fun _ => rfl, fun _ => rfl⟩

/-- A command without effect leaves the state as it is. -/
theorem exec_of_effect_self {c : Instr} {s : State} {g : State → State} (hc : exec c s = s.finish (s.awake g))
    (ha : s.asleep = false) (hg : g s = s) : exec c s = .next s := by
  rw [hc, awake_apply ha, hg]
  rfl

/-- The events of the drive port are raised at a tile. -/
theorem State.evBit_raise_drv {s : State} {n : Nat} (ht : s.isTile = true) (hn : evOwner n = some .DRV) :
    (s.raise n).evBit n = true :=
  State.evBit_raise_self (State.evLive_of_owner hn ht)

end Sys2Proof.Machine
end

section
/-! OBLIGATIONS. The write of a sub-frame (R140), ROW symbols (R138), the hard blank (R144) and DRV_DIAG_NOW (R148). -/

namespace Sys2Proof.Machine

namespace State

/-! ### What the write of a sub-frame leaves as it was -/

/-- The commits, the MRAM and the clock: sending packets changes none of them. -/
def sendKept (s : State) : CmtSt × List Host.Cell × Clock := (s.cmt, s.mram, s.clk)

@[simp] theorem setF_sendKept (s : State) (x : Fld) (v : Nat) : (s.setF x v).sendKept = s.sendKept := rfl

@[simp] theorem bumpBy_sendKept (s : State) (x : Fld) (k : Nat) : (s.bumpBy x k).sendKept = s.sendKept := rfl

@[simp] theorem setDrv_sendKept (s : State) (g : DrvSt → DrvSt) : (s.setDrv g).sendKept = s.sendKept := rfl

@[simp] theorem hualer_sendKept (s : State) (b : Nat) (p : List Byte) (again : Bool) :
    (s.hualer b p again).sendKept = s.sendKept := rfl

@[simp] theorem raise_sendKept (s : State) (n : Nat) : (s.raise n).sendKept = s.sendKept := by simp [sendKept]

@[simp] theorem raiseIf_sendKept (s : State) (c : Bool) (n : Nat) : (s.raiseIf c n).sendKept = s.sendKept := by simp [sendKept]

theorem foldl_sendKept {α : Type} {g : State → α → State} (hg : ∀ s x, (g s x).sendKept = s.sendKept) (l : List α) (s : State) :
    (l.foldl g s).sendKept = s.sendKept :=
  List.foldlRecOn l g (motive := fun u => u.sendKept = s.sendKept) rfl fun u hu x _ => (hg u x).trans hu

@[simp] theorem configure_sendKept (s : State) (v : RegFile) (b : Nat) (clear : Bool) :
    (s.configure v b clear).sendKept = s.sendKept :=
  foldl_sendKept (fun s p => hualer_sendKept s b p false) _ s

@[simp] theorem sendFit_sendKept (s : State) (b used left : Nat) (ps : List (List Byte × Bool)) :
    (s.sendFit b used left ps).2.sendKept = s.sendKept := by
  refine List.foldlRecOn ps _ (motive := fun x : Nat × _ × State => x.2.2.sendKept = s.sendKept) rfl fun x hx p _ => ?_
  dsimp only
  split <;> exact hx

@[simp] theorem frameCodes_sendKept (s : State) (n k : Nat) : (s.frameCodes n k).2.2.sendKept = s.sendKept := by
  unfold frameCodes probeCodes
  dsimp only
  split
  · rfl
  split
  · dsimp only
    split <;> simp
  · rfl

@[simp] theorem busSend_sendKept (s : State) (v : RegFile) (n k b left : Nat) (pk : List (List Byte)) (reconf : Bool)
    (arm : Option Nat) : (s.busSend v n k b left pk reconf arm).2.2.sendKept = s.sendKept := by
  unfold busSend
  extract_lets t fit s1 s2 por ct
  have h1 : s1.sendKept = s.sendKept := foldl_sendKept (fun s p => hualer_sendKept s b p false) _ s
  have h2 : s2.sendKept = s.sendKept := (foldl_sendKept (fun u _ => by simp [bump]) _ s1).trans h1
  split
  next used u hu =>
    have h3 : u.sendKept = s2.sendKept := by
      rw [← show _ = u from congrArg Prod.snd hu]
      split
      · rfl
      split
      · simp
      · rfl
    exact (sendFit_sendKept u b used left _).trans (h3.trans h2)

/-! ### The write of a sub-frame -/

/-- The next sub-frame has been written: its slot is noted, no row is left to be read, the commits and the MRAM are as they were. -/
structure SubframeWritten (s t : State) : Prop where
  written : t.drv.written = some s.nextSlot
  read : t.drv.readDue = none
  cmt : t.cmt = s.cmt
  mram : t.mram = s.mram
  wall : s.clk.wall ≤ t.clk.wall

theorem SubframeWritten.of_kept {s t u : State} (h : ∃ c, t = { s with clk := c } ∧ s.clk.wall ≤ c.wall)
    (hu : u.sendKept = t.sendKept) (hw : u.drv.written = some s.nextSlot) (hr : u.drv.readDue = none) : SubframeWritten s u := by
  obtain ⟨c, rfl, hle⟩ := h
  simp only [sendKept, Prod.mk.injEq] at hu
  obtain ⟨hcmt, hmram, hclk⟩ := hu
  exact ⟨hw, hr, hcmt, hmram, by rw [hclk]; exact hle⟩

theorem driveWrite_again {s : State} (h : s.drv.written = some s.nextSlot) : s.driveWrite = s := by
  unfold driveWrite
  split
  · rfl
  · exact if_pos h

theorem driveWrite_written {s : State} (ht : s.isTile = true) (hf : s.framed = true) (hs : s.drv.startAt.isSome = true)
    (hw : s.drv.written ≠ some s.nextSlot) : SubframeWritten s s.driveWrite := by
  unfold driveWrite
  have hon : ¬ (!s.present .DRV || s.drv.startAt.isNone || !s.framed) = true := by
    simp [show s.present .DRV = true from ht, hf, Option.isNone_eq_false_iff.2 hs]
  rw [if_neg hon]
  dsimp only
  rw [if_neg hw]
  generalize hu : (if s.dsp.joinN.isSome = true then s else s.waitTo _) = u
  have hwait : ∃ c, u = { s with clk := c } ∧ s.clk.wall ≤ c.wall := by
    rw [← hu]
    split
    · exact ⟨s.clk, rfl, Nat.le_refl _⟩
    · exact s.waitTo_eq _
  refine SubframeWritten.of_kept hwait ?_ rfl rfl
  rw [setDrv_sendKept]
  refine List.foldlRecOn _ _ (motive := fun x : List Nat × Option Nat × State => x.2.2.sendKept = u.sendKept)
    (frameCodes_sendKept u _ _) fun x hx b _ => ?_
  simpa using hx

/-! ### ROW symbols -/

/-- The next row begins with a SYNC pulse. -/
theorem rowPeriod_begun {s : State} (ht : s.isTile = true) (hr : s.on F.DRV_STATUS_RUN = true) (hb : s.on F.DRV_STATUS_HBLANK = false)
    (hk : s.drv.rowK + 1 < (s.f F.DRV_SCAN_PM1 + 1) * (s.f F.DRV_SCAN_NM1 + 1)) :
    ∃ u, s.rowPeriod = u.emit (.sync 2) ∧ u.drv.rowK = s.drv.rowK + 1 ∧ s.clk.wall ≤ u.clk.wall ∧ Frame noReg s u := by
  unfold rowPeriod
  dsimp only
  rw [if_neg (by simp [show s.present .DRV = true from ht, hr, hb]; exact hk)]
  obtain ⟨c, hc, hle⟩ := s.waitTo_eq (s.drv.swapAt + (s.drv.rowK + 1) * s.f F.DRV_TROW_TROW * nsU)
  have hwait := Frame.waitTo noReg s (s.drv.swapAt + (s.drv.rowK + 1) * s.f F.DRV_TROW_TROW * nsU)
  rw [hc] at hwait ⊢
  refine ⟨_, rfl, ?_⟩
  split
  · exact ⟨rfl, hle, ((hwait.trans (Frame.setDrv _ _ _)).trans (Frame.emit _ _ _)).trans (Frame.setDrv _ _ _)⟩
  · exact ⟨rfl, hle, hwait.trans (Frame.setDrv _ _ _)⟩

/-! ### The hard blank -/

/-- SYNC is held low, and no release waits. -/
def blankHeld (s : State) : State :=
  (((s.luxSpoil.setF F.DRV_CTL_BLANK 1).setF F.DRV_STATUS_HBLANK 1).setDrv fun d => { d with release := none }).emit (.sync 0)

theorem hardBlank_eq {s : State} (ht : s.isTile = true) (h : s.on F.DRV_CTL_BLANK = false) : s.hardBlank = s.blankHeld.raise 168 :=
  if_neg (by simp [show s.present .DRV = true from ht, h])

theorem blankHeld_blank (s : State) : s.blankHeld.f F.DRV_CTL_BLANK = 1 := by
  rw [blankHeld, emit_f, setDrv_f, f_setF_ne _ _ (by decide), f_setF_self _ _ _ (by decide)]
  rfl

theorem blankHeld_hblank (s : State) : s.blankHeld.f F.DRV_STATUS_HBLANK = 1 := by
  rw [blankHeld, emit_f, setDrv_f, f_setF_self _ _ _ (by decide)]
  rfl

theorem frame_blankHeld (s : State) : Frame (fun a => a == R.DRV_CTL || a == R.DRV_STATUS) s s.blankHeld :=
  ((((Frame.setLux _ s _).trans (Frame.setF _ 1 rfl)).trans (Frame.setF _ 1 rfl)).trans (Frame.setDrv _ _ _)).trans (Frame.emit _ _ _)

theorem blankRelease_eq {s : State} (ht : s.isTile = true) (h : s.on F.DRV_CTL_BLANK = true) :
    s.blankRelease = (s.setF F.DRV_CTL_BLANK 0).setDrv fun d => { d with release := some (s.clk.now + s.rate.tsNs) } :=
  if_neg (by simp [show s.present .DRV = true from ht, h])

theorem diagNow_eq {s : State} (ht : s.isTile = true) :
    s.diagNow = s.setDrv fun d => { d with diagLeft := s.f F.DRV_SCAN_NM1 + 1 } := if_pos ht

end State

/-! ### The parts of O27 -/

theorem atBlk_drv {s : State} {g : State → State} (ht : s.isTile = true) : s.atBlk .DRV g = g s := if_pos ht

/-- A write to a register of the drive port at a tile completes with its effect. -/
theorem completes_drv {c : Instr} {s : State} {g : State → State} {P : State → Prop}
    (hc : exec c s = s.finish (s.awake fun s => s.atBlk .DRV g)) (ha : s.asleep = false) (ht : s.isTile = true)
    (hp : P (s.sealed (g s))) : Completes c s P :=
  completes_awake hc ha (by rwa [atBlk_drv ht])

/-- Settles O27: a sub-frame is written where its slot is not the one noted, and sending packets changes neither the commits nor the
MRAM nor the clock (`State.driveWrite_written`); the hard blank and its release write one register each and the drive port's own state. -/
theorem driveRowsAndHardBlank : Obligations.DriveRowsAndHardBlank := by
  unfold Obligations.DriveRowsAndHardBlank
  refine ⟨fun s ha ht => ⟨fun _ _ hw => ?again, fun hf hs hw => ?write, fun hr hb hk => ?row⟩,
    fun s ha ht => ⟨fun hb => ?blank, fun hb => ?release, ?diag⟩⟩
  case again => exact exec_of_effect_self (g := State.driveWrite) rfl ha (State.driveWrite_again hw)
  case write =>
    have h := State.driveWrite_written ht hf hs hw
    exact completes_awake (g := State.driveWrite) rfl ha ⟨h.written, h.read, h.cmt, h.mram, h.wall⟩
  case row =>
    obtain ⟨u, hu, hk, hwall, hframe⟩ := State.rowPeriod_begun ht hr hb hk
    refine completes_awake (g := State.rowPeriod) rfl ha ?_
    rw [hu]
    exact ⟨hk, ⟨u.outs, rfl⟩, hwall, (hframe.trans (Frame.emit _ u _)).sealed⟩
  case blank =>
    refine completes_drv (g := State.hardBlank) rfl ha ht ?_
    rw [State.hardBlank_eq ht hb]
    have hframe := s.frame_blankHeld
    exact ⟨(State.f_raise _ _ rfl).trans s.blankHeld_blank, (State.f_raise _ _ rfl).trans s.blankHeld_hblank,
      State.mem_outs_raise 168 (by simp [State.blankHeld]), State.evBit_raise_drv ((hframe.isTile rfl).trans ht) rfl,
      congrArg DrvSt.release (State.raise_drv _ 168), (hframe.trans (Frame.raise _ _ 168)).sealed⟩
  case release =>
    refine completes_drv (g := State.blankRelease) rfl ha ht ?_
    rw [State.blankRelease_eq ht hb]
    exact ⟨State.f_setF_self s F.DRV_CTL_BLANK 0 (by decide), State.f_setF_ne s 0 (by decide), rfl, rfl,
      ((Frame.setF s 0 rfl).trans (Frame.setDrv _ _ _)).sealed⟩
  case diag =>
    refine completes_drv (g := fun s => (s.setF F.DRV_DIAG_NOW_GO 1).diagNow) rfl ha ht ?_
    have hframe : Frame (fun a => a == R.DRV_DIAG_NOW) s (s.setF F.DRV_DIAG_NOW_GO 1) := Frame.setF s 1 rfl
    rw [State.diagNow_eq ((hframe.isTile rfl).trans ht)]
    exact ⟨State.f_setF_self s F.DRV_DIAG_NOW_GO 1 (by decide), congrArg (· + 1) (hframe.f_eq rfl rfl),
      (hframe.trans (Frame.setDrv _ _ _)).sealed⟩

end Sys2Proof.Machine
end

section
/-! SUPPORT. The buses of the drive port: their states (R142), packets that return or stay away (R141, R142) and enumeration (R131). -/

namespace Sys2Proof.Machine.State

/-- Setting a field of a register below those of events keeps every status bit. -/
theorem evBit_setF_below (s : State) {x : Fld} (v k : Nat) (h : x.addr < R.EVT_STAT 0) : (s.setF x v).evBit k = s.evBit k := by
  refine evBit_setF s v k ?_
  simp only [R.EVT_STAT] at h ⊢
  omega

/-! ### Bus states -/

/-- The registers that show which buses are at fault. -/
def faultRegs : Nat → Bool := fun a => a == R.DRV_BUSFLT_LO || a == R.DRV_BUSFLT_HI || a == R.DRV_STATUS

/-- The registers that the state of a bus is shown in. -/
def busRegs (b : Nat) : Nat → Bool := fun a =>
  a == R.DRV_BUS_STAT b || a == R.DRV_BUSFLT_LO || a == R.DRV_BUSFLT_HI || a == R.DRV_STATUS

theorem busRegs_stat (b : Nat) : busRegs b (R.DRV_BUS_STAT b) = true := by simp [busRegs]

theorem busRegs_role (b : Nat) : busRegs b R.SYS_ROLE = false := by
  simp only [busRegs, R.SYS_ROLE, R.DRV_BUS_STAT, R.DRV_BUSFLT_LO, R.DRV_BUSFLT_HI, R.DRV_STATUS, Bool.or_eq_false_iff,
    beq_eq_false_iff_ne]
  omega

theorem faultRegs_le_busRegs (b a : Nat) (h : faultRegs a = true) : busRegs b a = true := by
  simp only [faultRegs, Bool.or_eq_true] at h
  simp only [busRegs, Bool.or_eq_true]
  obtain (hlo | hhi) | hst := h
  · exact .inl (.inl (.inr hlo))
  · exact .inl (.inr hhi)
  · exact .inr hst

theorem faultRegs_busStat (b : Nat) : faultRegs (R.DRV_BUS_STAT b) = false := by
  simp only [faultRegs, R.DRV_BUS_STAT, R.DRV_BUSFLT_LO, R.DRV_BUSFLT_HI, R.DRV_STATUS, Bool.or_eq_false_iff, beq_eq_false_iff_ne]
  omega

/-- No register of a bus is one that an event may write. -/
theorem evReg_bus {b a : Nat} (hb : b < 64) (h : a < R.DRV_BUS_STAT b + 16) : evReg a = false := by
  simp only [R.DRV_BUS_STAT] at h
  simp only [evReg, R.CMC_EVDROP, Bool.or_eq_false_iff, decide_eq_false_iff_not, beq_eq_false_iff_ne]
  omega

theorem frame_noteFaults (s : State) : Frame faultRegs s s.noteFaults :=
  ((Frame.setF s _ rfl).trans (Frame.setF _ _ rfl)).trans (Frame.setF _ _ rfl)

theorem frame_setBus (s : State) (b st : Nat) : Frame (busRegs b) s (s.setBus b st) :=
  (Frame.setF s st (busRegs_stat b)).trans ((frame_noteFaults _).mono (faultRegs_le_busRegs b))

theorem busState_setBus (s : State) {b : Nat} (st : Nat) (hb : b < 64) : (s.setBus b st).busState b = st % 8 :=
  ((frame_noteFaults _).f_eq (x := F.DRV_BUS_STAT_STATE b) (faultRegs_busStat b) (evReg_bus hb (by simp))).trans
    (f_setF_self s (F.DRV_BUS_STAT_STATE b) st (by decide : 0 + 3 ≤ 32))

/-- The other fields of a bus's register stay when its state is set. -/
theorem f_setBus (s : State) {b : Nat} (st : Nat) {x : Fld} (hb : b < 64) (hx : x.addr = R.DRV_BUS_STAT b) (hlo : 3 ≤ x.lo) :
    (s.setBus b st).f x = s.f x :=
  ((frame_noteFaults _).f_eq (hx ▸ faultRegs_busStat b) (evReg_bus hb (by omega))).trans
    (f_setF_disjoint s (x := F.DRV_BUS_STAT_STATE b) st (by decide : 0 + 3 ≤ 32) (.inl hlo))

theorem busState_raise (s : State) {b : Nat} (n : Nat) (hb : b < 64) : (s.raise n).busState b = s.busState b :=
  f_raise s n (x := F.DRV_BUS_STAT_STATE b) (evReg_bus hb (by simp))

/-- The events of the drive port are raised at a tile whose bus has changed its state. -/
theorem evBit_raise_setBus {s : State} (b st : Nat) {n : Nat} (ht : s.isTile = true) (hn : evOwner n = some .DRV) :
    ((s.setBus b st).raise n).evBit n = true :=
  evBit_raise_drv (((frame_setBus s b st).isTile (busRegs_role b)).trans ht) hn

/-! ### Packets that stay away -/

/-- One more packet is counted as missing on a bus. -/
def missed (s : State) (b : Nat) : State :=
  s.setDrv fun d => { d with missing := tabMod d.missing b fun _ => tabAt s.drv.missing b 0 + 1 }

theorem missOne_first {s : State} {b : Nat} (h : tabAt s.drv.missing b 0 = 0) : s.missOne b = s.missed b :=
  if_neg fun ⟨h2, _⟩ => by omega

theorem missOne_fault {s : State} {b : Nat} (h : s.busState b = 3) : s.missOne b = s.missed b :=
  if_neg fun ⟨_, h3⟩ => h3 h

theorem missOne_second {s : State} {b : Nat} (h : 1 ≤ tabAt s.drv.missing b 0) (h3 : s.busState b ≠ 3) :
    s.missOne b = ((s.missed b).setBus b 3).raise 171 :=
  if_pos ⟨Nat.succ_le_succ h, h3⟩

/-- A packet is missing on a bus: the second in a row puts it in Fault, and a tile tells so. -/
structure MissedOne (b : Nat) (s t : State) : Prop where
  count : tabAt t.drv.missing b 0 = tabAt s.drv.missing b 0 + 1
  awaited : t.drv.awaited = s.drv.awaited
  first : tabAt s.drv.missing b 0 = 0 → t.busState b = s.busState b
  second : 1 ≤ tabAt s.drv.missing b 0 → t.busState b = 3
  told : 1 ≤ tabAt s.drv.missing b 0 → s.busState b ≠ 3 → t.evBit 171 = true
  frame : Frame (busRegs b) s t

theorem missed_count (s : State) {b : Nat} (hb : b < 64) :
    tabAt (s.missed b).drv.missing b 0 = tabAt s.drv.missing b 0 + 1 :=
  tabAt_tabMod_self s.drv.missing _ 0 hb

theorem missOne_missed {s : State} {b : Nat} (ht : s.isTile = true) (hb : b < 64) : MissedOne b s (s.missOne b) := by
  have hframe : Frame (busRegs b) s (s.missed b) := Frame.setDrv _ s _
  by_cases h0 : tabAt s.drv.missing b 0 = 0
  · rw [missOne_first h0]
    exact ⟨missed_count s hb, rfl, fun _ => rfl, fun _ => by omega, fun _ => by omega, hframe⟩
  by_cases h3 : s.busState b = 3
  · rw [missOne_fault h3]
    exact ⟨missed_count s hb, rfl, fun _ => rfl, fun _ => h3, fun _ h => absurd h3 h, hframe⟩
  rw [missOne_second (by omega) h3]
  exact {
    count := by rw [raise_drv]; exact missed_count s hb
    awaited := by rw [raise_drv]; rfl
    first := fun h => absurd h h0
    second := fun _ => (busState_raise _ 171 hb).trans (busState_setBus _ 3 hb)
    told := fun _ _ => evBit_raise_setBus b 3 ht rfl
    frame := hframe.trans ((frame_setBus _ b 3).trans (Frame.raise _ _ 171)) }

/-! ### Packets that return -/

/-- A packet is no longer awaited. -/
def taken (s : State) (x : Nat × List Byte × Bool) : State := s.setDrv fun d => { d with awaited := d.awaited.erase x }

theorem takeAwaited_none {s : State} {b : Nat} (h : s.drv.awaited.find? (fun x => x.1 == b) = none) : s.takeAwaited b = (none, s) := by
  unfold takeAwaited
  rw [h]

theorem takeAwaited_some {s : State} {b : Nat} {x : Nat × List Byte × Bool} (h : s.drv.awaited.find? (fun x => x.1 == b) = some x) :
    s.takeAwaited b = (some x.2, s.taken x) := by
  unfold takeAwaited
  rw [h]
  rfl

theorem packetReturn_none {s : State} {b : Nat} (bytes : List Byte) (h : s.drv.awaited.find? (fun x => x.1 == b) = none) :
    s.packetReturn b bytes = s := by
  unfold packetReturn
  rw [takeAwaited_none h]

theorem returnMissing_none {s : State} {b : Nat} (h : s.drv.awaited.find? (fun x => x.1 == b) = none) : s.returnMissing b = s := by
  unfold returnMissing
  rw [takeAwaited_none h]

theorem returnMissing_some {s : State} {b : Nat} {x : Nat × List Byte × Bool}
    (h : s.drv.awaited.find? (fun x => x.1 == b) = some x) : s.returnMissing b = (s.taken x).missOne b := by
  unfold returnMissing
  rw [takeAwaited_some h]

/-- A bus has answered: no packet is missing in a row. -/
def busHeard (s : State) (b : Nat) : State := s.setDrv fun d => { d with missing := tabMod d.missing b fun _ => 0 }

theorem busHeard_missing (s : State) {b : Nat} (hb : b < 64) : tabAt (s.busHeard b).drv.missing b 0 = 0 :=
  tabAt_tabMod_self s.drv.missing _ 0 hb

theorem frame_busHeard_taken (own : Nat → Bool) (s : State) (b : Nat) (x : Nat × List Byte × Bool) :
    Frame own s ((s.taken x).busHeard b) :=
  (Frame.setDrv own s _).trans (Frame.setDrv _ _ _)

/-- A write packet that returns whole is taken from those awaited, and nothing else is done. -/
theorem packetReturn_whole {s : State} {b : Nat} {bytes p : List Byte} {again : Bool}
    (h : s.drv.awaited.find? (fun x => x.1 == b) = some (b, p, again)) (hc : Hualer.crcOk bytes = true)
    (h30 : Hualer.cmd p ≠ 0x30) (h51 : Hualer.cmd p ≠ 0x51) : s.packetReturn b bytes = (s.taken (b, p, again)).busHeard b := by
  unfold packetReturn
  rw [takeAwaited_some h]
  dsimp only
  rw [if_pos hc, if_neg h30, if_neg h51]
  rfl

/-- A CRC error on a bus is counted and told. -/
def crcNoted (s : State) (b : Nat) : State := (s.bump (F.DRV_BUS_CRC_COUNT b)).raise 173

/-- A write packet that returns with a wrong CRC is counted and told, and may be sent once more. -/
theorem packetReturn_corrupt {s : State} {b : Nat} {bytes p : List Byte} {again : Bool}
    (h : s.drv.awaited.find? (fun x => x.1 == b) = some (b, p, again)) (hc : Hualer.crcOk bytes = false)
    (hp : Hualer.cmd p ∉ [0x21, 0x30, 0x51]) :
    s.packetReturn b bytes = ((s.taken (b, p, again)).busHeard b).crcNoted b ∨
      s.packetReturn b bytes =
        ((((s.taken (b, p, again)).busHeard b).crcNoted b).bump (F.DRV_BUS_RESEND_COUNT b)).hualer b p true := by
  unfold packetReturn
  rw [takeAwaited_some h]
  dsimp only
  rw [if_neg (by simp [hc]), if_neg (by simpa using hp)]
  split
  · exact .inr rfl
  · exact .inl rfl

theorem frame_crcNoted {own : Nat → Bool} {b : Nat} (h : own (R.DRV_BUS_CRC b) = true) (s : State) : Frame own s (s.crcNoted b) :=
  (Frame.setF s _ h).trans (Frame.raise _ _ 173)

theorem crcNoted_count (s : State) {b : Nat} (hb : b < 64) :
    (s.crcNoted b).f (F.DRV_BUS_CRC_COUNT b) = (s.f (F.DRV_BUS_CRC_COUNT b) + 1) % 2 ^ 32 :=
  (f_raise _ _ (x := F.DRV_BUS_CRC_COUNT b) (evReg_bus hb (by simp [R.DRV_BUS_CRC, R.DRV_BUS_STAT]; omega))).trans
    (f_setF_self s (F.DRV_BUS_CRC_COUNT b) _ (by decide : 0 + 32 ≤ 32))

theorem crcNoted_told {s : State} (b : Nat) (ht : s.isTile = true) : (s.crcNoted b).evBit 173 = true := by
  have hframe : Frame (fun a => a == R.DRV_BUS_CRC b) s (s.bump (F.DRV_BUS_CRC_COUNT b)) := Frame.setF s _ (by simp)
  refine evBit_raise_drv ((hframe.isTile ?_).trans ht) rfl
  simp only [R.SYS_ROLE, R.DRV_BUS_CRC, beq_eq_false_iff_ne]
  omega

/-! ### Enumeration -/

/-- The ASSIGN of an enumeration has been sent, by the retry before or now. -/
def assignSent (s : State) (b : Nat) : State :=
  if s.drv.wasBad.contains b then s.setDrv fun d => { d with wasBad := d.wasBad.filter (· != b) }
  else s.emit (.hualer b (Hualer.packet 1 0 0 []))

/-- The configuration of the drivers is sent on a bus where the drive does not run yet. -/
def configured (s : State) (b : Nat) : State := if s.on F.DRV_STATUS_RUN then s else s.configure s.regs b false

/-- The number of drivers and the receive delay that an enumeration found are shown. -/
def counted (s : State) (b n rtph : Nat) : State :=
  ((s.busHeard b).setF (F.DRV_BUS_STAT_FOUND b) n).setF (F.DRV_BUS_STAT_RTPH b) rtph

/-- The number of drivers found is compared with the number expected. -/
def judged (s : State) (b n : Nat) (bad : Bool) : State :=
  if n = s.f (F.DRV_BUS_STAT_EXPECT b) then (s.setBus b 2).raiseIf bad 172 else (s.setBus b 4).raise 170

/-- Does the port enumerate the bus: it is a tile's, it has started, and the bus is in use? -/
structure Enumerates (s : State) (b : Nat) : Prop where
  tile : s.isTile = true
  started : s.drv.startAt.isSome = true
  used : s.busesOn.contains b = true

theorem Enumerates.guard {s : State} {b : Nat} (h : s.Enumerates b) :
    ¬ (!s.present .DRV || s.drv.startAt.isNone || !s.busesOn.contains b) = true := by
  simp only [show s.present .DRV = true from h.tile, h.used, Option.isNone_eq_false_iff.2 h.started]
  decide

theorem busEnumeration_none {s : State} {b : Nat} (rtph : Nat) (h : s.Enumerates b) :
    s.busEnumeration b none rtph = ((s.assignSent b).missOne b).configured b := if_neg h.guard

theorem busEnumeration_some {s : State} {b : Nat} (n rtph : Nat) (h : s.Enumerates b) :
    ∃ bad, s.busEnumeration b (some n) rtph = (((s.assignSent b).counted b n rtph).judged b n bad).configured b :=
  ⟨_, if_neg h.guard⟩

/-- The state with other buses to enumerate again, other packets awaited and other outputs. -/
def withPackets (s : State) (w : List Nat) (a : List (Nat × List Byte × Bool)) (o : List Out) : State :=
  { s with drv := { s.drv with wasBad := w, awaited := a }, outs := o }

/-- Packets have been sent, and nothing else has changed. -/
def PacketsSent (s t : State) : Prop := ∃ w a o, t = s.withPackets w a o

theorem packetsSent_assignSent (s : State) (b : Nat) : PacketsSent s (s.assignSent b) := by
  unfold assignSent
  split
  · exact ⟨_, _, _, rfl⟩
  · exact ⟨_, _, _, rfl⟩

theorem packetsSent_configured (s : State) (b : Nat) : PacketsSent s (s.configured b) := by
  unfold configured
  split
  · exact ⟨_, _, _, rfl⟩
  · refine List.foldlRecOn _ _ (motive := PacketsSent s) ⟨_, _, _, rfl⟩ fun u hu p _ => ?_
    obtain ⟨w, a, o, rfl⟩ := hu
    exact ⟨_, _, _, rfl⟩

theorem PacketsSent.frame {s t : State} (h : PacketsSent s t) (own : Nat → Bool) : Frame own s t := by
  obtain ⟨w, a, o, rfl⟩ := h
  exact ⟨fun _ _ _ => rfl, rfl, rfl, fun _ => rfl, fun _ => rfl, fun _ => rfl, fun _ => rfl⟩

/-- An enumeration that does not return counts as a packet missing. -/
structure EnumerationLost (b : Nat) (s t : State) : Prop where
  count : tabAt t.drv.missing b 0 = tabAt s.drv.missing b 0 + 1
  first : tabAt s.drv.missing b 0 = 0 → t.busState b = s.busState b
  second : 1 ≤ tabAt s.drv.missing b 0 → t.busState b = 3 ∧ (s.busState b ≠ 3 → t.evBit 171 = true)

theorem busEnumeration_lost {s : State} {b : Nat} (rtph : Nat) (h : s.Enumerates b) (hb : b < 64) :
    EnumerationLost b s (s.busEnumeration b none rtph) := by
  obtain ⟨w, a, o, hsent⟩ := packetsSent_assignSent s b
  obtain ⟨w', a', o', hconf⟩ := packetsSent_configured ((s.withPackets w a o).missOne b) b
  have hmiss := missOne_missed (s := s.withPackets w a o) h.tile hb
  rw [busEnumeration_none rtph h, hsent, hconf]
  exact ⟨hmiss.count, hmiss.first, fun h1 => ⟨hmiss.second h1, hmiss.told h1⟩⟩

/-- An enumeration that returns shows what it found, and the bus is good where that is the number of drivers expected. -/
structure Enumerated (b n rtph : Nat) (s t : State) : Prop where
  state : t.busState b = if n = s.f (F.DRV_BUS_STAT_EXPECT b) then 2 else 4
  found : t.f (F.DRV_BUS_STAT_FOUND b) = n
  delay : t.f (F.DRV_BUS_STAT_RTPH b) = rtph
  told : n ≠ s.f (F.DRV_BUS_STAT_EXPECT b) → t.evBit 170 = true
  frame : Frame (busRegs b) s t

theorem frame_counted (s : State) (b n rtph : Nat) : Frame (busRegs b) s (s.counted b n rtph) :=
  ((Frame.setDrv _ s _).trans (Frame.setF _ n (busRegs_stat b))).trans (Frame.setF _ rtph (busRegs_stat b))

theorem counted_expect (s : State) (b n rtph : Nat) :
    (s.counted b n rtph).f (F.DRV_BUS_STAT_EXPECT b) = s.f (F.DRV_BUS_STAT_EXPECT b) :=
  (f_setF_disjoint _ (x := F.DRV_BUS_STAT_RTPH b) rtph (by decide : 24 + 6 ≤ 32) (.inr (by decide : 16 + 6 ≤ 24))).trans
    (f_setF_disjoint _ (x := F.DRV_BUS_STAT_FOUND b) n (by decide : 8 + 6 ≤ 32) (.inl (by decide : 8 + 6 ≤ 16)))

theorem counted_found (s : State) (b rtph : Nat) {n : Nat} (hn : n < 64) :
    (s.counted b n rtph).f (F.DRV_BUS_STAT_FOUND b) = n :=
  (f_setF_disjoint _ (x := F.DRV_BUS_STAT_RTPH b) rtph (by decide : 24 + 6 ≤ 32) (.inr (by decide : 8 + 6 ≤ 24))).trans
    ((f_setF_self _ (F.DRV_BUS_STAT_FOUND b) n (by decide : 8 + 6 ≤ 32)).trans (Nat.mod_eq_of_lt hn))

theorem counted_delay (s : State) (b n : Nat) {rtph : Nat} (hr : rtph < 64) :
    (s.counted b n rtph).f (F.DRV_BUS_STAT_RTPH b) = rtph :=
  (f_setF_self _ (F.DRV_BUS_STAT_RTPH b) rtph (by decide : 24 + 6 ≤ 32)).trans (Nat.mod_eq_of_lt hr)

/-- The comparison shows its outcome in the state of the bus and keeps the other fields of its register. -/
theorem judged_f (s : State) {b : Nat} (n : Nat) (bad : Bool) {x : Fld} (hb : b < 64) (hx : x.addr = R.DRV_BUS_STAT b)
    (hlo : 3 ≤ x.lo) : (s.judged b n bad).f x = s.f x := by
  unfold judged
  split
  · exact (f_raiseIf _ _ _ (evReg_bus hb (by omega))).trans (f_setBus s 2 hb hx hlo)
  · exact (f_raise _ _ (evReg_bus hb (by omega))).trans (f_setBus s 4 hb hx hlo)

theorem judged_state (s : State) {b : Nat} (n : Nat) (bad : Bool) (hb : b < 64) :
    (s.judged b n bad).busState b = if n = s.f (F.DRV_BUS_STAT_EXPECT b) then 2 else 4 := by
  unfold judged
  split
  · exact (f_raiseIf _ _ _ (x := F.DRV_BUS_STAT_STATE b) (evReg_bus hb (by simp))).trans (busState_setBus s 2 hb)
  · exact (busState_raise _ _ hb).trans (busState_setBus s 4 hb)

theorem frame_judged (s : State) (b n : Nat) (bad : Bool) : Frame (busRegs b) s (s.judged b n bad) := by
  unfold judged
  split
  · exact (frame_setBus s b 2).trans (Frame.raiseIf _ _ _ _)
  · exact (frame_setBus s b 4).trans (Frame.raise _ _ _)

theorem judged_mismatch {s : State} {b n : Nat} (bad : Bool) (ht : s.isTile = true) (h : n ≠ s.f (F.DRV_BUS_STAT_EXPECT b)) :
    (s.judged b n bad).evBit 170 = true := by
  rw [judged, if_neg h]
  exact evBit_raise_setBus b 4 ht rfl

theorem judged_enumerated {s : State} {b n rtph : Nat} (bad : Bool) (ht : s.isTile = true) (hb : b < 64) (hn : n < 64)
    (hr : rtph < 64) : Enumerated b n rtph s ((s.counted b n rtph).judged b n bad) := by
  have hframe := frame_counted s b n rtph
  have hexpect := counted_expect s b n rtph
  exact {
    state := hexpect ▸ judged_state (s.counted b n rtph) n bad hb
    found := (judged_f _ (x := F.DRV_BUS_STAT_FOUND b) n bad hb rfl (by decide : 3 ≤ 8)).trans (counted_found s b rtph hn)
    delay := (judged_f _ (x := F.DRV_BUS_STAT_RTPH b) n bad hb rfl (by decide : 3 ≤ 24)).trans (counted_delay s b n hr)
    told := fun h => judged_mismatch bad ((hframe.isTile (busRegs_role b)).trans ht) (hexpect ▸ h)
    frame := hframe.trans (frame_judged _ b n bad) }

theorem Enumerated.of_sent {b n rtph : Nat} {s t u : State} (h : PacketsSent s t) (k : Enumerated b n rtph t u) :
    Enumerated b n rtph s u := by
  have hframe := (h.frame _).trans k.frame
  obtain ⟨w, a, o, rfl⟩ := h
  exact ⟨k.state, k.found, k.delay, k.told, hframe⟩

theorem Enumerated.then_sent {b n rtph : Nat} {s t u : State} (k : Enumerated b n rtph s t) (h : PacketsSent t u) :
    Enumerated b n rtph s u := by
  have hframe := k.frame.trans (h.frame _)
  obtain ⟨w, a, o, rfl⟩ := h
  exact ⟨k.state, k.found, k.delay, k.told, hframe⟩

theorem busEnumeration_enumerated {s : State} {b n rtph : Nat} (h : s.Enumerates b) (hb : b < 64) (hn : n < 64) (hr : rtph < 64) :
    Enumerated b n rtph s (s.busEnumeration b (some n) rtph) := by
  obtain ⟨bad, he⟩ := busEnumeration_some n rtph h
  have hsent := packetsSent_assignSent s b
  have htile := ((hsent.frame noReg).isTile rfl).trans h.tile
  rw [he]
  exact ((judged_enumerated bad htile hb hn hr).of_sent hsent).then_sent (packetsSent_configured _ b)

/-! ### The retry of a bus in Fault -/

theorem assignRetry_running {s : State} {b : Nat} (h : s.busState b ≠ 3) : s.assignRetry b = s := if_pos (by simp [h])

theorem assignRetry_fault {s : State} {b : Nat} (ht : s.isTile = true) (h : s.busState b = 3) :
    s.assignRetry b = ((s.setBus b 1).setDrv fun d => { d with wasBad := b :: d.wasBad }).emit (.hualer b (Hualer.packet 1 0 0 [])) :=
  if_neg (by simp [show s.present .DRV = true from ht, h])

end Sys2Proof.Machine.State
end

section
/-! SUPPORT. The sensor buses: what the calls of a bus (R153, R154) add and leave, and a monitor sensor that answers one. -/

namespace Sys2Proof.Machine

/-- The presence of LUX rests on the role and the options alone. -/
theorem Frame.present_lux {own : Nat → Bool} {s t : State} (h : Frame own s t) (hr : own R.SYS_ROLE = false)
    (ho : own R.SYS_UNITEN = false) : t.present .LUX = s.present .LUX := by
  have hopt : t.opt 3 = s.opt 3 := congrArg (Nat.testBit · 3) (h.f_eq (x := F.SYS_UNITEN_OPT) ho rfl)
  rw [State.present, State.present, h.isTile hr, hopt]

/-- The LUX descriptor is read from the MRAM at the slot that runs. -/
theorem Frame.luxD {own : Nat → Bool} {s t : State} (h : Frame own s t) (ho : own R.SYS_IMG_ACT = false) : t.luxD = s.luxD := by
  have hrd : ∀ a n, t.mramRd a n = s.mramRd a n := fun a n => List.map_congr_left fun i _ => h.mram (a + i)
  have hslot : t.runSlot = s.runSlot := h.f_eq (x := F.SYS_IMG_ACT_SLOT) ho rfl
  rw [State.luxD, State.luxD, State.runImg, State.runImg, hslot, hrd, hrd]

/-- Folding a list without repeats: the elements before one keep `P`, that one turns it into `Q`, and those after it keep `Q`. -/
theorem foldl_reaches {α : Type} {f : State → α → State} {l : List α} {x : α} {P Q : State → Prop} (hx : x ∈ l) (hl : l.Nodup)
    (hP : ∀ y ∈ l, y ≠ x → ∀ s, P s → P (f s y)) (hstep : ∀ s, P s → Q (f s x))
    (hQ : ∀ y ∈ l, y ≠ x → ∀ s, Q s → Q (f s y)) {s : State} (h : P s) : Q (l.foldl f s) := by
  obtain ⟨l₁, l₂, rfl⟩ := List.append_of_mem hx
  obtain ⟨-, hright, hdisjoint⟩ := List.nodup_append.1 hl
  have h1 : ∀ y ∈ l₁, y ≠ x := fun y hy => hdisjoint y hy x List.mem_cons_self
  have h2 : ∀ y ∈ l₂, y ≠ x := fun y hy he => (List.nodup_cons.1 hright).1 (he ▸ hy)
  rw [List.foldl_append, List.foldl_cons]
  refine List.foldlRecOn l₂ f (hstep _ (List.foldlRecOn l₁ f h fun u hu y hy => ?_)) fun u hu y hy => ?_
  · exact hP y (by simp [hy]) (h1 y hy) u hu
  · exact hQ y (by simp [hy]) (h2 y hy) u hu

namespace State

/-- From `s` to `t` the frame holds, and every status bit, all that was put out and the buses that have been called stay. -/
structure Adds (own : Nat → Bool) (s t : State) : Prop where
  frame : Frame own s t
  events : ∀ k, k < 320 → s.evBit k = true → t.evBit k = true
  outs : ∀ o ∈ s.outs, o ∈ t.outs
  ran : t.lux.ran = s.lux.ran

namespace Adds

variable {own own' : Nat → Bool} {s t u : State}

theorem refl (own : Nat → Bool) (s : State) : Adds own s s := ⟨Frame.refl _ s, fun _ _ h => h, fun _ h => h, rfl⟩

theorem trans (h : Adds own s t) (k : Adds own t u) : Adds own s u :=
  ⟨h.frame.trans k.frame, fun n hn he => k.events n hn (h.events n hn he), fun o ho => k.outs o (h.outs o ho), k.ran.trans h.ran⟩

theorem mono (h : Adds own s t) (hle : ∀ a, own a = true → own' a = true) : Adds own' s t :=
  ⟨h.frame.mono hle, h.events, h.outs, h.ran⟩

theorem setF (s : State) {x : Fld} (v : Nat) (h : own x.addr = true) (hlt : x.addr < R.EVT_STAT 0) : Adds own s (s.setF x v) :=
  ⟨Frame.setF s v h, fun k _ he => (evBit_setF_below s v k hlt).trans he, fun _ ho => ho, rfl⟩

theorem raise (own : Nat → Bool) (s : State) (n : Nat) : Adds own s (s.raise n) :=
  ⟨Frame.raise _ s n, fun _ hk he => evBit_raise_mono n hk he, fun _ ho => mem_outs_raise n ho, congrArg LuxSt.ran (raise_lux s n)⟩

theorem raiseIf (own : Nat → Bool) (s : State) (c : Bool) (n : Nat) : Adds own s (s.raiseIf c n) := by
  unfold State.raiseIf
  split
  · exact raise own s n
  · exact refl own s

theorem setLux (own : Nat → Bool) (s : State) (g : LuxSt → LuxSt) (h : (g s.lux).ran = s.lux.ran) : Adds own s (s.setLux g) :=
  ⟨Frame.setLux _ s g, fun _ _ he => he, fun _ ho => ho, h⟩

theorem setThm (own : Nat → Bool) (s : State) (g : ThmSt → ThmSt) : Adds own s (s.setThm g) :=
  ⟨Frame.setThm _ s g, fun _ _ he => he, fun _ ho => ho, rfl⟩

theorem foldl {α : Type} {g : State → α → State} {l : List α} (h : ∀ x ∈ l, ∀ s, Adds own s (g s x)) (s : State) :
    Adds own s (l.foldl g s) :=
  List.foldlRecOn l g (motive := Adds own s) (refl own s) fun u hu x hx => hu.trans (h x hx u)

end Adds

/-! ### The registers of a group -/

theorem inBlk_lux {a : Nat} : inBlk .LUX a = true ↔ 0x1E0000 ≤ a ∧ a < 0x1E0200 := decide_eq_true_iff

theorem inBlk_thm {a : Nat} : inBlk .THM a = true ↔ 0x20000 ≤ a ∧ a < 0x20400 := decide_eq_true_iff

/-- The registers that the state of a group's sensor is shown in. -/
def groupRegs (g : Nat) : Nat → Bool := fun a => a == R.LUX_G_SNS g || a == R.LUX_G_STAT g || a == R.LUX_STATUS

/-- The registers of LUX and THM beside those of a group's sensor. -/
def besideGroup (g : Nat) : Nat → Bool := fun a => (inBlk .LUX a || inBlk .THM a) && a != R.LUX_G_SNS g && a != R.LUX_G_STAT g

theorem groupRegs_le_besideGroup {x g a : Nat} (hx : x < 4) (hne : x ≠ g) (h : groupRegs x a = true) :
    besideGroup g a = true := by
  simp only [groupRegs, R.LUX_G_SNS, R.LUX_G_STAT, R.LUX_STATUS, Bool.or_eq_true, beq_iff_eq] at h
  simp only [besideGroup, R.LUX_G_SNS, R.LUX_G_STAT, Bool.and_eq_true, Bool.or_eq_true, bne_iff_ne, inBlk_lux, inBlk_thm]
  omega

theorem thm_le_besideGroup {g a : Nat} (h : inBlk .THM a = true) : besideGroup g a = true := by
  rw [inBlk_thm] at h
  simp only [besideGroup, R.LUX_G_SNS, R.LUX_G_STAT, Bool.and_eq_true, Bool.or_eq_true, bne_iff_ne, inBlk_lux, inBlk_thm]
  omega

theorem inBlk_board {b : Nat} (hb : b < 16) : inBlk .THM (R.THM_B b) = true := by
  simp only [inBlk_thm, R.THM_B]
  omega

theorem below_events {a : Nat} (h : inBlk .THM a = true) : a < R.EVT_STAT 0 := by
  rw [inBlk_thm] at h
  simp only [R.EVT_STAT]
  omega

/-- No register of a group is one that an event may write. -/
theorem evReg_group {g a : Nat} (hg : g < 4) (h : a = R.LUX_G_SNS g ∨ a = R.LUX_G_STAT g) : evReg a = false := by
  simp only [R.LUX_G_SNS, R.LUX_G_STAT] at h
  simp only [evReg, R.CMC_EVDROP, Bool.or_eq_false_iff, decide_eq_false_iff_not, beq_eq_false_iff_ne]
  omega

/-- The fields of a group's sensor stay where only registers beside them change. -/
theorem Adds.f_group {g : Nat} {s t : State} (h : Adds (besideGroup g) s t) (hg : g < 4) {x : Fld}
    (hx : x.addr = R.LUX_G_SNS g ∨ x.addr = R.LUX_G_STAT g) : t.f x = s.f x := by
  refine h.frame.f_eq ?_ (evReg_group hg hx)
  rcases hx with hx | hx <;> simp [besideGroup, hx]

/-! ### A sensor's state -/

theorem adds_luxState (s : State) {g : Nat} (st : Nat) (hg : g < 4) : Adds (groupRegs g) s (s.luxState g st) :=
  (Adds.setF s st (by simp [groupRegs]) (by simp only [R.LUX_G_SNS, R.EVT_STAT]; omega)).trans
    (Adds.setF _ _ (by simp [groupRegs]) (by decide))

theorem adds_luxFail (s : State) {g : Nat} (hg : g < 4) : Adds (groupRegs g) s (s.luxFail g) := by
  unfold luxFail
  split
  · exact Adds.refl _ s
  · exact (adds_luxState s 2 hg).trans (Adds.raise _ _ _)

/-- A group's sensor has its address and is shown as good. -/
def sensorShown (s : State) (g addr : Nat) : State :=
  ((s.luxState g 1).setF (F.LUX_G_SNS_DADDR g) addr).setF (F.LUX_G_STAT_FAILS g) 0

theorem luxFound_eq (s : State) (g addr : Nat) : s.luxFound g addr = (s.sensorShown g addr).raiseIf (s.f (F.LUX_G_SNS_STATE g) == 2) 203 :=
  rfl

theorem adds_sensorShown (s : State) {g : Nat} (addr : Nat) (hg : g < 4) : Adds (groupRegs g) s (s.sensorShown g addr) :=
  ((adds_luxState s 1 hg).trans (Adds.setF _ (x := F.LUX_G_SNS_DADDR g) addr (by simp [groupRegs])
    (by simp only [R.LUX_G_SNS, R.EVT_STAT]; omega))).trans
    (Adds.setF _ (x := F.LUX_G_STAT_FAILS g) 0 (by simp [groupRegs]) (by simp only [R.LUX_G_STAT, R.EVT_STAT]; omega))

theorem adds_luxFound (s : State) {g : Nat} (addr : Nat) (hg : g < 4) : Adds (groupRegs g) s (s.luxFound g addr) :=
  (adds_sensorShown s addr hg).trans (Adds.raiseIf _ _ _ _)

theorem sensorShown_fails (s : State) (g addr : Nat) : (s.sensorShown g addr).f (F.LUX_G_STAT_FAILS g) = 0 :=
  f_setF_self _ (F.LUX_G_STAT_FAILS g) 0 (by decide : 8 + 8 ≤ 32)

theorem sns_ne_stat (g : Nat) : R.LUX_G_SNS g ≠ R.LUX_G_STAT g := by
  simp only [R.LUX_G_SNS, R.LUX_G_STAT]
  omega

theorem sensorShown_daddr (s : State) (g addr : Nat) : (s.sensorShown g addr).f (F.LUX_G_SNS_DADDR g) = addr % 128 :=
  (f_setF_ne _ (x := F.LUX_G_STAT_FAILS g) (y := F.LUX_G_SNS_DADDR g) 0 (sns_ne_stat g)).trans
    (f_setF_self _ (F.LUX_G_SNS_DADDR g) addr (by decide : 0 + 7 ≤ 32))

theorem sensorShown_state (s : State) (g addr : Nat) : (s.sensorShown g addr).f (F.LUX_G_SNS_STATE g) = 1 := by
  rw [sensorShown, luxState, f_setF_ne _ _ (sns_ne_stat g), f_setF_disjoint _ _ (by decide : 0 + 7 ≤ 32) (.inl (by decide : 0 + 7 ≤ 7)),
    f_setF_ne _ _ (by simp only [R.LUX_G_SNS, R.LUX_STATUS]; omega), f_setF_self _ _ _ (by decide : 7 + 2 ≤ 32)]
  rfl

/-- From `s` to `t` group g's sensor has been found at address a, which restores one that had failed; all that was put out stays. -/
structure SensorFound (g a : Nat) (s t : State) : Prop where
  state : t.f (F.LUX_G_SNS_STATE g) = 1
  fails : t.f (F.LUX_G_STAT_FAILS g) = 0
  daddr : t.f (F.LUX_G_SNS_DADDR g) = a % 128
  outs : ∀ o ∈ s.outs, o ∈ t.outs
  restored : s.f (F.LUX_G_SNS_STATE g) = 2 → t.evBit 203 = true

/-- What changes beside the group leaves its sensor found. -/
theorem SensorFound.adds {g a : Nat} {s t u : State} (h : SensorFound g a s t) (k : Adds (besideGroup g) t u) (hg : g < 4) :
    SensorFound g a s u where
  state := (k.f_group hg (.inl rfl)).trans h.state
  fails := (k.f_group hg (.inr rfl)).trans h.fails
  daddr := (k.f_group hg (.inl rfl)).trans h.daddr
  outs o ho := k.outs o (h.outs o ho)
  restored hf := k.events 203 (by decide) (h.restored hf)

theorem SensorFound.of_adds {g a : Nat} {s t u : State} (h : Adds (besideGroup g) s t) (k : SensorFound g a t u) (hg : g < 4) :
    SensorFound g a s u where
  state := k.state
  fails := k.fails
  daddr := k.daddr
  outs o ho := k.outs o (h.outs o ho)
  restored hf := k.restored ((h.f_group hg (.inl rfl)).trans hf)

theorem luxFound_found {s : State} {g : Nat} (addr : Nat) (hp : s.present .LUX = true) (hg : g < 4) :
    SensorFound g addr s (s.luxFound g addr) := by
  have hadds := adds_sensorShown s addr hg
  have hrole : groupRegs g R.SYS_ROLE = false ∧ groupRegs g R.SYS_UNITEN = false := by
    simp only [groupRegs, R.SYS_ROLE, R.SYS_UNITEN, R.LUX_G_SNS, R.LUX_G_STAT, R.LUX_STATUS, Bool.or_eq_false_iff, beq_eq_false_iff_ne]
    omega
  rw [luxFound_eq]
  exact {
    state := (f_raiseIf _ _ _ (evReg_group hg (.inl rfl))).trans (sensorShown_state s g addr)
    fails := (f_raiseIf _ _ _ (evReg_group hg (.inr rfl))).trans (sensorShown_fails s g addr)
    daddr := (f_raiseIf _ _ _ (evReg_group hg (.inl rfl))).trans (sensorShown_daddr s g addr)
    outs := (hadds.trans (Adds.raiseIf _ _ _ _)).outs
    restored := fun hf => by
      rw [hf]
      exact evBit_raise_self (evLive_of_owner rfl ((hadds.frame.present_lux hrole.1 hrole.2).trans hp)) }

/-! ### The arbitration of a bus -/

/-- The running image has a sensor with this PID for group g on this bus. -/
structure HasSensor (s : State) (g bus pid : Nat) : Prop where
  present : s.present .LUX = true
  group : g < s.luxN
  bus : s.luxBus g = bus
  pid : s.luxPid g = pid

theorem HasSensor.of_frame {own : Nat → Bool} {s t : State} {g bus pid : Nat} (h : s.HasSensor g bus pid) (k : Frame own s t)
    (hr : own R.SYS_ROLE = false) (ho : own R.SYS_UNITEN = false) (hi : own R.SYS_IMG_ACT = false) : t.HasSensor g bus pid where
  present := (k.present_lux hr ho).trans h.present
  group := by rw [luxN, k.luxD hi]; exact h.group
  bus := by rw [luxBus, k.luxD hi]; exact h.bus
  pid := by rw [luxPid, k.luxD hi]; exact h.pid

/-- The sensor of a group that wins the arbitration of its bus takes the next address. -/
theorem i3cAssign_found {s : State} {g bus pid : Nat} (h : s.HasSensor g bus pid) (hg : g < 4) :
    SensorFound g (i3cAddr 8 (s.lux.next.getD bus 8)) s (s.i3cAssign bus pid) := by
  unfold i3cAssign
  extract_lets a s1 s2
  have h1 : Adds (besideGroup g) s s1 := Adds.setLux _ s _ rfl
  have hother : ∀ x ∈ List.range 4, x ≠ g → ∀ u : State, Adds (besideGroup g) u
      (if u.present .LUX && decide (x < u.luxN) && u.luxBus x == bus && u.luxPid x == pid then u.luxFound x a else u) := by
    intro x hx hne u
    rw [List.mem_range] at hx
    split
    · exact (adds_luxFound u a hx).mono fun b => groupRegs_le_besideGroup hx hne
    · exact Adds.refl _ u
  have h2 : SensorFound g a s s2 := by
    refine foldl_reaches (P := Adds (besideGroup g) s) (Q := SensorFound g a s) (List.mem_range.2 hg) List.nodup_range
      (fun x hx hne u hu => hu.trans (hother x hx hne u)) (fun u hu => ?_) (fun x hx hne u hu => hu.adds (hother x hx hne u) hg) h1
    have hsensor := h.of_frame hu.frame rfl rfl rfl
    rw [if_pos (by simp [hsensor.present, hsensor.group, hsensor.bus, hsensor.pid])]
    exact (luxFound_found a hsensor.present hg).of_adds hu hg
  refine h2.adds (Adds.foldl (fun b hb u => ?_) s2) hg
  have hthm := inBlk_board (List.mem_range.1 hb)
  split
  · exact (Adds.setF u a (thm_le_besideGroup hthm) (below_events hthm)).trans (Adds.setThm _ _ _)
  · exact Adds.refl _ u

/-! ### A call of a bus -/

/-- A bus has been called with the broadcast address. -/
def busCalled (s : State) (bus : Nat) : State :=
  (s.setLux fun l => { l with ran := tabMod l.ran bus fun _ => true }).emit (.i3c bus 0x7E [])

theorem busCalled_next (s : State) (bus : Nat) : (s.busCalled bus).lux.next = s.lux.next := rfl

/-- The note of a board sensor's state writes its own register and THM_FAIL. -/
theorem adds_noteSensor_board {own : Nat → Bool} (s : State) {b : Nat} (failed : Bool) (hb : b < 16)
    (hown : ∀ a, inBlk .THM a = true → own a = true) : Adds own s (s.noteSensor (16 + b) failed) := by
  have hthm : inBlk .THM (sensorState (16 + b)).addr = true := by
    rw [sensorState, if_neg (by omega), Nat.add_sub_cancel_left]
    exact inBlk_board hb
  unfold noteSensor
  dsimp only
  rw [if_neg (by omega)]
  exact (Adds.setF s _ (hown _ hthm) (below_events hthm)).trans (Adds.setF _ _ (hown _ rfl) (by decide))

/-- After the arbitration a call touches the sensors of the groups that are not good, and those of boards. -/
theorem adds_i3cEntdaa {own : Nat → Bool} {s t : State} {bus : Nat} {pids : List Nat} (ht : s.isTile = true)
    (hassigned : pids.foldl (fun s p => s.i3cAssign bus p) (s.busCalled bus) = t)
    (hlost : ∀ x, x < 4 → t.f (F.LUX_G_SNS_STATE x) ≠ 1 → ∀ a, groupRegs x a = true → own a = true)
    (hboards : ∀ a, inBlk .THM a = true → own a = true) : Adds own t (s.i3cEntdaa bus pids) := by
  unfold i3cEntdaa
  rw [if_neg (by simp [ht])]
  extract_lets first s1 s2 lost s3 s4
  have h2 : s2 = t := hassigned
  have h3 : Adds own t s3 := by
    rw [← h2]
    refine Adds.foldl (fun x hx u => ?_) s2
    simp only [lost, List.mem_filter, List.mem_range, Bool.and_eq_true, bne_iff_ne] at hx
    exact (adds_luxFail u hx.1).mono (hlost x hx.1 (h2 ▸ hx.2.2))
  refine (h3.trans (Adds.raiseIf _ s3 _ _)).trans (Adds.foldl (fun b hb u => ?_) s4)
  split
  · exact ((Adds.setThm _ u _).trans (adds_noteSensor_board _ _ (List.mem_range.1 hb) hboards)).trans (Adds.raiseIf _ _ _ _)
  · exact Adds.refl _ u

/-- A call that no target answers. -/
theorem i3cEntdaa_called {s : State} (bus : Nat) (ht : s.isTile = true) :
    Adds (fun _ => true) (s.busCalled bus) (s.i3cEntdaa bus []) :=
  adds_i3cEntdaa ht rfl (fun _ _ _ _ _ => rfl) fun _ _ => rfl

/-- A call that the sensor of a group answers. -/
theorem i3cEntdaa_found {s : State} {g bus pid : Nat} (h : s.HasSensor g bus pid) (ht : s.isTile = true) (hg : g < 4) :
    SensorFound g (i3cAddr 8 (s.lux.next.getD bus 8)) (s.busCalled bus) (s.i3cEntdaa bus [pid]) := by
  have hcalled : Frame noReg s (s.busCalled bus) := (Frame.setLux _ s _).trans (Frame.emit _ _ _)
  have hfound := i3cAssign_found (h.of_frame hcalled rfl rfl rfl) hg
  rw [busCalled_next] at hfound
  have hone : [pid].foldl (fun s p => s.i3cAssign bus p) (s.busCalled bus) = (s.busCalled bus).i3cAssign bus pid := by
    rw [List.foldl_cons, List.foldl_nil]
  refine hfound.adds (adds_i3cEntdaa ht hone (fun x hx hbad a => groupRegs_le_besideGroup hx ?_) fun _ => thm_le_besideGroup) hg
  rintro rfl
  exact hbad hfound.state

/-! ### The retry of a failed sensor -/

theorem sensorRetry_eq {s : State} {g bus pid : Nat} (answered : Bool) (h : s.HasSensor g bus pid)
    (hf : s.f (F.LUX_G_SNS_STATE g) = 2) : s.sensorRetry g answered =
      if answered then (s.emit (.i3c bus 0x7E [])).i3cAssign bus pid else s.emit (.i3c bus 0x7E []) := by
  unfold sensorRetry
  rw [if_neg (by simp [h.present, h.group, hf]), h.bus]
  dsimp only
  rw [(h.of_frame (Frame.emit noReg s _) rfl rfl rfl).bus, (h.of_frame (Frame.emit noReg s _) rfl rfl rfl).pid]

theorem sensorRetry_found {s : State} {g bus pid : Nat} (h : s.HasSensor g bus pid) (hg : g < 4)
    (hf : s.f (F.LUX_G_SNS_STATE g) = 2) :
    SensorFound g (i3cAddr 8 (s.lux.next.getD bus 8)) (s.emit (.i3c bus 0x7E [])) (s.sensorRetry g true) := by
  rw [sensorRetry_eq true h hf, if_pos rfl]
  exact i3cAssign_found (h.of_frame (Frame.emit noReg s _) rfl rfl rfl) hg

end State

end Sys2Proof.Machine
end

section
/-! OBLIGATIONS. Driver returns (R141, R142), bus enumeration (R142) and the sensor buses (R153, R154). -/

namespace Sys2Proof.Machine

/-! ### The parts of O28 -/

/-- A packet awaited on a bus returns whole. -/
theorem completes_packetReturn_whole {s : State} {b : Fin 64} {bytes p : List Byte} {again : Bool} (ha : s.asleep = false)
    (h : s.drv.awaited.find? (fun x => x.1 == b.val) = some (b.val, p, again)) (hc : Hualer.crcOk bytes = true)
    (h30 : Hualer.cmd p ≠ 0x30) (h51 : Hualer.cmd p ≠ 0x51) : Completes (.packetReturn b bytes) s fun t =>
      t.drv.awaited = s.drv.awaited.erase (b.val, p, again) ∧ tabAt t.drv.missing b.val 0 = 0 ∧ t.outs = s.outs ∧
      Frame noReg s t := by
  refine completes_awake (g := fun s => s.packetReturn b.val bytes) rfl ha ?_
  rw [State.packetReturn_whole h hc h30 h51]
  exact ⟨rfl, State.busHeard_missing (s.taken (b.val, p, again)) b.isLt, rfl, (State.frame_busHeard_taken noReg s b.val _).sealed⟩

/-- A write packet awaited on a bus returns with a wrong CRC. -/
theorem completes_packetReturn_corrupt {s : State} {b : Fin 64} {bytes p : List Byte} {again : Bool} (ha : s.asleep = false)
    (ht : s.isTile = true) (h : s.drv.awaited.find? (fun x => x.1 == b.val) = some (b.val, p, again))
    (hc : Hualer.crcOk bytes = false) (hp : Hualer.cmd p ∉ [0x21, 0x30, 0x51]) : Completes (.packetReturn b bytes) s fun t =>
      t.f (F.DRV_BUS_CRC_COUNT b) = (s.f (F.DRV_BUS_CRC_COUNT b) + 1) % 2 ^ 32 ∧ t.evBit 173 = true ∧
      Frame (fun a => a == R.DRV_BUS_CRC b || a == R.DRV_BUS_RESEND b) s t := by
  refine completes_awake (g := fun s => s.packetReturn b.val bytes) rfl ha ?_
  generalize hu : (s.taken (b.val, p, again)).busHeard b.val = u
  have hcount : (u.crcNoted b.val).f (F.DRV_BUS_CRC_COUNT b) = (s.f (F.DRV_BUS_CRC_COUNT b) + 1) % 2 ^ 32 := by
    rw [State.crcNoted_count u b.isLt, ← hu]
    rfl
  have htold : (u.crcNoted b.val).evBit 173 = true := State.crcNoted_told b.val (by rw [← hu]; exact ht)
  have hframe : Frame (fun a => a == R.DRV_BUS_CRC b || a == R.DRV_BUS_RESEND b) s (u.crcNoted b.val) :=
    (hu ▸ State.frame_busHeard_taken _ s b.val _ : Frame _ s u).trans (State.frame_crcNoted (by simp) u)
  rcases State.packetReturn_corrupt h hc hp with he | he <;> rw [he, hu]
  · exact ⟨hcount, htold, hframe.sealed⟩
  · generalize u.crcNoted b.val = v at hcount htold hframe
    have hne : R.DRV_BUS_CRC b ≠ R.DRV_BUS_RESEND b := by simp only [R.DRV_BUS_CRC, R.DRV_BUS_RESEND]; omega
    have hlt : R.DRV_BUS_RESEND b < R.EVT_STAT 0 := by simp only [R.DRV_BUS_RESEND, R.EVT_STAT]; omega
    have hresent : Frame (fun a => a == R.DRV_BUS_CRC b || a == R.DRV_BUS_RESEND b) v (v.bump (F.DRV_BUS_RESEND_COUNT b)) :=
      Frame.setF v _ (by simp)
    have hkept : (v.bump (F.DRV_BUS_RESEND_COUNT b)).f (F.DRV_BUS_CRC_COUNT b) = v.f (F.DRV_BUS_CRC_COUNT b) :=
      State.f_setF_ne v _ hne
    have htold' : (v.bump (F.DRV_BUS_RESEND_COUNT b)).evBit 173 = true := (State.evBit_setF_below v _ 173 hlt).trans htold
    exact ⟨hkept.trans hcount, htold', (hframe.trans (hresent.trans ((Frame.setDrv _ _ _).trans (Frame.emit _ _ _)))).sealed⟩

/-- A packet awaited on a bus stays away. -/
theorem completes_returnMissing {s : State} {b : Fin 64} {p : List Byte} {again : Bool} (ha : s.asleep = false)
    (ht : s.isTile = true) (h : s.drv.awaited.find? (fun x => x.1 == b.val) = some (b.val, p, again)) :
    Completes (.returnMissing b) s fun t =>
      t.drv.awaited = s.drv.awaited.erase (b.val, p, again) ∧ tabAt t.drv.missing b.val 0 = tabAt s.drv.missing b.val 0 + 1 ∧
      (1 ≤ tabAt s.drv.missing b.val 0 → s.busState b.val ≠ 3 → t.busState b.val = 3 ∧ t.evBit 171 = true) ∧
      Frame (fun a => a == R.DRV_BUS_STAT b || a == R.DRV_BUSFLT_LO || a == R.DRV_BUSFLT_HI || a == R.DRV_STATUS) s t := by
  refine completes_awake (g := fun s => s.returnMissing b.val) rfl ha ?_
  rw [State.returnMissing_some h]
  have hmiss := State.missOne_missed (s := s.taken (b.val, p, again)) ht b.isLt
  exact ⟨hmiss.awaited, hmiss.count, fun h1 h3 => ⟨hmiss.second h1, hmiss.told h1 h3⟩,
    ((Frame.setDrv _ s _).trans hmiss.frame).sealed⟩

/-- Settles O28: a packet missing leaves `State.MissedOne`, an enumeration that returns leaves `State.Enumerated`, and a sensor that
answers is found (`State.SensorFound`), which no other group and no board sensor undoes. -/
theorem driversAndBuses : Obligations.DriversAndBuses := by
  unfold Obligations.DriversAndBuses
  refine ⟨fun b bytes p again s ha ht => ⟨fun h => ⟨?unawaited, ?notMissed⟩, fun h => ⟨?whole, ?corrupt, ?missing⟩⟩,
    fun b n rtph s ha ht => ⟨fun hs hb => ⟨?lost, ?found⟩, fun h => ?running, fun h => ?retry⟩,
    fun bus g pid s ha => ⟨fun ht => ⟨?called, ?refused⟩, fun ht => ⟨?uncalled, ?unrefused⟩, fun hp hn hf => ⟨?silent, ?restored⟩,
      fun hp hn hbus hpid => ?answered⟩⟩
  case unawaited => exact exec_of_effect_self (g := fun s => s.packetReturn b.val bytes) rfl ha (State.packetReturn_none bytes h)
  case notMissed => exact exec_of_effect_self (g := fun s => s.returnMissing b.val) rfl ha (State.returnMissing_none h)
  case whole => exact completes_packetReturn_whole ha h
  case corrupt => exact completes_packetReturn_corrupt ha ht h
  case missing => exact completes_returnMissing ha ht h
  case lost =>
    have h := State.busEnumeration_lost rtph.toNat ⟨ht, hs, hb⟩ b.isLt
    exact completes_awake (g := fun s => s.busEnumeration b.val none rtph.toNat) rfl ha ⟨h.count, h.first, h.second⟩
  case found =>
    have h := State.busEnumeration_enumerated ⟨ht, hs, hb⟩ b.isLt n.isLt rtph.isLt
    exact completes_awake (g := fun s => s.busEnumeration b.val (some n.val) rtph.toNat) rfl ha
      ⟨h.state, h.found, h.delay, h.told, h.frame.sealed⟩
  case running => exact exec_of_effect_self (g := fun s => s.assignRetry b.val) rfl ha (State.assignRetry_running h)
  case retry =>
    refine completes_awake (g := fun s => s.assignRetry b.val) rfl ha ?_
    rw [State.assignRetry_fault ht h]
    exact ⟨State.busState_setBus s 1 b.isLt, rfl,
      ((State.frame_setBus s b.val 1).trans ((Frame.setDrv _ _ _).trans (Frame.emit _ _ _))).sealed⟩
  case called =>
    have h := State.i3cEntdaa_called bus.val ht
    exact completes_awake (g := fun s => s.i3cEntdaa bus.val []) rfl ha
      ⟨h.outs _ (by simp [State.busCalled]),
        (congrArg (tabAt · bus.val false) h.ran).trans (tabAt_tabMod_self s.lux.ran _ false bus.isLt)⟩
  case refused =>
    refine completes_awake (g := fun s => s.ibiRequest bus.val) rfl ha ?_
    rw [State.ibiRequest, if_pos ht]
    exact ⟨rfl, (Frame.emit _ s _).sealed⟩
  case uncalled =>
    exact exec_of_effect_self (g := fun s => s.i3cEntdaa bus.val []) rfl ha (if_pos (by simp [ht]))
  case unrefused =>
    exact exec_of_effect_self (g := fun s => s.ibiRequest bus.val) rfl ha (if_neg (by simp [ht]))
  case silent =>
    refine completes_awake (g := fun s => s.sensorRetry g.val false) rfl ha ?_
    rw [State.sensorRetry_eq false ⟨hp, hn, rfl, rfl⟩ hf, if_neg Bool.false_ne_true]
    exact ⟨rfl, (Frame.emit _ s _).sealed⟩
  case restored =>
    have h := State.sensorRetry_found ⟨hp, hn, rfl, rfl⟩ g.isLt hf
    exact completes_awake (g := fun s => s.sensorRetry g.val true) rfl ha
      ⟨h.outs _ (by simp), h.state, h.fails, h.daddr, h.restored hf⟩
  case answered =>
    have ht : s.isTile = true := (Bool.and_eq_true_iff.1 hp).1
    have h := State.i3cEntdaa_found ⟨hp, hn, hbus, hpid⟩ ht g.isLt
    exact completes_awake (g := fun s => s.i3cEntdaa bus.val [pid.toNat]) rfl ha
      ⟨h.outs _ (by simp [State.busCalled]), h.state, h.fails, h.daddr⟩

end Sys2Proof.Machine
end

section
/-! OBLIGATIONS. The clock path and lane transmission: two statements that fail where a loop (R188) waits for a block boundary or sends back. -/

namespace Sys2Proof.Machine

/-! ### A clock that stays away while a loop waits -/

/-- A device with no role sends on port 0 with its receiver in Idle and no clock detected; loop 1 has been asked for and waits for the
end of the block in hand. -/
def loopWaits : State :=
  (((State.reset.setF F.LAN_CLK_LOCK 1).setF (F.LAN_P_STAT_RXST 0) 1).lanP 0 fun l =>
    { l with idle := false, cur := freeBlock }).loopEnter 0 1

/-- The receive state that port 0 shows after a command. -/
def rxstAfter (c : Instr) (s : State) : Nat := match exec c s with
  | .next t => t.rxst 0
  | _ => 0

/-- Refutes O30: NO_CLOCK_TIMEOUT drops the block in hand (R182), with which the loop that waited for its end begins and starts the
receiver of its port (R188), so that LAN_Pp_STAT changes beside LAN_CLK. -/
theorem not_clockPathAndEqualisers : ¬ Obligations.ClockPathAndEqualisers := by
  unfold Obligations.ClockPathAndEqualisers
  intro h
  obtain ⟨hpath, -⟩ := h
  obtain ⟨-, -, -, -, hnoClock, -⟩ := hpath 0 false loopWaits (by decide +kernel)
  obtain ⟨t, hnext, -, -, hframe⟩ := hnoClock (by decide +kernel) (by decide +kernel) (by decide +kernel)
  have hkept : rxstAfter .noClockTimeout loopWaits = loopWaits.rxst 0 := by
    rw [rxstAfter, hnext]
    exact hframe.f_eq (x := F.LAN_P_STAT_RXST 0) rfl rfl
  exact absurd hkept (by decide +kernel)

/-! ### A loop that sends back what it receives -/

/-- Port 0 of a device with no role is in loop 3, which has started its receiver: it is in Train. -/
def loopsBack : State := State.reset.loopEnter 0 3

/-- How much has been put out after a command. -/
def outsAfter (c : Instr) (s : State) : Nat := match exec c s with
  | .next t => t.outs.length
  | _ => 0

/-- Refutes O32: a port in loop 3 sends back the lane block it receives (R188) in every receive state, so that below alignment too
a lane block puts its bits out. -/
theorem not_laneAlignmentAndTransmission : ¬ Obligations.LaneAlignmentAndTransmission := by
  unfold Obligations.LaneAlignmentAndTransmission
  intro h
  obtain ⟨hreceived, -⟩ := h
  obtain ⟨hbelow, -⟩ := hreceived 0 0 0 0 loopsBack (by decide +kernel)
  have hkept : outsAfter (.laneBlockRx 0 0 0 0 false) loopsBack = loopsBack.outs.length := by
    rw [outsAfter, hbelow (by decide +kernel)]
  exact absurd hkept (by decide +kernel)

end Sys2Proof.Machine
end

section
/-! SUPPORT. The lane ports: what a change of the receive state (Table 08.4), a loop's edge (R188) and the transmitter's edge (R170) change
and leave. -/

namespace Sys2Proof.Machine

theorem Frame.setLan (own : Nat → Bool) (s : State) (m : LanSt) : Frame own s { s with lan := m } :=
  ⟨fun _ _ _ => rfl, rfl, rfl, fun _ => rfl, fun _ => rfl, fun _ => rfl, fun _ => rfl⟩

theorem Frame.of_noReg {own : Nat → Bool} {s t : State} (h : Frame noReg s t) : Frame own s t :=
  h.mono fun _ hn => absurd hn Bool.false_ne_true

/-- Which lane ports are in use rests on the role and the running image's units alone. -/
theorem Frame.laneOn {own : Nat → Bool} {s t : State} (h : Frame own s t) (hr : own R.SYS_ROLE = false)
    (hu : own R.SYS_UNITEN = false) (p : Nat) : t.laneOn p = s.laneOn p := by
  have hrole : t.role = s.role := h.f_eq (x := F.SYS_ROLE_ROLE) hr rfl
  have hopt : t.f F.SYS_UNITEN_OPT = s.f F.SYS_UNITEN_OPT := h.f_eq hu rfl
  have hchain : t.f F.SYS_UNITEN_CHAIN = s.f F.SYS_UNITEN_CHAIN := h.f_eq hu rfl
  simp only [State.laneOn, State.present, State.isSender, State.opt, State.portOn, hrole, hopt, hchain]

/-- A port whose alignment is forgotten. -/
def LanPort.unaligned (l : LanPort) : LanPort :=
  { l with good := .replicate 4 0, bad := .replicate 4 0, parts := [], skew := 0, recentre := false }

namespace State

theorem Adds.setLan (own : Nat → Bool) (s : State) (m : LanSt) : Adds own s { s with lan := m } :=
  ⟨Frame.setLan _ s m, fun _ _ he => he, fun _ ho => ho, rfl⟩

theorem Adds.emit (own : Nat → Bool) (s : State) (o : Out) : Adds own s (s.emit o) :=
  ⟨Frame.emit _ s o, fun _ _ he => he, fun _ ho => List.mem_append_left _ ho, rfl⟩

/-- The events of the lanes are raised whatever the role. -/
theorem evBit_raise_lan (s : State) {n : Nat} (hn : evOwner n = some .LAN) : (s.raise n).evBit n = true :=
  evBit_raise_self (evLive_of_owner hn rfl)

/-! ### The registers of a lane port -/

/-- No register of the lanes is one that an event may write. -/
theorem evReg_lane {a : Nat} (hlo : 0x200000 ≤ a) (hhi : a < 0x200800) : evReg a = false := by
  simp only [evReg, R.CMC_EVDROP, Bool.or_eq_false_iff, decide_eq_false_iff_not, beq_eq_false_iff_ne]
  omega

theorem evReg_lanePort {p a : Nat} (hp : p < 9) (hlo : R.LAN_P_STAT p ≤ a) (hhi : a < R.LAN_P_STAT (p + 1)) : evReg a = false :=
  evReg_lane (by simp only [R.LAN_P_STAT] at hlo; omega) (by simp only [R.LAN_P_STAT] at hhi; omega)

theorem evReg_lanStat {p : Nat} (hp : p < 9) : evReg (R.LAN_P_STAT p) = false :=
  evReg_lanePort hp (Nat.le_refl _) (by simp only [R.LAN_P_STAT]; omega)

theorem evReg_lanCtl {p : Nat} (hp : p < 9) : evReg (R.LAN_P_CTL p) = false :=
  evReg_lanePort hp (by simp) (by simp only [R.LAN_P_CTL, R.LAN_P_STAT]; omega)

/-- The registers that show a port's receive state and the reference it may be. -/
def statRegs (p : Nat) : Nat → Bool := fun a => a == R.LAN_P_STAT p || a == R.LAN_CLK

/-- The registers that a change of a port's receive state touches. -/
def rxRegs (p : Nat) : Nat → Bool := fun a => a == R.LAN_P_STAT p || a == R.LAN_P_LOCKLOSS p || a == R.LAN_CLK

theorem statRegs_le_rxRegs (p a : Nat) (h : statRegs p a = true) : rxRegs p a = true := by
  simp only [statRegs, Bool.or_eq_true] at h
  simp only [rxRegs, Bool.or_eq_true]
  exact h.imp .inl id

theorem rxRegs_below {p a : Nat} (h : a < R.LAN_CLK) : rxRegs p a = false := by
  simp only [R.LAN_CLK] at h
  simp only [rxRegs, R.LAN_P_STAT, R.LAN_P_LOCKLOSS, R.LAN_CLK, Bool.or_eq_false_iff, beq_eq_false_iff_ne]
  omega

theorem rxRegs_ctl (p : Nat) : rxRegs p (R.LAN_P_CTL p) = false := by
  simp only [rxRegs, R.LAN_P_CTL, R.LAN_P_STAT, R.LAN_P_LOCKLOSS, R.LAN_CLK, Bool.or_eq_false_iff, beq_eq_false_iff_ne]
  omega

theorem stat_ne_clk (p : Nat) : R.LAN_P_STAT p ≠ R.LAN_CLK := by
  simp only [R.LAN_P_STAT, R.LAN_CLK]
  omega

/-- The fields of a port's LAN_Pp_CTL stay where only registers of its receive state change. -/
theorem Adds.f_ctl {p : Nat} {s t : State} (h : Adds (rxRegs p) s t) (hp : p < 9) {x : Fld} (hx : x.addr = R.LAN_P_CTL p) :
    t.f x = s.f x :=
  h.frame.f_eq (hx ▸ rxRegs_ctl p) (hx ▸ evReg_lanCtl hp)

/-- The fields of a port's LAN_Pp_STAT stay where no register changes. -/
theorem Adds.f_stat {s t : State} {p : Nat} (h : Adds noReg s t) (hp : p < 9) {x : Fld} (hx : x.addr = R.LAN_P_STAT p) :
    t.f x = s.f x :=
  h.frame.f_eq rfl (hx ▸ evReg_lanStat hp)

theorem Adds.of_noReg {own : Nat → Bool} {s t : State} (h : Adds noReg s t) : Adds own s t :=
  h.mono fun _ hn => absurd hn Bool.false_ne_true

theorem Adds.setStat {own : Nat → Bool} (s : State) {p : Nat} (hp : p < 9) {x : Fld} (v : Nat) (hx : x.addr = R.LAN_P_STAT p)
    (hown : own (R.LAN_P_STAT p) = true) : Adds own s (s.setF x v) :=
  Adds.setF s v (hx ▸ hown) (by rw [hx]; simp only [R.LAN_P_STAT, R.EVT_STAT]; omega)

/-! ### One lane port -/

theorem port_lanP_self (s : State) {p : Nat} (g : LanPort → LanPort) (hp : p < 9) : (s.lanP p g).port p = g (s.port p) :=
  tabAt_tabMod_self s.lan.ports g {} hp

@[simp] theorem lanP_f (s : State) (p : Nat) (g : LanPort → LanPort) (x : Fld) : (s.lanP p g).f x = s.f x := rfl

@[simp] theorem setF_port (s : State) (x : Fld) (v p : Nat) : (s.setF x v).port p = s.port p := rfl

@[simp] theorem raise_port (s : State) (n p : Nat) : (s.raise n).port p = s.port p := by rw [port, raise_lan, port]

@[simp] theorem raiseIf_port (s : State) (c : Bool) (n p : Nat) : (s.raiseIf c n).port p = s.port p := by
  rw [port, raiseIf_lan, port]

/-! ### A change of the receive state (Table 08.4) -/

/-- A Sender's reference is as it was, or another with event 215. -/
theorem senderRef_eq (s : State) : s.senderRef = s ∨ ∃ r v,
    s.senderRef = (({ s with lan := { s.lan with ref := r } }).setF F.LAN_CLK_REFSRC v).raise 215 := by
  unfold senderRef
  split
  · exact .inl rfl
  extract_lets sec src
  split
  · exact .inl rfl
  · exact .inr ⟨_, _, rfl⟩

theorem adds_senderRef (s : State) : Adds (fun a => a == R.LAN_CLK) s s.senderRef := by
  rcases s.senderRef_eq with h | ⟨r, v, h⟩ <;> rw [h]
  · exact Adds.refl _ s
  · exact ((Adds.setLan _ s _).trans (Adds.setF _ v rfl (by decide))).trans (Adds.raise _ _ 215)

@[simp] theorem senderRef_port (s : State) (p : Nat) : s.senderRef.port p = s.port p := by
  rcases s.senderRef_eq with h | ⟨r, v, h⟩ <;> rw [h]
  rw [raise_port]
  rfl

@[simp] theorem senderRef_rps (s : State) : s.senderRef.rps = s.rps := by
  rcases s.senderRef_eq with h | ⟨r, v, h⟩ <;> rw [h]
  rw [raise_rps]
  rfl

theorem senderRef_lock (s : State) : s.senderRef.f F.LAN_CLK_LOCK = s.f F.LAN_CLK_LOCK := by
  rcases s.senderRef_eq with h | ⟨r, v, h⟩ <;> rw [h]
  rw [f_raise _ _ rfl, f_setF_disjoint _ _ (by decide) (.inl (by decide))]
  rfl

/-- A port that leaves Up is counted, and disturbs a calibration of it. -/
def exitCounted (s : State) (p st : Nat) : State :=
  if s.rxst p = 5 ∧ st ≠ 5 then
    (s.bump (F.LAN_P_LOCKLOSS_COUNT p)).calNote p fun c => { c with down := c.down.or (some p) }
  else s

theorem rxTo_eq (s : State) (p st : Nat) :
    s.rxTo p st = (((s.exitCounted p st).lanP p LanPort.unaligned).setF (F.LAN_P_STAT_RXST p) st).senderRef := rfl

/-- From `s` to `t` port p has entered a receive state with its alignment forgotten, and nothing its transmitter rests on has changed. -/
structure RxEntered (own : Nat → Bool) (p st : Nat) (s t : State) : Prop where
  rxst : t.rxst p = st
  port : t.port p = (s.port p).unaligned
  clkdet : t.f (F.LAN_P_STAT_CLKDET p) = s.f (F.LAN_P_STAT_CLKDET p)
  rps : t.rps = s.rps
  lock : t.f F.LAN_CLK_LOCK = s.f F.LAN_CLK_LOCK
  adds : Adds own s t

section rxTo

variable {own : Nat → Bool} {s : State} {p st : Nat}

theorem adds_exitCounted (hp : p < 9) (hloss : s.rxst p = 5 → own (R.LAN_P_LOCKLOSS p) = true) : Adds own s (s.exitCounted p st) := by
  unfold exitCounted
  split
  next h => exact (Adds.setF s _ (hloss h.1) (by simp only [R.LAN_P_LOCKLOSS, R.EVT_STAT]; omega)).trans (Adds.setLan _ _ _)
  next => exact Adds.refl own s

theorem exitCounted_port (s : State) (p st : Nat) : (s.exitCounted p st).port p = s.port p := by
  unfold exitCounted
  split <;> rfl

theorem exitCounted_rps (s : State) (p st : Nat) : (s.exitCounted p st).rps = s.rps := by
  unfold exitCounted
  split <;> rfl

theorem exitCounted_f (s : State) (p st : Nat) {x : Fld} (hx : x.addr ≠ R.LAN_P_LOCKLOSS p) : (s.exitCounted p st).f x = s.f x := by
  unfold exitCounted
  split
  · exact f_setF_ne s _ hx
  · rfl

theorem rxTo_entered (hp : p < 9) (hst : st < 8) (hown : ∀ a, statRegs p a = true → own a = true)
    (hloss : s.rxst p = 5 → own (R.LAN_P_LOCKLOSS p) = true) : RxEntered own p st s (s.rxTo p st) := by
  rw [rxTo_eq]
  generalize hu : s.exitCounted p st = u
  have hstat : ∀ x : Fld, x.addr = R.LAN_P_STAT p →
      (((u.lanP p LanPort.unaligned).setF (F.LAN_P_STAT_RXST p) st).senderRef).f x =
        ((u.lanP p LanPort.unaligned).setF (F.LAN_P_STAT_RXST p) st).f x := fun x hx =>
    (adds_senderRef _).frame.f_eq (by rw [hx]; exact beq_eq_false_iff_ne.2 (stat_ne_clk p))
      (hx ▸ evReg_lanStat hp)
  have hstatLoss : R.LAN_P_STAT p ≠ R.LAN_P_LOCKLOSS p := by simp only [R.LAN_P_STAT, R.LAN_P_LOCKLOSS]; omega
  have hclkLoss : R.LAN_CLK ≠ R.LAN_P_LOCKLOSS p := by simp only [R.LAN_CLK, R.LAN_P_LOCKLOSS]; omega
  exact {
    rxst := by
      rw [State.rxst, hstat _ rfl, f_setF_self _ _ _ (by decide : 0 + 3 ≤ 32)]
      exact Nat.mod_eq_of_lt hst
    port := by rw [senderRef_port, setF_port, port_lanP_self _ _ hp, ← hu, exitCounted_port]
    clkdet := by
      rw [hstat _ rfl, f_setF_disjoint _ _ (by decide : 0 + 3 ≤ 32) (.inl (by decide : 0 + 3 ≤ 3)), lanP_f, ← hu]
      exact exitCounted_f s p st hstatLoss
    rps := by
      rw [senderRef_rps, ← exitCounted_rps s p st, hu]
      rfl
    lock := by
      rw [senderRef_lock, f_setF_ne _ _ (stat_ne_clk p).symm, lanP_f, ← hu]
      exact exitCounted_f s p st hclkLoss
    adds := by
      have hexit : Adds own s u := hu ▸ adds_exitCounted hp hloss
      have hset : Adds own (u.lanP p LanPort.unaligned) ((u.lanP p LanPort.unaligned).setF (F.LAN_P_STAT_RXST p) st) :=
        Adds.setStat _ hp st rfl (hown _ (by simp [statRegs]))
      exact ((hexit.trans (Adds.setLan own u _)).trans hset).trans ((adds_senderRef _).mono fun a ha => hown a (by
        simp only [statRegs, ha, Bool.or_true])) }

end rxTo

theorem rxTo_entered_rxRegs (s : State) {p st : Nat} (hp : p < 9) (hst : st < 8) : RxEntered (rxRegs p) p st s (s.rxTo p st) :=
  rxTo_entered hp hst (statRegs_le_rxRegs p) fun _ => by simp [rxRegs]

/-- Events leave a port in the receive state it has entered. -/
theorem RxEntered.raiseIf {own : Nat → Bool} {p st : Nat} {s t : State} (h : RxEntered own p st s t) (hp : p < 9) (c : Bool) (n : Nat) :
    RxEntered own p st s (t.raiseIf c n) where
  rxst := (f_raiseIf t c n (evReg_lanStat hp)).trans h.rxst
  port := (raiseIf_port t c n p).trans h.port
  clkdet := (f_raiseIf t c n (evReg_lanStat hp)).trans h.clkdet
  rps := (raiseIf_rps t c n).trans h.rps
  lock := (f_raiseIf t c n rfl).trans h.lock
  adds := h.adds.trans (Adds.raiseIf own t c n)

theorem toIdle_entered (s : State) {p : Nat} (hp : p < 9) : RxEntered (rxRegs p) p 1 s (s.toIdle p) :=
  (rxTo_entered_rxRegs s hp (by decide)).raiseIf hp _ _

/-! ### Whether a transmitter is to send -/

/-- Whether a transmitter is to be out of electrical idle rests on registers outside those of its receive state, LOCK, and the loop
and the restart of its port. -/
theorem txWanted_congr {p : Nat} {s t : State} (h : Frame (rxRegs p) s t) (hp : p < 9) (hrps : t.rps = s.rps)
    (hlock : t.f F.LAN_CLK_LOCK = s.f F.LAN_CLK_LOCK) (hrestart : (t.port p).restart = (s.port p).restart)
    (hloop : (t.port p).loopIn = (s.port p).loopIn) : t.txWanted p = s.txWanted p := by
  have hstate : t.f F.RPS_PWR_STAT_STATE = s.f F.RPS_PWR_STAT_STATE := h.f_eq (rxRegs_below (by decide)) rfl
  have hpower : t.powerTx p = s.powerTx p := by simp only [powerTx, hstate, hrps]
  have hlane : t.laneOn p = s.laneOn p := h.laneOn (rxRegs_below (by decide)) (rxRegs_below (by decide)) p
  have hsender : t.isSender = s.isSender :=
    congrArg (· == 1) (h.f_eq (x := F.SYS_ROLE_ROLE) (rxRegs_below (by decide)) rfl)
  have heidle : t.on (F.LAN_P_CTL_EIDLE p) = s.on (F.LAN_P_CTL_EIDLE p) := congrArg (· != 0) (h.f_eq (rxRegs_ctl p) (evReg_lanCtl hp))
  have htxon : t.on (F.LAN_P_CTL_TXON p) = s.on (F.LAN_P_CTL_TXON p) := congrArg (· != 0) (h.f_eq (rxRegs_ctl p) (evReg_lanCtl hp))
  have hlocked : t.on F.LAN_CLK_LOCK = s.on F.LAN_CLK_LOCK := congrArg (· != 0) hlock
  rw [txWanted, txWanted, hpower, hlane, hsender, heidle, htxon, hlocked, hrestart, hloop]

theorem txWanted_of_eidle {s : State} {p : Nat} (h : s.f (F.LAN_P_CTL_EIDLE p) = 1) : s.txWanted p = false := by
  simp [txWanted, on, h]

/-- In loops 1 and 2 the transmitter stays in electrical idle. -/
theorem txWanted_of_loop {s : State} {p : Nat} (h0 : (s.port p).loopIn ≠ 0) (h3 : (s.port p).loopIn ≠ 3) : s.txWanted p = false := by
  simp [txWanted, h0, h3]

/-! ### The transmitter's edge (R170) -/

/-- From `s` to `t` the transmitter of port p has followed what it is to do: it is in electrical idle or out of it. -/
structure TxFollows (own : Nat → Bool) (p : Nat) (s t : State) : Prop where
  idle : (t.port p).idle = !t.txWanted p
  loopIn : (t.port p).loopIn = (s.port p).loopIn
  restart : (t.port p).restart = (s.port p).restart
  queue : (s.port p).txq = [] → (t.port p).txq = []
  adds : Adds own s t

/-- A transmitter has entered or left electrical idle. -/
def txSwitched (s : State) (p : Nat) (idle : Bool) : State :=
  (s.lanP p fun l => { l with idle := idle, cur := [], sent := [], txq := if idle then [] else l.txq }).emit (.txIdle p idle)

theorem txEdge_eq (s : State) (p : Nat) : s.txEdge p =
    if (s.port p).idle = !s.txWanted p then s
    else if !s.txWanted p || (s.txSwitched p (!s.txWanted p)).rxst p != 0 then s.txSwitched p (!s.txWanted p)
    else (s.txSwitched p (!s.txWanted p)).rxTo p (if (s.txSwitched p (!s.txWanted p)).on (F.LAN_P_STAT_CLKDET p) then 2 else 1) := rfl

theorem port_txSwitched (s : State) {p : Nat} (idle : Bool) (hp : p < 9) : (s.txSwitched p idle).port p =
    { s.port p with idle := idle, cur := [], sent := [], txq := if idle then [] else (s.port p).txq } :=
  port_lanP_self s _ hp

theorem adds_txSwitched (own : Nat → Bool) (s : State) (p : Nat) (idle : Bool) : Adds own s (s.txSwitched p idle) :=
  (Adds.setLan own s _).trans (Adds.emit own _ _)

theorem txSwitched_follows (own : Nat → Bool) (s : State) {p : Nat} (hp : p < 9) :
    TxFollows own p s (s.txSwitched p (!s.txWanted p)) := by
  have hport := port_txSwitched s (!s.txWanted p) hp
  have hwanted : (s.txSwitched p (!s.txWanted p)).txWanted p = s.txWanted p :=
    txWanted_congr (adds_txSwitched _ s p _).frame hp rfl rfl (by rw [hport]) (by rw [hport])
  exact {
    idle := by rw [hwanted, hport]
    loopIn := by rw [hport]
    restart := by rw [hport]
    queue := fun h => by rw [hport, h]; exact ite_self _
    adds := adds_txSwitched own s p _ }

/-- The port's receiver starting afterwards leaves its transmitter. -/
theorem TxFollows.entered {own : Nat → Bool} {p st : Nat} {s t u : State} (h : TxFollows own p s t) (hp : p < 9)
    (hrx : RxEntered (rxRegs p) p st t u) (hown : Adds own t u) : TxFollows own p s u := by
  have hwanted : u.txWanted p = t.txWanted p :=
    txWanted_congr hrx.adds.frame hp hrx.rps hrx.lock (by rw [hrx.port]; rfl) (by rw [hrx.port]; rfl)
  exact {
    idle := by rw [hwanted, hrx.port]; exact h.idle
    loopIn := by rw [hrx.port]; exact h.loopIn
    restart := by rw [hrx.port]; exact h.restart
    queue := fun hq => by rw [hrx.port]; exact h.queue hq
    adds := h.adds.trans hown }

/-- The transmitter's edge touches registers only where a port leaves Off. -/
theorem txEdge_follows {own : Nat → Bool} {s : State} {p : Nat} (hp : p < 9)
    (hown : s.txWanted p = true → s.rxst p = 0 → ∀ a, statRegs p a = true → own a = true) : TxFollows own p s (s.txEdge p) := by
  rw [txEdge_eq]
  split
  next h => exact ⟨h, rfl, rfl, id, Adds.refl own s⟩
  have hsw := txSwitched_follows own s hp
  split
  next => exact hsw
  next h =>
    obtain ⟨hsends, hstarted⟩ := Bool.or_eq_false_iff.1 (Bool.eq_false_iff.2 h)
    have hwanted : s.txWanted p = true := (Bool.not_eq_false' _).mp hsends
    have hoff : (s.txSwitched p (!s.txWanted p)).rxst p = 0 := bne_eq_false_iff_eq.1 hstarted
    have hoff' : s.rxst p = 0 := hoff
    have hst : (if (s.txSwitched p (!s.txWanted p)).on (F.LAN_P_STAT_CLKDET p) then 2 else 1) < 8 := by split <;> decide
    have hrx := rxTo_entered (own := own) hp hst (hown hwanted hoff') fun h5 => absurd (hoff.symm.trans h5) (by decide)
    exact hsw.entered hp (rxTo_entered_rxRegs _ hp hst) hrx.adds

theorem txEdge_follows_started {s : State} {p : Nat} (hp : p < 9) (h : s.rxst p ≠ 0) : TxFollows noReg p s (s.txEdge p) :=
  txEdge_follows hp fun _ h0 => absurd h0 h

/-! ### The edge of a loop (R188) -/

/-- From `s` to `t` loop v has begun on port p. -/
structure LoopBegun (p v : Nat) (s t : State) : Prop where
  loopIn : (t.port p).loopIn = v
  queue : (t.port p).txq = []
  rxst : t.rxst p = 2
  clkdet : v = 1 ∨ v = 2 → t.f (F.LAN_P_STAT_CLKDET p) = 1
  told : t.evBit 226 = true
  adds : Adds (rxRegs p) s t

/-- From `s` to `t` the loop of port p has ended. -/
structure LoopEnded (p : Nat) (s t : State) : Prop where
  loopIn : (t.port p).loopIn = 0
  rxst : t.rxst p = if (s.port p).clkRate = 0 then 1 else 2
  clkdet : t.on (F.LAN_P_STAT_CLKDET p) = ((s.port p).clkRate != 0)
  told : t.evBit 227 = true
  adds : Adds (rxRegs p) s t

theorem rxRegs_stat (p : Nat) : rxRegs p (R.LAN_P_STAT p) = true := by simp [rxRegs]

theorem f_stat_raise (s : State) {p : Nat} (n : Nat) (hp : p < 9) {x : Fld} (hx : x.addr = R.LAN_P_STAT p) : (s.raise n).f x = s.f x :=
  f_raise s n (hx ▸ evReg_lanStat hp)

theorem loopEdge_same {s : State} {p : Nat} (h : s.f (F.LAN_P_CTL_LOOP p) = (s.port p).loopIn) : s.loopEdge p = s := if_pos h

theorem loopEdge_begins {s : State} {p v : Nat} (hp : p < 9) (hv : s.f (F.LAN_P_CTL_LOOP p) = v) (h0 : v ≠ 0)
    (hne : (s.port p).loopIn ≠ v) : LoopBegun p v s (s.loopEdge p) := by
  unfold loopEdge
  rw [hv, if_neg hne.symm, if_pos h0]
  extract_lets u w
  have hu : Adds (rxRegs p) s u := Adds.setLan _ s _
  have hw : Adds (rxRegs p) u w := by
    unfold w
    split
    · exact Adds.setStat u hp 1 rfl (rxRegs_stat p)
    · exact Adds.refl _ u
  have hclk : v = 1 ∨ v = 2 → w.f (F.LAN_P_STAT_CLKDET p) = 1 := fun h => by
    unfold w
    rw [if_pos h, f_setF_self _ _ _ (by decide : 3 + 1 ≤ 32)]
    rfl
  have hrx := rxTo_entered_rxRegs w hp (by decide : 2 < 8)
  have hport : (((w.rxTo p 2).lanP p fun l => { l with loopIn := v, txq := [] }).raise 226).port p =
      { (w.rxTo p 2).port p with loopIn := v, txq := [] } := by
    rw [raise_port]
    exact port_lanP_self _ _ hp
  exact {
    loopIn := by rw [hport]
    queue := by rw [hport]
    rxst := (f_stat_raise _ 226 hp rfl).trans hrx.rxst
    clkdet := fun h => (f_stat_raise _ 226 hp rfl).trans (hrx.clkdet.trans (hclk h))
    told := evBit_raise_lan _ rfl
    adds := ((hu.trans (hw.trans hrx.adds)).trans (Adds.setLan _ _ _)).trans (Adds.raise _ _ 226) }

/-- The receive side restarts from Train where the port has a clock, else from Idle. -/
def rxRestarted (s : State) (p : Nat) : State := if s.on (F.LAN_P_STAT_CLKDET p) then s.rxTo p 2 else s.toIdle p

theorem rxRestarted_entered (s : State) {p : Nat} (hp : p < 9) :
    RxEntered (rxRegs p) p (if s.on (F.LAN_P_STAT_CLKDET p) then 2 else 1) s (s.rxRestarted p) := by
  unfold rxRestarted
  split
  · exact rxTo_entered_rxRegs s hp (by decide)
  · exact toIdle_entered s hp

theorem loopEdge_ends {s : State} {p : Nat} (hp : p < 9) (hv : s.f (F.LAN_P_CTL_LOOP p) = 0) (hne : (s.port p).loopIn ≠ 0) :
    LoopEnded p s (s.loopEdge p) := by
  unfold loopEdge
  rw [hv, if_neg hne.symm, if_neg (not_not_intro rfl)]
  extract_lets u w
  have hu : Adds (rxRegs p) s u := Adds.setStat s hp _ rfl (rxRegs_stat p)
  have hclk : w.on (F.LAN_P_STAT_CLKDET p) = ((s.port p).clkRate != 0) := by
    have hf : w.f (F.LAN_P_STAT_CLKDET p) = (decide ((s.port p).clkRate ≠ 0)).toNat % 2 ^ 1 :=
      f_setF_self s (F.LAN_P_STAT_CLKDET p) _ (by decide : 3 + 1 ≤ 32)
    rw [on, hf]
    by_cases h : (s.port p).clkRate = 0 <;> simp [h]
  have hrx : RxEntered (rxRegs p) p (if w.on (F.LAN_P_STAT_CLKDET p) then 2 else 1) w (w.rxRestarted p) := rxRestarted_entered w hp
  show LoopEnded p s ((w.rxRestarted p).raise 227)
  exact {
    loopIn := by rw [raise_port, hrx.port]; exact congrArg LanPort.loopIn (port_lanP_self u _ hp)
    rxst := by
      rw [rxst, f_stat_raise _ 227 hp rfl, ← rxst, hrx.rxst, hclk]
      by_cases h : (s.port p).clkRate = 0 <;> simp [h]
    clkdet := by rw [on, f_stat_raise _ 227 hp rfl, hrx.clkdet, ← on, hclk]
    told := evBit_raise_lan _ rfl
    adds := ((hu.trans (Adds.setLan _ u _)).trans hrx.adds).trans (Adds.raise _ _ 227) }

/-! ### Changes at a block boundary (R173) -/

/-- A port that has sent a block in part changes nothing yet. -/
theorem noteTx_busy {s : State} {p : Nat} (h : (s.port p).cur ≠ []) : s.noteTx p = s :=
  if_pos (by simp [h])

/-- At a boundary of its blocks a port with no change of single-lane mode makes the loop's change, and then the transmitter's. -/
theorem noteTx_boundary {s : State} {p : Nat} (hc : (s.port p).cur = []) (hs : (s.port p).singleAsk = none) :
    s.noteTx p = (s.loopEdge p).txEdge p := by
  have hsingle : s.singleEdge p = s := by rw [singleEdge, hs]
  rw [noteTx, if_neg (by simp [hc]), hsingle]

end State

end Sys2Proof.Machine
end

section
/-! SUPPORT. Offset calibration (R186, R187): the write to LAN_CAL that starts it, its refusal, and the end of a window. -/

namespace Sys2Proof.Machine

/-- The trial trim of a lane in a calibration. -/
def LanCal.trim (k : LanCal) (p l : Nat) : Int := ((k.trial.find? fun x => x.1 == p && x.2.1 == l).map (·.2.2)).getD 0

/-- The statistics of the lanes that a calibration names. -/
def LanCal.named (k : LanCal) (stats : List LaneStat) : List LaneStat := stats.filter fun x => k.ports.testBit x.port.val

/-- The first check that a lane fails in a window: its code, the port and the lane. -/
def LanCal.laneFault (k : LanCal) (stats : List LaneStat) : Option (Nat × Nat × Nat) :=
  [1, 2, 3, 4, 5, 6, 7].findSome? fun code =>
    ((k.named stats).find? fun x => State.laneFails k x code (k.trim x.port.val x.lane.val)).map fun x => (code, x.port.val, x.lane.val)

/-- What ends a calibration in a window, if anything does: a check that a lane fails, or what was noted since the last one. -/
def LanCal.fault (k : LanCal) (stats : List LaneStat) : Option (Nat × Nat × Nat) :=
  (k.laneFault stats).or (k.lost.map fun x => (1, x.1, x.2)) |>.or (k.df.map fun x => (5, x.1, x.2)) |>.or (k.down.map fun p => (7, p, 0))

/-- Have the statistics of every lane come? -/
def LanCal.measured (k : LanCal) (stats : List LaneStat) : Bool :=
  (State.calLanes k.ports).all fun x => (k.named stats).any fun y => y.port.val == x.1 && y.lane.val == x.2

/-- The write of the record that a verified calibration asks for: the trims found, at their places in the record. -/
def LanCal.trimJob (k : LanCal) (time : Option (Nat × Nat)) : RecJob :=
  { kind := 2, cal := 0, time := time, edits := k.trial.map fun x => (0x40 + 4 * x.1 + x.2.1, leBytes 1 (twos 8 x.2.2)) }

theorem LanCal.laneFault_nil (k : LanCal) : k.laneFault [] = none := rfl

/-- With no lane at fault and no loss or density fault noted, a calibration ends only where a port left Up. -/
theorem LanCal.fault_down {k : LanCal} {stats : List LaneStat} (hl : k.laneFault stats = none) (hlost : k.lost = none)
    (hdf : k.df = none) : k.fault stats = k.down.map fun p => (7, p, 0) := by
  simp [LanCal.fault, hl, hlost, hdf]

theorem LanCal.laneFault_none {k : LanCal} {stats : List LaneStat}
    (h : ∀ x ∈ stats, ∀ code, code < 8 → k.ports.testBit x.port.val = true →
      State.laneFails k x code (k.trim x.port.val x.lane.val) = false) : k.laneFault stats = none := by
  simp only [LanCal.laneFault, LanCal.named, List.findSome?_eq_none_iff, Option.map_eq_none_iff, List.find?_eq_none,
    List.mem_filter, Bool.not_eq_true, and_imp]
  intro code hcode x hx hport
  exact h x hx code (by simp at hcode; omega) hport

theorem mem_calLanes {ports : Nat} {x : Nat × Nat} :
    x ∈ State.calLanes ports ↔ x.1 < 9 ∧ ports.testBit x.1 = true ∧ x.2 < (Lane.shape x.1 false).1 := by
  simp only [State.calLanes, List.mem_flatMap, List.mem_filter, List.mem_range, List.mem_map]
  constructor
  · rintro ⟨p, ⟨hp, hport⟩, l, hl, rfl⟩
    exact ⟨hp, hport, hl⟩
  · rintro ⟨hp, hport, hl⟩
    exact ⟨x.1, ⟨hp, hport⟩, x.2, hl, rfl⟩

theorem LanCal.measured_of_all {k : LanCal} {stats : List LaneStat}
    (h : ∀ x ∈ State.calLanes k.ports, ∃ y ∈ stats, y.port.val = x.1 ∧ y.lane.val = x.2) : k.measured stats = true := by
  simp only [LanCal.measured, LanCal.named, List.all_eq_true, List.any_eq_true, List.mem_filter, Bool.and_eq_true, beq_iff_eq]
  intro x hx
  obtain ⟨y, hy, hport, hlane⟩ := h x hx
  exact ⟨y, ⟨hy, by rw [hport]; exact (mem_calLanes.1 hx).2.1⟩, hport, hlane⟩

/-- A calibration that names a port has a lane, whose statistics are not among none. -/
theorem LanCal.measured_nil {k : LanCal} (h0 : k.ports ≠ 0) (h9 : k.ports < 2 ^ 9) : k.measured [] = false := by
  obtain ⟨p, hport⟩ := Nat.exists_testBit_of_ne_zero h0
  have hp : p < 9 := Nat.lt_of_not_le fun hge => by
    rw [Nat.testBit_lt_two_pow (Nat.lt_of_lt_of_le h9 (Nat.pow_le_pow_right (by decide) (by omega)))] at hport
    exact Bool.false_ne_true hport
  have hlane : 0 < (Lane.shape p false).1 := by
    by_cases h : p = 8 <;> simp [Lane.shape, h]
  rw [LanCal.measured, List.all_eq_false]
  exact ⟨(p, 0), mem_calLanes.2 ⟨hp, hport, hlane⟩, by simp [LanCal.named]⟩

namespace State

/-! ### A calibration that is refused or ends with a code -/

/-- From `s` to `t` a calibration has ended with a code at a port, told by event 224. -/
structure CalFailed (code port : Nat) (s t : State) : Prop where
  busy : t.f F.LAN_CAL_STAT_BUSY = 0
  code : t.f F.LAN_CAL_STAT_CODE = code
  port : t.f F.LAN_CAL_STAT_PORT = port
  told : t.evBit 224 = true
  cal : t.lan.cal = none
  frame : Frame (fun a => a == R.LAN_CAL_STAT) s t

/-- No calibration is in progress any more. -/
def calEnded (s : State) : State := { s with lan := { s.lan with cal := none } }

/-- What LAN_CAL_STAT shows of a calibration that has failed. -/
def calShown (s : State) (code port lane : Nat) : State :=
  (((s.calEnded.setF F.LAN_CAL_STAT_BUSY 0).setF F.LAN_CAL_STAT_CODE code).setF
    F.LAN_CAL_STAT_PORT port).setF F.LAN_CAL_STAT_LANE lane

theorem calFail_eq (s : State) (code port lane : Nat) : s.calFail code port lane = (s.calShown code port lane).raise 224 := rfl

theorem calShown_busy (s : State) (code port lane : Nat) : (s.calShown code port lane).f F.LAN_CAL_STAT_BUSY = 0 := by
  rw [calShown, f_setF_disjoint _ _ (by decide) (.inr (by decide)), f_setF_disjoint _ _ (by decide) (.inr (by decide)),
    f_setF_disjoint _ _ (by decide) (.inr (by decide)), f_setF_self _ _ _ (by decide)]
  rfl

theorem calShown_code (s : State) (code port lane : Nat) : (s.calShown code port lane).f F.LAN_CAL_STAT_CODE = code % 2 ^ 4 := by
  rw [calShown, f_setF_disjoint _ _ (by decide) (.inr (by decide)), f_setF_disjoint _ _ (by decide) (.inr (by decide)),
    f_setF_self _ _ _ (by decide)]

theorem calShown_port (s : State) (code port lane : Nat) : (s.calShown code port lane).f F.LAN_CAL_STAT_PORT = port % 2 ^ 4 := by
  rw [calShown, f_setF_disjoint _ _ (by decide) (.inr (by decide)), f_setF_self _ _ _ (by decide)]

theorem frame_calShown (s : State) (code port lane : Nat) : Frame (fun a => a == R.LAN_CAL_STAT) s (s.calShown code port lane) :=
  (Frame.setLan _ s _).trans ((((Frame.setF _ 0 rfl).trans (Frame.setF _ code rfl)).trans (Frame.setF _ port rfl)).trans
    (Frame.setF _ lane rfl))

theorem calFail_failed (s : State) {code port : Nat} (lane : Nat) (hc : code < 16) (hp : port < 16) :
    CalFailed code port s (s.calFail code port lane) := by
  rw [calFail_eq]
  exact {
    busy := (f_raise _ _ rfl).trans (calShown_busy s code port lane)
    code := (f_raise _ _ rfl).trans ((calShown_code s code port lane).trans (Nat.mod_eq_of_lt hc))
    port := (f_raise _ _ rfl).trans ((calShown_port s code port lane).trans (Nat.mod_eq_of_lt hp))
    told := evBit_raise_lan _ rfl
    cal := congrArg LanSt.cal (raise_lan _ 224)
    frame := (frame_calShown s code port lane).trans (Frame.raise _ _ 224) }

/-! ### The write to LAN_CAL -/

/-- The row of LAN_CAL: PORTS, which is written only. -/
def lanCalRow : RegRow := ⟨"LAN_CAL", 0x10, [], 0, [⟨0, 9, .wo, 0, 0⟩]⟩

theorem regRow_lanCal : regRow R.LAN_CAL = some lanCalRow := by decide +kernel

/-- LAN_CAL holds what was written to PORTS. -/
def calPorts (s : State) (v : Word) : State := s.setReg R.LAN_CAL (s.reg R.LAN_CAL &&& ~~~ 0x1FF#32 ||| v &&& 0x1FF#32)

/-- A write to the active view where a block answers. -/
theorem write32_active {s : State} {a : Nat} (path : Path) (v : Word) (ha : a < 2 ^ 23) (h : s.reaches a = true) :
    s.write32 path a v = s.liveWrite path a v := by
  simp [write32, view_active ha, h]

theorem ownWrite_lanCal (s : State) (v : Word) : s.ownWrite R.LAN_CAL v = none := rfl

theorem storeLive_lanCal (s : State) (path : Path) (v : Word) : s.storeLive path R.LAN_CAL lanCalRow v = s.calPorts v := by
  have hrw : (lanCalRow.mask fun f => f.acc == .rw || f.acc == .wo) = 0x1FF#32 := by decide
  have hwc : (lanCalRow.mask fun f => f.acc == .w1c) = 0#32 := by decide
  have hst : (lanCalRow.mask fun f => f.acc == .st) = 0#32 := by decide
  have hfree : s.refusedBits R.LAN_CAL v = 0#32 := rfl
  rw [storeLive, hrw, hwc, hst, hfree]
  rw [if_pos (show 0#32 = 0 from rfl), if_neg (by decide), BitVec.and_zero, show ~~~0#32 = BitVec.allOnes 32 from rfl, BitVec.and_allOnes,
    BitVec.and_allOnes]
  rfl

theorem trigger_lanCal (s : State) (v : Word) : s.trigger R.LAN_CAL v = s.calStart (F.LAN_CAL_PORTS.get v) := rfl

theorem write32_lanCal (s : State) (path : Path) (v : Word) :
    s.write32 path R.LAN_CAL v = (s.calPorts v).calStart (F.LAN_CAL_PORTS.get v) := by
  rw [write32_active path v (by decide) rfl, liveWrite, regRow_lanCal]
  dsimp only
  rw [hiddenReg_below (by decide), if_neg Bool.false_ne_true, ownWrite_lanCal]
  dsimp only
  rw [storeLive_lanCal, trigger_lanCal]

theorem calPorts_ports (s : State) (v : Word) : (s.calPorts v).f F.LAN_CAL_PORTS = F.LAN_CAL_PORTS.get v := by
  rw [calPorts, f_setReg_self s F.LAN_CAL_PORTS]
  refine Nat.eq_of_testBit_eq fun i => ?_
  rw [Fld.testBit_get, Fld.testBit_get]
  by_cases hi : i < 9
  · have hmask : (0x1FF#32).getLsbD i = true := (by decide : ∀ j, j < 9 → (0x1FF#32).getLsbD j = true) i hi
    rw [BitVec.getLsbD_or, BitVec.getLsbD_and, BitVec.getLsbD_and, BitVec.getLsbD_not, Nat.zero_add, hmask]
    simp
  · simp [hi]

theorem frame_calPorts (s : State) (v : Word) : Frame (fun a => a == R.LAN_CAL) s (s.calPorts v) := Frame.setReg s _ rfl

/-- Whether the MAC sees a port as up rests on no register of a calibration. -/
theorem portUp_calPorts (s : State) (v : Word) {p : Nat} (hp : p < 9) : (s.calPorts v).portUp p = s.portUp p := by
  have hframe := frame_calPorts s v
  have hrx : (s.calPorts v).rxst p = s.rxst p :=
    hframe.f_eq (x := F.LAN_P_STAT_RXST p) (by simp only [R.LAN_CAL, R.LAN_P_STAT, beq_eq_false_iff_ne]; omega) (evReg_lanStat hp)
  rw [portUp, portUp, hframe.laneOn rfl rfl, hrx]
  rfl

/-! ### The start of a calibration -/

theorem calStart_begins {s : State} {ports : Nat} (h0 : ports ≠ 0) (hb : s.on F.LAN_CAL_STAT_BUSY = false)
    (hup : ∀ p, p < 9 → ports.testBit p = true → s.portUp p = true) : s.calStart ports =
      { s.setF F.LAN_CAL_STAT_BUSY 1 with
        lan := { s.lan with cal := some { ports := ports, trial := (calLanes ports).map fun x => (x.1, x.2, -32) } } } := by
  have hfind : (((List.range 9).filter ports.testBit).find? fun p => !s.portUp p) = none := by
    simp only [List.find?_eq_none, List.mem_filter, List.mem_range, Bool.not_eq_true', Bool.not_eq_false, and_imp]
    exact hup
  rw [calStart, if_neg (by simp [h0, hb]), hfind]

/-- A calibration of one port that is not up is refused. -/
theorem calStart_refuses {s : State} {p : Nat} (hp : p < 9) (hb : s.on F.LAN_CAL_STAT_BUSY = false) (hup : s.portUp p = false) :
    s.calStart (2 ^ p) = s.calFail 7 p 0 := by
  have hfind : (((List.range 9).filter (2 ^ p).testBit).find? fun q => !s.portUp q) = some p := by
    have hone : (List.range 9).filter (2 ^ p).testBit = [p] :=
      (by decide : ∀ q, q < 9 → (List.range 9).filter (2 ^ q).testBit = [q]) p hp
    rw [hone, List.find?_cons_of_pos (by simp [hup])]
  rw [calStart, if_neg (by simp [hb]), hfind]

/-! ### The end of a window -/

/-- The search of a calibration goes one step on: a lane whose trial is kept has the step's bit added. -/
def searched (s : State) (k : LanCal) (stats : List LaneStat) : State :=
  { s with lan := { s.lan with cal := some { k with
      step := k.step + 1,
      trial := k.trial.map fun x =>
        if (k.named stats).any fun y => y.port.val == x.1 && y.lane.val == x.2.1 && y.keep then (x.1, x.2.1, x.2.2 + 2 ^ (5 - k.step))
        else x } } }

/-- The end of a window of a calibration in progress. -/
def windowEnd (s : State) (k : LanCal) (stats : List LaneStat) : State :=
  match k.fault stats with
  | some (code, p, l) => s.calFail code p l
  | none =>
    if !k.measured stats then s
    else if k.step < 6 then s.searched k stats
    else
      let (ok, t) := s.calEnded.recRequest (k.trimJob s.calTime)
      if ok then t else t.calFail 8 0 0

theorem calWindow_none {s : State} (stats : List LaneStat) (h : s.lan.cal = none) : s.calWindow stats = s := by
  rw [calWindow, h]

section window

variable {s : State} {k : LanCal} {stats : List LaneStat} (hk : s.lan.cal = some k)

include hk

theorem calWindow_eq (stats : List LaneStat) : s.calWindow stats = s.windowEnd k stats := by
  rw [calWindow, hk]
  rfl

theorem calWindow_fault {code p l : Nat} (hf : k.fault stats = some (code, p, l)) : s.calWindow stats = s.calFail code p l := by
  rw [calWindow_eq hk, windowEnd, hf]

theorem calWindow_unmeasured (hf : k.fault stats = none) (hm : k.measured stats = false) : s.calWindow stats = s := by
  rw [calWindow_eq hk, windowEnd, hf]
  exact if_pos (by simp [hm])

/-- Before the verification a window moves the search one step on. -/
theorem calWindow_searches (hf : k.fault stats = none) (hm : k.measured stats = true) (h6 : k.step < 6) :
    s.calWindow stats = s.searched k stats := by
  rw [calWindow_eq hk, windowEnd, hf]
  dsimp only
  rw [if_neg (by simp [hm]), if_pos h6]

/-- After the verification the trims are asked to be written to the record. -/
theorem calWindow_verified {t : State} (hf : k.fault stats = none) (hm : k.measured stats = true) (h6 : 6 ≤ k.step)
    (ht : s.calEnded.recRequest (k.trimJob s.calTime) = (true, t)) : s.calWindow stats = t := by
  rw [calWindow_eq hk, windowEnd, hf]
  dsimp only
  rw [if_neg (by simp [hm]), if_neg (by omega), ht]
  rfl

end window

/-! ### A write of the record that begins at once (R413) -/

/-- A job is the only one in the queue of record writes. -/
def jobQueued (s : State) (j : RecJob) : State := { s with nvs := { s.nvs with jobs := [j] } }

/-- The write of a copy has begun with one job. -/
def recBegun (s : State) (j : RecJob) : State :=
  ((s.jobQueued j).mramWr (recBase (s.jobQueued j).recTarget) (s.jobQueued j).recHead).setF F.NVS_STATUS_WBUSY 1

/-- A calibration's request for a write of the record begins where none waits and MRAM writes are permitted. -/
theorem recRequest_begins {s : State} {j : RecJob} (hj : s.nvs.jobs = []) (hm : s.mramOk = true) (hk : 1 < j.kind) :
    s.recRequest j = (true, s.recBegun j) := by
  have hkind : ¬ j.kind ≤ 1 := by omega
  rw [recRequest, hj, if_neg (by simp), if_pos hm]
  exact congrArg (true, ·) (if_neg hkind)

theorem recBegun_f (s : State) (j : RecJob) {x : Fld} (hx : x.addr ≠ R.NVS_STATUS) : (s.recBegun j).f x = s.f x :=
  f_setF_ne (x := F.NVS_STATUS_WBUSY) _ 1 hx

theorem recBegun_busy (s : State) (j : RecJob) : (s.recBegun j).on F.NVS_STATUS_WBUSY = true := by
  rw [recBegun, on, f_setF_self _ _ _ (by decide)]
  rfl

end State

end Sys2Proof.Machine
end

section
/-! OBLIGATIONS. Loops (R188), test patterns (R189), electrical idle and rates (R170, R191), and offset calibration (R186, R187). -/

namespace Sys2Proof.Machine

theorem Frame.setLanFree (own : Nat → Bool) (s : State) (m : LanSt) (n : Nat) : Frame own s { s with lan := m, free := n } :=
  ⟨fun _ _ _ => rfl, rfl, rfl, fun _ => rfl, fun _ => rfl, fun _ => rfl, fun _ => rfl⟩

namespace State

/-! ### Bits of LAN_Pp_CTL -/

theorem frame_setCtl {own : Nat → Bool} (s : State) {p : Nat} {x : Fld} (v : Nat) (hx : x.addr = R.LAN_P_CTL p)
    (hown : own (R.LAN_P_CTL p) = true) : Frame own s (s.setF x v) :=
  Frame.setF s v (by rw [hx]; exact hown)

/-- Where a block has been sent in part, a bit of LAN_Pp_CTL is set and acts later (R173). -/
theorem setCtl_busy {s : State} {p v : Nat} {x : Fld} (hx : x.addr = R.LAN_P_CTL p) (hw : x.lo + x.width ≤ 32)
    (hv : v < 2 ^ x.width) (hc : (s.port p).cur ≠ []) : ((s.setF x v).noteTx p).f x = v ∧ ((s.setF x v).noteTx p).lan = s.lan ∧
      Frame (fun a => a == R.LAN_P_CTL p) s ((s.setF x v).noteTx p) := by
  rw [noteTx_busy (s := s.setF x v) hc]
  exact ⟨(f_setF_self s x v hw).trans (Nat.mod_eq_of_lt hv), rfl, frame_setCtl s v hx (beq_self_eq_true _)⟩

/-! ### Loops -/

/-- The registers that the entry or the end of a loop touches. -/
def loopRegs (p : Nat) : Nat → Bool := fun a => a == R.LAN_P_CTL p || a == R.LAN_P_STAT p || a == R.LAN_P_LOCKLOSS p || a == R.LAN_CLK

theorem rxRegs_le_loopRegs (p a : Nat) (h : rxRegs p a = true) : loopRegs p a = true := by
  simp only [rxRegs, Bool.or_eq_true] at h
  simp only [loopRegs, Bool.or_eq_true]
  exact h.imp (.imp .inr id) id

/-- LOOP has been set to v, and the loop's edge and the transmitter's leave every register outside those of a loop. -/
theorem frame_loop {s t u : State} {p v : Nat} (ht : Adds (rxRegs p) (s.setF (F.LAN_P_CTL_LOOP p) v) t) (hu : Adds noReg t u) :
    Frame (loopRegs p) s u :=
  (frame_setCtl s (x := F.LAN_P_CTL_LOOP p) v rfl (by simp [loopRegs])).trans
    ((ht.frame.mono (rxRegs_le_loopRegs p)).trans hu.frame.of_noReg)

theorem f_loop {s t u : State} {p v : Nat} (hp : p < 9) (hv : v < 4) (ht : Adds (rxRegs p) (s.setF (F.LAN_P_CTL_LOOP p) v) t)
    (hu : Adds noReg t u) : u.f (F.LAN_P_CTL_LOOP p) = v := by
  rw [hu.of_noReg.f_ctl hp rfl, ht.f_ctl hp rfl, f_setF_self _ _ _ (by decide : 0 + 2 ≤ 32)]
  exact Nat.mod_eq_of_lt hv

theorem loopEnter_begins {s : State} {p v : Nat} (hp : p < 9) (hon : s.laneOn p = true) (h0 : v ≠ 0) (h4 : v < 4)
    (hc : (s.port p).cur = []) (hs : (s.port p).singleAsk = none) (hne : (s.port p).loopIn ≠ v) :
    LoopBegun p v (s.setF (F.LAN_P_CTL_LOOP p) v) (s.loopEnter p v) ∧ (v < 3 → ((s.loopEnter p v).port p).idle = true) ∧
      (s.loopEnter p v).f (F.LAN_P_CTL_LOOP p) = v ∧ Frame (loopRegs p) s (s.loopEnter p v) := by
  have hloop : (s.setF (F.LAN_P_CTL_LOOP p) v).f (F.LAN_P_CTL_LOOP p) = v :=
    (f_setF_self s _ v (by decide : 0 + 2 ≤ 32)).trans (Nat.mod_eq_of_lt h4)
  rw [loopEnter, if_neg (by simp [hon]), noteTx_boundary (s := s.setF (F.LAN_P_CTL_LOOP p) v) hc hs]
  generalize hu : (s.setF (F.LAN_P_CTL_LOOP p) v).loopEdge p = u
  have hb : LoopBegun p v (s.setF (F.LAN_P_CTL_LOOP p) v) u := hu ▸ loopEdge_begins hp hloop h0 hne
  have ht := txEdge_follows_started hp (s := u) (by rw [hb.rxst]; decide)
  have hin : ((u.txEdge p).port p).loopIn = v := ht.loopIn.trans hb.loopIn
  refine ⟨⟨hin, ht.queue hb.queue, (ht.adds.f_stat hp rfl).trans hb.rxst, fun h => (ht.adds.f_stat hp rfl).trans (hb.clkdet h),
    ht.adds.events 226 (by decide) hb.told, hb.adds.trans ht.adds.of_noReg⟩, fun h3 => ?_,
    f_loop hp h4 hb.adds ht.adds, frame_loop hb.adds ht.adds⟩
  rw [ht.idle, txWanted_of_loop (by rw [hin]; exact h0) (by rw [hin]; omega)]
  rfl

theorem loopExit_ends {s : State} {p : Nat} (hp : p < 9) (hon : s.laneOn p = true) (hc : (s.port p).cur = [])
    (hs : (s.port p).singleAsk = none) (hne : (s.port p).loopIn ≠ 0) :
    LoopEnded p (s.setF (F.LAN_P_CTL_LOOP p) 0) (s.loopExit p) ∧ (s.loopExit p).f (F.LAN_P_CTL_LOOP p) = 0 ∧
      Frame (loopRegs p) s (s.loopExit p) := by
  have hloop : (s.setF (F.LAN_P_CTL_LOOP p) 0).f (F.LAN_P_CTL_LOOP p) = 0 := f_setF_self s _ 0 (by decide : 0 + 2 ≤ 32)
  rw [loopExit, if_neg (by simp [hon]), noteTx_boundary (s := s.setF (F.LAN_P_CTL_LOOP p) 0) hc hs]
  generalize hu : (s.setF (F.LAN_P_CTL_LOOP p) 0).loopEdge p = u
  have he : LoopEnded p (s.setF (F.LAN_P_CTL_LOOP p) 0) u := hu ▸ loopEdge_ends hp hloop hne
  have ht := txEdge_follows_started hp (s := u) (by rw [he.rxst]; split <;> decide)
  exact ⟨⟨ht.loopIn.trans he.loopIn, (ht.adds.f_stat hp rfl).trans he.rxst,
    (congrArg (· != 0) (ht.adds.f_stat hp rfl)).trans he.clkdet, ht.adds.events 227 (by decide) he.told,
    he.adds.trans ht.adds.of_noReg⟩, f_loop hp (by decide) he.adds ht.adds,
    frame_loop he.adds ht.adds⟩

/-! ### Electrical idle, TXON and the end of electrical idle -/

/-- A bit of LAN_Pp_CTL beside LOOP is set at a boundary of the port's blocks while no loop begins or ends: the transmitter follows. -/
theorem setCtl_follows {own : Nat → Bool} {s : State} {p v : Nat} {x : Fld} (hp : p < 9) (hlo : 2 ≤ x.lo)
    (hw : x.lo + x.width ≤ 32) (hc : (s.port p).cur = []) (hs : (s.port p).singleAsk = none)
    (hl : s.f (F.LAN_P_CTL_LOOP p) = (s.port p).loopIn)
    (hown : (s.setF x v).txWanted p = true → (s.setF x v).rxst p = 0 → ∀ a, statRegs p a = true → own a = true) :
    TxFollows own p (s.setF x v) ((s.setF x v).noteTx p) := by
  have hloop : (s.setF x v).f (F.LAN_P_CTL_LOOP p) = ((s.setF x v).port p).loopIn :=
    (f_setF_disjoint s (y := F.LAN_P_CTL_LOOP p) v hw (.inr hlo)).trans hl
  rw [noteTx_boundary (s := s.setF x v) hc hs, loopEdge_same hloop]
  exact txEdge_follows hp hown

theorem eidleSet_follows {s : State} {p : Nat} (hp : p < 9) (hon : s.laneOn p = true) (hc : (s.port p).cur = [])
    (hs : (s.port p).singleAsk = none) (hl : s.f (F.LAN_P_CTL_LOOP p) = (s.port p).loopIn) :
    (s.eidleSet p).f (F.LAN_P_CTL_EIDLE p) = 1 ∧ ((s.eidleSet p).port p).idle = true ∧
      Frame (fun a => a == R.LAN_P_CTL p) s (s.eidleSet p) := by
  have hset : (s.setF (F.LAN_P_CTL_EIDLE p) 1).f (F.LAN_P_CTL_EIDLE p) = 1 := f_setF_self s _ 1 (by decide : 3 + 1 ≤ 32)
  rw [eidleSet, if_pos hon]
  have ht := setCtl_follows (own := noReg) hp (x := F.LAN_P_CTL_EIDLE p) (v := 1) (by decide : 2 ≤ 3) (by decide : 3 + 1 ≤ 32) hc hs hl
    fun hwanted => absurd (hwanted.symm.trans (txWanted_of_eidle hset)) (by decide)
  have hkept := (ht.adds.of_noReg.f_ctl hp (x := F.LAN_P_CTL_EIDLE p) rfl).trans hset
  refine ⟨hkept, ?_, (frame_setCtl s (x := F.LAN_P_CTL_EIDLE p) 1 rfl (by simp)).trans ht.adds.frame.of_noReg⟩
  rw [ht.idle, txWanted_of_eidle hkept]
  rfl

theorem txonSet_follows {s : State} {p : Nat} (hp : p < 9) (hon : s.laneOn p = true) (hsend : s.isSender = true)
    (hc : (s.port p).cur = []) (hs : (s.port p).singleAsk = none) (hl : s.f (F.LAN_P_CTL_LOOP p) = (s.port p).loopIn) :
    (s.txonSet p).f (F.LAN_P_CTL_TXON p) = 1 ∧ ((s.txonSet p).port p).idle = !(s.txonSet p).txWanted p ∧
      Frame (fun a => a == R.LAN_P_CTL p || a == R.LAN_P_STAT p || a == R.LAN_CLK) s (s.txonSet p) := by
  have hset : (s.setF (F.LAN_P_CTL_TXON p) 1).f (F.LAN_P_CTL_TXON p) = 1 := f_setF_self s _ 1 (by decide : 4 + 1 ≤ 32)
  rw [txonSet, if_pos (by rw [hon, hsend]; rfl)]
  have ht := setCtl_follows (own := statRegs p) hp (x := F.LAN_P_CTL_TXON p) (v := 1) (by decide : 2 ≤ 4) (by decide : 4 + 1 ≤ 32)
    hc hs hl fun _ _ _ h => h
  refine ⟨((ht.adds.mono (statRegs_le_rxRegs p)).f_ctl hp rfl).trans hset, ht.idle,
    (frame_setCtl s (x := F.LAN_P_CTL_TXON p) 1 rfl (by simp)).trans (ht.adds.frame.mono fun a h => ?_)⟩
  simp only [statRegs, Bool.or_eq_true] at h
  simp only [Bool.or_eq_true]
  exact h.imp .inr id

theorem idleEnd_follows {s : State} {p : Nat} (hp : p < 9) (hc : (s.port p).cur = []) (hs : (s.port p).singleAsk = none)
    (hl : s.f (F.LAN_P_CTL_LOOP p) = (s.port p).loopIn) :
    ((s.idleEnd p).port p).restart = false ∧ ((s.idleEnd p).port p).idle = !(s.idleEnd p).txWanted p ∧
      Frame (statRegs p) s (s.idleEnd p) := by
  unfold idleEnd
  generalize hu : (s.lanP p fun l => { l with restart := false }) = u
  have hport : u.port p = { s.port p with restart := false } := hu ▸ port_lanP_self s _ hp
  have hloop : u.f (F.LAN_P_CTL_LOOP p) = (u.port p).loopIn := by rw [hport, ← hu]; exact hl
  rw [noteTx_boundary (s := u) (by rw [hport]; exact hc) (by rw [hport]; exact hs), loopEdge_same hloop]
  have ht := txEdge_follows (own := statRegs p) (s := u) hp fun _ _ _ h => h
  exact ⟨ht.restart.trans (by rw [hport]), ht.idle, (hu ▸ Frame.setLan _ s _ : Frame _ s u).trans ht.adds.frame⟩

/-! ### Test patterns and the provisioning rate -/

/-- The test pattern changes TPAT, the states of its generators and how many free values have been taken. -/
theorem testPattern_eq {s : State} {p : Nat} (hon : s.laneOn p = true) :
    ∃ m n, s.testPattern p = { s.setF (F.LAN_P_CTL_TPAT p) 1 with lan := m, free := n } := by
  rw [testPattern, if_neg (by simp [hon])]
  extract_lets u w
  have hw : ∃ m n, w = { u with lan := m, free := n } := by
    refine List.foldlRecOn _ _ (motive := fun x : State => ∃ m n, x = { u with lan := m, free := n }) ⟨u.lan, u.free, rfl⟩ ?_
    rintro x ⟨m, n, rfl⟩ l -
    exact ⟨_, _, rfl⟩
  obtain ⟨m, n, hmn⟩ := hw
  rw [hmn]
  exact ⟨_, n, rfl⟩

theorem provSet_eq {s : State} {p : Nat} (b : Bool) (hon : s.laneOn p = true) (hs : s.isSender = true) (hp : p < 8) :
    s.provSet p b = (s.setF (F.LAN_P_CTL_PROV p) b.toNat).lanP p fun l => { l with provAsk := if l.prov = b then none else some b } :=
  if_pos (by simp [hon, hs, hp])

end State

/-! ### The parts of O31 -/

theorem completes_loopEnter {p : Fin 9} {m : Fin 3} {s : State} (ha : s.asleep = false) (hon : s.laneOn p.val = true)
    (hc : (s.port p.val).cur = []) (hs : (s.port p.val).singleAsk = none) (hne : (s.port p.val).loopIn ≠ m.val + 1) :
    Completes (.loopEnter p m) s fun t =>
      t.f (F.LAN_P_CTL_LOOP p) = m.val + 1 ∧ (t.port p.val).loopIn = m.val + 1 ∧ (t.port p.val).txq = [] ∧ t.rxst p.val = 2 ∧
      t.evBit 226 = true ∧ (m.val < 2 → t.f (F.LAN_P_STAT_CLKDET p) = 1 ∧ (t.port p.val).idle = true) ∧
      Frame (fun a => a == R.LAN_P_CTL p || a == R.LAN_P_STAT p || a == R.LAN_P_LOCKLOSS p || a == R.LAN_CLK) s t := by
  obtain ⟨hbegun, hidle, hloop, hframe⟩ :=
    State.loopEnter_begins p.isLt hon (Nat.succ_ne_zero m.val) (Nat.succ_lt_succ m.isLt) hc hs hne
  exact completes_awake (g := fun s => s.loopEnter p.val (m.val + 1)) rfl ha
    ⟨hloop, hbegun.loopIn, hbegun.queue, hbegun.rxst, hbegun.told,
      fun h2 => ⟨hbegun.clkdet (by omega), hidle (by omega)⟩, hframe.sealed⟩

/-- A calibration of ports that are all in Up begins. -/
theorem completes_offsetCalStart_begins {path : Path} {v : Word} {s : State} (ha : s.asleep = false)
    (hb : s.on F.LAN_CAL_STAT_BUSY = false) (h0 : F.LAN_CAL_PORTS.get v ≠ 0)
    (hup : ∀ p, p < 9 → (F.LAN_CAL_PORTS.get v).testBit p = true → s.portUp p = true) : Completes (.offsetCalStart path v) s fun t =>
      t.f F.LAN_CAL_STAT_BUSY = 1 ∧ t.f F.LAN_CAL_PORTS = F.LAN_CAL_PORTS.get v ∧
      (∃ c, t.lan.cal = some c ∧ c.ports = F.LAN_CAL_PORTS.get v ∧ c.step = 0) ∧
      Frame (fun a => a == R.LAN_CAL || a == R.LAN_CAL_STAT) s t := by
  have hframe := State.frame_calPorts s v
  refine completes_awake (g := fun s => s.write32 path R.LAN_CAL v) rfl ha ?_
  rw [State.write32_lanCal, State.calStart_begins h0 ((congrArg (· != 0) (hframe.f_eq rfl rfl)).trans hb) fun p hp hbit =>
    (State.portUp_calPorts s v hp).trans (hup p hp hbit)]
  exact ⟨State.f_setF_self _ F.LAN_CAL_STAT_BUSY 1 (by decide),
    (State.f_setF_ne _ (x := F.LAN_CAL_STAT_BUSY) (y := F.LAN_CAL_PORTS) 1 (by decide)).trans (State.calPorts_ports s v),
    ⟨_, rfl, rfl, rfl⟩,
    ((hframe.mono fun a h => by rw [h, Bool.true_or]).trans ((Frame.setF _ 1 rfl).trans (Frame.setLan _ _ _))).sealed⟩

/-- A calibration of a port that is not in Up is refused. -/
theorem completes_offsetCalStart_refused {path : Path} {v : Word} {p : Fin 9} {s : State} (ha : s.asleep = false)
    (hb : s.on F.LAN_CAL_STAT_BUSY = false) (hv : F.LAN_CAL_PORTS.get v = 2 ^ p.val) (hup : s.portUp p.val = false) :
    Completes (.offsetCalStart path v) s fun t =>
      t.f F.LAN_CAL_STAT_BUSY = 0 ∧ t.f F.LAN_CAL_STAT_CODE = 7 ∧ t.f F.LAN_CAL_STAT_PORT = p.val ∧ t.evBit 224 = true ∧
      t.lan.cal = none ∧ Frame (fun a => a == R.LAN_CAL || a == R.LAN_CAL_STAT) s t := by
  have hframe := State.frame_calPorts s v
  refine completes_awake (g := fun s => s.write32 path R.LAN_CAL v) rfl ha ?_
  rw [State.write32_lanCal, hv, State.calStart_refuses p.isLt ((congrArg (· != 0) (hframe.f_eq rfl rfl)).trans hb)
    ((State.portUp_calPorts s v p.isLt).trans hup)]
  have hfail := State.calFail_failed (s.calPorts v) (code := 7) (port := p.val) 0 (by decide) (by omega)
  exact ⟨hfail.busy, hfail.code, hfail.port, hfail.told, hfail.cal,
    ((hframe.mono fun a h => by rw [h, Bool.true_or]).trans (hfail.frame.mono fun a h => by rw [h, Bool.or_true])).sealed⟩

/-- A calibration that has been verified asks for its trims to be written to the record. -/
theorem completes_offsetCalWindowEnd_verified {k : LanCal} {stats : List LaneStat} {s : State} (ha : s.asleep = false)
    (hk : s.lan.cal = some k) (hf : k.fault stats = none) (hm : k.measured stats = true) (h6 : 6 ≤ k.step) (hok : s.mramOk = true)
    (hj : s.nvs.jobs = []) : Completes (.offsetCalWindowEnd stats) s fun t =>
      t.lan.cal = none ∧ t.nvs.jobs.length = 1 ∧ (∀ j ∈ t.nvs.jobs, j.kind = 2 ∧ j.cal = 0 ∧ j.time = s.calTime) ∧
      t.on F.NVS_STATUS_WBUSY = true ∧ t.f F.LAN_CAL_STAT_BUSY = s.f F.LAN_CAL_STAT_BUSY := by
  refine completes_awake (g := fun s => s.calWindow stats) rfl ha ?_
  have hreq := State.recRequest_begins (s := s.calEnded) (j := k.trimJob s.calTime) hj hok (by decide : 1 < 2)
  rw [State.calWindow_verified hk hf hm h6 hreq]
  refine ⟨rfl, rfl, fun j hmem => ?_, (State.sealed_on _ _ _).trans (State.recBegun_busy _ _),
    (State.sealed_f _ _ _).trans (State.recBegun_f s.calEnded _ (by decide))⟩
  rw [List.mem_singleton.1 hmem]
  exact ⟨rfl, rfl, rfl⟩

/-- Settles O31: at a boundary of a port's blocks a loop's edge leaves `State.LoopBegun` or `State.LoopEnded` and the transmitter follows
(`State.TxFollows`), before one nothing but the bit changes (`State.setCtl_busy`); what a window of a calibration does turns on its
fault and on whether every lane was measured (`State.calWindow_eq`). -/
theorem loopsPatternsAndOffsets : Obligations.LoopsPatternsAndOffsets := by
  unfold Obligations.LoopsPatternsAndOffsets
  refine ⟨fun p m b s ha hon => ⟨fun hc => ⟨?enterLater, ?exitLater, ?eidleLater⟩,
      fun hc hs => ⟨?enter, ?exit, fun hl => ⟨?eidle, ?txon, ?idleEnd⟩⟩, ?pattern, fun hns => ⟨?noTxon, ?noProv⟩, ?prov⟩,
    fun path v k stats s ha => ⟨?calBegins, ?calRefused, ?noCal, fun hk hlost hdf hdown => ⟨fun h0 h9 => ?unmeasured,
      fun hall hgood => ⟨?search, ?verified⟩⟩, ?calDown⟩⟩
  case enterLater =>
    refine completes_awake (g := fun s => s.loopEnter p.val (m.val + 1)) rfl ha ?_
    rw [State.loopEnter, if_neg (by simp [hon])]
    obtain ⟨hset, hlan, hframe⟩ :=
      State.setCtl_busy (x := F.LAN_P_CTL_LOOP p) rfl (by decide : 0 + 2 ≤ 32) (Nat.succ_lt_succ m.isLt) hc
    exact ⟨hset, hlan, hframe.sealed⟩
  case exitLater =>
    refine completes_awake (g := fun s => s.loopExit p.val) rfl ha ?_
    rw [State.loopExit, if_neg (by simp [hon])]
    obtain ⟨hset, hlan, hframe⟩ :=
      State.setCtl_busy (x := F.LAN_P_CTL_LOOP p) rfl (by decide : 0 + 2 ≤ 32) (by decide : 0 < 2 ^ 2) hc
    exact ⟨hset, hlan, hframe.sealed⟩
  case eidleLater =>
    refine completes_awake (g := fun s => s.eidleSet p.val) rfl ha ?_
    rw [State.eidleSet, if_pos hon]
    obtain ⟨hset, hlan, hframe⟩ :=
      State.setCtl_busy (x := F.LAN_P_CTL_EIDLE p) rfl (by decide : 3 + 1 ≤ 32) (by decide : 1 < 2 ^ 1) hc
    exact ⟨hset, hlan, hframe.sealed⟩
  case enter => exact completes_loopEnter ha hon hc hs
  case exit =>
    intro hne
    obtain ⟨hended, hloop, hframe⟩ := State.loopExit_ends p.isLt hon hc hs hne
    exact completes_awake (g := fun s => s.loopExit p.val) rfl ha
      ⟨hloop, hended.loopIn, hended.told, hended.clkdet, hended.rxst, hframe.sealed⟩
  case eidle =>
    obtain ⟨hset, hidle, hframe⟩ := State.eidleSet_follows p.isLt hon hc hs hl
    exact completes_awake (g := fun s => s.eidleSet p.val) rfl ha ⟨hset, hidle, hframe.sealed⟩
  case txon =>
    intro hsend
    obtain ⟨hset, hidle, hframe⟩ := State.txonSet_follows p.isLt hon hsend hc hs hl
    exact completes_awake (g := fun s => s.txonSet p.val) rfl ha ⟨hset, hidle, hframe.sealed⟩
  case idleEnd =>
    obtain ⟨hrestart, hidle, hframe⟩ := State.idleEnd_follows p.isLt hc hs hl
    exact completes_awake (g := fun s => s.idleEnd p.val) rfl ha ⟨hrestart, hidle, hframe.sealed⟩
  case pattern =>
    obtain ⟨lan, free, heq⟩ := State.testPattern_eq hon
    refine completes_awake (g := fun s => s.testPattern p.val) rfl ha ?_
    rw [heq]
    exact ⟨State.f_setF_self s (F.LAN_P_CTL_TPAT p) 1 (by decide : 2 + 1 ≤ 32), rfl,
      ((State.frame_setCtl s (x := F.LAN_P_CTL_TPAT p) 1 rfl (by simp)).trans (Frame.setLanFree _ _ lan free)).sealed⟩
  case noTxon => exact exec_of_effect_self (g := fun s => s.txonSet p.val) rfl ha (if_neg (by simp [hns]))
  case noProv => exact exec_of_effect_self (g := fun s => s.provSet p.val b) rfl ha (if_neg (by simp [hns]))
  case prov =>
    intro hsend hp
    refine completes_awake (g := fun s => s.provSet p.val b) rfl ha ?_
    rw [State.provSet_eq b hon hsend hp]
    have hbit : b.toNat % 2 ^ 1 = b.toNat := Nat.mod_eq_of_lt b.toNat_lt
    exact ⟨(State.f_setF_self s (F.LAN_P_CTL_PROV p) b.toNat (by decide : 5 + 1 ≤ 32)).trans hbit, rfl,
      congrArg LanPort.provAsk (State.port_lanP_self (s.setF (F.LAN_P_CTL_PROV p) b.toNat) _ p.isLt),
      ((State.frame_setCtl s (x := F.LAN_P_CTL_PROV p) b.toNat rfl (by simp)).trans (Frame.setLan _ _ _)).sealed⟩
  case calBegins => exact completes_offsetCalStart_begins ha
  case calRefused => exact fun p => completes_offsetCalStart_refused ha
  case noCal => exact fun h => exec_of_effect_self (g := fun s => s.calWindow []) rfl ha (State.calWindow_none [] h)
  case unmeasured =>
    have hf : k.fault [] = none := by rw [LanCal.fault_down k.laneFault_nil hlost hdf, hdown]; rfl
    exact exec_of_effect_self (g := fun s => s.calWindow []) rfl ha (State.calWindow_unmeasured hk hf (LanCal.measured_nil h0 h9))
  case search =>
    intro h6
    have hf : k.fault stats = none := by rw [LanCal.fault_down (LanCal.laneFault_none hgood) hlost hdf, hdown]; rfl
    refine completes_awake (g := fun s => s.calWindow stats) rfl ha ?_
    rw [State.calWindow_searches hk hf (LanCal.measured_of_all hall) h6]
    exact ⟨⟨_, rfl, rfl, rfl⟩, (Frame.setLan _ s _).sealed⟩
  case verified =>
    have hf : k.fault stats = none := by rw [LanCal.fault_down (LanCal.laneFault_none hgood) hlost hdf, hdown]; rfl
    exact completes_offsetCalWindowEnd_verified ha hk hf (LanCal.measured_of_all hall)
  case calDown =>
    intro p hk hlost hdf hdown
    have hf : k.fault [] = some (7, p.val, 0) := by rw [LanCal.fault_down k.laneFault_nil hlost hdf, hdown]; rfl
    have hfail := State.calFail_failed s (code := 7) (port := p.val) 0 (by decide) (by omega)
    refine completes_awake (g := fun s => s.calWindow []) rfl ha ?_
    rw [State.calWindow_fault hk hf]
    exact ⟨hfail.cal, hfail.busy, hfail.code, hfail.port, hfail.told, hfail.frame.sealed⟩

end Sys2Proof.Machine
end

section
/-! SUPPORT. Blocks handed to the lane ports: the transmit queues of the named ports change, and nothing else does. -/

namespace Sys2Proof.Machine

theorem Frame.setDsp (own : Nat → Bool) (s : State) (g : DspSt → DspSt) : Frame own s (s.setDsp g) :=
  ⟨fun _ _ _ => rfl, rfl, rfl, fun _ => rfl, fun _ => rfl, fun _ => rfl, fun _ => rfl⟩

/-- The presence of the pair link rests on the role and the options alone. -/
theorem Frame.present_par {own : Nat → Bool} {s t : State} (h : Frame own s t) (hr : own R.SYS_ROLE = false)
    (ho : own R.SYS_UNITEN = false) : t.present .PAR = s.present .PAR := by
  have hrole : t.role = s.role := h.f_eq (x := F.SYS_ROLE_ROLE) hr rfl
  have hopt : t.f F.SYS_UNITEN_OPT = s.f F.SYS_UNITEN_OPT := h.f_eq ho rfl
  simp only [State.present, State.isSender, State.opt, hrole, hopt]

namespace State

theorem port_lanP_ne (s : State) {p q : Nat} (g : LanPort → LanPort) (h : q ≠ p) : (s.lanP p g).port q = s.port q :=
  tabAt_tabMod_ne s.lan.ports g {} h

theorem sendBlock_eq (s : State) (p : Nat) (b : List Byte) : ∃ m, s.sendBlock p b = { s with lan := m } := by
  unfold sendBlock
  split
  · exact ⟨s.lan, rfl⟩
  · exact ⟨_, rfl⟩

theorem sendAll_eq (s : State) (ps : List Nat) (b : List Byte) : ∃ m, s.sendAll ps b = { s with lan := m } := by
  induction ps generalizing s with
  | nil => exact ⟨s.lan, rfl⟩
  | cons p ps ih =>
    obtain ⟨m, hm⟩ := s.sendBlock_eq p b
    obtain ⟨m', hm'⟩ := ih (s.sendBlock p b)
    exact ⟨m', hm'.trans (by rw [hm])⟩

@[simp] theorem sendAll_dsp (s : State) (ps : List Nat) (b : List Byte) : (s.sendAll ps b).dsp = s.dsp := by
  obtain ⟨m, hm⟩ := s.sendAll_eq ps b
  rw [hm]

theorem frame_sendAll (own : Nat → Bool) (s : State) (ps : List Nat) (b : List Byte) : Frame own s (s.sendAll ps b) := by
  obtain ⟨m, hm⟩ := s.sendAll_eq ps b
  rw [hm]
  exact Frame.setLan own s m

theorem port_sendBlock_ne (s : State) {p q : Nat} (b : List Byte) (h : q ≠ p) : (s.sendBlock p b).port q = s.port q := by
  unfold sendBlock
  split
  · rfl
  · exact port_lanP_ne s _ h

theorem txq_sendBlock_self {s : State} {p : Nat} (b : List Byte) (hp : p < 9) (hidle : (s.port p).idle = false)
    (hloop : (s.port p).loopIn = 0) : ((s.sendBlock p b).port p).txq = (s.port p).txq ++ [b] := by
  rw [sendBlock, if_neg (by simp [hidle, hloop]), port_lanP_self s _ hp]

/-- A port that sends, named once, takes the block at the end of its queue. -/
theorem txq_sendAll {s : State} {ps : List Nat} {p : Nat} (b : List Byte) (hmem : p ∈ ps) (hps : ps.Nodup) (hp : p < 9)
    (hidle : (s.port p).idle = false) (hloop : (s.port p).loopIn = 0) :
    ((s.sendAll ps b).port p).txq = (s.port p).txq ++ [b] := by
  refine foldl_reaches (P := fun u => u.port p = s.port p) (Q := fun u => (u.port p).txq = (s.port p).txq ++ [b]) hmem hps
    (fun q _ hq u hu => ?before) (fun u hu => ?own) (fun q _ hq u hu => ?after) rfl
  case before => rw [port_sendBlock_ne u b hq.symm, hu]
  case own => rw [txq_sendBlock_self b hp (by rw [hu, hidle]) (by rw [hu, hloop]), hu]
  case after => rw [port_sendBlock_ne u b hq.symm, hu]

theorem mem_portsOn {s : State} {p : Nat} : p ∈ s.portsOn ↔ p < 8 ∧ s.portOn p = true := by simp [portsOn]

theorem nodup_portsOn (s : State) : s.portsOn.Nodup := List.nodup_range.filter _

end State

end Sys2Proof.Machine
end

section
/-! OBLIGATIONS. The requests for hold and blank actions at a Sender (R229) and the second copies of their frames (R230). -/

namespace Sys2Proof.Machine

namespace State

/-- DSP_ACT holds the request. -/
def actAsked (s : State) (kind rampM1 : Nat) : State := (s.setF F.DSP_ACT_KIND kind).setF F.DSP_ACT_RAMPM1 rampM1

/-- The action that a request schedules: its boundary is the effective one at the present instant (R229). -/
def actNext (s : State) (kind rampM1 : Nat) : Action :=
  let time := s.reqTime R.DSP_ACT_NS R.DSP_ACT_SL R.DSP_ACT_SH
  let d := s.effective time.1 time.2
  { kind := kind, rampM1 := rampM1, aseq := (s.dsp.aseq + 1) % 65536, n := d.1, slot := d.2.1, late := d.2.2 }

/-- An action is kept, and its number is the last one given. -/
def actKept (s : State) (a : Action) : State :=
  s.setDsp fun d => { d with aseq := a.aseq, asked := d.asked ++ [a], wallActs := d.wallActs ++ [a] }

/-- DSP_ACT_STAT and DSP_ACT_FRM show an action as scheduled. -/
def actShown (s : State) (a : Action) : State :=
  ((((s.setF F.DSP_ACT_STAT_RESULT 1).setF F.DSP_ACT_STAT_LATE a.late.toNat).setF F.DSP_ACT_STAT_SLOT a.slot).setF
    F.DSP_ACT_STAT_ASEQ a.aseq).setF F.DSP_ACT_FRM_FRAME (a.n % 2 ^ 24)

/-- A late action is counted and raises event 81. -/
def lateNoted (s : State) (a : Action) : State := if a.late then (s.bump F.DSP_LATE_COUNT).raise 81 else s

/-- An action is kept and shown, and counted where it is late. -/
def actNoted (s : State) (a : Action) : State := ((s.actKept a).actShown a).lateNoted a

/-! ### The request in DSP_ACT -/

theorem frame_actAsked (s : State) (kind rampM1 : Nat) : Frame (fun a => a == R.DSP_ACT) s (s.actAsked kind rampM1) :=
  (Frame.setF s kind rfl).trans (Frame.setF _ rampM1 rfl)

theorem actAsked_kind (s : State) (kind rampM1 : Nat) : (s.actAsked kind rampM1).f F.DSP_ACT_KIND = kind % 8 :=
  (f_setF_disjoint _ rampM1 (by decide) (by decide)).trans (f_setF_self s F.DSP_ACT_KIND kind (by decide))

theorem actAsked_rampM1 (s : State) (kind rampM1 : Nat) : (s.actAsked kind rampM1).f F.DSP_ACT_RAMPM1 = rampM1 % 16 :=
  f_setF_self _ F.DSP_ACT_RAMPM1 rampM1 (by decide)

/-- Outside a pair the three grounds of refusal are those of the state before the request. -/
theorem actAsked_refused_iff {s : State} (kind rampM1 : Nat) (hp : s.present .PAR = false) :
    (999999999 < ((s.actAsked kind rampM1).reqTime R.DSP_ACT_NS R.DSP_ACT_SL R.DSP_ACT_SH).2 ∨
      (s.actAsked kind rampM1).isSecondary ∨ (s.actAsked kind rampM1).on F.DSP_STATUS_JOIN ∨ !(s.actAsked kind rampM1).timed) ↔
    (s.timed = false ∨ s.on F.DSP_STATUS_JOIN = true ∨ 999999999 < (s.reg R.DSP_ACT_NS).toNat % 2 ^ 30) := by
  have hframe := s.frame_actAsked kind rampM1
  have hns : (s.actAsked kind rampM1).reg R.DSP_ACT_NS = s.reg R.DSP_ACT_NS := hframe.regs _ rfl rfl
  have hpair : (s.actAsked kind rampM1).present .PAR = false := (hframe.present_par rfl rfl).trans hp
  have hjoin : (s.actAsked kind rampM1).on F.DSP_STATUS_JOIN = s.on F.DSP_STATUS_JOIN :=
    congrArg (· != 0) (hframe.f_eq (x := F.DSP_STATUS_JOIN) rfl rfl)
  have htimed : (s.actAsked kind rampM1).timed = s.timed := congrArg (· != 0) (hframe.f_eq (x := F.TIM_STATUS_TSTATE) rfl rfl)
  simp only [reqTime, isSecondary, hns, hpair, hjoin, htimed, Bool.false_and, Bool.false_eq_true, false_or, Bool.not_eq_true']
  exact ⟨fun h => h.elim (fun hns => .inr (.inr hns)) fun h => h.elim (fun hj => .inr (.inl hj)) .inl,
    fun h => h.elim (fun ht => .inr (.inr ht)) fun h => h.elim (fun hj => .inr (.inl hj)) .inl⟩

/-! ### The action kept and shown -/

/-- What shows an action as scheduled, and counts it. -/
def notedRegs : Nat → Bool := fun b => b == R.DSP_ACT_STAT || b == R.DSP_ACT_FRM || b == R.DSP_LATE

/-- A request writes DSP_ACT, and what shows and counts its action. -/
theorem notedRegs_le_request (b : Nat) (h : notedRegs b = true) :
    (b == R.DSP_ACT || b == R.DSP_ACT_STAT || b == R.DSP_ACT_FRM || b == R.DSP_LATE) = true := by
  rw [Bool.or_assoc, Bool.or_assoc, ← Bool.or_assoc (b == R.DSP_ACT_STAT)]
  exact Bool.or_eq_true_iff.2 (.inr h)

theorem frame_actShown (s : State) (a : Action) : Frame notedRegs s (s.actShown a) :=
  ((((Frame.setF s _ rfl).trans (Frame.setF _ _ rfl)).trans (Frame.setF _ _ rfl)).trans (Frame.setF _ _ rfl)).trans (Frame.setF _ _ rfl)

theorem frame_lateNoted (s : State) (a : Action) : Frame (fun b => b == R.DSP_LATE) s (s.lateNoted a) := by
  unfold lateNoted
  split
  · exact (Frame.setF s _ rfl).trans (Frame.raise _ _ 81)
  · exact Frame.refl _ s

theorem frame_actNoted (s : State) (a : Action) : Frame notedRegs s (s.actNoted a) :=
  ((Frame.setDsp _ s _).trans (frame_actShown _ a)).trans ((frame_lateNoted _ a).mono fun b hb => by simp [notedRegs, hb])

theorem f_actNoted (s : State) (a : Action) {x : Fld} (hx : x.addr ≠ R.DSP_LATE) (he : evReg x.addr = false) :
    (s.actNoted a).f x = ((s.actKept a).actShown a).f x :=
  (frame_lateNoted _ a).f_eq (beq_false_of_ne hx) he

@[simp] theorem lateNoted_dsp (s : State) (a : Action) : (s.lateNoted a).dsp = s.dsp := by
  unfold lateNoted
  split
  · exact raise_dsp _ 81
  · rfl

theorem actNoted_dsp (s : State) (a : Action) : (s.actNoted a).dsp = (s.actKept a).dsp := lateNoted_dsp _ a

theorem actShown_result (s : State) (a : Action) : (s.actShown a).f F.DSP_ACT_STAT_RESULT = 1 :=
  (f_setF_ne _ _ (by decide)).trans ((f_setF_disjoint _ _ (by decide) (by decide)).trans
    ((f_setF_disjoint _ _ (by decide) (by decide)).trans ((f_setF_disjoint _ _ (by decide) (by decide)).trans
      (f_setF_self s F.DSP_ACT_STAT_RESULT 1 (by decide)))))

theorem actShown_slot (s : State) (a : Action) : (s.actShown a).f F.DSP_ACT_STAT_SLOT = a.slot % 8 :=
  (f_setF_ne _ _ (by decide)).trans ((f_setF_disjoint _ _ (by decide) (by decide)).trans
    (f_setF_self _ F.DSP_ACT_STAT_SLOT a.slot (by decide)))

theorem actShown_aseq (s : State) (a : Action) : (s.actShown a).f F.DSP_ACT_STAT_ASEQ = a.aseq % 65536 :=
  (f_setF_ne _ _ (by decide)).trans (f_setF_self _ F.DSP_ACT_STAT_ASEQ a.aseq (by decide))

theorem actShown_frame (s : State) (a : Action) : (s.actShown a).f F.DSP_ACT_FRM_FRAME = a.n % 2 ^ 24 :=
  (f_setF_self _ F.DSP_ACT_FRM_FRAME _ (by decide)).trans (Nat.mod_mod _ _)

/-! ### Sending -/

theorem frame_sendAction (own : Nat → Bool) (s : State) (a : Action) : Frame own s (s.sendAction a) :=
  (frame_sendAll own s s.portsOn (s.actFrame 127 a)).trans
    (Frame.setDsp own _ fun d => { d with actCopies := d.actCopies ++ [s.actFrame 127 a] })

theorem sendAction_dsp (s : State) (a : Action) :
    (s.sendAction a).dsp = { s.dsp with actCopies := s.dsp.actCopies ++ [s.actFrame 127 a] } := by
  simp [sendAction]

/-- The action is kept and shown as scheduled, its number is the last one given, and a second copy of its frame waits. -/
structure Scheduled (a : Action) (s t : State) : Prop where
  asked : t.dsp.asked = s.dsp.asked ++ [a]
  number : t.dsp.aseq = a.aseq
  copies : t.dsp.actCopies.length = s.dsp.actCopies.length + 1
  result : t.f F.DSP_ACT_STAT_RESULT = 1
  aseq : t.f F.DSP_ACT_STAT_ASEQ = a.aseq % 65536
  slot : t.f F.DSP_ACT_STAT_SLOT = a.slot % 8
  frm : t.f F.DSP_ACT_FRM_FRAME = a.n % 2 ^ 24
  frame : Frame notedRegs s t

theorem scheduled_sendAction (s : State) (a : Action) : Scheduled a s ((s.actNoted a).sendAction a) := by
  have hsent : ∀ own, Frame own (s.actNoted a) ((s.actNoted a).sendAction a) := fun own => frame_sendAction own _ a
  have hdsp := sendAction_dsp (s.actNoted a) a
  rw [actNoted_dsp] at hdsp
  have hshown : ∀ {x : Fld}, x.addr ≠ R.DSP_LATE → evReg x.addr = false →
      ((s.actNoted a).sendAction a).f x = ((s.actKept a).actShown a).f x :=
    fun hx he => ((hsent noReg).f_eq rfl he).trans (f_actNoted s a hx he)
  exact {
    asked := congrArg DspSt.asked hdsp
    number := congrArg DspSt.aseq hdsp
    copies := (congrArg (fun d => d.actCopies.length) hdsp).trans List.length_append
    result := (hshown (by decide) rfl).trans (actShown_result _ a)
    aseq := (hshown (by decide) rfl).trans (actShown_aseq _ a)
    slot := (hshown (by decide) rfl).trans (actShown_slot _ a)
    frm := (hshown (by decide) rfl).trans (actShown_frame _ a)
    frame := (frame_actNoted s a).trans (hsent notedRegs) }

theorem mirrors_of_unpaired {s : State} (hp : s.present .PAR = false) : s.mirrors = false := by
  simp [mirrors, isPrimary, hp]

theorem actSecond_eq {s : State} {b : List Byte} {bs : List (List Byte)} (h : s.dsp.actCopies = b :: bs) :
    s.actSecond = (s.setDsp fun d => { d with actCopies := bs }).sendAll s.portsOn b := by
  rw [actSecond, h]

/-! ### The request's two outcomes -/

section request

variable {s : State} (kind rampM1 : Nat) (hs : s.isSender = true) (hp : s.present .PAR = false)
include hs hp

theorem actRequest_refused
    (h : s.timed = false ∨ s.on F.DSP_STATUS_JOIN = true ∨ 999999999 < (s.reg R.DSP_ACT_NS).toNat % 2 ^ 30) :
    s.actRequest kind rampM1 = (s.actAsked kind rampM1).actRefuse := by
  have hno := (actAsked_refused_iff kind rampM1 hp).2 h
  rw [actRequest, if_neg (by simp [hs])]
  extract_lets +onlyGivenNames asked
  change _ = asked.actRefuse
  split
  next sec ns hreq =>
    change _ < (asked.reqTime R.DSP_ACT_NS R.DSP_ACT_SL R.DSP_ACT_SH).2 ∨ _ at hno
    rw [hreq] at hno
    exact if_pos hno

theorem actRequest_scheduled
    (h : ¬ (s.timed = false ∨ s.on F.DSP_STATUS_JOIN = true ∨ 999999999 < (s.reg R.DSP_ACT_NS).toNat % 2 ^ 30)) :
    s.actRequest kind rampM1 =
      ((s.actAsked kind rampM1).actNoted ((s.actAsked kind rampM1).actNext kind rampM1)).sendAction
        ((s.actAsked kind rampM1).actNext kind rampM1) := by
  have hgo := mt (actAsked_refused_iff kind rampM1 hp).1 h
  rw [actRequest, if_neg (by simp [hs])]
  extract_lets +onlyGivenNames asked
  have hmirrors : ∀ a, ((asked.actNoted a).sendAction a).mirrors ≠ true := fun a =>
    Bool.eq_false_iff.1 (mirrors_of_unpaired ((((frame_actNoted _ a).trans (frame_sendAction _ _ a)).present_par rfl rfl).trans
      (((s.frame_actAsked kind rampM1).present_par rfl rfl).trans hp)))
  change _ = (asked.actNoted (asked.actNext kind rampM1)).sendAction (asked.actNext kind rampM1)
  split
  next sec ns hreq =>
    change ¬ (_ < (asked.reqTime R.DSP_ACT_NS R.DSP_ACT_SL R.DSP_ACT_SH).2 ∨ _) at hgo
    rw [hreq] at hgo
    refine (if_neg hgo).trans ?_
    split
    next n k late heff =>
      have hnext : asked.actNext kind rampM1 =
          { kind := kind, rampM1 := rampM1, aseq := (asked.dsp.aseq + 1) % 65536, n := n, slot := k, late := late } := by
        simp only [actNext, hreq, heff]
      rw [hnext]
      -- The number and the state are made opaque: comparing the two sides would else unfold the arithmetic in them.
      generalize (asked.dsp.aseq + 1) % 65536 = aseq
      clear_value asked
      exact if_neg (hmirrors { kind := kind, rampM1 := rampM1, aseq := aseq, n := n, slot := k, late := late })

end request

end State

/-- What each of the four requests does (R229). -/
theorem exec_actRequest {r : Fin 16} {c : Instr} {kind ramp : Nat} (s : State)
    (h : (c, kind, ramp) ∈ [(Instr.holdReq, 1, 0), (.releaseReq, 2, 0), (.blankReq r, 3, r.val), (.unblankReq r, 4, r.val)]) :
    kind < 8 ∧ ramp < 16 ∧ exec c s = s.finish (s.awake fun s => s.atBlk .DSP fun s => s.actRequest kind ramp) := by
  simp only [List.mem_cons, Prod.mk.injEq, List.not_mem_nil, or_false] at h
  obtain ⟨rfl, rfl, rfl⟩ | ⟨rfl, rfl, rfl⟩ | ⟨rfl, rfl, rfl⟩ | ⟨rfl, rfl, rfl⟩ := h
  · exact ⟨by decide, by decide, rfl⟩
  · exact ⟨by decide, by decide, rfl⟩
  · exact ⟨by decide, r.isLt, rfl⟩
  · exact ⟨by decide, r.isLt, rfl⟩

/-- The block of the frame timing is present at a Sender. -/
theorem atBlk_dsp {s : State} {g : State → State} (hs : s.isSender = true) : s.atBlk .DSP g = g s :=
  if_pos (congrArg (· != 0) (beq_iff_eq.1 hs : s.role = 1))

/-- Settles O19: outside a pair a request is refused on the grounds of the state before it (`State.actAsked_refused_iff`), and else the
action is noted and then sent (`State.Scheduled`); handing a frame to the ports changes their queues alone (`State.sendAll_eq`,
`State.txq_sendAll`). -/
theorem actionsScheduled : Obligations.ActionsScheduled := by
  unfold Obligations.ActionsScheduled
  refine ⟨fun r s c kind ramp ha hs hp hc => ?request, fun s b bs ha hb => ?second⟩
  case request =>
    obtain ⟨hkind, hramp, hexec⟩ := exec_actRequest s hc
    have hasked := s.frame_actAsked kind ramp
    refine ⟨fun ht hj hns => completes_awake hexec ha ?scheduled, fun h => completes_awake hexec ha ?refused⟩
    case scheduled =>
      rw [atBlk_dsp hs, State.sealed_of_given (State.actRequest_given s kind ramp),
        State.actRequest_scheduled kind ramp hs hp (by simpa [ht, hj] using hns)]
      have hnumber : ((s.actAsked kind ramp).actNext kind ramp).aseq = (s.dsp.aseq + 1) % 65536 := rfl
      have h := State.scheduled_sendAction (s.actAsked kind ramp) ((s.actAsked kind ramp).actNext kind ramp)
      exact ⟨_, rfl, rfl, hnumber, h.asked, h.number, h.copies,
        (h.frame.f_eq rfl rfl).trans ((State.actAsked_kind s kind ramp).trans (Nat.mod_eq_of_lt hkind)),
        (h.frame.f_eq rfl rfl).trans ((State.actAsked_rampM1 s kind ramp).trans (Nat.mod_eq_of_lt hramp)),
        h.result, h.aseq.trans (by rw [hnumber, Nat.mod_mod]), h.slot, h.frm,
        (hasked.mono fun b hb => by simp [hb]).trans (h.frame.mono State.notedRegs_le_request)⟩
    case refused =>
      rw [atBlk_dsp hs, State.sealed_of_given (State.actRequest_given s kind ramp),
        State.actRequest_refused kind ramp hs hp h]
      exact ⟨State.f_setF_self _ F.DSP_ACT_STAT_RESULT 3 (by decide), rfl,
        (hasked.mono fun b hb => by simp [hb]).trans (Frame.setF _ 3 rfl)⟩
  case second =>
    refine completes_awake (g := State.actSecond) rfl ha ?_
    rw [State.actSecond_eq hb]
    refine ⟨congrArg DspSt.actCopies (State.sendAll_dsp _ _ b),
      ((Frame.setDsp noReg s _).trans (State.frame_sendAll noReg _ _ b)).sealed, fun p h8 hon hidle hloop => ?_⟩
    exact State.txq_sendAll b (State.mem_portsOn.2 ⟨h8, hon⟩) s.nodup_portsOn (by omega) hidle hloop

end Sys2Proof.Machine
end

section
/-! OBLIGATIONS. Two statements about wall time that fail, each with a state in which the model does otherwise. -/

namespace Sys2Proof.Machine

/-- On an empty queue one tick passes, of the length that the power state gives it. -/
theorem step_empty {s : State} (h : s.pending = []) : step s = .next (s.ticks 1) := by
  simp only [step, h]

/-- The tick of the island, which counts in Standby, is 20 ns long (R263). -/
theorem State.ticks_now_standby {s : State} (h : s.f F.RPS_PWR_STAT_STATE = 2) (k : Nat) :
    (s.ticks k).clk.now = s.clk.now + 20 * k := by
  simp only [State.ticks, if_pos h]

/-- A device in Standby with nothing in its queue. -/
def idleInStandby : State := State.reset.setF F.RPS_PWR_STAT_STATE 2

/-- Refutes O2: the statement gives every tick 2 ns, in Standby too, and there the tick is the island's, of 20 ns. -/
theorem not_emptyQueueTicks : ¬ Obligations.EmptyQueueTicks := by
  unfold Obligations.EmptyQueueTicks
  intro h
  obtain ⟨⟨t, hstep, hnow, -⟩, -⟩ := h idleInStandby rfl
  obtain rfl : idleInStandby.ticks 1 = t := Host.Outcome.next.inj ((step_empty rfl).symm.trans hstep)
  rw [State.ticks_now_standby (by decide +kernel)] at hnow
  omega

/-- A Sender whose Ethernet receive ring lies at the start of a frame memory with two entries for address 1: the memory is not in the
canonical form (`Mem.wf`) that the statement does not ask for. -/
def doubledRing : State :=
  { ([(F.SYS_ROLE_ROLE, 1), (F.SYS_UNITEN_OPT, 4), (F.TIM_ERX_CTL_EN, 1), (F.TIM_ERX_CTL_LOG2, 4), (F.FMC_SIZE_MB, 1)].foldl
      (fun s x => s.setF x.1 x.2) State.reset) with dram := [(1, 5), (1, 7)] }

/-- A broadcast frame of six bytes, so that the high byte of its length is 0. -/
def broadcastFrame : List Byte := List.replicate 6 0xFF

/-- Refutes O38: the statement ranges over states whose memories are in no canonical form too, and in this one the 0 written to address 1
of the ring's entry takes off the first entry of that address, so that a read of the length finds the second. -/
theorem not_ethernetReferenceAndTimedPins : ¬ Obligations.EthernetReferenceAndTimedPins := by
  unfold Obligations.EthernetReferenceAndTimedPins
  intro h
  obtain ⟨-, hgood, -⟩ := h.1 broadcastFrame doubledRing (by decide +kernel) (by decide +kernel)
  obtain ⟨-, hwritten⟩ := hgood (by decide) (by decide +kernel) (by decide +kernel)
  obtain ⟨t, hnext, -, -, hentry⟩ := hwritten (by decide +kernel)
  obtain ⟨hlength, -⟩ := hentry 0 (by decide +kernel) (by decide +kernel)
  obtain rfl := awake_next (g := fun s => s.ethFrameRx broadcastFrame true) rfl (by decide +kernel) hnext
  exact absurd hlength (by decide +kernel)

end Sys2Proof.Machine
end

section
/-! SUPPORT. The registers and the state of wall time: what an update of that state leaves, and what the time source, a forming of
TSTATE, a jump of the count and a wait depend on and change. -/

namespace Sys2Proof.Machine

theorem Frame.setTim (own : Nat → Bool) (s : State) (m : TimSt) : Frame own s { s with tim := m } :=
  ⟨fun _ _ _ => rfl, rfl, rfl, fun _ => rfl, fun _ => rfl, fun _ => rfl, fun _ => rfl⟩

theorem Frame.setTimFree (own : Nat → Bool) (s : State) (m : TimSt) (n : Nat) : Frame own s { s with tim := m, free := n } :=
  ⟨fun _ _ _ => rfl, rfl, rfl, fun _ => rfl, fun _ => rfl, fun _ => rfl, fun _ => rfl⟩

theorem Frame.setClkDsp (own : Nat → Bool) (s : State) (c : Clock) (d : DspSt) : Frame own s { s with clk := c, dsp := d } :=
  ⟨fun _ _ _ => rfl, rfl, rfl, fun _ => rfl, fun _ => rfl, fun _ => rfl, fun _ => rfl⟩

/-- The time source rests on the role, TIM_SRC, the part and the clock that port 0 receives (R242). -/
theorem Frame.source {own : Nat → Bool} {s t : State} (h : Frame own s t) (hf : t.fuses = s.fuses) (hr : own R.SYS_ROLE = false)
    (hs : own R.TIM_SRC = false) (hp : own (R.LAN_P_STAT 0) = false) : t.source = s.source := by
  have hrole : t.role = s.role := h.f_eq (x := F.SYS_ROLE_ROLE) hr rfl
  have hsrc : t.f F.TIM_SRC_SRC = s.f F.TIM_SRC_SRC := h.f_eq hs rfl
  have hclk : t.f (F.LAN_P_STAT_CLKDET 0) = s.f (F.LAN_P_STAT_CLKDET 0) := h.f_eq hp rfl
  unfold State.source State.part7440 State.on
  rw [hrole, hsrc, hclk, hf]

namespace State

theorem Adds.setTimFree (own : Nat → Bool) (s : State) (m : TimSt) (n : Nat) : Adds own s { s with tim := m, free := n } :=
  ⟨Frame.setTimFree own s m n, fun _ _ he => he, fun _ ho => ho, rfl⟩

/-- The events of wall time are raised whatever the role. -/
theorem evBit_raise_tim (s : State) {n : Nat} (hn : evOwner n = some .TIM) : (s.raise n).evBit n = true :=
  evBit_raise_self (evLive_of_owner hn rfl)

/-- No register of wall time is one that an event may write. -/
theorem evReg_tim {a : Nat} (hlo : 0x280000 ≤ a) (hhi : a < 0x281000) : evReg a = false := by
  simp only [evReg, R.CMC_EVDROP, Bool.or_eq_false_iff, decide_eq_false_iff_not, beq_eq_false_iff_ne]
  omega

/-- No register of a domain is one that an event may write. -/
theorem evReg_domain {d a : Nat} (hd : d < 2) (hlo : R.TIM_DOM_STAT d ≤ a) (hhi : a ≤ R.TIM_DOM_MEAS d) : evReg a = false :=
  evReg_tim (by simp only [R.TIM_DOM_STAT] at hlo; omega) (by simp only [R.TIM_DOM_MEAS] at hhi; omega)

/-! ### Forming TSTATE -/

/-- The registers that a forming of TSTATE may write besides those of events. -/
def tstateRegs : Nat → Bool := fun a => a == R.TIM_STATUS || a == R.TIM_RATE

/-- From `s` to `t` no more happens than a forming of TSTATE may do: the active domain and the clock are the same, and the status bits
set before are set. -/
structure TstateOnly (s t : State) : Prop where
  active : t.active = s.active
  clk : t.clk = s.clk
  adds : Adds tstateRegs s t

namespace TstateOnly

variable {s t u : State}

theorem refl (s : State) : TstateOnly s s := ⟨rfl, rfl, Adds.refl _ s⟩

theorem trans (h : TstateOnly s t) (k : TstateOnly t u) : TstateOnly s u :=
  ⟨k.active.trans h.active, k.clk.trans h.clk, h.adds.trans k.adds⟩

theorem setTstate (s : State) (v : Nat) : TstateOnly s (s.setF F.TIM_STATUS_TSTATE v) :=
  ⟨f_setF_disjoint s v (by decide) (.inl (by decide)), rfl, Adds.setF s v rfl (by decide)⟩

theorem setSby (s : State) (v : Nat) : TstateOnly s (s.setF F.TIM_STATUS_SBY v) :=
  ⟨f_setF_disjoint s v (by decide) (.inr (by decide)), rfl, Adds.setF s v rfl (by decide)⟩

theorem setRate (s : State) (v : Nat) : TstateOnly s (s.setF F.TIM_RATE_RATE v) :=
  ⟨f_setF_ne s v (by decide), rfl, Adds.setF s v rfl (by decide)⟩

theorem setTimFree (s : State) (m : TimSt) (n : Nat) : TstateOnly s { s with tim := m, free := n } :=
  ⟨rfl, rfl, Adds.setTimFree _ s m n⟩

theorem raise (s : State) (n : Nat) : TstateOnly s (s.raise n) := ⟨f_raise s n rfl, raise_clk s n, Adds.raise _ s n⟩

end TstateOnly

theorem enterHoldover_tstateOnly (s : State) : TstateOnly s s.enterHoldover := by
  have hshown := ((TstateOnly.setTstate s 4).trans (TstateOnly.setTimFree _ { s.tim with holdTold := false } s.free)).trans
    (TstateOnly.raise _ 277)
  unfold enterHoldover
  dsimp only
  split
  · exact hshown.trans (TstateOnly.setRate _ 0)
  · exact (hshown.trans (TstateOnly.setTimFree _ _ _)).trans (TstateOnly.setRate _ _)

/-- TSTATE takes a new value, with what that entails (R244). -/
def tstateTaken (s : State) (new : Nat) : State :=
  if new = s.f F.TIM_STATUS_TSTATE then s
  else if new = 4 then s.enterHoldover
  else
    let s := s.setF F.TIM_STATUS_TSTATE new
    if new = 3 then
      ({ (s.setF F.TIM_STATUS_SBY 0) with tim := { s.tim with anyStep := false, holdTold := false } }).raise 276
    else { s with tim := { s.tim with holdTold := false } }

theorem formTstate_eq (s : State) : s.formTstate = s ∨ ∃ new, s.formTstate = s.tstateTaken new := by
  unfold formTstate
  dsimp only
  split
  · exact .inl rfl
  · exact .inr ⟨_, rfl⟩

theorem tstateTaken_tstateOnly (s : State) (new : Nat) : TstateOnly s (s.tstateTaken new) := by
  unfold tstateTaken
  dsimp only
  split
  · exact TstateOnly.refl s
  split
  · exact enterHoldover_tstateOnly s
  split
  · exact (((TstateOnly.setTstate s new).trans (TstateOnly.setSby _ 0)).trans (TstateOnly.setTimFree _ _ _)).trans (TstateOnly.raise _ 276)
  · exact (TstateOnly.setTstate s new).trans (TstateOnly.setTimFree _ _ _)

theorem formTstate_tstateOnly (s : State) : TstateOnly s s.formTstate := by
  obtain h | ⟨new, h⟩ := s.formTstate_eq
  · rw [h]
    exact TstateOnly.refl s
  · rw [h]
    exact tstateTaken_tstateOnly s new

/-! ### The count -/

/-- Before frames run a jump moves the count and passes over nothing. -/
theorem jump_stopped {s : State} (h : s.on F.DSP_STATUS_RUN = false) (delta : Int) : s.jump delta =
    { s with clk := { s.clk with wall := ((s.clk.wall : Int) + delta).toNat }, dsp := { s.dsp with lastN := none, lastS := none } } :=
  if_neg (by
    rw [Bool.not_eq_true, Bool.and_eq_false_iff]
    exact .inr h)

theorem frame_jump_stopped (own : Nat → Bool) {s : State} (h : s.on F.DSP_STATUS_RUN = false) (delta : Int) :
    Frame own s (s.jump delta) := by
  rw [jump_stopped h]
  exact Frame.setClkDsp own s _ _

/-- Before frames run a step is taken at once (R257). -/
theorem applyStep_stopped {s : State} (h : s.on F.DSP_STATUS_RUN = false) (delta : Int) :
    s.applyStep delta = ((s.jump delta).noteStep s.frameNow).raise 281 :=
  if_pos (by simp [h])

/-- Before frames run a jump by the difference to a count reaches it. -/
theorem wall_jump_to {s : State} (h : s.on F.DSP_STATUS_RUN = false) (t : Nat) :
    (s.jump ((t : Int) - s.clk.wall)).clk.wall = t := by
  rw [jump_stopped h]
  change ((s.clk.wall : Int) + (t - s.clk.wall)).toNat = t
  omega

theorem le_cdiv_mul (a : Nat) {b : Nat} (hb : b ≠ 0) : a ≤ cdiv a b * b := by
  have hdiv := Nat.div_add_mod (a + b - 1) b
  have hmod := Nat.mod_lt (a + b - 1) (Nat.pos_of_ne_zero hb)
  rw [cdiv, Nat.mul_comm]
  omega

/-- A wait ends at or after its instant, where ticks have a length. -/
theorem le_wall_waitTo {s : State} (t : Nat) (h : s.tickU ≠ 0) : t ≤ (s.waitTo t).clk.wall := by
  unfold waitTo
  split
  next hnow => exact hnow.resolve_right h
  next =>
    have := le_cdiv_mul (t - s.clk.wall) h
    simp only [ticks]
    omega

end State

end Sys2Proof.Machine
end

section
/-! OBLIGATIONS. Holdover and the setting of wall time. -/

namespace Sys2Proof.Machine

namespace State

/-! ### A domain without its source -/

/-- What the loss of its source takes from a domain: its transmitter, its open exchange and its lock count. -/
def sourceLost (s : State) (d : Nat) : State :=
  (s.setDom d fun x => { x with gm := none, sync := none, req := none }).setF (F.TIM_DOM_STAT_LOCKCNT d) 0

/-- The domain without its source is shown in Holdover, with its event (R243). -/
def domainHeld (s : State) (d : Nat) : State := ((s.sourceLost d).setF (F.TIM_DOM_STAT_DSTATE d) 3).raise (278 + d)

/-- A domain that is off or in Holdover loses nothing. -/
theorem holdover_idle {s : State} {d : Nat} (h : s.f (F.TIM_DOM_STAT_DSTATE d) = 0 ∨ s.f (F.TIM_DOM_STAT_DSTATE d) = 3) :
    s.holdover d = s := if_pos h

theorem dstate_sourceLost (s : State) (d : Nat) :
    (s.sourceLost d).f (F.TIM_DOM_STAT_DSTATE d) = s.f (F.TIM_DOM_STAT_DSTATE d) :=
  f_setF_disjoint (s.setDom d _) 0 (x := F.TIM_DOM_STAT_LOCKCNT d) (by simp) (.inr (by simp))

theorem active_domainHeld {s : State} {d : Nat} : (s.domainHeld d).active = s.active := by
  have hne : R.TIM_STATUS ≠ R.TIM_DOM_STAT d := by simp only [R.TIM_STATUS, R.TIM_DOM_STAT]; omega
  calc (s.domainHeld d).active = ((s.sourceLost d).setF (F.TIM_DOM_STAT_DSTATE d) 3).active := f_raise _ _ rfl
    _ = (s.sourceLost d).active := f_setF_ne _ 3 hne
    _ = s.active := f_setF_ne (s.setDom d _) 0 hne

/-- A domain that is not the active one enters Holdover, and TSTATE is formed afresh. -/
theorem holdover_inactive {s : State} {d : Nat} (h0 : s.f (F.TIM_DOM_STAT_DSTATE d) ≠ 0) (h3 : s.f (F.TIM_DOM_STAT_DSTATE d) ≠ 3)
    (ha : s.active ≠ d) : s.holdover d = (s.domainHeld d).formTstate := by
  have hst : (s.sourceLost d).domState d 3 = (s.domainHeld d).formTstate := if_neg (by rwa [dstate_sourceLost])
  have hact : d ≠ (s.domainHeld d).formTstate.active := by
    rw [(formTstate_tstateOnly _).active, active_domainHeld]
    exact ha.symm
  refine (if_neg (not_or.2 ⟨h0, h3⟩)).trans ?_
  change (if d ≠ ((s.sourceLost d).domState d 3).active then (s.sourceLost d).domState d 3 else _) = _
  rw [hst, if_pos hact]

/-- The registers of a domain stay as they are while TSTATE is formed. -/
theorem f_stat_formTstate (s : State) {d : Nat} (hd : d < 2) {x : Fld} (hx : x.addr = R.TIM_DOM_STAT d) : s.formTstate.f x = s.f x :=
  (formTstate_tstateOnly s).adds.frame.f_eq
    (by simp only [tstateRegs, hx, R.TIM_DOM_STAT, R.TIM_STATUS, R.TIM_RATE, Bool.or_eq_false_iff, beq_eq_false_iff_ne]; omega)
    (by rw [hx]; exact evReg_domain hd (Nat.le_refl _) (by simp))

theorem f_stat_domainHeld (s : State) {d : Nat} (hd : d < 2) {x : Fld} (hx : x.addr = R.TIM_DOM_STAT d) :
    (s.domainHeld d).f x = ((s.sourceLost d).setF (F.TIM_DOM_STAT_DSTATE d) 3).f x :=
  f_raise _ _ (by rw [hx]; exact evReg_domain hd (Nat.le_refl _) (by simp))

theorem evOwner_domain {d : Nat} (hd : d < 2) : evOwner (278 + d) = some .TIM := by
  obtain rfl | rfl : d = 0 ∨ d = 1 := by omega
  · rfl
  · rfl

/-- From `s` to `t` domain `d` has entered Holdover. -/
structure DomainHeld (d : Nat) (s t : State) : Prop where
  state : t.f (F.TIM_DOM_STAT_DSTATE d) = 3
  count : t.f (F.TIM_DOM_STAT_LOCKCNT d) = 0
  told : t.evBit (278 + d) = true
  clk : t.clk = s.clk

theorem domainHeld_formTstate (s : State) {d : Nat} (hd : d < 2) : DomainHeld d s (s.domainHeld d).formTstate where
  state := by
    rw [f_stat_formTstate _ hd rfl, f_stat_domainHeld s hd rfl]
    exact f_setF_self (s.sourceLost d) (F.TIM_DOM_STAT_DSTATE d) 3 (by simp)
  count := by
    rw [f_stat_formTstate _ hd rfl, f_stat_domainHeld s hd rfl,
      f_setF_disjoint (s.sourceLost d) 3 (x := F.TIM_DOM_STAT_DSTATE d) (by simp) (.inl (by simp))]
    exact f_setF_self (s.setDom d _) (F.TIM_DOM_STAT_LOCKCNT d) 0 (by simp)
  told := (formTstate_tstateOnly _).adds.events _ (by omega) (evBit_raise_tim _ (evOwner_domain hd))
  clk := (formTstate_tstateOnly _).clk.trans (raise_clk _ _)

/-! ### Holdover past HOLDMAX -/

theorem holdmax_first {s : State} (h4 : s.f F.TIM_STATUS_TSTATE = 4) (h : s.tim.holdTold = false) :
    s.holdmax = ({ s with tim := { s.tim with holdTold := true } }).raise 289 :=
  if_pos ⟨h4, by simp [h]⟩

theorem holdmax_same {s : State} (h : s.f F.TIM_STATUS_TSTATE ≠ 4 ∨ s.tim.holdTold = true) : s.holdmax = s :=
  if_neg fun hn => h.elim (fun h4 => h4 hn.1) fun ht => by simp [ht] at hn

/-! ### TIM_CMD -/

/-- The command shown in TIM_CMD. -/
def cmdShown (s : State) (v : Nat) : State := s.setF F.TIM_CMD_CMD v

theorem frame_cmdShown (s : State) (v : Nat) : Frame (fun a => a == R.TIM_CMD) s (s.cmdShown v) := Frame.setF s v rfl

theorem f_cmdShown (s : State) (v : Nat) {x : Fld} (h : x.addr ≠ R.TIM_CMD) : (s.cmdShown v).f x = s.f x := f_setF_ne s v h

theorem on_cmdShown (s : State) (v : Nat) {x : Fld} (h : x.addr ≠ R.TIM_CMD) : (s.cmdShown v).on x = s.on x :=
  congrArg (· != 0) (s.f_cmdShown v h)

/-- The count of the time of day in TIM_SET. -/
def setCount (s : State) : Nat := countOf ((s.reg R.TIM_SET_SL).toNat + 2 ^ 32 * s.f F.TIM_SET_SH_SEC) (s.f F.TIM_SET_NS_NS)

theorem setCount_cmdShown (s : State) (v : Nat) : (s.cmdShown v).setCount = s.setCount := by
  rw [setCount, setCount, (s.frame_cmdShown v).regs R.TIM_SET_SL rfl rfl, f_cmdShown s v (by decide), f_cmdShown s v (by decide)]

/-- The step that waits for acceptance, in units of the count: the correction of the offset in TIM_STEP_PEND. -/
def stepWaiting (s : State) : Int := -(sgn 64 (s.pair R.TIM_STEP_PEND_LO R.TIM_STEP_PEND_HI)) * 2 ^ 31

/-- The waiting step is taken off (R256). -/
def stepTaken (s : State) : State := (s.cmdShown 2).setF F.TIM_STATUS_STEPPEND 0

/-- A time of day with too many nanoseconds is not taken. -/
theorem timCmd_set_refused {s : State} (h : 999999999 < s.f F.TIM_SET_NS_NS) : s.timCmd 1 = s :=
  if_pos (by simp [h])

/-- Before frames run SET moves the count to TIM_SET where the device has no other source. -/
theorem timCmd_set_taken {s : State} (hrun : s.on F.DSP_STATUS_RUN = false) (hsrc : s.source = 0)
    (hns : s.f F.TIM_SET_NS_NS ≤ 999999999) : s.timCmd 1 = (s.jump ((s.setCount : Int) - s.clk.wall)).setF F.TIM_STATUS_TSTATE 1 := by
  have hstay : (s.jump ((s.setCount : Int) - s.clk.wall)).source = 0 :=
    ((frame_jump_stopped noReg hrun _).source (by rw [jump_stopped hrun]) rfl rfl rfl).trans hsrc
  refine (if_neg (by simp [hsrc, hns])).trans ?_
  simp only [hrun, Bool.false_eq_true, if_false]
  exact if_pos hstay

/-- ACCEPT takes the step that waits in TIM_STEP_PEND. -/
theorem timCmd_accept {s : State} (hp : s.on F.TIM_STATUS_STEPPEND = true) : (s.cmdShown 2).timCmd 2 =
    s.stepTaken.applyStep s.stepWaiting := by
  refine (if_pos (by rwa [on_cmdShown s 2 (by decide)])).trans ?_
  have hpair : (s.cmdShown 2).pair R.TIM_STEP_PEND_LO R.TIM_STEP_PEND_HI = s.pair R.TIM_STEP_PEND_LO R.TIM_STEP_PEND_HI := by
    rw [pair, pair, (s.frame_cmdShown 2).regs R.TIM_STEP_PEND_LO rfl rfl, (s.frame_cmdShown 2).regs R.TIM_STEP_PEND_HI rfl rfl]
  rw [hpair]
  rfl

/-- The registers that an acceptance writes besides those of events. -/
def acceptRegs : Nat → Bool := fun a => a == R.TIM_CMD || a == R.TIM_STATUS || a == R.TIM_STEP_FRM

/-- From `s` to `t` the waiting step has been taken. -/
structure StepAccepted (s t : State) : Prop where
  pending : t.f F.TIM_STATUS_STEPPEND = 0
  told : t.evBit 281 = true
  wall : t.clk.wall = ((s.clk.wall : Int) + s.stepWaiting).toNat
  frame : Frame acceptRegs s t

theorem stepTaken_accepted {s : State} (hrun : s.on F.DSP_STATUS_RUN = false) :
    StepAccepted s (s.stepTaken.applyStep s.stepWaiting) := by
  have hrun' : s.stepTaken.on F.DSP_STATUS_RUN = false := by
    rw [← hrun, ← s.on_cmdShown 2 (x := F.DSP_STATUS_RUN) (by decide)]
    exact congrArg (· != 0) (f_setF_ne _ 0 (by decide))
  rw [applyStep_stopped hrun']
  refine ⟨?pending, evBit_raise_tim _ rfl, ?wall, ?frame⟩
  case pending =>
    rw [f_raise _ _ rfl, noteStep, f_setF_ne _ _ (by decide), (frame_jump_stopped noReg hrun' _).f_eq rfl rfl]
    exact f_setF_self _ F.TIM_STATUS_STEPPEND 0 (by decide)
  case wall => rw [raise_clk, noteStep, setF_clk, jump_stopped hrun']; rfl
  case frame =>
    have htaken : Frame acceptRegs s s.stepTaken := ((s.frame_cmdShown 2).mono (by simp [acceptRegs])).trans (Frame.setF _ 0 rfl)
    exact ((htaken.trans (frame_jump_stopped _ hrun' _)).trans (Frame.setF _ _ rfl)).trans (Frame.raise _ _ 281)

end State

/-- Settles O37: what a domain's Holdover may do to TSTATE writes no register of the domain, neither the active domain nor the clock, and
clears no status bit (`State.TstateOnly`); before frames run a jump of the count changes the clock alone (`State.jump_stopped`). -/
theorem holdoverAndTimeSetting : Obligations.HoldoverAndTimeSetting := by
  unfold Obligations.HoldoverAndTimeSetting
  refine ⟨fun d s ha => ⟨fun h => ?idle, fun h0 h3 hact => ?held, fun h4 ht => ?expires, fun h => ?told⟩,
    fun s ha hrun => ⟨fun hsrc hns => ?set, fun hns => ?refused, fun hp => ?accept⟩⟩
  case idle => exact exec_of_effect_self (g := fun s => s.holdover d.val) rfl ha (State.holdover_idle h)
  case held =>
    refine completes_awake (g := fun s => s.holdover d.val) rfl ha ?_
    rw [State.holdover_inactive h0 h3 hact]
    have h := State.domainHeld_formTstate s d.isLt
    exact ⟨h.state, h.count, h.told, h.clk⟩
  case expires =>
    refine completes_awake (g := State.holdmax) rfl ha ?_
    rw [State.holdmax_first h4 ht]
    exact ⟨congrArg TimSt.holdTold (State.raise_tim _ 289), State.evBit_raise_tim _ rfl,
      ((Frame.setTim _ s _).trans (Frame.raise _ _ 289)).sealed⟩
  case told => exact exec_of_effect_self (g := State.holdmax) rfl ha (State.holdmax_same h)
  case set =>
    have hsrc' : (s.cmdShown 1).source = 0 := ((s.frame_cmdShown 1).source rfl rfl rfl rfl).trans hsrc
    have hrun' : (s.cmdShown 1).on F.DSP_STATUS_RUN = false := by rwa [s.on_cmdShown 1 (by decide)]
    refine completes_awake (g := fun s => (s.cmdShown 1).timCmd 1) rfl ha ?_
    rw [State.timCmd_set_taken hrun' hsrc' (by rwa [s.f_cmdShown 1 (by decide)]), s.setCount_cmdShown 1]
    refine ⟨State.wall_jump_to hrun' _, State.f_setF_self _ F.TIM_STATUS_TSTATE 1 (by decide), ?_, ?_⟩
    · rw [State.sealed_clk, State.setF_clk, State.jump_stopped hrun']
      rfl
    · exact ((((s.frame_cmdShown 1).mono (by simp)).trans (State.frame_jump_stopped _ hrun' _)).trans (Frame.setF _ 1 rfl)).sealed
  case refused =>
    refine completes_awake (g := fun s => (s.cmdShown 1).timCmd 1) rfl ha ?_
    rw [State.timCmd_set_refused (by rwa [s.f_cmdShown 1 (by decide)])]
    exact ⟨rfl, (s.frame_cmdShown 1).sealed⟩
  case accept =>
    refine completes_awake (g := fun s => (s.cmdShown 2).timCmd 2) rfl ha ?_
    rw [State.timCmd_accept hp]
    have h := State.stepTaken_accepted hrun
    refine ⟨h.pending, h.told, h.wall.trans ?_, h.frame.sealed⟩
    rw [State.stepWaiting, Int.neg_mul, ← Int.sub_eq_add_neg]

end Sys2Proof.Machine
end

section
/-! OBLIGATIONS. Time messages sent and Announce messages taken. -/

namespace Sys2Proof.Machine

/-- The first byte of a frame is its TYPE. -/
theorem WFrame.numAt_typ (w : WFrame) : numAt w.bytes 0 1 = w.typ % 256 := by
  have hbytes : ∃ r, w.bytes = BitVec.ofNat 8 w.typ :: r := ⟨_, rfl⟩
  obtain ⟨r, hr⟩ := hbytes
  simp [numAt, slice, hr, leVal]

/-- The PTP message of a frame rests on the registers that give the transport and the VLAN (R245). -/
theorem Frame.ptpOf {own : Nat → Bool} {s t : State} (h : Frame own s t) (hs : own R.TIM_SRC = false) (hc : own R.TIM_ETH_CTL = false)
    (b : List Byte) : t.ptpOf b = s.ptpOf b := by
  have htrans : t.on F.TIM_SRC_TRANSPORT = s.on F.TIM_SRC_TRANSPORT := congrArg (· != 0) (h.f_eq hs rfl)
  have hvlan : t.on F.TIM_ETH_CTL_VLAN = s.on F.TIM_ETH_CTL_VLAN := congrArg (· != 0) (h.f_eq hc rfl)
  have hvid : t.f F.TIM_ETH_CTL_VID = s.f F.TIM_ETH_CTL_VID := h.f_eq hc rfl
  unfold State.ptpOf
  rw [htrans, hvlan, hvid]

/-- What a domain measures rests on the time source and TIM_SRC (Table 11.1). -/
theorem Frame.domainOf {own : Nat → Bool} {s t : State} (h : Frame own s t) (hf : t.fuses = s.fuses) (hr : own R.SYS_ROLE = false)
    (hs : own R.TIM_SRC = false) (hp : own (R.LAN_P_STAT 0) = false) (p n : Nat) : t.domainOf p n = s.domainOf p n := by
  have hsrc : t.source = s.source := h.source hf hr hs hp
  have hb : t.on F.TIM_SRC_EN_B = s.on F.TIM_SRC_EN_B := congrArg (· != 0) (h.f_eq hs rfl)
  have hdoma : t.f F.TIM_SRC_DOMA = s.f F.TIM_SRC_DOMA := h.f_eq hs rfl
  have hdomb : t.f F.TIM_SRC_DOMB = s.f F.TIM_SRC_DOMB := h.f_eq hs rfl
  have hmeans : t.domMeans = s.domMeans := by
    funext d
    unfold State.domMeans
    dsimp only
    rw [hsrc, hb, hdoma, hdomb]
  unfold State.domainOf
  rw [hmeans]

theorem Frame.pair {own : Nat → Bool} {s t : State} (h : Frame own s t) {lo hi : Nat} (hlo : own lo = false) (hhi : own hi = false)
    (elo : evReg lo = false) (ehi : evReg hi = false) : t.pair lo hi = s.pair lo hi := by
  rw [State.pair, State.pair, h.regs lo hlo elo, h.regs hi hhi ehi]

namespace State

/-! ### Sync and Announce of a Sender -/

@[simp] theorem sendAll_tim (s : State) (ps : List Nat) (b : List Byte) : (s.sendAll ps b).tim = s.tim := by
  obtain ⟨m, hm⟩ := s.sendAll_eq ps b
  rw [hm]

theorem nodup_timePorts (s : State) : s.timePorts.Nodup := by
  have hpair : (8 : Nat) ∉ s.portsOn := fun h => absurd (mem_portsOn.1 h).1 (by decide)
  unfold timePorts
  split
  · exact List.nodup_append.2 ⟨s.nodup_portsOn, List.nodup_singleton 8, fun a ha b hb => by
      rw [List.mem_singleton.1 hb]
      rintro rfl
      exact hpair ha⟩
  · simpa using s.nodup_portsOn

/-- A TIME frame has gone out on the chain ports in use: to each that sends, at the end of its queue. -/
structure TimeSent (s t : State) : Prop where
  tim : t.tim = s.tim
  sent : ∃ x, numAt x 0 1 = 0x30 ∧ ∀ q ∈ s.portsOn, (s.port q).idle = false → (s.port q).loopIn = 0 →
    (t.port q).txq = (s.port q).txq ++ [x]
  frame : Frame noReg s t

theorem timeSent_sendAll (s : State) {w : WFrame} (hw : w.typ = 0x30) : TimeSent s (s.sendAll s.timePorts w.bytes) where
  tim := s.sendAll_tim _ _
  sent := by
    refine ⟨w.bytes, by rw [w.numAt_typ, hw], fun q hq hidle hloop => ?_⟩
    have hq9 : q < 9 := Nat.lt_succ_of_lt (mem_portsOn.1 hq).1
    exact txq_sendAll w.bytes (List.mem_append_left _ hq) s.nodup_timePorts hq9 hidle hloop
  frame := s.frame_sendAll _ _ _

/-- The sequence number of the next Sync is taken. -/
def syncNumbered (s : State) : State := { s with tim := { s.tim with syncSeq := (s.tim.syncSeq + 1) % 2 ^ 16 } }

/-- The sequence number of the next Announce is taken, with a value that the spec leaves open. -/
def announceNumbered (s : State) : State :=
  { s with tim := { s.tim with annSeq := (s.tim.annSeq + 1) % 2 ^ 16 }, free := s.free + 1 }

theorem syncSend_sent {s : State} (h : s.isSender = true) : TimeSent s.syncNumbered s.syncSend := by
  unfold syncSend
  rw [if_neg (by simp [h])]
  exact timeSent_sendAll s.syncNumbered rfl

theorem announceSend_sent {s : State} (h : s.isSender = true) : TimeSent s.announceNumbered s.announceSend := by
  unfold announceSend
  rw [if_neg (by simp [h])]
  exact timeSent_sendAll s.announceNumbered rfl

theorem syncSend_other {s : State} (h : s.isSender = false) : s.syncSend = s := if_pos (by simp [h])

theorem announceSend_other {s : State} (h : s.isSender = false) : s.announceSend = s := if_pos (by simp [h])

/-! ### The Delay_Req of a tile -/

theorem dom_setDom_self (s : State) {d : Nat} (g : Domain → Domain) (hd : d < 2) : (s.setDom d g).dom d = g (s.dom d) :=
  tabAt_tabMod_self s.tim.doms g {} hd

/-- A tile's Delay_Req for domain `p` waits among its port's blocks for a free one. -/
structure DelayReqWaits (p : Nat) (s t : State) : Prop where
  slot : s.tickU ≠ 0 → s.delaySlot p s.addr ≤ t.clk.wall
  number : (t.dom p).seq = ((s.dom p).seq + 1) % 2 ^ 16
  next : (t.dom p).reqAt = s.delaySlot p s.addr + 1
  block : ∃ w, t.lan.subs = s.lan.subs ++ [(p, w)] ∧ numAt w 0 1 = 0x30
  queues : t.tim.queues = s.tim.queues
  frame : Frame noReg s t

/-- The tile at the slot of its Delay_Req for domain `p`, with its number taken (R248). -/
def atDelaySlot (s : State) (p : Nat) : State :=
  (s.waitTo (s.delaySlot p s.addr)).setDom p fun x =>
    { x with seq := ((s.dom p).seq + 1) % 2 ^ 16, reqAt := s.delaySlot p s.addr + 1 }

theorem delayReqSend_eq {s : State} {p : Nat} (hs : s.isSender = false) (hp : p < 2) (ha : s.addr ≠ 126)
    (hd : s.f (F.TIM_DOM_STAT_DSTATE p) ≠ 0) : ∃ w : WFrame, w.typ = 0x30 ∧ s.delayReqSend p =
      { s.atDelaySlot p with lan := { (s.atDelaySlot p).lan with subs := (s.atDelaySlot p).lan.subs ++ [(p, w.bytes)] } } := by
  have hgo : ¬ (decide (1 < p) || s.addr == 126 || s.f (F.TIM_DOM_STAT_DSTATE p) == 0) = true := by
    have : ¬ 1 < p := by omega
    simp [ha, hd, this]
  unfold delayReqSend
  rw [if_neg (by simp [hs]), if_neg hgo]
  exact ⟨_, rfl, rfl⟩

theorem delayReqSend_waits {s : State} {p : Nat} (hs : s.isSender = false) (hp : p < 2) (ha : s.addr ≠ 126)
    (hd : s.f (F.TIM_DOM_STAT_DSTATE p) ≠ 0) : DelayReqWaits p s (s.delayReqSend p) := by
  obtain ⟨w, hw, heq⟩ := delayReqSend_eq hs hp ha hd
  obtain ⟨c, hwait, -⟩ := s.waitTo_eq (s.delaySlot p s.addr)
  have hdom : (s.atDelaySlot p).dom p = _ := dom_setDom_self _ _ hp
  rw [heq]
  refine ⟨fun h => le_wall_waitTo _ h, congrArg Domain.seq hdom, congrArg Domain.reqAt hdom, ⟨w.bytes, ?subs, ?typ⟩,
    ?queues, ?frame⟩
  case subs => rw [atDelaySlot, hwait]; rfl
  case typ => rw [w.numAt_typ, hw]
  case queues => rw [atDelaySlot, hwait]; rfl
  case frame => exact ((Frame.waitTo _ s _).trans (Frame.setTim _ _ _)).trans (Frame.setLan _ _ _)

/-! ### The Delay_Req of the Ethernet port -/

/-- Taking entries off a timestamp queue makes no queue longer, and writes no register. -/
theorem drainQueue_eq (s : State) {p : Nat} (hp : p < 10) : ∃ n qs,
    s.drainQueue p = { s with free := n, tim := { s.tim with queues := qs } } ∧
      (tabAt qs p []).length ≤ (tabAt s.tim.queues p []).length := by
  unfold drainQueue
  dsimp only
  split
  · exact ⟨s.free, s.tim.queues, rfl, Nat.le_refl _⟩
  · refine ⟨_, _, rfl, ?_⟩
    rw [tabAt_tabMod_self _ _ _ hp, List.length_drop]
    exact Nat.sub_le _ _

/-- A timestamp for which the queue has room is kept, and counted. -/
theorem stamp_kept {s : State} {p : Nat} (tx : Bool) (seq mt d n : Nat) (hp : p < 10)
    (hq : (tabAt s.tim.queues p []).length < 64) : ∃ t u free qs, s.stamp p tx seq mt d n = (t, true, u) ∧
      u = { s.bump (F.TIM_P_TSCNT_COUNT p) with free := free, tim := { s.tim with queues := qs } } := by
  obtain ⟨free, qs, hdrain, hlen⟩ := (s.bump (F.TIM_P_TSCNT_COUNT p)).drainQueue_eq hp
  unfold stamp
  rw [hdrain]
  dsimp only
  rw [if_pos (Nat.lt_of_le_of_lt hlen hq)]
  exact ⟨_, _, free, _, rfl, rfl⟩

/-- A PTP message of the device's own goes out in a frame of at least 60 bytes with its FCS, and is counted. -/
theorem sendPtp_eq (s : State) (m : List Byte) : ∃ f, 60 ≤ f.length ∧
    s.sendPtp m = (({ s with free := s.free + 1 } : State).bump F.TIM_ETH_TXF_COUNT).emit (.eth f (crc32 f)) := by
  refine ⟨(s.ptpFrame m).1, ?_, rfl⟩
  simp only [ptpFrame, List.length_append, List.length_replicate]
  omega

/-- The request numbered `q` of domain `d` has left with its stamp, or with none. -/
def requestOpened (s : State) (d q : Nat) (t3 : Int) (kept : Bool) : State :=
  (s.setDom d fun x => { x with seq := q }).setReq d q t3 kept

theorem requestOpened_seq (s : State) {d : Nat} (q : Nat) (t3 : Int) (kept : Bool) (hd : d < 2) :
    ((s.requestOpened d q t3 kept).dom d).seq = q := by
  rw [requestOpened, setReq, dom_setDom_self _ _ hd, dom_setDom_self _ _ hd]

/-- The request of domain `d` on the Ethernet port: a Delay_Req, or a Pdelay_Req, stamped as it leaves (R245, R250). -/
def ethRequest (s : State) (d n : Nat) : State :=
  let mt := if s.on F.TIM_SRC_DELAYM then 2 else 1
  let q := ((s.dom d).seq + 1) % 2 ^ 16
  let (t3, kept, s) := s.stamp 9 true q mt d n
  (s.requestOpened d q t3 kept).sendPtp
    (Ptp.build mt n q 0 0 0x7F s.ident 1 (Ptp.stampBytes 0 ++ List.replicate (if mt = 2 then 10 else 0) 0))

theorem domMeans_ethernet {s : State} (h : s.source = 1) : s.domMeans 0 = some (9, s.f F.TIM_SRC_DOMA) := by
  unfold domMeans
  rw [h]
  rfl

theorem domMeans_noSecond {s : State} (h : s.source = 1) (hb : s.on F.TIM_SRC_EN_B = false) : s.domMeans 1 = none := by
  unfold domMeans
  rw [h]
  exact if_neg (by simp [hb])

theorem domainOf_ethernet {s : State} (h : s.source = 1) : s.domainOf 9 (s.f F.TIM_SRC_DOMA) = some 0 := by
  simp [domainOf, List.range_succ, domMeans_ethernet h]

theorem domainOf_noSecond {s : State} (h : s.source = 1) (hb : s.on F.TIM_SRC_EN_B = false) (n : Nat) : s.domainOf 9 n ≠ some 1 := by
  intro hn
  have := List.find?_some hn
  simp [domMeans_noSecond h hb] at this

/-- The registers that count what the Ethernet port sends. -/
def ethSentRegs : Nat → Bool := fun a => a == R.TIM_P_TSCNT 9 || a == R.TIM_ETH_TXF

/-- From `s` to `t` a request has gone out on the Ethernet port. -/
structure RequestSent (d : Nat) (s t : State) : Prop where
  stamps : t.f (F.TIM_P_TSCNT_COUNT 9) = (s.f (F.TIM_P_TSCNT_COUNT 9) + 1) % 2 ^ 32
  frames : t.f F.TIM_ETH_TXF_COUNT = (s.f F.TIM_ETH_TXF_COUNT + 1) % 2 ^ 32
  number : (t.dom d).seq = ((s.dom d).seq + 1) % 2 ^ 16
  out : ∃ m, t.outs = s.outs ++ [.eth m (crc32 m)] ∧ 60 ≤ m.length
  fuses : t.fuses = s.fuses
  frame : Frame ethSentRegs s t

theorem ethRequest_eq {s : State} {d : Nat} (n : Nat) (hd : d < 2) (hq : (tabAt s.tim.queues 9 []).length < 64) :
    ∃ m tim free, 60 ≤ m.length ∧ (tabAt tim.doms d {}).seq = ((s.dom d).seq + 1) % 2 ^ 16 ∧ s.ethRequest d n =
      (({ s.bump (F.TIM_P_TSCNT_COUNT 9) with tim := tim, free := free } : State).bump F.TIM_ETH_TXF_COUNT).emit (.eth m (crc32 m)) := by
  obtain ⟨t3, u, free, qs, hstamp, hu⟩ := s.stamp_kept true (((s.dom d).seq + 1) % 2 ^ 16)
    (if s.on F.TIM_SRC_DELAYM then 2 else 1) d n (p := 9) (by decide) hq
  unfold ethRequest
  dsimp only
  rw [hstamp]
  dsimp only
  obtain ⟨m, hlen, hsend⟩ := sendPtp_eq (u.requestOpened d (((s.dom d).seq + 1) % 2 ^ 16) t3 true) _
  rw [hsend]
  exact ⟨m, _, _, hlen, u.requestOpened_seq _ t3 true hd, by rw [hu]; rfl⟩

theorem ethRequest_sent {s : State} {d : Nat} (n : Nat) (hd : d < 2) (hq : (tabAt s.tim.queues 9 []).length < 64) :
    RequestSent d s (s.ethRequest d n) := by
  obtain ⟨m, tim, free, hlen, hnumber, heq⟩ := ethRequest_eq n hd hq
  rw [heq]
  refine ⟨?stamps, ?frames, hnumber, ⟨m, rfl, hlen⟩, rfl, ?frame⟩
  case stamps =>
    rw [emit_f, bump, f_setF_ne _ _ (by decide)]
    exact f_setF_self s (F.TIM_P_TSCNT_COUNT 9) _ (by decide)
  case frames =>
    refine (f_setF_self _ F.TIM_ETH_TXF_COUNT _ (by decide)).trans ?_
    exact congrArg (fun k => (k + 1) % 2 ^ 32) (f_setF_ne s (y := F.TIM_ETH_TXF_COUNT) _ (by decide))
  case frame =>
    have hstamped : Frame ethSentRegs s (s.bump (F.TIM_P_TSCNT_COUNT 9)) := Frame.setF s _ (by decide)
    exact ((hstamped.trans (Frame.setTimFree _ _ _ _)).trans (Frame.setF _ _ (by decide))).trans (Frame.emit _ _ _)

theorem ethDelayReq_off {s : State} (h : s.ethOn = false) : s.ethDelayReq = s := if_pos (by simp [h])

/-- The request of domain `d` for the PTP domain `n`, where it is measured there. -/
def ethRequestFor (s : State) (d n : Nat) : State := if s.domainOf 9 n ≠ some d then s else s.ethRequest d n

/-- The request of domain 1, which measures DOMB where the Ethernet port is the source and DOMA under other sources (Table 11.1). -/
def ethRequestSecond (s : State) (a b : Nat) : State := if s.source = 1 then s.ethRequestFor 1 b else s.ethRequestFor 1 a

theorem ethDelayReq_on {s : State} (h : s.ethOn = true) :
    s.ethDelayReq = (s.ethRequestFor 0 (s.f F.TIM_SRC_DOMA)).ethRequestSecond (s.f F.TIM_SRC_DOMA) (s.f F.TIM_SRC_DOMB) := by
  unfold ethDelayReq
  rw [if_neg (by simp [h])]
  extract_lets one
  have hone : one = ethRequestFor := rfl
  -- The model's local function is made opaque: comparing the two sides would else unfold it at each of its uses.
  clear_value one
  subst hone
  rfl

/-- Where the Ethernet port is the source and no second domain is, the request of domain 0 is the only one. -/
theorem ethDelayReq_one {s : State} (hon : s.ethOn = true) (h : s.source = 1) (hb : s.on F.TIM_SRC_EN_B = false)
    (hq : (tabAt s.tim.queues 9 []).length < 64) : s.ethDelayReq = s.ethRequest 0 (s.f F.TIM_SRC_DOMA) := by
  have hsent := ethRequest_sent (s.f F.TIM_SRC_DOMA) (d := 0) (by decide) hq
  have hsrc : (s.ethRequest 0 (s.f F.TIM_SRC_DOMA)).source = 1 := (hsent.frame.source hsent.fuses rfl rfl rfl).trans h
  have hb' : (s.ethRequest 0 (s.f F.TIM_SRC_DOMA)).on F.TIM_SRC_EN_B = false :=
    (congrArg (· != 0) (hsent.frame.f_eq (x := F.TIM_SRC_EN_B) rfl rfl)).trans hb
  have hfirst : s.ethRequestFor 0 (s.f F.TIM_SRC_DOMA) = s.ethRequest 0 (s.f F.TIM_SRC_DOMA) :=
    if_neg (by simp [domainOf_ethernet h])
  rw [ethDelayReq_on hon, hfirst, ethRequestSecond, if_pos hsrc]
  exact if_pos (domainOf_noSecond hsrc hb' _)

/-! ### Announce messages -/

/-- From `s` to `t` domain `d`, which followed no grandmaster, has taken an Announce. -/
structure GmTaken (own : Nat → Bool) (d : Nat) (m : List Byte) (s t : State) : Prop where
  shown : t.pair (R.TIM_DOM_GMID_LO d) (R.TIM_DOM_GMID_HI d) = Ptp.gmIdentity m % 2 ^ 64
  told : s.pair (R.TIM_DOM_GMID_LO d) (R.TIM_DOM_GMID_HI d) ≠ Ptp.gmIdentity m → t.evBit 290 = true
  frame : Frame own s t

/-- The registers that show a domain's grandmaster. -/
def gmRegs (d : Nat) : Nat → Bool := fun a => a == R.TIM_DOM_GMID_LO d || a == R.TIM_DOM_GMID_HI d

theorem domainOf_lt {s : State} {p n d : Nat} (h : s.domainOf p n = some d) : d < 2 := List.mem_range.1 (List.mem_of_find?_eq_some h)

/-- A 64-bit value reads back from the register pair that was set to it. -/
theorem pair_setPair (s : State) {lo hi : Nat} (v : Nat) (h : lo ≠ hi) : (s.setPair lo hi v).pair lo hi = v % 2 ^ 64 := by
  rw [pair, setPair, reg_setReg_self, reg_setReg_ne _ _ h, reg_setReg_self, BitVec.toNat_ofNat, BitVec.toNat_ofNat]
  omega

/-- The first Announce of a domain is taken whatever it says (R245). -/
theorem takeAnnounce_taken {s : State} {d : Nat} (m : List Byte) (hd : d < 2) (hgm : (s.dom d).gm = none) :
    GmTaken (gmRegs d) d m s (s.takeAnnounce d m) := by
  have heq : s.takeAnnounce d m = ((s.setDom d fun x => { x with gm := some (Ptp.vector m, Ptp.sender m) }).setPair
      (R.TIM_DOM_GMID_LO d) (R.TIM_DOM_GMID_HI d) (Ptp.gmIdentity m)).raiseIf
      (s.pair (R.TIM_DOM_GMID_LO d) (R.TIM_DOM_GMID_HI d) != Ptp.gmIdentity m) 290 := by
    unfold takeAnnounce
    rw [hgm]
    rfl
  rw [heq]
  refine ⟨?shown, fun h => ?told, ?frame⟩
  case shown =>
    have hlo : evReg (R.TIM_DOM_GMID_LO d) = false := evReg_domain hd (by simp) (by simp)
    have hhi : evReg (R.TIM_DOM_GMID_HI d) = false := evReg_domain hd (by simp) (by simp)
    rw [(Frame.raiseIf noReg _ _ 290).pair rfl rfl hlo hhi]
    exact pair_setPair _ _ (by simp)
  case told =>
    rw [raiseIf, if_pos (by simpa using h)]
    exact evBit_raise_tim _ rfl
  case frame =>
    exact (((Frame.setTim _ s _).trans (Frame.setReg _ _ (by simp [gmRegs]))).trans (Frame.setReg _ _ (by simp [gmRegs]))).trans
      (Frame.raiseIf _ _ _ 290)

/-- A frame has been received on the Ethernet port and counted. -/
def ethCounted (s : State) : State := s.bump F.TIM_ETH_RXF_COUNT

theorem frame_ethCounted (s : State) : Frame (fun a => a == R.TIM_ETH_RXF) s s.ethCounted := Frame.setF s _ rfl

theorem ethCounted_count (s : State) : s.ethCounted.f F.TIM_ETH_RXF_COUNT = (s.f F.TIM_ETH_RXF_COUNT + 1) % 2 ^ 32 :=
  f_setF_self s F.TIM_ETH_RXF_COUNT _ (by decide)

theorem ptpOf_ethCounted (s : State) (b : List Byte) : s.ethCounted.ptpOf b = s.ptpOf b := s.frame_ethCounted.ptpOf rfl rfl b

theorem domainOf_ethCounted (s : State) (p n : Nat) : s.ethCounted.domainOf p n = s.domainOf p n :=
  s.frame_ethCounted.domainOf rfl rfl rfl rfl p n

theorem announceRx_none {s : State} {p : Nat} {m : List Byte} (h : s.domainOf p (Ptp.domain m) = none) : s.announceRx p m = s := by
  unfold announceRx
  rw [h]

theorem announceRx_some {s : State} {p d : Nat} {m : List Byte} (h : s.domainOf p (Ptp.domain m) = some d) :
    s.announceRx p m = s.takeAnnounce d m := by
  unfold announceRx
  rw [h]

theorem ptpMsg_announce {s : State} {d : Nat} {m : List Byte} (hm : Ptp.mtype m = 11) (h : s.domainOf 9 (Ptp.domain m) = some d) :
    s.ptpMsg m = s.takeAnnounce d m := by
  unfold ptpMsg
  rw [hm, h]
  rfl

/-- A frame on the Ethernet port is counted, and its message is taken where it has one. -/
theorem ptpEth_on {s : State} (b : List Byte) (h : s.ethOn = true) :
    s.ptpEth b = (s.ptpOf b).elim s.ethCounted s.ethCounted.ptpMsg := by
  refine (if_neg (by simp [h])).trans ?_
  dsimp only
  rw [show (s.bump F.TIM_ETH_RXF_COUNT).ptpOf b = s.ptpOf b from s.ptpOf_ethCounted b]
  cases s.ptpOf b <;> rfl

theorem announceIn_on {s : State} (b : List Byte) (h : s.ethOn = true) : s.announceIn 9 b =
    ((s.ptpOf b).filter fun m => Ptp.mtype m == 11).elim s.ethCounted (s.ethCounted.announceRx 9) := by
  refine (if_neg (by simp)).trans ((if_neg (by simp [h])).trans ?_)
  dsimp only
  rw [show (s.bump F.TIM_ETH_RXF_COUNT).ptpOf b = s.ptpOf b from s.ptpOf_ethCounted b]
  cases (s.ptpOf b).filter fun m => Ptp.mtype m == 11 <;> rfl

/-- What the two commands for a frame on the Ethernet port have in common: nothing without the port, else the frame is counted, and an
Announce of a domain measured there is taken. -/
structure TakesAnnounces (g : State → State) (b : List Byte) : Prop where
  off : ∀ s : State, s.ethOn = false → g s = s
  other : ∀ s : State, s.ethOn = true → s.ptpOf b = none → g s = s.ethCounted
  announce : ∀ (s : State) (m : List Byte) (d : Nat), s.ethOn = true → s.ptpOf b = some m → Ptp.mtype m = 11 →
    s.domainOf 9 (Ptp.domain m) = some d → g s = s.ethCounted.takeAnnounce d m

theorem ptpEth_takes (b : List Byte) : TakesAnnounces (fun s => s.ptpEth b) b where
  off s h := if_pos (by simp [h])
  other s h hb := (ptpEth_on b h).trans (by rw [hb]; rfl)
  announce s m d h hb hm hd := by
    refine (ptpEth_on b h).trans ?_
    rw [hb]
    exact ptpMsg_announce hm (by rwa [domainOf_ethCounted])

theorem announceIn_takes (b : List Byte) : TakesAnnounces (fun s => s.announceIn 9 b) b where
  off s h := (if_neg (by simp)).trans (if_pos (by simp [h]))
  other s h hb := (announceIn_on b h).trans (by rw [hb]; rfl)
  announce s m d h hb hm hd := by
    refine (announceIn_on b h).trans ?_
    rw [hb, Option.filter_some_pos (by simp [hm])]
    exact announceRx_some (by rwa [domainOf_ethCounted])

theorem gmid_ne_rxf {d : Nat} (hd : d < 2) : R.TIM_DOM_GMID_LO d ≠ R.TIM_ETH_RXF ∧ R.TIM_DOM_GMID_HI d ≠ R.TIM_ETH_RXF := by
  simp only [R.TIM_DOM_GMID_LO, R.TIM_DOM_GMID_HI, R.TIM_ETH_RXF]
  omega

/-- A domain's first Announce, in a frame that is counted. -/
theorem gmTaken_ethCounted {s : State} {d : Nat} (m : List Byte) (hd : d < 2) (hgm : (s.dom d).gm = none) :
    GmTaken (fun a => gmRegs d a || a == R.TIM_ETH_RXF) d m s (s.ethCounted.takeAnnounce d m) ∧
      (s.ethCounted.takeAnnounce d m).f F.TIM_ETH_RXF_COUNT = (s.f F.TIM_ETH_RXF_COUNT + 1) % 2 ^ 32 := by
  have h := takeAnnounce_taken (s := s.ethCounted) m hd hgm
  obtain ⟨hlo, hhi⟩ := gmid_ne_rxf hd
  have hpair : s.ethCounted.pair (R.TIM_DOM_GMID_LO d) (R.TIM_DOM_GMID_HI d) = s.pair (R.TIM_DOM_GMID_LO d) (R.TIM_DOM_GMID_HI d) :=
    s.frame_ethCounted.pair (beq_eq_false_iff_ne.2 hlo) (beq_eq_false_iff_ne.2 hhi)
      (evReg_domain hd (by simp) (by simp)) (evReg_domain hd (by simp) (by simp))
  have hcount : gmRegs d R.TIM_ETH_RXF = false := by simp [gmRegs, hlo.symm, hhi.symm]
  refine ⟨⟨h.shown, fun hne => h.told (by rwa [hpair]), ?_⟩, (h.frame.f_eq hcount rfl).trans s.ethCounted_count⟩
  exact (s.frame_ethCounted.mono fun a ha => by simp [ha]).trans (h.frame.mono fun a ha => by simp [ha])

end State

/-- The two commands for a frame on the Ethernet port that may carry an Announce. -/
theorem exec_ethAnnounce {c : Instr} {b : List Byte} (h : c ∈ [Instr.announceRx 9 b, .ptpEthRx b]) :
    ∃ g, State.TakesAnnounces g b ∧ ∀ s, exec c s = s.finish (s.awake g) := by
  simp only [List.mem_cons, List.not_mem_nil, or_false] at h
  obtain rfl | rfl := h
  · exact ⟨_, State.announceIn_takes b, fun _ => rfl⟩
  · exact ⟨_, State.ptpEth_takes b, fun _ => rfl⟩

/-- Settles O36: a Sender's frame is handed to its ports once its number is taken (`State.TimeSent`), a tile's waits for its slot
(`State.DelayReqWaits`), and that of the Ethernet port finds room for its timestamp (`State.RequestSent`); the first Announce of a domain
is taken whatever it says (`State.GmTaken`). -/
theorem timeMessagesAndAnnounces : Obligations.TimeMessagesAndAnnounces := by
  unfold Obligations.TimeMessagesAndAnnounces
  refine ⟨fun p s ha => ⟨fun hs => ⟨?sync, ?announce⟩, fun hs => ⟨?noSync, ?noAnnounce⟩, fun hs hp haddr hd => ?delayReq,
      fun hon => ?noEthernet, fun hon hsrc hb hq => ?ethernet⟩,
    fun p m f d s ha => ⟨fun hp hd => ?chainOther, fun hp hd hgm => ?chain, fun hon => ⟨?frameOff, ?eventOff⟩,
      fun hon hf c hc => ?noMessage, fun hon hf hm hd hgm c hc => ?message⟩⟩
  case sync =>
    have h := State.syncSend_sent hs
    exact completes_awake (g := State.syncSend) rfl ha ⟨h.tim, h.sent, ((Frame.setTim _ s _).trans h.frame).sealed⟩
  case announce =>
    have h := State.announceSend_sent hs
    exact completes_awake (g := State.announceSend) rfl ha ⟨h.tim, h.sent, ((Frame.setTimFree _ s _ _).trans h.frame).sealed⟩
  case noSync => exact exec_of_effect_self (g := State.syncSend) rfl ha (State.syncSend_other hs)
  case noAnnounce => exact exec_of_effect_self (g := State.announceSend) rfl ha (State.announceSend_other hs)
  case delayReq =>
    have h := State.delayReqSend_waits hs hp haddr hd
    exact completes_awake (g := fun s => s.delayReqSend p.val) rfl ha
      ⟨h.slot, h.number, h.next, h.block, h.queues, h.frame.sealed⟩
  case noEthernet => exact exec_of_effect_self (g := State.ethDelayReq) rfl ha (State.ethDelayReq_off hon)
  case ethernet =>
    have h := State.ethRequest_sent (s.f F.TIM_SRC_DOMA) (d := 0) (by decide) hq
    refine completes_awake (g := State.ethDelayReq) rfl ha ?_
    rw [State.ethDelayReq_one hon hsrc hb hq]
    exact ⟨h.stamps, h.frames, h.number, h.out, h.frame.sealed⟩
  case chainOther => exact exec_of_effect_self (g := fun s => s.announceIn p.val m) rfl ha ((if_pos hp).trans (State.announceRx_none hd))
  case chain =>
    refine completes_awake (g := fun s => s.announceIn p.val m) rfl ha ?_
    rw [State.announceIn, if_pos hp, State.announceRx_some hd]
    have h := State.takeAnnounce_taken m (State.domainOf_lt hd) hgm
    exact ⟨h.shown, h.told, h.frame.sealed⟩
  case frameOff => exact exec_of_effect_self (g := fun s => s.announceIn 9 f) rfl ha ((State.announceIn_takes f).off s hon)
  case eventOff => exact exec_of_effect_self (g := fun s => s.ptpEth f) rfl ha ((State.ptpEth_takes f).off s hon)
  case noMessage =>
    obtain ⟨g, hg, hexec⟩ := exec_ethAnnounce hc
    refine completes_awake (hexec s) ha ?_
    rw [hg.other s hon hf]
    exact ⟨s.ethCounted_count, s.frame_ethCounted.sealed⟩
  case message =>
    obtain ⟨g, hg, hexec⟩ := exec_ethAnnounce hc
    refine completes_awake (hexec s) ha ?_
    rw [hg.announce s m d hon hf hm hd]
    obtain ⟨h, hcount⟩ := State.gmTaken_ethCounted m (State.domainOf_lt hd) hgm
    exact ⟨h.shown, h.told, hcount, h.frame.sealed⟩

end Sys2Proof.Machine
end

section
/-! OBLIGATIONS. A step and the command at the front of its queue; the reset state; Standby, in which only the always-on island is served
(R390). -/

namespace Sys2Proof.Machine

/-! ### Steps -/

theorem step_front {c : Instr} {rest : List Instr} {s : State} (h : s.pending = c :: rest) :
    step s = exec c { s with pending := rest } := by
  simp only [step, h]

/-- Settles O1. -/
theorem stepRunsTheFrontCommand : Obligations.StepRunsTheFrontCommand := by
  unfold Obligations.StepRunsTheFrontCommand
  exact fun _ _ _ h => step_front h

/-- Settles O3: every meaning ends in `State.finish`, which gives back the queue and the fuses. -/
theorem everyCommandCompletes : Obligations.EveryCommandCompletes := by
  unfold Obligations.EveryCommandCompletes
  intro c s
  obtain ⟨t, ht⟩ := exec_finishes c s
  exact ⟨s.sealed t, ht, rfl, rfl⟩

/-! ### The state after reset -/

theorem identity_reset : Identity State.reset.fuses State.reset where
  fuses := rfl
  id := by rw [State.value_sysId]; decide +kernel
  caps := by rw [State.value_sysCaps]; decide +kernel
  unitId i hi := by rw [State.value_unitId _ hi]; interval_cases i <;> decide +kernel

/-- Settles O5: the registers of the identity are given by the fuses, and the stores of the reset state are written out. -/
theorem resetIdentity : Obligations.ResetIdentity := by
  unfold Obligations.ResetIdentity
  exact ⟨identity_reset, rfl, by decide +kernel⟩

/-! ### Standby -/

/-- Every command that the always-on supply does not serve passes through the gate of Standby. -/
theorem exec_awake_of_not_alwaysOn {c : Instr} (h : alwaysOn c = false) :
    ∃ g : State → State, ∀ s, exec c s = s.finish (s.awake g) := by
  cases c
  case powerOn | railFail | brownout | rstNAssert | resetRelease | wake | wakeFail | wakeToneCease
    | boundaryScanInstruction => cases h
  all_goals exact ⟨_, fun _ => rfl⟩

/-- In Standby a command that the always-on supply does not serve changes nothing. -/
theorem exec_standby {c : Instr} {s : State} (ha : s.asleep = true) (hc : alwaysOn c = false) : exec c s = .next s :=
  let ⟨_, hg⟩ := exec_awake_of_not_alwaysOn hc
  exec_asleep (hg s) ha

theorem Standby.refl {s : State} (ha : s.asleep = true) (hq : s.pending = []) : Standby s s :=
  ⟨ha, by simp [hq], rfl⟩

/-- A step in Standby that serves no command of the always-on supply takes its command from the queue or lets a tick pass. -/
theorem Standby.step_eq {d s t : State} (h : Standby d s) (hs : step s = .next t) :
    t = { s with pending := s.pending.tail } ∨ t = s.ticks 1 := by
  cases hq : s.pending with
  | nil => exact .inr (Host.Outcome.next.inj (hs.symm.trans (step_empty hq)))
  | cons c rest =>
    have hc : alwaysOn c = false := h.waits c (by simp [hq])
    have ha : State.asleep { s with pending := rest } = true := h.asleep
    exact .inl (Host.Outcome.next.inj (hs.symm.trans ((step_front hq).trans (exec_standby ha hc))))

/-- Settles O6: such a step changes the queue or the clock, and `Standby` leaves both open. -/
theorem everyStepKeepsStandby : Obligations.EveryStepKeepsStandby := by
  unfold Obligations.EveryStepKeepsStandby
  intro d s t h hs
  have hcut : ∀ c ∈ s.pending.tail, alwaysOn c = false := fun c hc => h.waits c (List.mem_of_mem_tail hc)
  rcases h.step_eq hs with rfl | rfl
  · exact ⟨h.asleep, hcut, h.same⟩
  · exact ⟨h.asleep, h.waits, h.same⟩

/-- Settles O7. -/
theorem standbyServesOnlyTheIsland : Obligations.StandbyServesOnlyTheIsland := by
  unfold Obligations.StandbyServesOnlyTheIsland
  refine ⟨fun s hq => ⟨Standby.refl ?_ hq, by decide +kernel⟩, fun c s ha hc => exec_standby ha hc⟩
  have hstate : (s.setF F.RPS_PWR_STAT_STATE 2).f F.RPS_PWR_STAT_STATE = 2 := State.f_setF_self s _ 2 (by decide)
  simp [State.asleep, hstate]

end Sys2Proof.Machine
end

section
/-! OBLIGATIONS. Statements about stores that fail: they range over states whose memories are in no canonical form (`Mem.wf`) too. A
memory with two entries for one address reads the first; the write of a 0 takes that entry off, and a read then finds the second. -/

namespace Sys2Proof.Machine

/-- What a command leaves, as seen through `g`. -/
def seenAfter {α : Type} (g : State → α) (c : Instr) (s : State) : Option α := match exec c s with
  | .next t => some (g t)
  | _ => none

theorem seenAfter_next {α : Type} {g : State → α} {c : Instr} {s t : State} {v : α} (h : exec c s = .next t) (hv : g t = v) :
    seenAfter g c s = some v := by
  rw [seenAfter, h, ← hv]

/-- A device in use, of a role, with some fields set. -/
def inUse (role : Nat) (fs : List (Fld × Nat)) : State :=
  fs.foldl (fun s x => s.setF x.1 x.2)
    ((({ State.reset with rps := { held := false, owed := [] } } : State).setF F.SYS_ROLE_ROLE role).setF F.RPS_BOOT_STAGE 5)

/-! ### The frame memory -/

/-- A Sender with a trained channel 0, whose frame memory holds two entries for address 0. -/
def doubledFrameMemory : State :=
  { inUse 1 [(F.SYS_UNITEN_CHAIN, 15), (F.FMC_CFG_MASK, 1), (F.FMC_CH_STAT_STATE 0, 2), (F.FMC_SIZE_MB, 1)] with
    dram := [(0, 5), (0, 7)] }

/-- Refutes O43: 64 zero bytes written to address 0 leave the byte 7 there. -/
theorem not_frameMemoryAccesses : ¬ Obligations.FrameMemoryAccesses := by
  unfold Obligations.FrameMemoryAccesses
  intro h
  obtain ⟨hin, -⟩ := h 0 0 ⟨0, some 0, none⟩ .ok ⟨⟨0, none, none⟩, 0⟩ [] doubledFrameMemory (by decide +kernel) (by decide +kernel)
  obtain ⟨hwrite, -⟩ := hin (by decide +kernel) (by decide +kernel) (by decide +kernel) (by decide +kernel) (by decide +kernel)
  obtain ⟨t, hnext, -, hread, -⟩ := hwrite 0 rfl
  exact absurd (seenAfter_next (g := fun t => Mem.read t.dram 0 64) hnext hread) (by decide +kernel)

/-- A Sender whose paging ring has a COPY of one byte to address 0 in progress, where the frame memory holds two entries. -/
def doubledPage : State :=
  { inUse 1 [(F.SYS_UNITEN_CHAIN, 15), (F.SYS_UNITEN_OPT, 1), (F.FMC_SIZE_MB, 1)] with
    dram := [(0, 5), (0, 7)], hst := { rings := tabMod (.replicate 9 {}) 8 fun _ => { busy := true, desc := padTo 32 [1, 0, 0, 0, 1] } } }

/-- Refutes O47: the zero byte copied to address 0 leaves the byte 7 there. -/
theorem not_buffersAndPaging : ¬ Obligations.BuffersAndPaging := by
  unfold Obligations.BuffersAndPaging
  rintro ⟨-, h⟩
  obtain ⟨t, hnext, hread, -⟩ := h [0] (padTo 32 [1, 0, 0, 0, 1]) doubledPage (by decide +kernel) (by decide +kernel) (by decide +kernel)
    (by decide +kernel) (by decide +kernel) (by decide +kernel) (.pagingCopy [0]) 0 [0] (by decide +kernel) (by decide +kernel)
  exact absurd (seenAfter_next (g := fun t => Mem.read t.dram 0 1) hnext hread) (by decide +kernel)

/-! ### The update buffer and the MRAM -/

/-- A WRITE of a zero byte to offset 0 of the update buffer. -/
def writeZero : Msg := { path := 0, words := [0x201, 0, 0], ref := 0 }

/-- A session of core 2 with that message in the Guard core's queue and two entries for offset 0 in the update buffer. -/
def doubledUpdate : State :=
  { inUse 1 [(F.MGT_SESS_HELD, 1), (F.MGT_SESS_STATE, 1), (F.MGT_SESS_TARGET, 2)] with
    ubuf := [(0, 5), (0, 7)], mgt := { queues := tabMod (.replicate 4 []) 3 fun _ => [writeZero], total := 4 } }

/-- Refutes O54: the zero bytes written to offset 0 of the update buffer leave the byte 7 there. -/
theorem not_updateSessions : ¬ Obligations.UpdateSessions := by
  unfold Obligations.UpdateSessions
  intro h
  obtain ⟨-, -, hwrite, -⟩ := h writeZero [] doubledUpdate ⟨by decide +kernel, by decide +kernel, by decide +kernel, by decide +kernel⟩
    (by decide +kernel)
  obtain ⟨t, hnext, -, -, hread, -⟩ := hwrite (by decide +kernel) (by decide +kernel) (by decide +kernel) (by decide +kernel)
    (by decide +kernel) (by decide +kernel) (by decide +kernel) (by decide +kernel)
  exact absurd (seenAfter_next (g := fun t => Mem.read t.ubuf 0 4) hnext hread) (by decide +kernel)

/-- An ACTIVATE that accepts a cold start. -/
def activateCold : Msg := { path := 0, words := [0x401, 1], ref := 0 }

/-- A verified session of core 2 with that message in the Guard core's queue, and two entries in the MRAM for the first byte of the
check word of the core's slot. -/
def doubledCheckWord : State :=
  { inUse 1 [(F.MGT_SESS_HELD, 1), (F.MGT_SESS_STATE, 2), (F.MGT_SESS_TARGET, 2), (F.THM_STATUS_MCOMP, 1)] with
    mram := [(State.fwBase 2 + 0x7FFF8, 5), (State.fwBase 2 + 0x7FFF8, 7)]
    mgt := { queues := tabMod (.replicate 4 []) 3 fun _ => [activateCold] } }

/-- Refutes O55: the zero bytes that clear the check word leave the byte 7 in it. -/
theorem not_updateOutcomesAndActivations : ¬ Obligations.UpdateOutcomesAndActivations := by
  unfold Obligations.UpdateOutcomesAndActivations
  rintro ⟨h, -⟩
  obtain ⟨-, -, hactivate, -⟩ := h activateCold [] 2 doubledCheckWord
    ⟨by decide +kernel, by decide +kernel, by decide +kernel, by decide +kernel⟩
    (by decide +kernel) (by decide +kernel) (by decide +kernel) (by decide +kernel) (by decide +kernel)
  obtain ⟨t, hnext, -, -, -, -, -, hread⟩ := hactivate (by decide +kernel) (by decide +kernel) (by decide +kernel) (by decide +kernel)
    (by decide +kernel) (by decide +kernel) (by decide +kernel) (by decide +kernel) (by decide +kernel)
  exact absurd (seenAfter_next (g := fun t => Mem.read t.mram (State.fwBase 2 + 0x7FFF8) 8) hnext hread) (by decide +kernel)

/-- Two entries for offset 0 of the staging buffer. -/
def doubledStaging : State := { State.reset with ubuf := [(0, 5), (0, 7)] }

/-- Refutes O59: the zero word written to NVS_WIN_DATA leaves the byte 7 at the offset. -/
theorem not_records : ¬ Obligations.Records := by
  unfold Obligations.Records
  rintro ⟨-, -, h⟩
  obtain ⟨-, hwrite, -⟩ := h .host 0 doubledStaging (by decide +kernel)
  obtain ⟨t, hnext, hread, -⟩ := hwrite (by decide +kernel)
  exact absurd (seenAfter_next (g := fun t => Mem.read t.ubuf 0 4) hnext hread) (by decide +kernel)

end Sys2Proof.Machine
end

section
/-! OBLIGATIONS. A kept reset of the chain completes the writes that the frame memory has accepted (R298). -/

namespace Sys2Proof.Machine

/-- A tile that is to enter the reset of the chain while channel 0 holds an accepted write of the byte 1 to address 0. -/
def chainResetWithWrite : State :=
  { inUse 2 [(F.FMC_CFG_MASK, 1), (F.FMC_CH_STAT_STATE 0, 2), (F.FMC_SIZE_MB, 1)] with
    rps := { held := false, owed := [], chainReset := true }
    fmc := { sched := [{ queue := [⟨⟨0, some 1, none⟩, 0⟩] }] } }

/-- Refutes O15: the statement has the frame memory as it was, and the accepted write changes it as the reset begins. -/
theorem not_sourcesEnterReset : ¬ Obligations.SourcesEnterReset := by
  unfold Obligations.SourcesEnterReset
  intro h
  obtain ⟨-, -, -, -, -, hchain⟩ := h chainResetWithWrite (by decide +kernel)
  obtain ⟨t, hnext, -, -, hdram, -⟩ := hchain (by decide +kernel) (by decide +kernel)
  exact absurd (seenAfter_next (g := fun t => t.dram) hnext hdram) (by decide +kernel)

end Sys2Proof.Machine
end

section
/-! OBLIGATIONS. A woken tile ends its relay while a port block is being sent (R173, R389). -/

namespace Sys2Proof.Machine

/-- A dozing tile that relays in single-lane mode on port 1, where a port block has been sent in part. -/
def relayInBlock : State :=
  (({ inUse 2 [(F.RPS_PWR_STAT_STATE, 1)] with rps := { held := false, owed := [], relay := true } } : State).lanP 1 fun l =>
    { l with idle := false, single := true, cur := [0, 0], sent := [(0, 0)] })

/-- Refutes O56: the statement has port 1 out of single-lane mode as the relay ends, and the model first finishes the block that has been
sent in part. -/
theorem not_powerStatesAndWakes : ¬ Obligations.PowerStatesAndWakes := by
  unfold Obligations.PowerStatesAndWakes
  rintro ⟨h, -⟩
  obtain ⟨-, -, -, -, -, hend⟩ := h 1 .dozeReq relayInBlock (by decide +kernel) (by decide)
  obtain ⟨t, hnext, -, -, hsingle, -⟩ := hend (by decide +kernel) (by decide +kernel)
  exact absurd (seenAfter_next (g := fun t => (t.port 1).single) hnext hsingle) (by decide +kernel)

end Sys2Proof.Machine
end

section
/-! SUPPORT. What a reset that merges with none leaves (R372, R374, R377): the parts of `State.takeReset`, with a rule for each. -/

namespace Sys2Proof.Machine

/-! ### What only puts something out -/

/-- From `s` to `t` nothing changed but that more has been put out. -/
def Emits (s t : State) : Prop := ∃ l, t = { s with outs := s.outs ++ l }

namespace Emits

variable {s t u : State}

theorem refl (s : State) : Emits s s := ⟨[], by simp⟩

theorem emit (s : State) (o : Out) : Emits s (s.emit o) := ⟨[o], rfl⟩

theorem trans (h : Emits s t) (k : Emits t u) : Emits s u := by
  obtain ⟨l, rfl⟩ := h
  obtain ⟨m, rfl⟩ := k
  exact ⟨l ++ m, by simp⟩

theorem foldl {α : Type} {g : State → α → State} (h : ∀ s x, Emits s (g s x)) (l : List α) (s : State) : Emits s (l.foldl g s) :=
  List.foldlRecOn l g (motive := Emits s) (refl s) fun _ hu x _ => hu.trans (h _ x)

theorem mem (h : Emits s t) {o : Out} (ho : o ∈ s.outs) : o ∈ t.outs := by
  obtain ⟨l, rfl⟩ := h
  exact List.mem_append_left l ho

end Emits

namespace State

/-- The safe state of the outputs (R385) begins with the drive pins. -/
theorem safeOutputs_emits (s : State) : Emits (s.emit (.drivePinsLow true)) s.safeOutputs := by
  unfold safeOutputs
  refine ((Emits.emit _ _).trans (Emits.foldl (fun s p => ?_) _ _)).trans (Emits.foldl (fun s t => ?_) _ _)
  · split
    · exact Emits.refl s
    · exact Emits.emit s _
  · split
    · exact Emits.emit s _
    · exact Emits.refl s

/-- From `s` to `t` what lies outside the frame memory and its registers stays. -/
structure BesideDram (s t : State) : Prop where
  mram : t.mram = s.mram
  outs : t.outs = s.outs
  lan : t.lan = s.lan
  rps : t.rps = s.rps

theorem BesideDram.refl (s : State) : BesideDram s s := ⟨rfl, rfl, rfl, rfl⟩

theorem BesideDram.trans {s t u : State} (h : BesideDram s t) (k : BesideDram t u) : BesideDram s u :=
  ⟨k.mram.trans h.mram, k.outs.trans h.outs, k.lan.trans h.lan, k.rps.trans h.rps⟩

-- Stated for any contents: a comparison of what is written with what was there would be evaluated.
theorem BesideDram.withDram (s : State) (d : List Host.Cell) : BesideDram s { s with dram := d } := ⟨rfl, rfl, rfl, rfl⟩

theorem BesideDram.dramPut (s : State) (a : Nat) (bs : List Byte) : BesideDram s (s.dramPut a bs) := .withDram s _

/-- The accepted writes change the frame memory alone (R298). -/
theorem besideDram_flushQueues (s : State) : BesideDram s s.flushQueues := by
  unfold flushQueues
  extract_lets t
  suffices h : BesideDram s t from ⟨h.mram, h.outs, h.lan, h.rps⟩
  refine List.foldlRecOn _ _ (motive := BesideDram s) (.refl s) fun u hu w _ => ?_
  split
  · exact hu.trans (.dramPut u _ _)
  · exact hu

/-! ### The registers that every system reset clears -/

/-- A register of a block that every system reset clears, but TIM_STATUS, which wall time keeps in part (R373). -/
def clearedReg (a : Nat) : Bool := (resetBlocks.any fun b => inBlk b a) && a != R.TIM_STATUS

theorem clearedReg_of {b : Blk} {a : Nat} (hb : b ∈ resetBlocks) (ha : inBlk b a = true) (ht : a ≠ R.TIM_STATUS) :
    clearedReg a = true := by
  simp only [clearedReg, Bool.and_eq_true, List.any_eq_true, bne_iff_ne]
  exact ⟨⟨b, hb, ha⟩, ht⟩

theorem inBlk_iff {b : Blk} {a : Nat} : inBlk b a = true ↔ b.base ≤ a ∧ a < b.base + b.extent := decide_eq_true_iff

/-- The blocks that a system reset clears lie apart from those of what it keeps. -/
theorem clearedReg_range {a : Nat} (h : clearedReg a = true) : 0x100000 ≤ a ∧ ¬ (0x2C0000 ≤ a ∧ a < 0x2C0400) ∧ a < 0x3F0000 := by
  obtain ⟨hblk, -⟩ := Bool.and_eq_true_iff.1 h
  simp only [resetBlocks, List.any_cons, List.any_nil, inBlk_iff, Blk.base, Blk.extent, Bool.or_eq_true, Bool.false_eq_true, or_false] at hblk
  omega

/-- Where the registers lie that a reset may keep (Table 17.1). -/
theorem keptReg_range {power aon kept : Bool} {a : Nat} (h : keptReg power aon kept a = true) :
    a < 0x100000 ∨ (0x2C0000 ≤ a ∧ a < 0x2C0400) ∨ 0x3F0000 ≤ a := by
  unfold keptReg at h
  split at h
  · cases h
  split at h
  all_goals
    simp only [List.contains_cons, List.contains_nil, Bool.or_eq_true, Bool.and_eq_true, decide_eq_true_eq, beq_iff_eq,
      Bool.false_eq_true, or_false] at h
    simp only [Blk.base, Blk.extent, R.THM_Z, R.THM_B_ID, R.THM_STATUS, R.THM_FAIL, R.THM_HOT, R.RPS_WAKE, R.RPS_WAKE_STAT, R.RPS_AON,
      R.RPS_CAUSE, R.RPS_LAST, R.RPS_GLITCH, R.RPS_DEFER, R.RPS_MERGE, R.THM_MASK, R.THM_MREF, R.FMC_CTL, R.FMC_SCHED, R.FMC_SCRUB,
      R.FAB_AGE] at h
    omega

theorem keptReg_of_cleared {power aon kept : Bool} {a : Nat} (h : clearedReg a = true) : keptReg power aon kept a = false := by
  have hc := clearedReg_range h
  by_contra hk
  have := keptReg_range (Bool.of_not_eq_false hk)
  omega

/-- From `s` to `t` the cleared registers, the commits, the MRAM, what has been put out and the resets that wait stay. -/
structure ClearedAlike (s t : State) : Prop where
  regs : ∀ a, clearedReg a = true → t.reg a = s.reg a
  cmt : t.cmt = s.cmt
  mram : t.mram = s.mram
  outs : t.outs = s.outs
  deferred : t.rps.deferred = s.rps.deferred

namespace ClearedAlike

variable {s t u : State}

theorem refl (s : State) : ClearedAlike s s := ⟨fun _ _ => rfl, rfl, rfl, rfl, rfl⟩

theorem trans (h : ClearedAlike s t) (k : ClearedAlike t u) : ClearedAlike s u :=
  ⟨fun a ha => (k.regs a ha).trans (h.regs a ha), k.cmt.trans h.cmt, k.mram.trans h.mram, k.outs.trans h.outs,
    k.deferred.trans h.deferred⟩

theorem setReg (s : State) {a : Nat} (v : Word) (h : clearedReg a = false) : ClearedAlike s (s.setReg a v) :=
  ⟨fun b hb => reg_setReg_ne s v (by rintro rfl; simp [h] at hb), rfl, rfl, rfl, rfl⟩

theorem setF (s : State) {x : Fld} (v : Nat) (h : clearedReg x.addr = false) : ClearedAlike s (s.setF x v) :=
  ⟨fun b hb => reg_setF_ne s v (by rintro rfl; simp [h] at hb), rfl, rfl, rfl, rfl⟩

theorem withStage (s : State) (r : RegFile) : ClearedAlike s { s with stage := r } := ⟨fun _ _ => rfl, rfl, rfl, rfl, rfl⟩

theorem setBoth (s : State) {x : Fld} (v : Nat) (h : clearedReg x.addr = false) : ClearedAlike s (s.setBoth x v) :=
  (setF s v h).trans (withStage _ _)

theorem setRps (s : State) {g : RpsSt → RpsSt} (h : (g s.rps).deferred = s.rps.deferred) : ClearedAlike s (s.setRps g) :=
  ⟨fun _ _ => rfl, rfl, rfl, rfl, h⟩

theorem ite {c : Prop} [Decidable c] (h : ClearedAlike s t) (k : ClearedAlike s u) : ClearedAlike s (if c then t else u) := by
  split
  · exact h
  · exact k

theorem foldl {α : Type} {g : State → α → State} {l : List α} (h : ∀ x ∈ l, ∀ s, ClearedAlike s (g s x)) (s : State) :
    ClearedAlike s (l.foldl g s) :=
  List.foldlRecOn l g (motive := ClearedAlike s) (refl s) fun u hu x hx => hu.trans (h x hx u)

end ClearedAlike

theorem clearedReg_below {a : Nat} (h : a < 0x100000) : clearedReg a = false := by
  by_contra hc
  have := clearedReg_range (Bool.of_not_eq_false hc)
  omega

/-- What MRAM gives back after a reset lies in other blocks. -/
theorem clearedAlike_fromMram (s : State) (age : Bool) : ClearedAlike s (s.fromMram age) := by
  unfold fromMram
  extract_lets s1 s2 s3 s4
  have h1 : ClearedAlike s s1 := .setReg s _ rfl
  have h2 : ClearedAlike s1 s2 := .ite (.setF s1 _ rfl) (.refl s1)
  have h3 : ClearedAlike s2 s3 := by
    refine .foldl (fun c hc u => .setF u _ (clearedReg_below ?_)) s2
    have := List.mem_range.1 hc
    simp only [R.MGT_CORE_SVN]
    omega
  have h4 : ClearedAlike s3 s4 := by
    simp only [s4]
    split
    · exact (ClearedAlike.setF s3 _ rfl).trans (.setF _ _ rfl)
    · exact .refl s3
  exact (((h1.trans h2).trans h3).trans h4).trans (.setBoth s4 _ rfl)

/-- A system reset or a power-on reset has cleared the device. -/
structure Cleared (s t : State) : Prop where
  regs : ∀ a, clearedReg a = true → (a = R.LAN_CAL_STAT → s.lan.cal = none) → t.reg a = resetWord a
  pend : t.cmt.pend = []
  mram : t.mram = s.mram
  drives : .drivePinsLow true ∈ t.outs
  deferred : t.rps.deferred = s.rps.deferred

theorem Cleared.alike {s t u : State} (h : Cleared s t) (k : ClearedAlike t u) : Cleared s u :=
  ⟨fun a ha hc => (k.regs a ha).trans (h.regs a ha hc), (congrArg CmtSt.pend k.cmt).trans h.pend, k.mram.trans h.mram,
    k.outs ▸ h.drives, k.deferred.trans h.deferred⟩

theorem Cleared.ite {s t u : State} {c : Prop} [Decidable c] (h : Cleared s t) (k : Cleared s u) : Cleared s (if c then t else u) := by
  split
  · exact h
  · exact k

/-- A calibration that the reset ended is told of in LAN_CAL_STAT (R186). -/
theorem Cleared.calTold {s t u : State} {p : Nat} (h : Cleared s t) (hcal : s.lan.cal ≠ none)
    (hu : u = (t.setF F.LAN_CAL_STAT_CODE 7).setF F.LAN_CAL_STAT_PORT p) : Cleared s u := by
  subst hu
  refine ⟨fun a ha hc => ?_, h.pend, h.mram, h.drives, h.deferred⟩
  have hne : a ≠ R.LAN_CAL_STAT := fun he => hcal (hc he)
  rw [reg_setF_ne _ _ hne, reg_setF_ne _ _ hne, h.regs a ha hc]

theorem cleared_clearAll (s : State) (power aon kept merged : Bool) : Cleared s (s.clearAll power aon kept merged) := by
  unfold clearAll
  extract_lets s1 lost tag timed held admitted calPorts loading restarts layout seen die thm thm' rps s2 s3 s4 s5 s6 s7 s8 s9 s10 s11
  have hsafe := s.safeOutputs_emits
  have h1 : BesideDram s.safeOutputs s1 := by
    simp only [s1]
    split
    · exact besideDram_flushQueues _
    · exact .refl _
  have hlan : s1.lan = s.lan := by
    obtain ⟨l, hl⟩ := hsafe
    rw [h1.lan, hl]
    rfl
  have hmram : s1.mram = s.mram := by
    obtain ⟨l, hl⟩ := hsafe
    rw [h1.mram, hl]
    rfl
  have hrps : s1.rps = s.rps := by
    obtain ⟨l, hl⟩ := hsafe
    rw [h1.rps, hl]
    rfl
  have hcal : ∀ p, calPorts = some p → s.lan.cal ≠ none := fun p hp hn => by simp [calPorts, hlan, hn] at hp
  clear_value calPorts
  have h2 : Cleared s s2 := by
    refine ⟨fun a ha _ => RegFile.get_of_not_mem fun q hq he => ?_, rfl, hmram, ?_, (congrArg RpsSt.deferred hrps :)⟩
    · rw [List.mem_filter] at hq
      have := keptReg_of_cleared (power := power) (aon := aon) (kept := kept) ha
      simp [← he, hq.2] at this
    · show _ ∈ s1.outs
      rw [h1.outs]
      exact hsafe.mem (by simp [emit])
  have h4 : Cleared s s4 := (h2.alike (.ite (.setF s2 _ rfl) (.refl s2))).alike (.ite (.setRps s3 rfl) (.refl s3))
  have h5 : Cleared s s5 := by
    simp only [s5]
    cases hp : calPorts with
    | none => exact h4
    | some p =>
      refine h4.ite ((h4.calTold (hcal p hp) rfl).alike (.setRps _ rfl))
  have h6 : ClearedAlike s5 s6 := ((ClearedAlike.setF s5 _ rfl).trans (.setF _ _ rfl)).trans (.setF _ _ rfl)
  have h7 : ClearedAlike s6 s7 := (clearedAlike_fromMram s6 power).trans (.setF _ _ rfl)
  have h8 : ClearedAlike s7 s8 := .setF s7 _ rfl
  have h9 : ClearedAlike s8 s9 := .ite (.setRps s8 rfl) (.refl s8)
  have h10 : ClearedAlike s9 s10 := .ite ((ClearedAlike.setF s9 _ rfl).trans (.setF _ _ rfl)) (.refl s9)
  have h11 : ClearedAlike s10 s11 := .ite ((ClearedAlike.setF s10 _ rfl).trans (.setRps _ rfl)) (.refl s10)
  have hlast : ClearedAlike s11 (if kept = true then s11.setF F.FMC_STATUS_KEPT 1 else s11) := .ite (.setF s11 _ rfl) (.refl s11)
  exact h5.alike ((((((h6.trans h7).trans h8).trans h9).trans h10).trans h11).trans hlast)

end State

end Sys2Proof.Machine
end

section
/-! OBLIGATIONS. Resets of cores and of the system (R372 to R379). -/

namespace Sys2Proof.Machine

namespace State

/-! ### A reset of a steady device -/

/-- A device that is steady is in no reset, and in no step of bring-up that a reset could merge into. -/
theorem steady_parts {s : State} (h : s.steady = true) :
    s.asleep = false ∧ s.rps.held = false ∧ s.rps.cores = 0 ∧ 5 ≤ s.stage' := by
  simpa [steady, and_assoc] using h

/-- The cores of a mask are reset (R352). -/
def coresLost (s : State) (cores : Nat) : State :=
  (List.range 4).foldl (fun s c => if cores.testBit c then s.coreLost c else s) s.loseHeavy

/-- What a system reset or a power-on reset leaves before it is noted. -/
def resetBegun (s : State) (r : ResetReq) (kept : Bool) : State :=
  let s := (s.clearAll (r.level == 3) r.aon kept false).setRps fun x => { x with held := true, cores := 0, latch := x.latch && !r.aon }
  if r.level = 3 then (s.setF F.RPS_AON_PGCORE 0).emit (.pwrEn false) else s

/-- The note of a reset that merged with none. -/
def resetNoted (s : State) (level source cores : Nat) (kept : Bool) (owed : List Nat → List Nat) : State :=
  let s := s.noteReset level source cores kept false
  s.setRps fun x => { x with began := s.clk.now, level := level, kept := kept, owed := owed x.owed }

/-- A core reset of a steady device. -/
theorem takeReset_cores {s : State} {r : ResetReq} (h : s.steady = true) (hr : r.level = 1) :
    s.takeReset r = ((s.coresLost r.cores).setRps fun x => { x with cores := x.cores ||| r.cores }).resetNoted 1 r.source r.cores false
      fun owed => owed ++ [2] := by
  obtain ⟨-, hheld, hcores, hstage⟩ := steady_parts h
  have hearly : ¬ s.stage' ≤ 2 := by omega
  simp [takeReset, hheld, hcores, hearly, hr, coresLost, resetNoted]

/-- A system reset of a steady device. -/
theorem takeReset_system {s : State} {r : ResetReq} (h : s.steady = true) (hr : r.level = 2) :
    s.takeReset r = (s.resetBegun r (s.keeps r)).resetNoted 2 r.source 0 (s.keeps r)
      fun owed => owed.filter (fun e => decide (2 < e)) ++ [1] := by
  obtain ⟨-, hheld, hcores, hstage⟩ := steady_parts h
  have hearly : ¬ s.stage' ≤ 2 := by omega
  have hload : ¬ s.stage' ≤ 4 := by omega
  simp [takeReset, hheld, hcores, hearly, hload, hr, resetBegun, resetNoted]

/-! ### The note of a reset -/

/-- From `s` to `t` only registers changed. -/
def OnlyRegs (s t : State) : Prop := ∃ g, t = { s with regs := g }

theorem OnlyRegs.refl (s : State) : OnlyRegs s s := ⟨s.regs, rfl⟩

theorem OnlyRegs.setF (s : State) (x : Fld) (v : Nat) : OnlyRegs s (s.setF x v) := ⟨_, rfl⟩

theorem OnlyRegs.trans {s t u : State} (h : OnlyRegs s t) (k : OnlyRegs t u) : OnlyRegs s u := by
  obtain ⟨g, rfl⟩ := h
  obtain ⟨g', rfl⟩ := k
  exact ⟨g', rfl⟩

section resetNoted

variable (s : State) (level source cores : Nat) (kept : Bool) (owed : List Nat → List Nat)

theorem reg_noteReset {a : Nat} (ha : a ≠ R.RPS_CAUSE) (hl : a ≠ R.RPS_LAST) (merged : Bool) :
    (s.noteReset level source cores kept merged).reg a = s.reg a := by
  unfold noteReset
  extract_lets s1
  have h1 : s1.reg a = s.reg a := by
    simp only [s1]
    split
    · exact reg_setF_ne s _ ha
    · rfl
  rw [reg_setF_ne _ _ hl, reg_setF_ne _ _ hl, reg_setF_ne _ _ hl, reg_setF_ne _ _ hl, reg_setF_ne _ _ hl, h1]

/-- The note of a reset changes registers alone. -/
theorem onlyRegs_noteReset (merged : Bool) : OnlyRegs s (s.noteReset level source cores kept merged) := by
  unfold noteReset
  refine OnlyRegs.trans ?_ (((((OnlyRegs.setF _ _ _).trans (.setF _ _ _)).trans (.setF _ _ _)).trans (.setF _ _ _)).trans (.setF _ _ _))
  split
  · exact .setF s _ _
  · exact .refl s

theorem resetNoted_rps : (s.resetNoted level source cores kept owed).rps =
    { s.rps with began := s.clk.now, level := level, kept := kept, owed := owed s.rps.owed } := by
  obtain ⟨g, hg⟩ := onlyRegs_noteReset s level source cores kept false
  rw [resetNoted, hg]
  rfl

theorem resetNoted_stores : (s.resetNoted level source cores kept owed).dram = s.dram ∧
    (s.resetNoted level source cores kept owed).mram = s.mram ∧ (s.resetNoted level source cores kept owed).lineStore = s.lineStore := by
  obtain ⟨g, hg⟩ := onlyRegs_noteReset s level source cores kept false
  rw [resetNoted, hg]
  exact ⟨rfl, rfl, rfl⟩

theorem reg_resetNoted {a : Nat} (ha : a ≠ R.RPS_CAUSE) (hl : a ≠ R.RPS_LAST) :
    (s.resetNoted level source cores kept owed).reg a = s.reg a :=
  reg_noteReset s level source cores kept ha hl false

theorem f_resetNoted {x : Fld} (ha : x.addr ≠ R.RPS_CAUSE) (hl : x.addr ≠ R.RPS_LAST) :
    (s.resetNoted level source cores kept owed).f x = s.f x :=
  congrArg x.get (reg_resetNoted s level source cores kept owed ha hl)

theorem f_resetNoted_level : (s.resetNoted level source cores kept owed).f F.RPS_LAST_LEVEL = level % 4 := by
  show (s.noteReset level source cores kept false).f _ = _
  simp (disch := decide) only [noteReset, f_setF_disjoint, f_setF_self]
  rfl

theorem f_resetNoted_source : (s.resetNoted level source cores kept owed).f F.RPS_LAST_SOURCE = source % 16 := by
  show (s.noteReset level source cores kept false).f _ = _
  simp (disch := decide) only [noteReset, f_setF_disjoint, f_setF_self]
  rfl

theorem f_resetNoted_cores : (s.resetNoted level source cores kept owed).f F.RPS_LAST_CORES = cores % 16 := by
  show (s.noteReset level source cores kept false).f _ = _
  simp (disch := decide) only [noteReset, f_setF_disjoint, f_setF_self]
  rfl

theorem f_resetNoted_cause (h : source < 10) : ((s.resetNoted level source cores kept owed).f F.RPS_CAUSE_CAUSE).testBit source = true := by
  show ((s.noteReset level source cores kept false).f _).testBit _ = _
  simp (disch := decide) only [noteReset, f_setF_ne, if_pos h, f_setF_self]
  rw [Nat.testBit_mod_two_pow, Nat.testBit_or, Nat.testBit_two_pow_self]
  simp [h]

end resetNoted

/-! ### A reset of cores -/

/-- What the loss of cores leaves of the rest of the device. -/
structure LosesCores (s t : State) : Prop where
  rps : ∃ k, t.rps = { s.rps with cores := k } ∧ (s.mgt.act = none → k = s.rps.cores)
  act : t.mgt.act = s.mgt.act ∨ t.mgt.act = none
  running : ∀ c, (s.f F.MGT_STATUS_RUNNING).testBit c = false → (t.f F.MGT_STATUS_RUNNING).testBit c = false
  dram : t.dram = s.dram
  mram : t.mram = s.mram
  lineStore : t.lineStore = s.lineStore

namespace LosesCores

variable {s t u : State}

theorem refl (s : State) : LosesCores s s := ⟨⟨_, rfl, fun _ => rfl⟩, .inl rfl, fun _ h => h, rfl, rfl, rfl⟩

theorem trans (h : LosesCores s t) (k : LosesCores t u) : LosesCores s u := by
  obtain ⟨a, hrps, ha⟩ := h.rps
  obtain ⟨b, krps, hb⟩ := k.rps
  refine ⟨⟨b, by rw [krps, hrps], fun hn => ?_⟩, ?_, fun c hc => k.running c (h.running c hc), k.dram.trans h.dram,
    k.mram.trans h.mram, k.lineStore.trans h.lineStore⟩
  · have htn : t.mgt.act = none := h.act.elim (fun he => he.trans hn) id
    rw [hb htn, hrps]
    exact ha hn
  · rcases k.act with he | he
    · rw [he]
      exact h.act
    · exact .inr he

theorem setF (s : State) {x : Fld} (v : Nat) (h : R.MGT_STATUS ≠ x.addr) : LosesCores s (s.setF x v) :=
  ⟨⟨_, rfl, fun _ => rfl⟩, .inl rfl, fun c hc => by rwa [f_setF_ne s v h], rfl, rfl, rfl⟩

theorem setReg (s : State) {a : Nat} (v : Word) (h : R.MGT_STATUS ≠ a) : LosesCores s (s.setReg a v) :=
  ⟨⟨_, rfl, fun _ => rfl⟩, .inl rfl, fun c hc => by rwa [f_setReg_ne s v h], rfl, rfl, rfl⟩

theorem foldl {α : Type} {g : State → α → State} (h : ∀ s x, LosesCores s (g s x)) (l : List α) (s : State) : LosesCores s (l.foldl g s) :=
  List.foldlRecOn l g (motive := LosesCores s) (refl s) fun _ hu x _ => hu.trans (h _ x)

end LosesCores

/-- A core that is not under activation stops, and its queue and working memory go. -/
def coreStopped (s : State) (c : Nat) : State :=
  (s.setF F.MGT_STATUS_RUNNING (s.f F.MGT_STATUS_RUNNING &&& (15 - 2 ^ c))).setMgt fun m =>
    { m with queues := tabMod m.queues c fun _ => [], load := tabMod m.load c fun _ => [] }

/-- The update session is gone. -/
def sessionGone (s : State) : State := { ((s.setReg R.MGT_SESS 0).setReg R.MGT_SESS_BYTES 0) with ubuf := [] }

/-- The Guard core takes the update session and a running activation with it (R368). -/
def guardLost (s : State) : State :=
  let s := (if s.present .FAB && s.pstate != 0 then s.setF F.FAB_STATUS_PSTATE 3 else s).sessionGone
  let s := match s.mgt.act with
    | some a => s.setRps fun x => { x with cores := x.cores ||| 2 ^ a.core }
    | none => s
  (s.setMgt fun m => { m with act := none, total := 0 }).noteMcomp

theorem coreLost_eq (s : State) (c : Nat) : s.coreLost c =
    if s.mgt.act.any (fun a => a.core == c) then s else if c ≠ 3 then s.coreStopped c else (s.coreStopped c).guardLost := rfl

theorem running_coreStopped (s : State) (c k : Nat) : ((s.coreStopped c).f F.MGT_STATUS_RUNNING).testBit k =
    ((s.f F.MGT_STATUS_RUNNING).testBit k && (15 - 2 ^ c).testBit k) := by
  show ((s.setF _ _).f _).testBit k = _
  rw [f_setF_self _ _ _ (by decide), Nat.testBit_mod_two_pow, Nat.testBit_and]
  by_cases hk : k < 4
  · simp [hk]
  · have hlt : s.f F.MGT_STATUS_RUNNING < 2 ^ k :=
      (Fld.get_lt F.MGT_STATUS_RUNNING _).trans_le (Nat.pow_le_pow_right (by decide) (show 4 ≤ k by omega))
    simp [hk, Nat.testBit_lt_two_pow hlt]

theorem losesCores_coreStopped (s : State) (c : Nat) : LosesCores s (s.coreStopped c) :=
  ⟨⟨_, rfl, fun _ => rfl⟩, .inl rfl, fun k hk => by rw [running_coreStopped, hk]; rfl, rfl, rfl, rfl⟩

theorem losesCores_sessionGone (s : State) : LosesCores s s.sessionGone :=
  ((LosesCores.setReg s (a := R.MGT_SESS) 0 (by decide)).trans (.setReg _ (a := R.MGT_SESS_BYTES) 0 (by decide))).trans
    ⟨⟨_, rfl, fun _ => rfl⟩, .inl rfl, fun _ h => h, rfl, rfl, rfl⟩

theorem losesCores_guardLost (s : State) : LosesCores s s.guardLost := by
  unfold guardLost
  extract_lets s2 s3
  have h2 : LosesCores s s2 := by
    refine .trans ?_ (losesCores_sessionGone _)
    split
    · exact .setF s _ (by decide)
    · exact .refl s
  have h3 : LosesCores s2 s3 := by
    simp only [s3]
    cases hact : s2.mgt.act with
    | none => exact .refl s2
    | some a => exact ⟨⟨_, rfl, fun h => by simp [h] at hact⟩, .inl rfl, fun _ h => h, rfl, rfl, rfl⟩
  have h4 : LosesCores s3 (s3.setMgt fun m => { m with act := none, total := 0 }) :=
    ⟨⟨_, rfl, fun _ => rfl⟩, .inr rfl, fun _ h => h, rfl, rfl, rfl⟩
  exact ((h2.trans h3).trans h4).trans (.setF _ (x := F.THM_STATUS_MCOMP) _ (by decide))

theorem losesCores_coreLost (s : State) (c : Nat) : LosesCores s (s.coreLost c) := by
  rw [coreLost_eq]
  split
  · exact .refl s
  split
  · exact losesCores_coreStopped s c
  · exact (losesCores_coreStopped s c).trans (losesCores_guardLost _)

/-- A core that is lost does not run, unless an activation holds it. -/
theorem running_coreLost (s : State) {c : Nat} (hc : c < 4) :
    ((s.coreLost c).f F.MGT_STATUS_RUNNING).testBit c = false ∨ s.mgt.act.any (fun a => a.core == c) = true := by
  rw [coreLost_eq]
  split
  · exact .inr ‹_›
  · have hstop : ((s.coreStopped c).f F.MGT_STATUS_RUNNING).testBit c = false := by
      have hmask : (15 - 2 ^ c).testBit c = false := by interval_cases c <;> rfl
      rw [running_coreStopped, hmask, Bool.and_false]
    refine .inl ?_
    split
    · exact hstop
    · exact (losesCores_guardLost _).running c hstop

theorem losesCores_loseHeavy (s : State) : LosesCores s s.loseHeavy := by
  unfold loseHeavy
  split
  · exact ⟨⟨_, rfl, fun _ => rfl⟩, .inl rfl, fun _ h => h, rfl, rfl, rfl⟩
  · exact .refl s

theorem losesCores_coresLost (s : State) (cores : Nat) : LosesCores s (s.coresLost cores) := by
  refine (losesCores_loseHeavy s).trans (.foldl (fun u c => ?_) _ _)
  split
  · exact losesCores_coreLost u c
  · exact .refl u

/-- Each core of the mask has stopped, unless an activation holds it. -/
theorem running_coresLost (s : State) {cores c : Nat} (hc : c < 4) (h : cores.testBit c = true) :
    ((s.coresLost cores).f F.MGT_STATUS_RUNNING).testBit c = false ∨ s.mgt.act.any (fun a => a.core == c) = true := by
  have hstep : ∀ k (u : State), LosesCores s u → LosesCores s (if cores.testBit k then u.coreLost k else u) := fun k u hu => by
    split
    · exact hu.trans (losesCores_coreLost u k)
    · exact hu
  refine foldl_reaches (x := c) (P := LosesCores s)
    (Q := fun u => (u.f F.MGT_STATUS_RUNNING).testBit c = false ∨ s.mgt.act.any (fun a => a.core == c) = true)
    (List.mem_range.2 hc) List.nodup_range (fun k _ _ => hstep k) (fun u hu => ?_) (fun k _ _ u hu => ?_) (losesCores_loseHeavy s)
  · rw [if_pos h]
    refine (running_coreLost u hc).imp_right fun ha => ?_
    rcases hu.act with he | he
    · rwa [← he]
    · simp [he] at ha
  · refine hu.imp_left fun hk => ?_
    split
    · exact (losesCores_coreLost u k).running c hk
    · exact hk

/-- A reset of the cores of a mask, in a device that was in no reset. -/
structure CoresReset (src mask : Nat) (s t : State) : Prop where
  held : t.rps.held = false
  cores : ∃ k, t.rps.cores = k ||| mask ∧ (s.mgt.act = none → k = 0)
  owed : 2 ∈ t.rps.owed
  level : t.f F.RPS_LAST_LEVEL = 1
  source : t.f F.RPS_LAST_SOURCE = src % 16
  named : t.f F.RPS_LAST_CORES = mask % 16
  running : ∀ c, c < 4 → mask.testBit c = true →
    (t.f F.MGT_STATUS_RUNNING).testBit c = false ∨ s.mgt.act.any (fun a => a.core == c) = true
  dram : t.dram = s.dram
  mram : t.mram = s.mram
  lineStore : t.lineStore = s.lineStore

theorem coresReset_takeReset {s : State} {r : ResetReq} (h : s.steady = true) (hr : r.level = 1) :
    CoresReset r.source r.cores s (s.takeReset r) := by
  have hlost := losesCores_coresLost s r.cores
  obtain ⟨-, hheld, hcores, -⟩ := steady_parts h
  obtain ⟨k, hrps, hk⟩ := hlost.rps
  rw [takeReset_cores h hr]
  generalize hu : (s.coresLost r.cores).setRps (fun x => { x with cores := x.cores ||| r.cores }) = u
  have hurps : u.rps = { s.rps with cores := k ||| r.cores } := by rw [← hu, setRps_rps, hrps]
  have hurun : u.f F.MGT_STATUS_RUNNING = (s.coresLost r.cores).f F.MGT_STATUS_RUNNING := by rw [← hu, setRps_f]
  obtain ⟨hdram, hmram, hline⟩ := resetNoted_stores u 1 r.source r.cores false (· ++ [2])
  exact {
    held := by rw [resetNoted_rps, hurps]; exact hheld
    cores := ⟨k, by rw [resetNoted_rps, hurps], fun hn => (hk hn).trans hcores⟩
    owed := by rw [resetNoted_rps]; exact List.mem_append_right _ (List.mem_singleton_self 2)
    level := f_resetNoted_level ..
    source := f_resetNoted_source ..
    named := f_resetNoted_cores ..
    running := fun c hc hbit => by
      rw [f_resetNoted _ _ _ _ _ _ (by decide) (by decide), hurun]
      exact running_coresLost s hc hbit
    dram := hdram.trans (by rw [← hu]; exact hlost.dram)
    mram := hmram.trans (by rw [← hu]; exact hlost.mram)
    lineStore := hline.trans (by rw [← hu]; exact hlost.lineStore) }

/-! ### A system reset -/

theorem clearedAlike_resetNoted (s : State) (level source cores : Nat) (kept : Bool) (owed : List Nat → List Nat) :
    ClearedAlike s (s.resetNoted level source cores kept owed) := by
  have hnote : ClearedAlike s (s.noteReset level source cores kept false) := by
    unfold noteReset
    exact (ClearedAlike.ite (ClearedAlike.setF s _ rfl) (.refl s)).trans
      (((((ClearedAlike.setF _ _ rfl).trans (.setF _ _ rfl)).trans (.setF _ _ rfl)).trans (.setF _ _ rfl)).trans (.setF _ _ rfl))
  rw [resetNoted]
  exact hnote.trans (.setRps _ rfl)

theorem cleared_takeReset {s : State} {r : ResetReq} (h : s.steady = true) (hr : r.level = 2) : Cleared s (s.takeReset r) := by
  rw [takeReset_system h hr, resetBegun, if_neg (by omega)]
  exact ((cleared_clearAll s _ _ _ _).alike (.setRps _ rfl)).alike (clearedAlike_resetNoted ..)

/-- A system reset of a steady device enters the reset of its level (R372, R374). -/
theorem inReset_takeReset {s : State} {r : ResetReq} (h : s.steady = true) (hr : r.level = 2) (hs : r.source < 10) :
    InReset 2 r.source s (s.takeReset r) := by
  have hclear := cleared_takeReset h hr
  refine ⟨?_, ⟨?_, ?_, ?_⟩, ?_, fun b hb a ha ht hc => hclear.regs a (clearedReg_of hb ha ht) hc, hclear.pend, hclear.mram,
    hclear.drives⟩ <;> rw [takeReset_system h hr]
  · rw [resetNoted_rps, resetBegun, if_neg (by omega)]
    rfl
  · rw [resetNoted_rps]
  · exact f_resetNoted_level ..
  · rw [f_resetNoted_source]
    omega
  · exact f_resetNoted_cause _ _ _ _ _ _ hs

/-! ### Requests that wait for an MRAM pulse (R379) -/

/-- A reset that was asked for waits, and is counted. -/
structure Deferred (s t : State) : Prop where
  count : t.f F.RPS_DEFER_COUNT = (s.f F.RPS_DEFER_COUNT + 1) % 2 ^ 32
  waits : ∃ r, t.rps = { s.rps with deferred := s.rps.deferred ++ [r] }
  frame : Frame (fun a => a == R.RPS_DEFER || a == R.RPS_RST) s t
  outs : t.outs = s.outs

theorem requestReset_now (s : State) (r : ResetReq) : s.requestReset r false = s.takeReset r := by simp [requestReset]

theorem deferred_requestReset (s : State) {r : ResetReq} (hr : r.aon = false) : Deferred s (s.requestReset r true) := by
  have heq : s.requestReset r true = (s.bump F.RPS_DEFER_COUNT).setRps fun x => { x with deferred := x.deferred ++ [r] } := by
    simp [requestReset, hr]
  rw [heq]
  exact ⟨f_setF_self s F.RPS_DEFER_COUNT _ (by decide), ⟨r, rfl⟩, (Frame.setF s _ rfl).trans (Frame.setRps _ _ _), rfl⟩

/-- A request that comes with a write of the register's echo. -/
theorem Deferred.of_echo {s t : State} (w : Word) (h : Deferred (s.setReg R.RPS_RST w) t) : Deferred s t :=
  ⟨h.count.trans (by rw [f_setReg_ne s w (by decide)]), h.waits, (Frame.setReg s w rfl).trans h.frame, h.outs⟩

/-! ### RPS_RST (R375) -/

/-- The word that a write leaves in RPS_RST. -/
def rstEcho (s : State) (w : Word) : State := s.setReg R.RPS_RST (w &&& 0xFFFF01F3)

theorem rstWrite_ignored {s : State} {w : Word} (pulse : Bool) (h : F.RPS_RST_KEY.get w ≠ 0xA5C3 ∨ F.RPS_RST_LEVEL.get w ∉ [1, 2]) :
    s.rstWrite w pulse = s.rstEcho w := by
  unfold rstWrite
  dsimp only
  split
  · rfl
  next hkey =>
    have hlevel := h.resolve_left hkey
    split
    · simp_all
    · simp_all
    · rfl

theorem rstWrite_core {s : State} {w : Word} (pulse : Bool) (hkey : F.RPS_RST_KEY.get w = 0xA5C3) (hl : F.RPS_RST_LEVEL.get w = 1) :
    s.rstWrite w pulse = (s.rstEcho w).requestReset { level := 1, source := 8, cores := F.RPS_RST_CORES.get w } pulse := by
  unfold rstWrite
  dsimp only
  rw [if_neg (not_not.2 hkey), hl]
  rfl

theorem rstWrite_system {s : State} {w : Word} (pulse : Bool) (hkey : F.RPS_RST_KEY.get w = 0xA5C3) (hl : F.RPS_RST_LEVEL.get w = 2) :
    s.rstWrite w pulse =
      (s.rstEcho w).requestReset { level := 2, source := 8, keep := F.RPS_RST_NOKEEP.get w = 0 } pulse := by
  unfold rstWrite
  dsimp only
  rw [if_neg (not_not.2 hkey), hl]
  rfl

theorem rstWord_key (level cores : Nat) (noKeep : Bool) : F.RPS_RST_KEY.get (rstWord level cores noKeep) = 0xA5C3 :=
  Fld.get_put _ _ _ (by decide)

theorem rstWord_level (level cores : Nat) (noKeep : Bool) : F.RPS_RST_LEVEL.get (rstWord level cores noKeep) = level % 4 := by
  rw [rstWord, Fld.get_put_disjoint _ _ _ _ (by decide) (by decide), Fld.get_put_disjoint _ _ _ _ (by decide) (by decide),
    Fld.get_put_disjoint _ _ _ _ (by decide) (by decide), Fld.get_put _ _ _ (by decide)]
  rfl

theorem rstWord_cores (level cores : Nat) (noKeep : Bool) : F.RPS_RST_CORES.get (rstWord level cores noKeep) = cores % 16 := by
  rw [rstWord, Fld.get_put_disjoint _ _ _ _ (by decide) (by decide), Fld.get_put_disjoint _ _ _ _ (by decide) (by decide),
    Fld.get_put _ _ _ (by decide)]
  rfl

/-- The echo leaves the device steady. -/
theorem steady_rstEcho {s : State} (w : Word) (h : s.steady = true) : (s.rstEcho w).steady = true := by
  have hf : ∀ x : Fld, x.addr ≠ R.RPS_RST → (s.rstEcho w).f x = s.f x := fun x hx => f_setReg_ne s _ hx
  have ha : (s.rstEcho w).asleep = s.asleep := congrArg (· == 2) (hf F.RPS_PWR_STAT_STATE (by decide))
  have hst : (s.rstEcho w).stage' = s.stage' := hf F.RPS_BOOT_STAGE (by decide)
  rw [steady, ha, hst]
  exact h

theorem coresReset_rstWrite {s : State} {w : Word} (h : s.steady = true) (hkey : F.RPS_RST_KEY.get w = 0xA5C3)
    (hl : F.RPS_RST_LEVEL.get w = 1) : CoresReset 8 (F.RPS_RST_CORES.get w) s (s.rstWrite w false) := by
  rw [rstWrite_core false hkey hl, requestReset_now]
  obtain ⟨hheld, hcores, howed, hlevel, hsource, hnamed, hrunning, hdram, hmram, hline⟩ :=
    coresReset_takeReset (r := { level := 1, source := 8, cores := F.RPS_RST_CORES.get w }) (steady_rstEcho w h) rfl
  exact ⟨hheld, hcores, howed, hlevel, hsource, hnamed, hrunning, hdram, hmram, hline⟩

theorem inReset_rstWrite {s : State} {w : Word} (h : s.steady = true) (hkey : F.RPS_RST_KEY.get w = 0xA5C3)
    (hl : F.RPS_RST_LEVEL.get w = 2) : InReset 2 8 s (s.rstWrite w false) := by
  rw [rstWrite_system false hkey hl, requestReset_now]
  obtain ⟨hheld, hlevel, hcause, hregs, hpend, hmram, hdrives⟩ := inReset_takeReset
    (r := { level := 2, source := 8, keep := F.RPS_RST_NOKEEP.get w = 0 }) (steady_rstEcho w h) rfl (Nat.lt_succ_of_lt (Nat.lt_succ_self 8))
  exact ⟨hheld, hlevel, hcause, hregs, hpend, hmram, hdrives⟩

theorem write32_rst (s : State) (path : Path) (w : Word) : s.write32 path R.RPS_RST w = s.rstWrite w false := by
  have hrow : (regRow R.RPS_RST).map (fun r => r.mask fun f => f.acc == .st) = some 0#32 := by decide +kernel
  obtain ⟨r, hr, hst⟩ := Option.map_eq_some_iff.1 hrow
  have hst' : ∀ u : Word, ¬ (u &&& r.mask fun f => f.acc == .st) ≠ 0 := fun u => by rw [hst, BitVec.and_zero]; exact fun h => h rfl
  rw [write32_active path w (by decide) rfl, liveWrite, hr]
  dsimp only
  rw [hiddenReg_below (by decide), if_neg Bool.false_ne_true, show s.ownWrite R.RPS_RST w = some (s.rstWrite w false) from rfl]
  exact if_neg (hst' _)

end State

/-! ### The obligations -/

/-- A register write of RPS_RST completes with what the write does. -/
theorem completes_rstWrite {s : State} {v : BitVec 64} {w : Word} {P : State → Prop} (path : Path) (ha : s.asleep = false)
    (hw : w = v.setWidth 32) (hP : P (s.sealed (s.rstWrite w false))) :
    Completes (.registerWrite path (BitVec.ofNat 24 R.RPS_RST) false v) s P := by
  refine completes_awake (exec_registerWrite ..) ha ?_
  rwa [State.toNat_active (by decide), State.busAccess_write path v (by decide), ← hw, State.write32_rst]

/-- Settles O12: the write is its echo, then a core reset or a system reset of the steady device, which merges with none. -/
theorem resetRegister : Obligations.ResetRegister := by
  unfold Obligations.ResetRegister
  refine fun path v w s ha hw => ⟨fun hno => ?ignored, fun hkey hsteady => ⟨fun hl => ?cores, fun hl => ?system⟩⟩
  case ignored =>
    refine completes_rstWrite path ha hw ?_
    rw [State.rstWrite_ignored false hno, show accMask R.RPS_RST (fun _ => true) = 0xFFFF01F3 by decide +kernel]
    exact ⟨State.reg_setReg_self s _ _, rfl, rfl, (Frame.setReg s _ rfl).sealed⟩
  case cores =>
    have hreset := State.coresReset_rstWrite hsteady hkey hl
    obtain ⟨k, hcores, -⟩ := hreset.cores
    refine completes_rstWrite path ha hw ⟨hreset.held, hreset.level, hreset.source, ?_, fun c hc => ⟨?_, hreset.running c c.isLt hc⟩⟩
    · exact hreset.named.trans (Nat.mod_eq_of_lt (Fld.get_lt F.RPS_RST_CORES w))
    · rw [State.sealed_rps, hcores, Nat.testBit_or, hc, Bool.or_true]
  case system =>
    obtain ⟨hheld, hlevel, hcause, hregs, hpend, hmram, hdrives⟩ := State.inReset_rstWrite hsteady hkey hl
    exact completes_rstWrite path ha hw ⟨hheld, hlevel, hcause, hregs, hpend, hmram, hdrives⟩

end Sys2Proof.Machine
end

section
/-! OBLIGATIONS. Requests for a reset during an MRAM write pulse (R379), and pulses on RST_N and PERST_N (R376, R378). -/

namespace Sys2Proof.Machine

namespace State

/-- During an MRAM write pulse every source but a thermal shutdown asks for a reset that waits. -/
theorem deferred_resetRequest (s : State) {source : Nat} (coreLevel : Bool) (cores : Nat) (noKeep : Bool) (h : source ≠ 5) :
    Deferred s (s.resetRequest source coreLevel cores noKeep true) := by
  rw [resetRequest, if_neg h]
  exact deferred_requestReset s rfl

theorem deferred_rstNAssert (s : State) {ns : Nat} (h : 1000 ≤ ns) : Deferred s (s.rstNAssert ns true) := by
  rw [rstNAssert, if_neg (Nat.not_lt.2 h)]
  exact deferred_requestReset s rfl

theorem deferred_perstAssert {s : State} {ns : Nat} (h : 1000 ≤ ns) (hp : s.part7440 = true) (ht : s.isTile = false) :
    Deferred s (s.perstAssert ns true) := by
  rw [perstAssert, if_pos (by simp [hp, ht, h])]
  exact deferred_requestReset s rfl

theorem deferred_coreReset (s : State) (cores : Nat) : Deferred s (s.rstWrite (rstWord 1 cores false) true) := by
  rw [rstWrite_core true (rstWord_key ..) (rstWord_level ..)]
  exact (deferred_requestReset (s.rstEcho _) rfl).of_echo _

theorem deferred_systemReset (s : State) (noKeep : Bool) : Deferred s (s.rstWrite (rstWord 2 0 noKeep) true) := by
  rw [rstWrite_system true (rstWord_key ..) (rstWord_level ..)]
  exact (deferred_requestReset (s.rstEcho _) rfl).of_echo _

/-- The end of a pulse with nothing that waits. -/
theorem pulseEnd_none {s : State} (h : s.rps.deferred = []) : s.pulseEnd = s := by
  rw [pulseEnd, h, List.foldl_nil, setRps]
  conv_rhs => rw [show s = { s with rps := { s.rps with deferred := s.rps.deferred } } from rfl, h]

/-- The end of a pulse with one reset that waits. -/
theorem pulseEnd_one {s : State} {r : ResetReq} (h : s.rps.deferred = [r]) (hr : r.source ≠ 5) :
    s.pulseEnd = (s.setRps fun x => { x with deferred := [] }).takeReset r := by
  rw [pulseEnd, h, List.foldl_cons, List.foldl_nil, if_neg hr]

/-- A pulse on RST_N that is too short to count (R376). -/
theorem rstNAssert_glitch {s : State} {ns : Nat} (pulse : Bool) (h : ns < 1000) :
    s.rstNAssert ns pulse = (s.bump F.RPS_GLITCH_COUNT).raise 4 := by
  rw [rstNAssert, if_pos h]

/-- PERST_N is of no account in the Tile role (R378). -/
theorem perstAssert_tile {s : State} (ns : Nat) (pulse : Bool) (h : s.isTile = true) : s.perstAssert ns pulse = s := by
  simp [perstAssert, h]

end State

/-- A request that waits is what the command that made it leaves. -/
theorem completes_deferred {c : Instr} {s : State} {g : State → State} (hc : exec c s = s.finish (s.awake g)) (ha : s.asleep = false)
    (h : State.Deferred s (g s)) : Completes c s fun t => t.f F.RPS_DEFER_COUNT = (s.f F.RPS_DEFER_COUNT + 1) % 2 ^ 32 ∧
      (∃ r, t.rps = { s.rps with deferred := s.rps.deferred ++ [r] }) ∧
      Frame (fun a => a == R.RPS_DEFER || a == R.RPS_RST) s t ∧ t.outs = s.outs :=
  completes_awake hc ha ⟨h.count, h.waits, h.frame.sealed, h.outs⟩

/-- As `completes_deferred`, for a command of the always-on supply. -/
theorem completes_deferred_always {c : Instr} {s t : State} (hc : exec c s = s.finish t) (h : State.Deferred s t) :
    Completes c s fun t => t.f F.RPS_DEFER_COUNT = (s.f F.RPS_DEFER_COUNT + 1) % 2 ^ 32 ∧
      (∃ r, t.rps = { s.rps with deferred := s.rps.deferred ++ [r] }) ∧
      Frame (fun a => a == R.RPS_DEFER || a == R.RPS_RST) s t ∧ t.outs = s.outs :=
  completes_always hc ⟨h.count, h.waits, h.frame.sealed, h.outs⟩

/-- Settles O14: every source asks through `State.requestReset`, which lets a request wait for the pulse. -/
theorem resetPulses : Obligations.ResetPulses := by
  unfold Obligations.ResetPulses
  refine ⟨fun s ha => ⟨fun ns noKeep cores source coreLevel c h5 hns hp ht hc => ?waits, fun hnone => ?none, fun hst hone => ?one⟩,
    fun ns pulse s => ⟨fun hns => ?glitch, fun htile => ?tile⟩⟩
  case waits =>
    simp only [List.mem_cons, List.not_mem_nil, or_false] at hc
    rcases hc with rfl | rfl | rfl | rfl | rfl | rfl
    · exact completes_deferred_always rfl (State.deferred_requestReset s rfl)
    · exact completes_deferred_always rfl (State.deferred_rstNAssert s hns)
    · exact completes_deferred rfl ha (State.deferred_perstAssert hns hp ht)
    · exact completes_deferred rfl ha (State.deferred_resetRequest s coreLevel cores.toNat noKeep h5)
    · exact completes_deferred rfl ha (State.deferred_coreReset s cores.toNat)
    · exact completes_deferred rfl ha (State.deferred_systemReset s noKeep)
  case none =>
    refine completes_awake rfl ha ?_
    show s.sealed s.pulseEnd = s
    rw [State.pulseEnd_none hnone]
    rfl
  case one =>
    have hreset := State.inReset_takeReset (s := s.setRps fun x => { x with deferred := [] })
      (r := { level := 2, source := 1 }) hst rfl (by decide)
    refine completes_awake rfl ha ?_
    show InReset 2 1 s (s.sealed s.pulseEnd) ∧ (s.sealed s.pulseEnd).rps.deferred = []
    rw [State.pulseEnd_one hone (by decide)]
    obtain ⟨hheld, hlevel, hcause, hregs, hpend, hmram, hdrives⟩ := hreset
    exact ⟨⟨hheld, hlevel, hcause, hregs, hpend, hmram, hdrives⟩, (State.cleared_takeReset (s := s.setRps fun x => { x with deferred := [] })
      (r := { level := 2, source := 1 }) hst rfl).deferred⟩
  case glitch =>
    refine completes_always rfl ?_
    rw [State.rstNAssert_glitch pulse hns]
    refine ⟨?_, State.evBit_raise_self (n := 4) rfl, State.raise_rps _ 4, ((Frame.setF s _ rfl).trans (Frame.raise _ _ 4)).sealed⟩
    rw [State.sealed_f, State.f_raise _ 4 rfl]
    exact State.f_setF_self s F.RPS_GLITCH_COUNT _ (by decide)
  case tile =>
    show s.finish (s.awake fun s => s.perstAssert ns pulse) = .next s
    have hsame : s.awake (fun s => s.perstAssert ns pulse) = s := by
      rw [State.awake]
      split
      · rfl
      · exact State.perstAssert_tile ns pulse htile
    rw [hsame]
    rfl

end Sys2Proof.Machine
end

section
/-! SUPPORT. A live write to a register whose fields are only written, single bits of a number, and a signed field. -/

namespace Sys2Proof.Machine

/-- A bit that is set is clear once its power is taken away. -/
theorem testBit_sub_two_pow_self {m k : Nat} (h : m.testBit k = true) : (m - 2 ^ k).testBit k = false := by
  rw [Nat.testBit_eq_decide_div_mod_eq, decide_eq_true_eq] at h
  have hdiv : (m - 2 ^ k) / 2 ^ k = m / 2 ^ k - 1 := by simpa using Nat.sub_mul_div m (2 ^ k) 1
  rw [Nat.testBit_eq_decide_div_mod_eq, decide_eq_false_iff_not, hdiv]
  omega

/-- The signed form of sixteen bits gives a small number back. -/
theorem sgn_twos {t : Int} (hlo : -640 ≤ t) (hhi : t ≤ 2400) : sgn 16 (twos 16 t) = t := by
  rw [sgn, twos]
  norm_num
  split <;> omega

namespace State

/-- What a write leaves in a register whose writable bits are those of a mask. -/
def written (s : State) (a : Nat) (mask v : Word) : State := s.setReg a (s.reg a &&& ~~~mask ||| v &&& mask)

/-- A write to a live register with no staged field and no bit that a one clears stores its bits and then acts (Table 02.1). -/
theorem write32_written {s : State} {a : Nat} {mask : Word} (path : Path) (v : Word) (ha : a < 2 ^ 23) (hr : s.reaches a = true)
    (hh : s.hiddenReg a = false) (hown : s.ownWrite a v = none) (hfree : s.refusedBits a v = 0) (hmask : mask ≠ 0)
    (hrow : (regRow a).map (fun r => (r.mask fun f => f.acc == .rw || f.acc == .wo, r.mask fun f => f.acc == .w1c,
      r.mask fun f => f.acc == .st)) = some (mask, 0, 0)) : s.write32 path a v = (s.written a mask v).trigger a v := by
  obtain ⟨r, hreg, hmasks⟩ := Option.map_eq_some_iff.1 hrow
  obtain ⟨hrw, hrest⟩ := Prod.mk.inj hmasks
  obtain ⟨hwc, hst⟩ := Prod.mk.inj hrest
  have hstore : s.storeLive path a r v = s.written a mask v := by
    rw [storeLive, hrw, hwc, hst, hfree, if_pos rfl, show ~~~(0 : Word) = BitVec.allOnes 32 from rfl, BitVec.and_allOnes,
      show mask ||| 0 = mask from BitVec.or_zero, if_neg hmask, show v &&& 0 = 0 from BitVec.and_zero,
      show ~~~(0 : Word) = BitVec.allOnes 32 from rfl, BitVec.and_allOnes]
    rfl
  rw [write32_active path v ha hr, liveWrite, hreg]
  dsimp only
  rw [hh, if_neg Bool.false_ne_true, hown]
  exact congrArg (fun u => u.trigger a v) hstore

end State

end Sys2Proof.Machine
end
section
/-! OBLIGATIONS. Die and board sensors and their masks (R395, R399). -/

namespace Sys2Proof.Machine

namespace State

/-! ### What a sensor shows -/

/-- The state that a sensor shows (Table 18.1). -/
def shownState (s : State) (i : Nat) (failed : Bool) : Nat :=
  if s.masked i then 3 else if failed then 2 else if s.thm.seen.testBit i then 1 else 0

/-- The field of THM_FAIL that notes a sensor, at its bit `i % 16`. -/
def failField (i : Nat) : Fld := if i < 16 then F.THM_FAIL_DIE else F.THM_FAIL_BOARD

/-- The note of a sensor in its field of THM_FAIL. -/
def failBits (m k st : Nat) : Nat := if st = 2 then m ||| 2 ^ k else if m.testBit k then m - 2 ^ k else m

theorem testBit_failBits (m k st : Nat) : (failBits m k st).testBit k = decide (st = 2) := by
  rw [failBits]
  split
  next h => simp [h]
  next h =>
    rw [decide_eq_false h]
    split
    · exact testBit_sub_two_pow_self ‹_›
    · exact Bool.of_not_eq_true ‹_›

theorem shownState_lt (s : State) (i : Nat) (failed : Bool) : s.shownState i failed < 4 := by
  rw [shownState]
  split_ifs <;> decide

/-- The fields of a sensor's own register, and that this register is none of the fields' that tell of all sensors. -/
theorem sensorFields (i : Nat) : (∃ a, sensorState i = ⟨a, 16, 2⟩ ∧ sensorT16 i = ⟨a, 0, 16⟩ ∧ 0x20080 ≤ a) ∧
    (failField i).addr = R.THM_FAIL := by
  rw [sensorState, sensorT16, failField]
  split
  · exact ⟨⟨R.THM_D i, rfl, rfl, by simp only [R.THM_D]; omega⟩, rfl⟩
  · exact ⟨⟨R.THM_B (i - 16), rfl, rfl, by simp only [R.THM_B]; omega⟩, rfl⟩

theorem sensorState_ne_fail (i : Nat) : (sensorState i).addr ≠ (failField i).addr := by
  obtain ⟨⟨a, ha, -, hlo⟩, hfail⟩ := sensorFields i
  rw [ha, hfail]
  simp only [R.THM_FAIL]
  omega

theorem noteSensor_eq (s : State) {i : Nat} (hi : i < 32) (failed : Bool) : s.noteSensor i failed =
    (s.setF (sensorState i) (s.shownState i failed)).setF (failField i) (failBits (s.f (failField i)) (i % 16) (s.shownState i failed)) := by
  rw [← f_setF_ne s (s.shownState i failed) (sensorState_ne_fail i).symm]
  unfold noteSensor failField
  dsimp only
  split
  next h => rw [Nat.mod_eq_of_lt h]; rfl
  next h => rw [show i % 16 = i - 16 by omega]; rfl

/-- What the note of a sensor leaves. -/
structure Noted (i : Nat) (failed : Bool) (s t : State) : Prop where
  state : t.f (sensorState i) = s.shownState i failed
  value : t.f (sensorT16 i) = s.f (sensorT16 i)
  fail : i % 16 < (failField i).width → (t.f (failField i)).testBit (i % 16) = decide (s.shownState i failed = 2)
  thm : t.thm = s.thm
  outs : t.outs = s.outs
  frame : Frame (fun a => a == (sensorState i).addr || a == R.THM_FAIL) s t

theorem noted_noteSensor (s : State) {i : Nat} (hi : i < 32) (failed : Bool) : Noted i failed s (s.noteSensor i failed) := by
  have hne := sensorState_ne_fail i
  obtain ⟨⟨a, hst, hval, -⟩, hfail⟩ := sensorFields i
  have hfits : (failField i).lo + (failField i).width ≤ 32 := by
    rw [failField]
    split <;> decide
  rw [noteSensor_eq s hi]
  refine ⟨?_, ?_, fun hw => ?_, rfl, rfl, (Frame.setF s _ (by simp)).trans (Frame.setF _ _ (by simp [hfail]))⟩
  · rw [f_setF_ne _ _ hne, hst, f_setF_self _ _ _ (Nat.le_of_ble_eq_true rfl)]
    refine Nat.mod_eq_of_lt ?_
    exact s.shownState_lt i failed
  · have hne' : (sensorT16 i).addr ≠ (failField i).addr := by
      rw [hval]
      rwa [hst] at hne
    rw [f_setF_ne _ _ hne', hst, hval]
    exact f_setF_disjoint s _ (Nat.le_of_ble_eq_true rfl) (.inr (Nat.le_refl 16))
  · rw [f_setF_self _ _ _ hfits, Nat.testBit_mod_two_pow, testBit_failBits, decide_eq_true hw, Bool.true_and]

/-! ### Readings -/

/-- What a sensor's good reading leaves before its note: the run of bad ones ends where `clears`. -/
def readWell (s : State) (i : Nat) (clears : Bool) (t : Int) : State :=
  (s.setThm fun x => { x with
    good := tabMod x.good i fun _ => min 16 (tabAt s.thm.good i 0 + 1)
    bad := if clears then tabMod x.bad i fun _ => 0 else x.bad
    seen := x.seen ||| 2 ^ i }).setF (sensorT16 i) (twos 16 t)

/-- What a sensor's bad reading leaves before its note. -/
def readBadly (s : State) (i : Nat) : State :=
  s.setThm fun x => { x with good := tabMod x.good i fun _ => 0, bad := tabMod x.bad i fun _ => min 3 (tabAt s.thm.bad i 0 + 1) }

theorem raiseIf_false (s : State) (n : Nat) : s.raiseIf false n = s := rfl

theorem raiseIf_true (s : State) (n : Nat) : s.raiseIf true n = s.raise n := rfl

section takeReading

variable {s : State} {i : Nat} {t : Int}

/-- A good reading of a sensor that has not failed. -/
theorem takeReading_well (hlo : -640 ≤ t) (hhi : t ≤ 2400) (hbad : tabAt s.thm.bad i 0 < 3) :
    s.takeReading i (some t) = (s.readWell i true t).noteSensor i false := by
  have hf : s.failing i = false := by simpa [failing] using hbad
  have hin : (some t).filter (fun t => decide (-640 ≤ t ∧ t ≤ 2400)) = some t := by simp [hlo, hhi]
  simp only [takeReading, hin, hf, Bool.false_and, raiseIf_false]
  rfl

/-- A good reading of a failed sensor that has not yet had sixteen in a row. -/
theorem takeReading_mending (hlo : -640 ≤ t) (hhi : t ≤ 2400) (hbad : tabAt s.thm.bad i 0 = 3) (hgood : tabAt s.thm.good i 0 < 15) :
    s.takeReading i (some t) = (s.readWell i false t).noteSensor i true := by
  have hf : s.failing i = true := by simp [failing, hbad]
  have hin : (some t).filter (fun t => decide (-640 ≤ t ∧ t ≤ 2400)) = some t := by simp [hlo, hhi]
  have h16 : (min 16 (tabAt s.thm.good i 0 + 1) == 16) = false := by simp; omega
  simp only [takeReading, hin, hf, h16, Bool.and_false, Bool.false_and, raiseIf_false, Bool.not_false, Bool.and_true]
  rfl

/-- The sixteenth good reading in a row of a failed sensor. -/
theorem takeReading_mended (hlo : -640 ≤ t) (hhi : t ≤ 2400) (hbad : tabAt s.thm.bad i 0 = 3) (hgood : 15 ≤ tabAt s.thm.good i 0)
    (hm : s.masked i = false) : s.takeReading i (some t) = ((s.readWell i true t).noteSensor i false).raise 24 := by
  have hf : s.failing i = true := by simp [failing, hbad]
  have hin : (some t).filter (fun t => decide (-640 ≤ t ∧ t ≤ 2400)) = some t := by simp [hlo, hhi]
  have h16 : (min 16 (tabAt s.thm.good i 0 + 1) == 16) = true := by simp; omega
  have hm' : ∀ g, (s.setThm g).masked i = false := fun _ => hm
  simp only [takeReading, hin, hf, h16, hm', Bool.and_self, Bool.not_true, Bool.and_false, Bool.not_false, raiseIf_true]
  rfl

/-- A bad reading of a sensor that does not make it fail. -/
theorem takeReading_bad {reading : Option Int} (hr : reading.filter (fun t => decide (-640 ≤ t ∧ t ≤ 2400)) = none)
    (hbad : tabAt s.thm.bad i 0 < 2) : s.takeReading i reading = (s.readBadly i).noteSensor i false := by
  have h3 : (min 3 (tabAt s.thm.bad i 0 + 1) == 3) = false := by simp; omega
  simp only [takeReading, hr, h3, Bool.and_false, Bool.false_and, raiseIf_false]
  rfl

/-- The third bad reading in a row of a sensor. -/
theorem takeReading_fails {reading : Option Int} (hr : reading.filter (fun t => decide (-640 ≤ t ∧ t ≤ 2400)) = none)
    (hbad : tabAt s.thm.bad i 0 = 2) (hm : s.masked i = false) :
    s.takeReading i reading = ((s.readBadly i).noteSensor i true).raise 23 := by
  have hf : s.failing i = false := by simp [failing, hbad]
  have h3 : (min 3 (tabAt s.thm.bad i 0 + 1) == 3) = true := by simp [hbad]
  have hm' : ∀ g, (s.setThm g).masked i = false := fun _ => hm
  simp only [takeReading, hr, h3, hf, hm', Bool.and_self, Bool.not_false, raiseIf_true]
  rfl

end takeReading

/-! ### What a reading leaves before its note -/

theorem sensorT16_ne_mask (i : Nat) : R.THM_MASK ≠ (sensorT16 i).addr := by
  obtain ⟨⟨a, -, hval, hlo⟩, -⟩ := sensorFields i
  rw [hval]
  simp only [R.THM_MASK]
  omega

theorem masked_readWell (s : State) (i : Nat) (clears : Bool) (t : Int) : (s.readWell i clears t).masked i = s.masked i := by
  have hne := sensorT16_ne_mask i
  rw [masked, readWell, f_setF_ne _ _ hne, f_setF_ne _ _ hne]
  rfl

theorem seen_readWell (s : State) (i : Nat) (clears : Bool) (t : Int) : (s.readWell i clears t).thm.seen.testBit i = true := by
  show (s.thm.seen ||| 2 ^ i).testBit i = true
  simp

/-- A good reading of a sensor that is not masked shows as Valid, or still as Failed. -/
theorem shownState_readWell {s : State} {i : Nat} (clears failed : Bool) (t : Int) (hm : s.masked i = false) :
    (s.readWell i clears t).shownState i failed = if failed then 2 else 1 := by
  rw [shownState, masked_readWell, hm, seen_readWell]
  cases failed <;> rfl

theorem fS_eq_sgn (s : State) {x : Fld} (h : x.width = 16) : s.fS x = sgn 16 (s.f x) := by
  have hlt : s.f x < 2 ^ 16 := h ▸ Fld.get_lt x _
  show x.getS _ = _
  rw [Fld.getS, sgn, h, Nat.mod_eq_of_lt hlt]
  rfl

theorem value_readWell (s : State) (i : Nat) (clears : Bool) (t : Int) : (s.readWell i clears t).f (sensorT16 i) = twos 16 t := by
  obtain ⟨⟨a, -, hval, -⟩, -⟩ := sensorFields i
  have htwos : twos 16 t < 2 ^ 16 := by
    rw [twos]
    norm_num
    omega
  rw [readWell, hval, f_setF_self _ _ _ (Nat.le_of_ble_eq_true rfl)]
  exact Nat.mod_eq_of_lt htwos

theorem frame_readWell (s : State) (i : Nat) (clears : Bool) (t : Int) :
    Frame (fun a => a == (sensorState i).addr || a == R.THM_FAIL) s (s.readWell i clears t) := by
  obtain ⟨⟨a, hst, hval, -⟩, -⟩ := sensorFields i
  refine (Frame.setThm _ s _).trans (Frame.setF _ _ ?_)
  rw [hst, hval]
  simp

/-- What a good reading of a sensor that is not masked leaves. -/
structure ReadWell (i : Nat) (clears : Bool) (v : Int) (s t : State) : Prop where
  value : t.fS (sensorT16 i) = v
  state : t.f (sensorState i) = if clears then 1 else 2
  fail : i % 16 < (failField i).width → (t.f (failField i)).testBit (i % 16) = !clears
  thm : t.thm = (s.readWell i clears v).thm
  outs : t.outs = s.outs
  frame : Frame (fun a => a == (sensorState i).addr || a == R.THM_FAIL) s t

theorem readWell_noteSensor {s : State} {i : Nat} (hi : i < 32) {v : Int} (hlo : -640 ≤ v) (hhi : v ≤ 2400) (hm : s.masked i = false)
    {clears failed : Bool} (hf : failed = !clears) : ReadWell i clears v s ((s.readWell i clears v).noteSensor i failed) := by
  subst hf
  have hnote := noted_noteSensor (s.readWell i clears v) hi !clears
  have hshown := shownState_readWell clears (!clears) v hm
  obtain ⟨⟨a, -, hval, -⟩, -⟩ := sensorFields i
  refine ⟨?_, ?_, fun hw => ?_, hnote.thm, hnote.outs, (frame_readWell s i clears v).trans hnote.frame⟩
  · rw [fS_eq_sgn _ (by rw [hval]), hnote.value, value_readWell, sgn_twos hlo hhi]
  · rw [hnote.state, hshown]
    cases clears <;> rfl
  · rw [hnote.fail hw, hshown]
    cases clears <;> rfl

/-- What a bad reading of a sensor that is not masked leaves. -/
structure ReadBadly (i : Nat) (fails : Bool) (s t : State) : Prop where
  value : t.f (sensorT16 i) = s.f (sensorT16 i)
  state : t.f (sensorState i) = 2 ↔ fails = true
  fail : i % 16 < (failField i).width → (t.f (failField i)).testBit (i % 16) = fails
  thm : t.thm = (s.readBadly i).thm
  outs : t.outs = s.outs
  frame : Frame (fun a => a == (sensorState i).addr || a == R.THM_FAIL) s t

theorem readBadly_noteSensor {s : State} {i : Nat} (hi : i < 32) (hm : s.masked i = false) (fails : Bool) :
    ReadBadly i fails s ((s.readBadly i).noteSensor i fails) := by
  have hnote := noted_noteSensor (s.readBadly i) hi fails
  have hshown : (s.readBadly i).shownState i fails = 2 ↔ fails = true := by
    rw [shownState, show (s.readBadly i).masked i = s.masked i from rfl, hm]
    cases fails
    · simp only [Bool.false_eq_true, if_false, iff_false]
      split <;> decide
    · simp
  refine ⟨hnote.value, ?_, fun hw => ?_, hnote.thm, hnote.outs, (Frame.setThm _ s _).trans hnote.frame⟩
  · rw [hnote.state, hshown]
  · rw [hnote.fail hw, Bool.eq_iff_iff, decide_eq_true_iff, hshown]

/-- The registers of thermal management are none that events write. -/
theorem evReg_thm {a : Nat} (h : a < 0x30000) : evReg a = false := by
  simp only [evReg, R.CMC_EVDROP, Bool.or_eq_false_iff, decide_eq_false_iff_not, beq_eq_false_iff_ne]
  omega

theorem dieBit_lt {d : Nat} (hd : d < 12) : d % 16 < (failField d).width := by
  rw [failField, if_pos (by omega)]
  exact (Nat.mod_eq_of_lt (show d < 16 by omega)).symm ▸ hd

theorem failBit_die (t : State) {d : Nat} (hd : d < 12) :
    (t.f (failField d)).testBit (d % 16) = (t.f F.THM_FAIL_DIE).testBit d := by
  rw [failField, if_pos (by omega), Nat.mod_eq_of_lt (by omega)]

/-! ### Masks (R399) -/

/-- The state that sensor `i` has its mask changed in. -/
def maskFlipped (s : State) (d : Nat) (on : Bool) : State :=
  s.setF F.THM_MASK_DIE (if on then s.f F.THM_MASK_DIE ||| 2 ^ d else s.f F.THM_MASK_DIE - 2 ^ d)

theorem maskSet_otherKey {s : State} {w : Word} (h : F.THM_MASK_SET_KEY.get w ≠ 0x7E81) : s.maskSet w = s := by
  simp [maskSet, h]

theorem maskSet_die {s : State} {w : Word} {d : Nat} (on : Bool) (hd : d < 12) (hkey : F.THM_MASK_SET_KEY.get w = 0x7E81)
    (hi : F.THM_MASK_SET_SENSOR.get w = d) (hv : F.THM_MASK_SET_VALUE.get w = on.toNat) (hm : s.masked d = !on) :
    s.maskSet w = ((s.maskFlipped d on).noteSensor d ((s.maskFlipped d on).failing d)).raise 25 := by
  have h16 : d < 16 := by omega
  have hon : (on.toNat == 1) = on := by cases on <;> rfl
  simp only [maskSet, hkey, hi, hv, hm, hon, ne_eq, not_true_eq_false, false_or, h16, if_true, decide_true, Bool.true_or,
    show ¬ 12 ≤ d by omega, false_and, show ¬ (!on) = on by cases on <;> decide, if_false]
  rfl

theorem masked_maskFlipped {s : State} {d : Nat} {on : Bool} (hd : d < 12) (hm : s.masked d = !on) : (s.maskFlipped d on).masked d = on := by
  have h16 : d < 16 := by omega
  rw [masked, if_pos h16] at hm
  rw [masked, if_pos h16, maskFlipped, f_setF_self _ _ _ (by decide), Nat.testBit_mod_two_pow, decide_eq_true hd, Bool.true_and]
  cases on
  · exact testBit_sub_two_pow_self hm
  · simp

/-- What a keyed write that changes the mask of die sensor `d` leaves. -/
structure MaskChanged (d : Nat) (on : Bool) (s t : State) : Prop where
  masked : t.masked d = on
  state : t.f (F.THM_D_STATE d) = 3 ↔ on = true
  fail : on = true → (t.f F.THM_FAIL_DIE).testBit d = false
  told : t.evBit 25 = true
  frame : Frame (fun a => a == R.THM_MASK || a == R.THM_D d || a == R.THM_FAIL) s t

theorem maskChanged_maskSet {s : State} {w : Word} {d : Nat} {on : Bool} (hd : d < 12) (hkey : F.THM_MASK_SET_KEY.get w = 0x7E81)
    (hi : F.THM_MASK_SET_SENSOR.get w = d) (hv : F.THM_MASK_SET_VALUE.get w = on.toNat) (hm : s.masked d = !on) :
    MaskChanged d on s (s.maskSet w) := by
  have h16 : d < 16 := by omega
  have hfield : sensorState d = F.THM_D_STATE d := if_pos h16
  have hflip := masked_maskFlipped hd hm
  have hnote := noted_noteSensor (s.maskFlipped d on) (i := d) (by omega) ((s.maskFlipped d on).failing d)
  have hshown : (s.maskFlipped d on).shownState d ((s.maskFlipped d on).failing d) = 3 ↔ on = true := by
    rw [shownState, hflip]
    cases on
    · simp only [Bool.false_eq_true, if_false, iff_false]
      split_ifs <;> decide
    · simp
  rw [maskSet_die on hd hkey hi hv hm]
  refine ⟨?_, ?_, fun hon => ?_, evBit_raise_self rfl, ?_⟩
  · rw [State.masked, if_pos h16, f_raise _ _ rfl, hnote.frame.f_eq (by simp only [hfield, R.THM_MASK, R.THM_D, R.THM_FAIL]; simp; omega) rfl]
    rwa [State.masked, if_pos h16] at hflip
  · rw [f_raise _ _ (evReg_thm (by simp only [R.THM_D]; omega)), ← hfield, hnote.state, hshown]
  · rw [f_raise _ _ rfl, ← failBit_die _ hd, hnote.fail (dieBit_lt hd)]
    exact decide_eq_false fun h2 => by have := hshown.2 hon; omega
  · exact ((Frame.setF s _ rfl).trans (hnote.frame.mono (by rw [hfield]; simp))).trans (Frame.raise _ _ 25)

end State

/-! ### The obligation -/

/-- What the record's trim makes of a reading. -/
def trimmed (s : State) (d : Nat) (v : Int) : Int := v + sgn 16 (leVal (s.recRead (0x1A0 + 2 * d) 2))

namespace State

theorem dieState_eq {d : Nat} (hd : d < 12) : sensorState d = F.THM_D_STATE d := if_pos (by omega)

theorem dieT16_eq {d : Nat} (hd : d < 12) : sensorT16 d = F.THM_D_T16 d := if_pos (by omega)

theorem boardState_eq (b : Nat) : sensorState (16 + b) = F.THM_B_STATE b := by
  rw [sensorState, if_neg (by omega), Nat.add_sub_cancel_left]

theorem boardT16_eq (b : Nat) : sensorT16 (16 + b) = F.THM_B_T16 b := by
  rw [sensorT16, if_neg (by omega), Nat.add_sub_cancel_left]

theorem frame_die {d : Nat} (hd : d < 12) {s t : State} (h : Frame (fun a => a == (sensorState d).addr || a == R.THM_FAIL) s t) :
    Frame (fun a => a == R.THM_D d || a == R.THM_FAIL) s t := by
  rwa [dieState_eq hd] at h

/-- A reading in range, whether the sensor is shown Valid after it (`clears`) or still Failed. -/
theorem ReadWell.die {d : Nat} {clears : Bool} {v : Int} {s t : State} (hd : d < 12) (h : ReadWell d clears v s t) :
    t.fS (F.THM_D_T16 d) = v ∧ t.f (F.THM_D_STATE d) = (if clears then 1 else 2) ∧ (t.f F.THM_FAIL_DIE).testBit d = !clears ∧
      Frame (fun a => a == R.THM_D d || a == R.THM_FAIL) s t :=
  ⟨dieT16_eq hd ▸ h.value, dieState_eq hd ▸ h.state, failBit_die t hd ▸ h.fail (dieBit_lt hd), frame_die hd h.frame⟩

theorem ReadBadly.die {d : Nat} {fails : Bool} {s t : State} (hd : d < 12) (h : ReadBadly d fails s t) :
    t.f (F.THM_D_T16 d) = s.f (F.THM_D_T16 d) ∧ (t.f (F.THM_D_STATE d) = 2 ↔ fails = true) ∧ (t.f F.THM_FAIL_DIE).testBit d = fails ∧
      Frame (fun a => a == R.THM_D d || a == R.THM_FAIL) s t :=
  ⟨dieT16_eq hd ▸ h.value, dieState_eq hd ▸ h.state, failBit_die t hd ▸ h.fail (dieBit_lt hd), frame_die hd h.frame⟩

/-- A reading that is none, or out of range, is a bad one. -/
theorem reading_bad {s : State} {d : Nat} {raw : Option Int} {v : Int}
    (h : raw = none ∨ (raw = some v ∧ (trimmed s d v < -640 ∨ 2400 < trimmed s d v))) :
    (raw.map (trimmed s d)).filter (fun t => decide (-640 ≤ t ∧ t ≤ 2400)) = none := by
  rcases h with rfl | ⟨rfl, hout⟩
  · rfl
  · simp only [Option.map_some, Option.filter_some, decide_eq_true_eq]
    exact if_neg (by omega)

theorem good_readWell (s : State) {i : Nat} (hi : i < 32) (clears : Bool) (v : Int) :
    tabAt (s.readWell i clears v).thm.good i 0 = min 16 (tabAt s.thm.good i 0 + 1) :=
  tabAt_tabMod_self s.thm.good _ 0 hi

theorem bad_readWell (s : State) {i : Nat} (hi : i < 32) (v : Int) : tabAt (s.readWell i true v).thm.bad i 0 = 0 :=
  tabAt_tabMod_self s.thm.bad _ 0 hi

theorem readBadly_tabs (s : State) {i : Nat} (hi : i < 32) :
    tabAt (s.readBadly i).thm.good i 0 = 0 ∧ tabAt (s.readBadly i).thm.bad i 0 = min 3 (tabAt s.thm.bad i 0 + 1) :=
  ⟨tabAt_tabMod_self s.thm.good _ 0 hi, tabAt_tabMod_self s.thm.bad _ 0 hi⟩

theorem sensorConversion_eq (s : State) (d : Nat) (raw : Option Int) :
    s.sensorConversion d raw = s.takeReading d (raw.map (trimmed s d)) := rfl

/-- The bus transfer that reads board sensor `b`. -/
def boardAsked (s : State) (b : Nat) : State :=
  s.emit (.i3c (s.f (F.THM_B_CFG_BUS b)) (s.f (F.THM_B_DADDR b)) (leBytes 1 (s.f (F.THM_B_CFG_REGIDX b))))

theorem boardSensorRead_eq {s : State} {b : Nat} (w : Nat) (h : s.sensors.contains (16 + b) = true) : s.boardSensorRead b (some w) =
    (s.boardAsked b).takeReading (16 + b) (some (if s.on (F.THM_B_CFG_FMT b) then sgn 16 w else sgn 16 w / 16)) := by
  simp only [boardSensorRead, h, Bool.not_true, Bool.false_eq_true, if_false, Option.map_some]
  rfl

/-- THM_MASK_SET is written only. -/
theorem write32_maskSet (s : State) (path : Path) (v : Word) :
    s.write32 path R.THM_MASK_SET v = (s.written R.THM_MASK_SET 0xFFFF011F v).maskSet v :=
  write32_written path v (by decide) rfl (hiddenReg_below (by decide)) rfl rfl (by decide) (by decide +kernel)

end State

theorem State.masked_written (s : State) (v : Word) (i : Nat) : (s.written R.THM_MASK_SET 0xFFFF011F v).masked i = s.masked i := by
  rw [State.masked, State.written, State.f_setReg_ne s _ (by decide), State.f_setReg_ne s _ (by decide)]
  rfl

/-- Settles O57: each reading is one of the five ways of `State.takeReading`, and a keyed write flips the mask. -/
theorem sensors : Obligations.Sensors := by
  unfold Obligations.Sensors
  refine ⟨fun d raw v s ha hm => ⟨fun hraw T hT hlo hhi => ⟨fun hbad => ?well, fun hbad hgood => ?mending, fun hbad hgood => ?mended⟩,
    fun hraw => ⟨fun hbad => ?bad, fun hbad => ?fails⟩⟩, fun b w path v s ha => ⟨fun hno => ?absent,
    fun hyes hm hbad T hT hlo hhi => ?board, fun hkey => ?otherKey, fun hkey d hi => ⟨fun hv hm => ?masks, fun hv hm => ?unmasks⟩⟩⟩
  case well =>
    obtain rfl : T = trimmed s d v := hT
    have hread := State.readWell_noteSensor (i := d) (by omega) hlo hhi hm (clears := true) (failed := false) rfl
    obtain ⟨hval, hstate, hfail, hframe⟩ := hread.die d.isLt
    refine completes_awake rfl ha ?_
    rw [State.sensorConversion_eq, hraw, Option.map_some, State.takeReading_well hlo hhi hbad]
    refine ⟨hval, hstate, ?_, ?_, hfail, hread.outs, hframe.sealed⟩
    · rw [State.sealed_thm, hread.thm, State.bad_readWell s (by omega)]
    · rw [State.sealed_thm, hread.thm, State.good_readWell s (by omega)]
  case mending =>
    obtain rfl : T = trimmed s d v := hT
    have hread := State.readWell_noteSensor (i := d) (by omega) hlo hhi hm (clears := false) (failed := true) rfl
    obtain ⟨hval, hstate, -, hframe⟩ := hread.die d.isLt
    refine completes_awake rfl ha ?_
    rw [State.sensorConversion_eq, hraw, Option.map_some, State.takeReading_mending hlo hhi hbad hgood]
    refine ⟨hval, hstate, ?_, hread.outs, hframe.sealed⟩
    rw [State.sealed_thm, hread.thm]
    exact hbad
  case mended =>
    obtain rfl : T = trimmed s d v := hT
    have hread := State.readWell_noteSensor (i := d) (by omega) hlo hhi hm (clears := true) (failed := false) rfl
    obtain ⟨hval, hstate, hfail, hframe⟩ := hread.die d.isLt
    have hD : evReg (R.THM_D d) = false := State.evReg_thm (by simp only [R.THM_D]; omega)
    refine completes_awake rfl ha ?_
    rw [State.sensorConversion_eq, hraw, Option.map_some, State.takeReading_mended hlo hhi hbad hgood hm]
    refine ⟨(State.fS_raise _ 24 hD).trans hval, (State.f_raise _ 24 hD).trans hstate, ?_, State.evBit_raise_self (n := 24) rfl, ?_,
      (hframe.trans (Frame.raise _ _ 24)).sealed⟩
    · rw [State.sealed_thm, State.raise_thm, hread.thm, State.bad_readWell s (by omega)]
    · rw [State.sealed_f, State.f_raise _ 24 rfl]
      exact hfail
  case bad =>
    have hread := State.readBadly_noteSensor (i := d) (by omega) hm false
    obtain ⟨hval, hstate, -, hframe⟩ := hread.die d.isLt
    obtain ⟨hgood, hcount⟩ := s.readBadly_tabs (i := d) (by omega)
    refine completes_awake rfl ha ?_
    rw [State.sensorConversion_eq, State.takeReading_bad (State.reading_bad hraw) hbad]
    refine ⟨hval, ?_, ?_, fun h2 => Bool.false_ne_true (hstate.1 h2), hread.outs, hframe.sealed⟩
    · rw [State.sealed_thm, hread.thm, hcount]
      omega
    · rw [State.sealed_thm, hread.thm, hgood]
  case fails =>
    have hread := State.readBadly_noteSensor (i := d) (by omega) hm true
    obtain ⟨hval, hstate, hfail, hframe⟩ := hread.die d.isLt
    have hD : evReg (R.THM_D d) = false := State.evReg_thm (by simp only [R.THM_D]; omega)
    refine completes_awake rfl ha ?_
    rw [State.sensorConversion_eq, State.takeReading_fails (State.reading_bad hraw) hbad hm]
    refine ⟨(State.f_raise _ 23 hD).trans hval, (State.f_raise _ 23 hD).trans (hstate.2 rfl), ?_, State.evBit_raise_self (n := 23) rfl,
      (hframe.trans (Frame.raise _ _ 23)).sealed⟩
    rw [State.sealed_f, State.f_raise _ 23 rfl]
    exact hfail
  case absent =>
    refine exec_of_effect_self (g := fun s => s.boardSensorRead b (some w.toNat)) rfl ha ?_
    simp only [State.boardSensorRead, hno, Bool.not_false, if_true]
  case board =>
    have hread := State.readWell_noteSensor (s := State.boardAsked s b) (i := 16 + b) (by omega) hlo hhi hm
      (clears := true) (failed := false) rfl
    refine completes_awake (g := fun s => s.boardSensorRead b (some w.toNat)) rfl ha ?_
    rw [State.boardSensorRead_eq _ hyes, ← hT, State.takeReading_well (s := s.boardAsked b) hlo hhi hbad]
    refine ⟨State.boardT16_eq b ▸ hread.value, State.boardState_eq b ▸ hread.state, hread.outs, ?_⟩
    have hframe := hread.frame
    rw [State.boardState_eq] at hframe
    exact ((Frame.emit _ s _).trans hframe).sealed
  case otherKey =>
    refine completes_awake rfl ha ?_
    rw [State.write32_maskSet, State.maskSet_otherKey hkey]
    exact ⟨rfl, (Frame.setReg s _ rfl).sealed⟩
  case masks =>
    have hchange := State.maskChanged_maskSet (s := s.written R.THM_MASK_SET 0xFFFF011F v) (on := true) d.isLt hkey hi hv
      ((State.masked_written s v d).trans hm)
    obtain ⟨hmasked, hstate, hfail, htold, hframe⟩ := hchange
    refine completes_awake rfl ha ?_
    rw [State.write32_maskSet]
    exact ⟨hmasked, hstate.2 rfl, hfail rfl, htold, ((Frame.setReg s _ rfl).trans (hframe.mono fun a h => by simp only [Bool.or_eq_true] at h ⊢; tauto)).sealed⟩
  case unmasks =>
    have hchange := State.maskChanged_maskSet (s := s.written R.THM_MASK_SET 0xFFFF011F v) (on := false) d.isLt hkey hi hv
      ((State.masked_written s v d).trans hm)
    obtain ⟨hmasked, hstate, -, htold, hframe⟩ := hchange
    refine completes_awake rfl ha ?_
    rw [State.write32_maskSet]
    exact ⟨hmasked, fun h3 => Bool.false_ne_true (hstate.1 h3), htold, ((Frame.setReg s _ rfl).trans (hframe.mono fun a h => by simp only [Bool.or_eq_true] at h ⊢; tauto)).sealed⟩

end Sys2Proof.Machine
end

section
/-! SUPPORT. Relations of the thermal layer: what stays but for a few registers, and the sensors that a zone reads (R396). -/

namespace Sys2Proof.Machine

/-- From `s` to `t` the registers outside those that satisfy `own` and those of events hold their words, and no event is forgotten. -/
structure Calm (own : Nat → Bool) (s t : State) : Prop where
  regs : ∀ a, own a = false → evReg a = false → t.reg a = s.reg a
  events : ∀ k, k < 320 → s.evBit k = true → t.evBit k = true

namespace Calm

variable {own own' : Nat → Bool} {s t u : State}

theorem of_regs (h : t.regs = s.regs) : Calm own s t :=
  ⟨fun a _ _ => State.reg_of_regs h a, fun k _ hk => (State.evBit_regs h k).trans hk⟩

theorem refl (own : Nat → Bool) (s : State) : Calm own s s := of_regs rfl

theorem trans (h : Calm own s t) (k : Calm own t u) : Calm own s u :=
  ⟨fun a ho he => (k.regs a ho he).trans (h.regs a ho he), fun n hn hs => k.events n hn (h.events n hn hs)⟩

theorem mono (h : Calm own s t) (hle : ∀ a, own a = true → own' a = true) : Calm own' s t :=
  ⟨fun a ho he => h.regs a (by by_contra hc; rw [hle a (Bool.of_not_eq_false hc)] at ho; cases ho) he, h.events⟩

theorem setF (s : State) {x : Fld} (v : Nat) (h : own x.addr = true) (hx : x.addr < 0x360010) : Calm own s (s.setF x v) :=
  ⟨fun a ho _ => State.reg_setF_ne s v (by rintro rfl; simp [h] at ho), fun k _ hk => (State.evBit_setF_below s v k hx).trans hk⟩

theorem raise (own : Nat → Bool) (s : State) (n : Nat) : Calm own s (s.raise n) :=
  ⟨fun _ _ he => State.reg_raise s n he, fun _ hk => State.evBit_raise_mono n hk⟩

theorem raiseIf (own : Nat → Bool) (s : State) (c : Bool) (n : Nat) : Calm own s (s.raiseIf c n) := by
  cases c
  · exact refl own s
  · exact raise own s n

theorem f_eq (h : Calm own s t) {x : Fld} (ho : own x.addr = false) (he : evReg x.addr = false) : t.f x = s.f x :=
  congrArg x.get (h.regs x.addr ho he)

theorem fS_eq (h : Calm own s t) {x : Fld} (ho : own x.addr = false) (he : evReg x.addr = false) : t.fS x = s.fS x :=
  congrArg x.getS (h.regs x.addr ho he)

end Calm

/-- The bits of the numbers below `n` that satisfy `p`, summed as the zones' bits are. -/
def bitsOf (p : Nat → Bool) (n : Nat) : Nat := ((List.range n).filter p).foldl (fun m z => m + 2 ^ z) 0

theorem bitsOf_succ (p : Nat → Bool) (n : Nat) : bitsOf p (n + 1) = bitsOf p n + if p n then 2 ^ n else 0 := by
  simp only [bitsOf, List.range_succ, List.filter_append, List.foldl_append]
  cases hp : p n <;> simp [hp]

theorem bitsOf_lt (p : Nat → Bool) (n : Nat) : bitsOf p n < 2 ^ n := by
  induction n with
  | zero => simp [bitsOf]
  | succ n ih =>
    rw [bitsOf_succ, Nat.pow_succ]
    split <;> omega

theorem testBit_bitsOf (p : Nat → Bool) {n z : Nat} (h : z < n) : (bitsOf p n).testBit z = p z := by
  induction n with
  | zero => omega
  | succ n ih =>
    have hlt := bitsOf_lt p n
    rw [bitsOf_succ]
    split
    next hp =>
      rw [Nat.add_comm]
      by_cases hz : z = n
      · rw [hz, Nat.testBit_two_pow_add_eq, Nat.testBit_eq_false_of_lt hlt, hp]
        rfl
      · rw [Nat.testBit_two_pow_add_gt (by omega), ih (by omega)]
    next hp =>
      rw [Nat.add_zero]
      by_cases hz : z = n
      · rw [hz, Nat.testBit_eq_false_of_lt hlt, Bool.of_not_eq_true hp]
      · exact ih (by omega)

namespace State

/-! ### The sensors of a zone -/

/-- The registers of the zones. -/
def zoneReg (a : Nat) : Bool := decide (0x20040 ≤ a ∧ a < 0x20060)

theorem zoneReg_false {a : Nat} (h : a < 0x20040 ∨ 0x20060 ≤ a) : zoneReg a = false := by
  rw [zoneReg, decide_eq_false_iff_not]
  omega

/-- From `s` to `t` the sensors and what they show stay. -/
structure SameSensors (s t : State) : Prop where
  calm : Calm zoneReg s t
  found : t.thm.found = s.thm.found

namespace SameSensors

variable {s t u : State}

theorem refl (s : State) : SameSensors s s := ⟨.refl _ s, rfl⟩

theorem trans (h : SameSensors s t) (k : SameSensors t u) : SameSensors s u := ⟨h.calm.trans k.calm, k.found.trans h.found⟩

section
variable (h : SameSensors s t)
include h

theorem reg {a : Nat} (hz : a < 0x20040 ∨ 0x20060 ≤ a) (ha : a < 0x30000) : t.reg a = s.reg a :=
  h.calm.regs a (zoneReg_false hz) (evReg_thm ha)

theorem f {x : Fld} (hz : x.addr < 0x20040 ∨ 0x20060 ≤ x.addr) (ha : x.addr < 0x30000) : t.f x = s.f x :=
  congrArg x.get (h.reg hz ha)

theorem sensors : t.sensors = s.sensors := by
  have htile : t.isTile = s.isTile := congrArg (· == 2) (h.f (x := F.SYS_ROLE_ROLE) (.inl (by decide)) (by decide))
  have hen : ∀ b ∈ List.range 16, (t.on (F.THM_B_CFG_EN b) && t.thm.found.testBit b) = (s.on (F.THM_B_CFG_EN b) && s.thm.found.testBit b) :=
    fun b hb => by
      have hb' := List.mem_range.1 hb
      have := h.f (x := F.THM_B_CFG_EN b) (.inr (by simp only [R.THM_B_CFG]; omega)) (by simp only [R.THM_B_CFG]; omega)
      rw [on, on, this, h.found]
  rw [State.sensors, State.sensors, htile, List.filter_congr hen]

end

end SameSensors

theorem mem_sensors_lt {s : State} {i : Nat} (h : i ∈ s.sensors) : i < 32 := by
  rw [sensors, List.mem_append, List.mem_range] at h
  rcases h with h | h
  · omega
  · split at h
    · obtain ⟨b, hb, rfl⟩ := List.mem_map.1 h
      have := List.mem_range.1 (List.mem_of_mem_filter hb)
      omega
    · cases h

/-- Where the register of a sensor that exists lies. -/
theorem sensorAddr {i : Nat} (h : i < 32) : (sensorState i).addr = (sensorT16 i).addr ∧ 0x20060 ≤ (sensorT16 i).addr ∧
    (sensorT16 i).addr < 0x30000 := by
  rw [sensorState, sensorT16]
  split
  · refine ⟨rfl, ?_, ?_⟩ <;> simp only [R.THM_D] <;> omega
  · refine ⟨rfl, ?_, ?_⟩ <;> simp only [R.THM_B] <;> omega

namespace SameSensors

variable {s t : State} (h : SameSensors s t)
include h

theorem sensorReg {i : Nat} (hi : i < 32) : t.reg (sensorT16 i).addr = s.reg (sensorT16 i).addr :=
  h.reg (.inr (sensorAddr hi).2.1) (sensorAddr hi).2.2

theorem state {i : Nat} (hi : i < 32) : t.f (sensorState i) = s.f (sensorState i) := by
  refine congrArg (sensorState i).get ?_
  rw [(sensorAddr hi).1]
  exact h.sensorReg hi

theorem failed {i : Nat} (hi : i < 32) : t.sensorFailed i = s.sensorFailed i := by rw [sensorFailed, sensorFailed, h.state hi]

theorem zoneOf {i : Nat} (hi : i < 32) : t.zoneOf i = s.zoneOf i := by
  rw [State.zoneOf, State.zoneOf]
  split
  · rfl
  · exact h.f (.inr (by simp only [R.THM_B_CFG]; omega)) (by simp only [R.THM_B_CFG]; omega)

theorem zoneSensors (z : Nat) : t.zoneSensors z = s.zoneSensors z := by
  rw [State.zoneSensors, State.zoneSensors, h.sensors]
  refine List.filter_congr fun i hi => ?_
  rw [h.zoneOf (mem_sensors_lt hi), h.state (mem_sensors_lt hi)]

theorem zoneValid (z : Nat) : t.zoneValid z = s.zoneValid z := by
  rw [State.zoneValid, State.zoneValid, h.zoneSensors]
  refine congrArg _ (List.filter_congr fun i hi => ?_)
  rw [h.failed (mem_sensors_lt (List.mem_of_mem_filter hi))]

theorem zoneValue (z : Nat) : t.zoneValue z = s.zoneValue z := by
  rw [State.zoneValue, State.zoneValue, h.zoneSensors]
  refine congrArg _ (List.map_congr_left fun i hi => ?_)
  have hi' := mem_sensors_lt (List.mem_of_mem_filter hi)
  rw [h.failed hi', State.fS, State.fS, h.sensorReg hi']

theorem threshold (z k : Nat) : t.threshold z k = s.threshold z k := by
  rw [State.threshold, State.threshold, h.reg (.inl (by decide)) (by decide), h.reg (.inl (by decide)) (by decide)]

end SameSensors

theorem zoneValid_lt (s : State) (z : Nat) : s.zoneValid z < 32 := by
  have hlen : s.sensors.length ≤ 28 := by
    rw [sensors, List.length_append, List.length_range]
    split
    · have := List.length_filter_le (fun b => s.on (F.THM_B_CFG_EN b) && s.thm.found.testBit b) (List.range 16)
      rw [List.length_range] at this
      rw [List.length_map]
      omega
    · simp
  have h1 := List.length_filter_le (fun i => !s.sensorFailed i) (s.zoneSensors z)
  have h2 := List.length_filter_le (fun i => s.zoneOf i == z && (s.f (sensorState i) == 1 || s.f (sensorState i) == 2)) s.sensors
  rw [zoneValid]
  rw [zoneSensors] at h1 ⊢
  omega

end State

end Sys2Proof.Machine
end

section
/-! SUPPORT. One sample of a zone (R396): the comparisons, and what a zone's sample leaves of the others. -/

namespace Sys2Proof.Machine

namespace State

/-! ### Comparisons -/

/-- The dwell of comparison `i` is noted. -/
def dwelt (s : State) (i d : Nat) : State := s.setThm fun x => { x with dwell := tabMod x.dwell i fun _ => d }

/-- The result of comparison `k` of a zone is noted. -/
def overPut (s : State) (z k : Nat) (o : Bool) : State :=
  s.setF (F.THM_Z_OVER z) (if o then s.f (F.THM_Z_OVER z) ||| 2 ^ k else
    if s.zoneOver z k then s.f (F.THM_Z_OVER z) - 2 ^ k else s.f (F.THM_Z_OVER z))

/-- A comparison notes its dwell, and its result where that changes. -/
theorem compare_cases (s : State) (z k : Nat) (v : Option Int) :
    ∃ d, s.compare z k v = s.dwelt (3 * z + k) d ∨ ∃ o, s.compare z k v = (s.overPut z k o).dwelt (3 * z + k) d := by
  cases v with
  | none => exact ⟨0, .inr ⟨false, rfl⟩⟩
  | some v =>
    unfold compare
    dsimp only
    generalize (if s.zoneOver z k = true then decide (v ≤ s.threshold z k - 80) else decide (s.threshold z k ≤ v)) = hit
    cases hit
    · exact ⟨0, .inl rfl⟩
    · rw [if_neg (by decide)]
      split
      · exact ⟨_, .inl rfl⟩
      · exact ⟨0, .inr ⟨_, rfl⟩⟩

section compare

variable {s : State} {z k : Nat} {v : Int}

/-- A value at the limit of a comparison that is not over, for the last sample of its time. -/
theorem compare_crosses (hp : s.zoneOver z k = false) (hv : s.threshold z k ≤ v) (hd : tabAt s.thm.dwell (3 * z + k) 0 = 250) :
    s.compare z k (some v) = (s.overPut z k true).dwelt (3 * z + k) 0 := by
  simp only [compare, hp, hd, hv, Bool.false_eq_true, if_false, decide_true, Bool.not_true, Bool.not_false]
  rfl

/-- A value at the limit of a comparison that is not over, for an earlier sample. -/
theorem compare_waits (hp : s.zoneOver z k = false) (hv : s.threshold z k ≤ v) (hd : tabAt s.thm.dwell (3 * z + k) 0 < 250) :
    s.compare z k (some v) = s.dwelt (3 * z + k) (tabAt s.thm.dwell (3 * z + k) 0 + 1) := by
  have hlt : tabAt s.thm.dwell (3 * z + k) 0 + 1 < 251 := by omega
  simp only [compare, hp, hlt, hv, Bool.false_eq_true, if_false, decide_true, Bool.not_true, if_true]
  rfl

/-- A value below the limit of a comparison that is not over. -/
theorem compare_below (hp : s.zoneOver z k = false) (hv : v < s.threshold z k) : s.compare z k (some v) = s.dwelt (3 * z + k) 0 := by
  simp only [compare, hp, decide_eq_false (not_le.2 hv), Bool.false_eq_true, if_false, Bool.not_false, if_true]
  rfl

end compare

theorem over_bits : ∀ m : Fin 8, ∀ k : Fin 3, ∀ j : Fin 3,
    (m.val ||| 2 ^ k.val).testBit j = (m.val.testBit j || decide (j = k)) ∧
    (m.val.testBit k = true → (m.val - 2 ^ k.val).testBit j = (m.val.testBit j && decide (j ≠ k))) := by decide

/-- The result noted for one comparison is that comparison's alone. -/
theorem zoneOver_overPut (s : State) (z : Nat) {k j : Nat} (hk : k < 3) (hj : j < 3) (o : Bool) :
    (s.overPut z k o).zoneOver z j = if j = k then o else s.zoneOver z j := by
  have hlt : s.f (F.THM_Z_OVER z) < 8 := Fld.get_lt (F.THM_Z_OVER z) _
  obtain ⟨hor, hsub⟩ := over_bits ⟨_, hlt⟩ ⟨k, hk⟩ ⟨j, hj⟩
  simp only [Fin.mk.injEq, ne_eq] at hor hsub
  rw [zoneOver, overPut, f_setF_self _ _ _ (Nat.le_of_ble_eq_true rfl), Nat.testBit_mod_two_pow, decide_eq_true hj, Bool.true_and]
  cases o with
  | true =>
    rw [if_pos rfl, hor, zoneOver]
    split <;> simp_all
  | false =>
    rw [if_neg Bool.false_ne_true]
    split
    next hp =>
      rw [hsub hp, zoneOver]
      split <;> simp_all
    next hp =>
      split
      next he => rw [he]; exact Bool.of_not_eq_true hp
      next => rfl

/-- From `s` to `t` nothing changed but zone `z`'s register, its dwells, and what events may change. -/
structure OneZone (z : Nat) (s t : State) : Prop where
  calm : Calm (fun a => a == R.THM_Z z) s t
  found : t.thm.found = s.thm.found
  subst : t.thm.subst = s.thm.subst
  dwell : ∀ j, j / 3 ≠ z → tabAt t.thm.dwell j 0 = tabAt s.thm.dwell j 0
  rps : t.rps = s.rps
  nvs : t.nvs = s.nvs
  mram : t.mram = s.mram

namespace OneZone

variable {z : Nat} {s t u : State}

theorem trans (h : OneZone z s t) (k : OneZone z t u) : OneZone z s u :=
  ⟨h.calm.trans k.calm, k.found.trans h.found, k.subst.trans h.subst, fun j hj => (k.dwell j hj).trans (h.dwell j hj),
    k.rps.trans h.rps, k.nvs.trans h.nvs, k.mram.trans h.mram⟩

theorem setF (s : State) {x : Fld} (v : Nat) (h : x.addr = R.THM_Z z) (hz : z < 8) : OneZone z s (s.setF x v) :=
  ⟨.setF s v (by simp [h]) (by simp only [h, R.THM_Z]; omega), rfl, rfl, fun _ _ => rfl, rfl, rfl, rfl⟩

theorem dwelt (s : State) (k d : Nat) (hk : k < 3) : OneZone z s (s.dwelt (3 * z + k) d) :=
  ⟨.of_regs rfl, rfl, rfl, fun _ hj => tabAt_tabMod_ne s.thm.dwell _ 0 (by omega), rfl, rfl, rfl⟩

theorem raiseIf (s : State) (c : Bool) (n : Nat) : OneZone z s (s.raiseIf c n) :=
  ⟨.raiseIf _ s c n, by rw [raiseIf_thm], by rw [raiseIf_thm], fun _ _ => by rw [raiseIf_thm], raiseIf_rps s c n, raiseIf_nvs s c n,
    raiseIf_mram s c n⟩

theorem compare (s : State) {k : Nat} (v : Option Int) (hz : z < 8) (hk : k < 3) : OneZone z s (s.compare z k v) := by
  obtain ⟨d, h | ⟨o, h⟩⟩ := s.compare_cases z k v
  · rw [h]
    exact .dwelt s k d hk
  · rw [h]
    exact (OneZone.setF s _ rfl hz).trans (.dwelt _ k d hk)

theorem sameSensors (h : OneZone z s t) (hz : z < 8) : SameSensors s t :=
  ⟨h.calm.mono fun a ha => by simp only [beq_iff_eq, R.THM_Z] at ha; rw [zoneReg, decide_eq_true_eq]; omega, h.found⟩

end OneZone

/-- Another comparison of the zone leaves a comparison's result and its dwell. -/
theorem compare_other (s : State) (z : Nat) {k j : Nat} (v : Option Int) (hk : k < 3) (hj : j < 3) (hne : j ≠ k) :
    (s.compare z k v).zoneOver z j = s.zoneOver z j ∧
      tabAt (s.compare z k v).thm.dwell (3 * z + j) 0 = tabAt s.thm.dwell (3 * z + j) 0 ∧
      (s.compare z k v).f (F.THM_Z_NVALID z) = s.f (F.THM_Z_NVALID z) := by
  have hdwell : ∀ (u : State) d, tabAt (u.dwelt (3 * z + k) d).thm.dwell (3 * z + j) 0 = tabAt u.thm.dwell (3 * z + j) 0 :=
    fun u d => tabAt_tabMod_ne u.thm.dwell _ 0 (by omega)
  obtain ⟨d, h | ⟨o, h⟩⟩ := s.compare_cases z k v
  · rw [h]
    exact ⟨rfl, hdwell s d, rfl⟩
  · rw [h]
    refine ⟨?_, hdwell _ d, f_setF_disjoint s _ (Nat.le_of_ble_eq_true rfl) (.inl (Nat.le_refl 19))⟩
    exact (s.zoneOver_overPut z hk hj o).trans (if_neg hne)

/-! ### A zone's sample -/

/-- The zone's value and count are noted. -/
def zoneNoted (s : State) (z : Nat) : State :=
  (s.setF (F.THM_Z_VAL z) (twos 16 (((s.zoneValue z).map (·.2)).getD 0))).setF (F.THM_Z_NVALID z) (s.zoneValid z)

/-- The zone's three comparisons. -/
def zoneCompared (s : State) (z : Nat) : State :=
  (((s.zoneNoted z).compare z 0 ((s.zoneValue z).map (·.2))).compare z 1 ((s.zoneValue z).map (·.2))).compare z 2
    (((s.zoneNoted z).zoneShut z).map (·.2))

theorem zoneStep_eq (s : State) (z : Nat) : s.zoneStep z =
    (((s.zoneCompared z).raiseIf (!(s.zoneNoted z).zoneOver z 0 && (s.zoneCompared z).zoneOver z 0) 16).raiseIf
      ((s.zoneNoted z).zoneOver z 0 && !(s.zoneCompared z).zoneOver z 0) 17).raiseIf
        (!(s.zoneSubst z).all fun i => s.thm.subst.testBit i) 30 := rfl

section zoneStep

variable (s : State) {z : Nat} (hz : z < 8)

theorem zoneNoted_zoneOver (k : Nat) : (s.zoneNoted z).zoneOver z k = s.zoneOver z k := by
  rw [zoneOver, zoneNoted, f_setF_disjoint (x := F.THM_Z_NVALID z) (y := F.THM_Z_OVER z) _ _ (Nat.le_of_ble_eq_true rfl) (.inr (Nat.le_refl 19)),
    f_setF_disjoint (x := F.THM_Z_VAL z) (y := F.THM_Z_OVER z) _ _ (Nat.le_of_ble_eq_true rfl) (.inl (Nat.le_refl 16))]
  rfl

include hz

theorem oneZone_zoneNoted : OneZone z s (s.zoneNoted z) := (OneZone.setF s _ rfl hz).trans (.setF _ _ rfl hz)

theorem oneZone_zoneStep : OneZone z s (s.zoneStep z) := by
  have hcompared : OneZone z s (s.zoneCompared z) :=
    (((s.oneZone_zoneNoted hz).trans (.compare _ _ hz (by decide))).trans (.compare _ _ hz (by decide))).trans (.compare _ _ hz (by decide))
  rw [zoneStep_eq]
  exact ((hcompared.trans (.raiseIf _ _ _)).trans (.raiseIf _ _ _)).trans (.raiseIf _ _ _)

end zoneStep

/-- The warning comparison decides its own result and dwell, and THM_Zz.NVALID counts the valid sensors. -/
theorem zoneCompared_warn (s : State) (z : Nat) :
    (s.zoneCompared z).zoneOver z 0 = ((s.zoneNoted z).compare z 0 ((s.zoneValue z).map (·.2))).zoneOver z 0 ∧
    tabAt (s.zoneCompared z).thm.dwell (3 * z) 0 = tabAt ((s.zoneNoted z).compare z 0 ((s.zoneValue z).map (·.2))).thm.dwell (3 * z) 0 ∧
    (s.zoneCompared z).f (F.THM_Z_NVALID z) = s.zoneValid z := by
  obtain ⟨hover1, hdwell1, hvalid1⟩ := compare_other ((s.zoneNoted z).compare z 0 ((s.zoneValue z).map (·.2))) z
    ((s.zoneValue z).map (·.2)) (k := 1) (j := 0) (by decide) (by decide) (by decide)
  obtain ⟨hover2, hdwell2, hvalid2⟩ := compare_other (((s.zoneNoted z).compare z 0 ((s.zoneValue z).map (·.2))).compare z 1
    ((s.zoneValue z).map (·.2))) z (((s.zoneNoted z).zoneShut z).map (·.2)) (k := 2) (j := 0) (by decide) (by decide) (by decide)
  obtain ⟨-, -, hvalid0⟩ := compare_other (s.zoneNoted z) z ((s.zoneValue z).map (·.2)) (k := 0) (j := 1) (by decide) (by decide)
    (by decide)
  refine ⟨hover2.trans hover1, hdwell2.trans hdwell1, ((hvalid2.trans hvalid1).trans hvalid0).trans ?_⟩
  rw [zoneNoted, f_setF_self _ _ _ (Nat.le_of_ble_eq_true rfl)]
  exact Nat.mod_eq_of_lt (s.zoneValid_lt z)

/-- The events of a zone's sample change nothing that its comparisons note. -/
theorem zoneStep_noted (s : State) {z : Nat} (hz : z < 8) :
    (s.zoneStep z).reg (R.THM_Z z) = (s.zoneCompared z).reg (R.THM_Z z) ∧ (s.zoneStep z).thm = (s.zoneCompared z).thm := by
  have he : evReg (R.THM_Z z) = false := evReg_thm (by simp only [R.THM_Z]; omega)
  rw [zoneStep_eq, reg_raiseIf _ _ _ he, reg_raiseIf _ _ _ he, reg_raiseIf _ _ _ he, raiseIf_thm, raiseIf_thm, raiseIf_thm]
  exact ⟨rfl, rfl⟩

/-- A zone whose warning begins raises event 16. -/
theorem zoneStep_warns (s : State) {z : Nat} (h0 : s.zoneOver z 0 = false) (h1 : (s.zoneCompared z).zoneOver z 0 = true) :
    (s.zoneStep z).evBit 16 = true := by
  rw [zoneStep_eq, zoneNoted_zoneOver, h0, h1]
  have h16 : (((s.zoneCompared z).raiseIf (!false && true) 16)).evBit 16 = true := evBit_raise_self (n := 16) rfl
  exact (Calm.raiseIf (fun _ => false) _ _ _).events 16 (by decide) ((Calm.raiseIf (fun _ => false) _ _ _).events 16 (by decide) h16)

/-- What a sample of a zone leaves, as far as its warning goes. -/
structure ZoneSampled (z : Nat) (s t : State) : Prop where
  valid : t.f (F.THM_Z_NVALID z) = s.zoneValid z
  crosses : ∀ i v, s.zoneValue z = some (i, v) → s.zoneOver z 0 = false → s.threshold z 0 ≤ v →
    tabAt s.thm.dwell (3 * z) 0 = 250 → t.zoneOver z 0 = true ∧ t.evBit 16 = true
  waits : ∀ i v, s.zoneValue z = some (i, v) → s.zoneOver z 0 = false → s.threshold z 0 ≤ v →
    tabAt s.thm.dwell (3 * z) 0 < 250 → t.zoneOver z 0 = false ∧ tabAt t.thm.dwell (3 * z) 0 = tabAt s.thm.dwell (3 * z) 0 + 1
  below : ∀ i v, s.zoneValue z = some (i, v) → s.zoneOver z 0 = false → v < s.threshold z 0 →
    t.zoneOver z 0 = false ∧ tabAt t.thm.dwell (3 * z) 0 = 0

theorem zoneSampled_zoneStep (s : State) {z : Nat} (hz : z < 8) : ZoneSampled z s (s.zoneStep z) := by
  obtain ⟨hover, hdwell, hvalid⟩ := s.zoneCompared_warn z
  obtain ⟨hreg, hthm⟩ := s.zoneStep_noted hz
  have hover' : (s.zoneStep z).zoneOver z 0 = (s.zoneCompared z).zoneOver z 0 :=
    congrArg (fun w => ((F.THM_Z_OVER z).get w).testBit 0) hreg
  have hsame := (s.oneZone_zoneNoted hz).sameSensors hz
  have hnoted : (s.zoneNoted z).zoneOver z 0 = s.zoneOver z 0 := s.zoneNoted_zoneOver 0
  have hput : ∀ d, tabAt ((s.zoneNoted z).dwelt (3 * z + 0) d).thm.dwell (3 * z) 0 = d := fun d =>
    tabAt_tabMod_self _ _ 0 (by omega)
  refine ⟨(congrArg (F.THM_Z_NVALID z).get hreg).trans hvalid, fun i v hval hno hv hd => ?_, fun i v hval hno hv hd => ?_,
    fun i v hval hno hv => ?_⟩
  · have hc := compare_crosses (s := s.zoneNoted z) (z := z) (k := 0) (hnoted.trans hno) (hv := (hsame.threshold z 0).symm ▸ hv) hd
    rw [hval, Option.map_some, hc] at hover
    have hyes : (s.zoneCompared z).zoneOver z 0 = true := hover.trans (zoneOver_overPut _ z (by decide) (by decide) true)
    exact ⟨hover'.trans hyes, s.zoneStep_warns hno hyes⟩
  · have hc := compare_waits (s := s.zoneNoted z) (z := z) (k := 0) (hnoted.trans hno) (hv := (hsame.threshold z 0).symm ▸ hv) hd
    rw [hval, Option.map_some, hc] at hover hdwell
    exact ⟨hover'.trans (hover.trans (hnoted.trans hno)), by rw [hthm, hdwell, hput]; rfl⟩
  · have hc := compare_below (s := s.zoneNoted z) (z := z) (k := 0) (hnoted.trans hno) (hv := (hsame.threshold z 0).symm ▸ hv)
    rw [hval, Option.map_some, hc] at hover hdwell
    exact ⟨hover'.trans (hover.trans (hnoted.trans hno)), by rw [hthm, hdwell, hput]⟩

/-! ### The sample of all zones -/

/-- From `s` to `t` some of the zones have been sampled. -/
structure ZonesOnly (s t : State) : Prop where
  same : SameSensors s t
  rps : t.rps = s.rps
  nvs : t.nvs = s.nvs
  mram : t.mram = s.mram

theorem ZonesOnly.refl (s : State) : ZonesOnly s s := ⟨.refl s, rfl, rfl, rfl⟩

theorem ZonesOnly.step {s t : State} {z : Nat} (h : ZonesOnly s t) (hz : z < 8) : ZonesOnly s (t.zoneStep z) := by
  have hone := t.oneZone_zoneStep hz
  exact ⟨h.same.trans (hone.sameSensors hz), hone.rps.trans h.rps, hone.nvs.trans h.nvs, hone.mram.trans h.mram⟩

/-- The sample of the zones, before what follows from all of them. -/
def zonesSampled (s : State) : State := (List.range 8).foldl zoneStep s

theorem zonesOnly_zonesSampled (s : State) : ZonesOnly s s.zonesSampled :=
  List.foldlRecOn _ _ (motive := ZonesOnly s) (.refl s) fun _ hu _ hz => hu.step (List.mem_range.1 hz)

/-- The sample of another zone leaves a zone's register and dwells. -/
theorem OneZone.other {y z : Nat} {s t : State} (h : OneZone y s t) (hne : y ≠ z) (hz : z < 8) :
    t.reg (R.THM_Z z) = s.reg (R.THM_Z z) ∧ tabAt t.thm.dwell (3 * z) 0 = tabAt s.thm.dwell (3 * z) 0 := by
  refine ⟨h.calm.regs _ ?_ (evReg_thm (by simp only [R.THM_Z]; omega)), h.dwell _ (by omega)⟩
  simp only [R.THM_Z, beq_eq_false_iff_ne]
  omega

theorem ZoneSampled.before {z : Nat} {s u t : State} (h : ZoneSampled z u t) (hs : ZonesOnly s u)
    (hreg : u.reg (R.THM_Z z) = s.reg (R.THM_Z z)) (hd : tabAt u.thm.dwell (3 * z) 0 = tabAt s.thm.dwell (3 * z) 0) :
    ZoneSampled z s t := by
  have hover : u.zoneOver z 0 = s.zoneOver z 0 := congrArg (fun w => ((F.THM_Z_OVER z).get w).testBit 0) hreg
  obtain ⟨hvalid, hcrosses, hwaits, hbelow⟩ := h
  rw [hs.same.zoneValid] at hvalid
  rw [hs.same.zoneValue, hover, hs.same.threshold, hd] at hcrosses hwaits
  rw [hs.same.zoneValue, hover, hs.same.threshold] at hbelow
  exact ⟨hvalid, hcrosses, hwaits, hbelow⟩

theorem ZoneSampled.after {z : Nat} {s t u : State} (h : ZoneSampled z s t) (hreg : u.reg (R.THM_Z z) = t.reg (R.THM_Z z))
    (hd : tabAt u.thm.dwell (3 * z) 0 = tabAt t.thm.dwell (3 * z) 0) (he : ∀ k, k < 320 → t.evBit k = true → u.evBit k = true) :
    ZoneSampled z s u := by
  have hover : u.zoneOver z 0 = t.zoneOver z 0 := congrArg (fun w => ((F.THM_Z_OVER z).get w).testBit 0) hreg
  obtain ⟨hvalid, hcrosses, hwaits, hbelow⟩ := h
  refine ⟨(congrArg (F.THM_Z_NVALID z).get hreg).trans hvalid, fun i v h1 h2 h3 h4 => ?_, ?_, ?_⟩
  · obtain ⟨ho, h16⟩ := hcrosses i v h1 h2 h3 h4
    exact ⟨hover.trans ho, he 16 (by decide) h16⟩
  · rwa [hover, hd]
  · rwa [hover, hd]

theorem zoneSampled_zonesSampled (s : State) {z : Nat} (hz : z < 8) : ZoneSampled z s s.zonesSampled := by
  refine foldl_reaches (x := z) (P := fun u => ZonesOnly s u ∧ u.reg (R.THM_Z z) = s.reg (R.THM_Z z) ∧
      tabAt u.thm.dwell (3 * z) 0 = tabAt s.thm.dwell (3 * z) 0) (Q := ZoneSampled z s)
    (List.mem_range.2 hz) List.nodup_range (fun y hy hne u hu => ?_) (fun u hu => ?_) (fun y hy hne u hu => ?_) ⟨.refl s, rfl, rfl⟩
  · obtain ⟨honly, hreg, hd⟩ := hu
    obtain ⟨hreg', hd'⟩ := (u.oneZone_zoneStep (List.mem_range.1 hy)).other hne hz
    exact ⟨honly.step (List.mem_range.1 hy), hreg'.trans hreg, hd'.trans hd⟩
  · obtain ⟨honly, hreg, hd⟩ := hu
    exact (u.zoneSampled_zoneStep hz).before honly hreg hd
  · have hone := u.oneZone_zoneStep (List.mem_range.1 hy)
    obtain ⟨hreg, hd⟩ := hone.other hne hz
    exact hu.after hreg hd hone.calm.events

end State

end Sys2Proof.Machine
end

section
/-! OBLIGATIONS. Zones, throttle stages and the slot cap (R396, R400 to R406). -/

namespace Sys2Proof.Machine

namespace State

/-! ### What follows a sample of the zones -/

/-- Whether a zone is over its limit rests on the zones' registers alone. -/
theorem anyThrottle_congr {s t : State} (h : ∀ z, z < 8 → t.reg (R.THM_Z z) = s.reg (R.THM_Z z)) : t.anyThrottle = s.anyThrottle := by
  rw [anyThrottle, anyThrottle, Bool.eq_iff_iff, List.any_eq_true, List.any_eq_true]
  refine exists_congr fun z => and_congr_right fun hz => ?_
  rw [show t.zoneOver z 1 = s.zoneOver z 1 from congrArg (fun w => ((F.THM_Z_OVER z).get w).testBit 1) (h z (List.mem_range.1 hz))]

/-- From `s` to `t` the throttle stage has been stepped, or is as it was: STAGE is the only field of THM_STATUS that may differ. -/
structure Staged (s t : State) : Prop where
  calm : Calm (fun a => a == R.THM_STATUS || a == R.FAB_THR || a == R.FMC_STATUS) s t
  status : ∀ x : Fld, x.addr = R.THM_STATUS → 2 ≤ x.lo → t.f x = s.f x
  dwell : t.thm.dwell = s.thm.dwell
  nvs : t.nvs = s.nvs
  mram : t.mram = s.mram
  rps : t.rps = s.rps
  outs : ∀ o, o ∈ s.outs → o ∈ t.outs

namespace Staged

variable {s t u : State}

theorem refl (s : State) : Staged s s := ⟨.refl _ s, fun _ _ _ => rfl, rfl, rfl, rfl, rfl, fun _ h => h⟩

theorem trans (h : Staged s t) (k : Staged t u) : Staged s u :=
  ⟨h.calm.trans k.calm, fun x hx hl => (k.status x hx hl).trans (h.status x hx hl), k.dwell.trans h.dwell, k.nvs.trans h.nvs,
    k.mram.trans h.mram, k.rps.trans h.rps, fun o ho => k.outs o (h.outs o ho)⟩

theorem stage (s : State) (v : Nat) : Staged s (s.setF F.THM_STATUS_STAGE v) :=
  ⟨.setF s v (by decide) (by decide), fun x hx hl => f_setF_disjoint s v (by decide) (.inl hl), rfl, rfl, rfl, rfl, fun _ h => h⟩

theorem other (s : State) {x : Fld} (v : Nat) (h : x.addr = R.FAB_THR ∨ x.addr = R.FMC_STATUS) : Staged s (s.setF x v) := by
  refine ⟨.setF s v ?_ ?_, fun y hy _ => f_setF_ne s v ?_, rfl, rfl, rfl, rfl, fun _ ho => ho⟩
  · rcases h with h | h <;> simp [h]
  · rcases h with h | h <;> rw [h] <;> decide
  · rcases h with h | h <;> rw [h, hy] <;> decide

theorem raise (s : State) (n : Nat) : Staged s (s.raise n) :=
  ⟨.raise _ s n, fun x hx _ => f_raise s n (by rw [hx]; rfl), by rw [raise_thm], raise_nvs s n, raise_mram s n, raise_rps s n,
    fun _ ho => mem_outs_raise n ho⟩

theorem setLux (s : State) (g : LuxSt → LuxSt) : Staged s (s.setLux g) :=
  ⟨.of_regs rfl, fun _ _ _ => rfl, rfl, rfl, rfl, rfl, fun _ h => h⟩

theorem setCmt (s : State) (g : CmtSt → CmtSt) : Staged s (s.setCmt g) :=
  ⟨.of_regs rfl, fun _ _ _ => rfl, rfl, rfl, rfl, rfl, fun _ h => h⟩

end Staged

/-- Stage 1 has begun. -/
def stage1Begun (s : State) : State := ((s.luxSpoil.setF F.THM_STATUS_STAGE 1).noteScrub).setCmt fun c => { c with dumpSusp := true }

/-- The stages have ended. -/
def stagesEnded (s : State) : State := (s.setF F.THM_STATUS_STAGE 0).noteScrub

theorem staged_stage1Begun (s : State) : Staged s s.stage1Begun :=
  (((Staged.setLux s _).trans (.stage _ 1)).trans (.other _ _ (.inr rfl))).trans (.setCmt _ _)

theorem staged_stagesEnded (s : State) : Staged s s.stagesEnded := (Staged.stage s 0).trans (.other _ _ (.inr rfl))

theorem staged_bubblesUp (s : State) : Staged s s.bubblesUp := .other s _ (.inl rfl)

theorem staged_stageStep (s : State) (was : Bool) : Staged s (s.stageStep was) := by
  unfold stageStep
  dsimp only
  split
  · exact .refl s
  split
  · exact s.staged_stage1Begun.trans (.raise _ 18)
  split
  · exact s.staged_bubblesUp
  split
  · exact s.staged_stagesEnded.trans (.raise _ 20)
  · exact .refl s

/-- The first zone over its limit starts stage 1 (R400). -/
theorem stageStep_begins {s : State} (was : Bool) (hh : s.rps.held = false) (hs : s.f F.THM_STATUS_STAGE = 0) (ha : s.anyThrottle = true) :
    s.stageStep was = s.stage1Begun.raise 18 := by
  simp only [stageStep, hh, hs, ha, Bool.false_eq_true, if_false, beq_self_eq_true, Bool.and_self, if_true]
  rfl

theorem stage1Begun_stage (s : State) : s.stage1Begun.f F.THM_STATUS_STAGE = 1 := by
  show ((s.luxSpoil.setF F.THM_STATUS_STAGE 1).noteScrub).f F.THM_STATUS_STAGE = 1
  rw [noteScrub, f_setF_ne _ _ (by decide), f_setF_self _ _ _ (by decide)]
  rfl

/-- With nothing over its limit and nothing left to undo the stages end. -/
theorem stageStep_ends {s : State} (was : Bool) (hh : s.rps.held = false) (hs : s.f F.THM_STATUS_STAGE ≠ 0) (ha : s.anyThrottle = false)
    (hr : s.f F.FAB_THR_REQ = 0) (hc : s.f F.THM_SCAPREQ_REQ = 0) : s.stageStep was = s.stagesEnded.raise 20 := by
  simp only [stageStep, hh, ha, hr, hc, Bool.false_eq_true, if_false, Bool.false_and, Bool.not_false, Bool.true_and, bne_iff_ne, hs,
    beq_self_eq_true, Bool.and_true, if_true, ne_eq, not_false_eq_true]
  rfl

/-- With nothing over its limit and bubbles left to undo the stage stays. -/
theorem stageStep_undoing {s : State} (was : Bool) (ha : s.anyThrottle = false) (hr : s.f F.FAB_THR_REQ ≠ 0) : s.stageStep was = s := by
  have hr' : (s.f F.FAB_THR_REQ == 0) = false := beq_eq_false_iff_ne.2 hr
  simp only [stageStep, ha, hr', Bool.false_eq_true, if_false, Bool.false_and, Bool.and_false, ite_self]

/-- The result of the sample is shown in THM_STATUS and THM_HOT. -/
def zonesShown (s : State) : State :=
  let s := s.setThm fun t => { t with subst := ((List.range 8).flatMap s.zoneSubst).foldl (fun m i => m ||| 2 ^ i) 0 }
  ((s.setF F.THM_STATUS_WARN (bitsOf (fun z => s.zoneOver z 0) 8)).setF F.THM_STATUS_THROT (bitsOf (fun z => s.zoneOver z 1) 8)).noteHot.noteMcomp

theorem zoneSample_eq (s : State) (pulse : Bool) :
    s.zoneSample pulse = ((s.zonesSampled.zonesShown.recRepair).stageStep s.anyThrottle).shutdown pulse := rfl

/-- What the showing of the sample leaves. -/
structure Shown (s t : State) : Prop where
  calm : Calm (fun a => a == R.THM_STATUS || a == R.THM_HOT) s t
  stage : t.f F.THM_STATUS_STAGE = s.f F.THM_STATUS_STAGE
  warn : t.f F.THM_STATUS_WARN = bitsOf (fun z => s.zoneOver z 0) 8
  throt : t.f F.THM_STATUS_THROT = bitsOf (fun z => s.zoneOver z 1) 8
  dwell : t.thm.dwell = s.thm.dwell
  rps : t.rps = s.rps
  nvs : t.nvs = s.nvs
  mram : t.mram = s.mram

/-- From `s` to `t` only registers that satisfy `own` changed, and no event was forgotten. -/
structure Noting (own : Nat → Bool) (s t : State) : Prop where
  calm : Calm own s t
  thm : t.thm = s.thm
  rps : t.rps = s.rps
  nvs : t.nvs = s.nvs
  mram : t.mram = s.mram

theorem Noting.trans {own : Nat → Bool} {s t u : State} (h : Noting own s t) (k : Noting own t u) : Noting own s u :=
  ⟨h.calm.trans k.calm, k.thm.trans h.thm, k.rps.trans h.rps, k.nvs.trans h.nvs, k.mram.trans h.mram⟩

theorem Noting.setF {own : Nat → Bool} (s : State) {x : Fld} (v : Nat) (h : own x.addr = true) (hx : x.addr < 0x360010) :
    Noting own s (s.setF x v) := ⟨.setF s v h hx, rfl, rfl, rfl, rfl⟩

theorem noting_noteHot (s : State) : Noting (fun a => a == R.THM_STATUS || a == R.THM_HOT) s s.noteHot :=
  (Noting.setF s _ rfl (by decide)).trans (.setF _ _ rfl (by decide))

theorem noting_noteMcomp (s : State) : Noting (fun a => a == R.THM_STATUS || a == R.THM_HOT) s s.noteMcomp :=
  .setF s _ rfl (by decide)

theorem f_noteHot (s : State) {x : Fld} (h : x.addr ≠ R.THM_HOT) : s.noteHot.f x = s.f x := by
  unfold noteHot
  extract_lets best
  rw [f_setF_ne _ _ h, f_setF_ne _ _ h]

/-- The warning and throttle bits of the zones are noted. -/
def limitsNoted (s : State) : State :=
  (s.setF F.THM_STATUS_WARN (bitsOf (fun z => s.zoneOver z 0) 8)).setF F.THM_STATUS_THROT (bitsOf (fun z => s.zoneOver z 1) 8)

theorem shown_zonesShown (s : State) : Shown s s.zonesShown := by
  unfold zonesShown
  extract_lets u
  have hu : u.regs = s.regs := rfl
  have hdwell : u.thm.dwell = s.thm.dwell := rfl
  have hrps : u.rps = s.rps := rfl
  have hnvs : u.nvs = s.nvs := rfl
  have hmram : u.mram = s.mram := rfl
  have hover : ∀ k, (fun z => u.zoneOver z k) = fun z => s.zoneOver z k := fun k => rfl
  have hstage : u.f F.THM_STATUS_STAGE = s.f F.THM_STATUS_STAGE := rfl
  clear_value u
  show Shown s u.limitsNoted.noteHot.noteMcomp
  have hlimits : Noting (fun a => a == R.THM_STATUS || a == R.THM_HOT) u u.limitsNoted :=
    (Noting.setF u _ rfl (by decide)).trans (.setF _ _ rfl (by decide))
  have hnote := (hlimits.trans (noting_noteHot _)).trans (noting_noteMcomp _)
  refine ⟨(Calm.of_regs hu).trans hnote.calm, ?_, ?_, ?_, (congrArg ThmSt.dwell hnote.thm).trans hdwell, hnote.rps.trans hrps,
    hnote.nvs.trans hnvs, hnote.mram.trans hmram⟩
  · rw [noteMcomp, f_setF_disjoint _ _ (by decide) (.inr (by decide)), f_noteHot _ (by decide), limitsNoted,
      f_setF_disjoint _ _ (by decide) (.inr (by decide)), f_setF_disjoint _ _ (by decide) (.inr (by decide)), hstage]
  · rw [noteMcomp, f_setF_disjoint _ _ (by decide) (.inl (by decide)), f_noteHot _ (by decide), limitsNoted,
      f_setF_disjoint _ _ (by decide) (.inr (by decide)), f_setF_self _ _ _ (by decide), hover]
    exact Nat.mod_eq_of_lt (bitsOf_lt _ 8)
  · rw [noteMcomp, f_setF_disjoint _ _ (by decide) (.inl (by decide)), f_noteHot _ (by decide), limitsNoted,
      f_setF_self _ _ _ (by decide), hover]
    exact Nat.mod_eq_of_lt (bitsOf_lt _ 8)

/-! ### The repair that waits (R417) -/

/-- What the repair leaves: NVS_STATUS, the jobs and the MRAM apart. -/
structure Repaired (s t : State) : Prop where
  calm : Calm (fun a => a == R.NVS_STATUS) s t
  thm : t.thm = s.thm
  rps : t.rps = s.rps

theorem recRepair_off {s : State} (h : s.on F.NVS_STATUS_REPAIR = false) : s.recRepair = s := by
  simp [recRepair, h]

theorem recRepair_begins {s : State} (h : s.on F.NVS_STATUS_REPAIR = true) (hm : s.mramOk = true) (hj : s.nvs.jobs = []) :
    s.recRepair = ({ s with nvs := { s.nvs with jobs := [{ kind := 3 }] } } : State).recStart := by
  have hm' : s.mramOk = true := hm
  simp only [recRepair, h, hm, hj, List.any_nil, Bool.not_false, Bool.and_self, if_true, recRequest, List.isEmpty_nil, Bool.not_true,
    Bool.false_eq_true, if_false]

/-- The write of a copy that repairs begins with its header. -/
theorem recStart_repair {s : State} (h : s.nvs.jobs = [{ kind := 3 }]) :
    s.recStart = (s.mramWr (recBase s.recTarget) s.recHead).setF F.NVS_STATUS_WBUSY 1 := by
  unfold recStart
  extract_lets u
  have hu : u.nvs.jobs = [{ kind := 3 }] := h
  rw [hu]
  rfl

theorem repaired_withMram (s : State) (n : NvsSt) (m : List Host.Cell) : Repaired s (({ s with nvs := n, mram := m } : State).setF F.NVS_STATUS_WBUSY 1) :=
  ⟨Calm.trans (t := { s with nvs := n, mram := m }) (.of_regs rfl) (Calm.setF (x := F.NVS_STATUS_WBUSY) _ _ rfl (by decide)), rfl, rfl⟩

theorem repaired_recRepair (s : State) : Repaired s s.recRepair := by
  by_cases hr : s.on F.NVS_STATUS_REPAIR = true
  · by_cases hm : s.mramOk = true
    · cases hj : s.nvs.jobs with
      | nil =>
        rw [recRepair_begins hr hm hj, recStart_repair rfl]
        exact repaired_withMram s _ _
      | cons j js =>
        rw [recRepair]
        split
        · simp only [recRequest, hj, List.isEmpty_cons, Bool.not_false, if_true]
          exact ⟨.of_regs rfl, rfl, rfl⟩
        · exact ⟨.refl _ s, rfl, rfl⟩
    · simp only [recRepair, hm, Bool.and_false, Bool.false_and, Bool.false_eq_true, if_false]
      exact ⟨.refl _ s, rfl, rfl⟩
  · rw [recRepair_off (Bool.of_not_eq_true hr)]
    exact ⟨.refl _ s, rfl, rfl⟩

/-! ### A shutdown that waits for an MRAM pulse -/

theorem shutdown_pulse (s : State) : Calm (fun a => a == R.RPS_DEFER) s (s.shutdown true) ∧ (s.shutdown true).thm = s.thm ∧
    (s.shutdown true).nvs = s.nvs ∧ (s.shutdown true).mram = s.mram := by
  unfold shutdown
  split
  · exact ⟨.refl _ s, rfl, rfl, rfl⟩
  · exact ⟨(Calm.setF (x := F.RPS_DEFER_COUNT) s _ rfl (by decide)).trans (.of_regs rfl), rfl, rfl, rfl⟩

/-- What a sample during an MRAM pulse leaves of the zones' registers, the limits shown, and the rest. -/
structure Sampled (s t : State) : Prop where
  zones : ∀ z, z < 8 → ZoneSampled z s t ∧ (t.f F.THM_STATUS_WARN).testBit z = t.zoneOver z 0 ∧
    (t.f F.THM_STATUS_THROT).testBit z = t.zoneOver z 1
  starts : s.rps.held = false → s.f F.THM_STATUS_STAGE = 0 → t.anyThrottle = true → t.f F.THM_STATUS_STAGE = 1 ∧ t.evBit 18 = true
  repairs : s.on F.NVS_STATUS_REPAIR = true → s.nvs.jobs = [] → t.mramOk = true →
    t.nvs.jobs = [{ kind := 3 }] ∧ t.f F.NVS_STATUS_WBUSY = 1
  quiet : s.on F.NVS_STATUS_REPAIR = false → t.reg R.NVS_STATUS = s.reg R.NVS_STATUS ∧ t.nvs = s.nvs ∧ t.mram = s.mram
  others : ∀ a, inBlk .THM a = false → a ≠ R.FAB_THR → a ≠ R.FMC_STATUS → a ≠ R.RPS_DEFER → a ≠ R.NVS_STATUS → evReg a = false →
    t.reg a = s.reg a

/-- A register outside the block of thermal management is none of its. -/
theorem ne_of_inBlk_thm {a b : Nat} (h : inBlk .THM a = false) (hb : inBlk .THM b = true) : a ≠ b := by
  rintro rfl
  rw [h] at hb
  cases hb

theorem zoneReg_of_inBlk_thm {a : Nat} (h : inBlk .THM a = false) : zoneReg a = false := by
  refine zoneReg_false ?_
  rw [inBlk, decide_eq_false_iff_not] at h
  simp only [Blk.base, Blk.extent] at h
  omega

/-- The zones' registers are none but those of the zones. -/
theorem thmZ_ne {z c : Nat} (hz : z < 8) (hc : zoneReg c = false) : R.THM_Z z ≠ c := by
  rintro rfl
  rw [zoneReg, decide_eq_false_iff_not] at hc
  simp only [R.THM_Z] at hc
  omega

/-- Whether MRAM may be written rests on MCOMP and zone 3. -/
theorem mramOk_congr {s t : State} (hm : t.f F.THM_STATUS_MCOMP = s.f F.THM_STATUS_MCOMP) (hz : t.reg (R.THM_Z 3) = s.reg (R.THM_Z 3)) :
    t.mramOk = s.mramOk := by
  have hvalid : t.f (F.THM_Z_NVALID 3) = s.f (F.THM_Z_NVALID 3) := congrArg (F.THM_Z_NVALID 3).get hz
  have hval : t.fS (F.THM_Z_VAL 3) = s.fS (F.THM_Z_VAL 3) := congrArg (F.THM_Z_VAL 3).getS hz
  rw [mramOk, mramOk, on, on, hm, hvalid, hval]

/-- A repair that begins: the job, and WBUSY. -/
theorem recRepair_job {s : State} (h : s.on F.NVS_STATUS_REPAIR = true) (hm : s.mramOk = true) (hj : s.nvs.jobs = []) :
    s.recRepair.nvs.jobs = [{ kind := 3 }] ∧ s.recRepair.f F.NVS_STATUS_WBUSY = 1 := by
  rw [recRepair_begins h hm hj, recStart_repair rfl]
  exact ⟨rfl, f_setF_self _ _ _ (by decide)⟩

theorem sampled_zoneSample (s : State) : Sampled s (s.zoneSample true) := by
  rw [zoneSample_eq]
  have hzones := s.zonesOnly_zonesSampled
  have hzone := fun z hz => s.zoneSampled_zonesSampled (z := z) hz
  generalize s.zonesSampled = u at hzones hzone
  have hshown := shown_zonesShown u
  generalize u.zonesShown = v at hshown
  have hrepair := repaired_recRepair v
  have hstage := v.recRepair.staged_stageStep s.anyThrottle
  obtain ⟨hcalm, hthm, hnvs, hmram⟩ := (v.recRepair.stageStep s.anyThrottle).shutdown_pulse
  generalize hw : v.recRepair.stageStep s.anyThrottle = w at hstage hcalm hthm hnvs hmram
  generalize w.shutdown true = t at hcalm hthm hnvs hmram
  -- what the steps after the sample leave of the zones
  have hzreg' : ∀ z, z < 8 → v.reg (R.THM_Z z) = u.reg (R.THM_Z z) ∧ v.recRepair.reg (R.THM_Z z) = v.reg (R.THM_Z z) ∧
      t.reg (R.THM_Z z) = v.recRepair.reg (R.THM_Z z) := fun z hz => by
    have he : evReg (R.THM_Z z) = false := evReg_thm (by simp only [R.THM_Z]; omega)
    have hne := fun c hc => beq_eq_false_iff_ne.2 (thmZ_ne (c := c) hz hc)
    refine ⟨hshown.calm.regs _ ?_ he, hrepair.calm.regs _ ?_ he, (hcalm.regs _ ?_ he).trans (hstage.calm.regs _ ?_ he)⟩
    · rw [hne R.THM_STATUS rfl, hne R.THM_HOT rfl]; rfl
    · rw [hne R.NVS_STATUS rfl]
    · rw [hne R.RPS_DEFER rfl]
    · rw [hne R.THM_STATUS rfl, hne R.FAB_THR rfl, hne R.FMC_STATUS rfl]; rfl
  have hzreg : ∀ z, z < 8 → t.reg (R.THM_Z z) = u.reg (R.THM_Z z) := fun z hz => by
    obtain ⟨h1, h2, h3⟩ := hzreg' z hz
    rw [h3, h2, h1]
  have hevents : ∀ k, k < 320 → u.evBit k = true → t.evBit k = true := fun k hk h =>
    hcalm.events k hk (hstage.calm.events k hk (hrepair.calm.events k hk (hshown.calm.events k hk h)))
  have hdwell : t.thm.dwell = u.thm.dwell := by rw [hthm, hstage.dwell, hrepair.thm, hshown.dwell]
  have hover : ∀ z k, z < 8 → t.zoneOver z k = u.zoneOver z k := fun z k hz =>
    congrArg (fun w => ((F.THM_Z_OVER z).get w).testBit k) (hzreg z hz)
  have hstatus : ∀ x : Fld, x.addr = R.THM_STATUS → 2 ≤ x.lo → t.f x = v.f x := fun x hx hl => by
    rw [hcalm.f_eq (by rw [hx]; rfl) (by rw [hx]; rfl), hstage.status x hx hl, hrepair.calm.f_eq (by rw [hx]; rfl) (by rw [hx]; rfl)]
  refine ⟨fun z hz => ⟨(hzone z hz).after (hzreg z hz) (by rw [hdwell]) hevents, ?_, ?_⟩, fun hh h0 ha => ?_, fun hr hj hok => ?_,
    fun hr => ?_, fun a hthm hfab hfmc hdef hnvs' he => ?_⟩
  · rw [hstatus _ rfl (by decide), hshown.warn, testBit_bitsOf _ hz, hover z 0 hz]
  · rw [hstatus _ rfl (by decide), hshown.throt, testBit_bitsOf _ hz, hover z 1 hz]
  · have hheld : v.recRepair.rps.held = false := by rw [hrepair.rps, hshown.rps, hzones.rps, hh]
    have hstage0 : v.recRepair.f F.THM_STATUS_STAGE = 0 := by
      rw [hrepair.calm.f_eq rfl rfl, hshown.stage, hzones.same.calm.f_eq rfl rfl, h0]
    have hany : v.recRepair.anyThrottle = true := (anyThrottle_congr fun z hz => (hzreg' z hz).2.2).symm.trans ha
    rw [stageStep_begins _ hheld hstage0 hany] at hw
    rw [hcalm.f_eq rfl rfl, ← hw, f_raise _ 18 rfl, stage1Begun_stage]
    exact ⟨rfl, hcalm.events 18 (by decide) (hw ▸ evBit_raise_self (n := 18) rfl)⟩
  · have hregs : v.reg R.NVS_STATUS = s.reg R.NVS_STATUS := (hshown.calm.regs _ rfl rfl).trans (hzones.same.calm.regs _ rfl rfl)
    have hon : v.on F.NVS_STATUS_REPAIR = true := (congrArg (fun w => F.NVS_STATUS_REPAIR.get w != 0) hregs).trans hr
    have hjobs : v.nvs.jobs = [] := by rw [hshown.nvs, hzones.nvs, hj]
    obtain ⟨-, h2, h3⟩ := hzreg' 3 (by decide)
    have hokv : v.mramOk = true := (mramOk_congr (hstatus F.THM_STATUS_MCOMP rfl (by decide)) (h3.trans h2)).symm.trans hok
    obtain ⟨hjob, hbusy⟩ := recRepair_job hon hokv hjobs
    exact ⟨by rw [hnvs, hstage.nvs, hjob], by rw [hcalm.f_eq rfl rfl, hstage.calm.f_eq rfl rfl, hbusy]⟩
  · have hreg : u.reg R.NVS_STATUS = s.reg R.NVS_STATUS := hzones.same.calm.regs _ rfl rfl
    have hregv : v.reg R.NVS_STATUS = u.reg R.NVS_STATUS := hshown.calm.regs _ rfl rfl
    have hoff : v.recRepair = v := recRepair_off (by
      rw [← hr]
      exact congrArg (fun w => F.NVS_STATUS_REPAIR.get w != 0) (hregv.trans hreg))
    rw [hoff] at hstage
    exact ⟨(hcalm.regs _ rfl rfl).trans ((hstage.calm.regs _ rfl rfl).trans (hregv.trans hreg)),
      hnvs.trans (hstage.nvs.trans (hshown.nvs.trans hzones.nvs)), hmram.trans (hstage.mram.trans (hshown.mram.trans hzones.mram))⟩
  · rw [hcalm.regs a (by simpa using hdef) he, hstage.calm.regs a (by simp [hfab, hfmc, ne_of_inBlk_thm hthm (b := R.THM_STATUS) rfl]) he,
      hrepair.calm.regs a (by simpa using hnvs') he,
      hshown.calm.regs a (by simp [ne_of_inBlk_thm hthm (b := R.THM_STATUS) rfl, ne_of_inBlk_thm hthm (b := R.THM_HOT) rfl]) he,
      hzones.same.calm.regs a (zoneReg_of_inBlk_thm hthm) he]

/-! ### Bubbles and the slot cap -/

theorem bubblesUp_req (s : State) : s.bubblesUp.f F.FAB_THR_REQ = min 48 (s.f F.FAB_THR_REQ + 4) := by
  rw [bubblesUp, f_setF_self _ _ _ (by decide)]
  exact Nat.mod_eq_of_lt (show min 48 (s.f F.FAB_THR_REQ + 4) < 64 by omega)

theorem frame_bubblesUp (s : State) : Frame (fun a => a == R.FAB_THR) s s.bubblesUp := .setF s _ rfl

theorem frame_stagesEnded (s : State) : Frame (fun a => a == R.FAB_THR || a == R.THM_STATUS || a == R.FMC_STATUS) s s.stagesEnded :=
  (Frame.setF s _ rfl).trans (.setF _ _ rfl)

theorem stagesEnded_stage (s : State) : s.stagesEnded.f F.THM_STATUS_STAGE = 0 := by
  rw [stagesEnded, noteScrub, f_setF_ne _ _ (by decide), f_setF_self _ _ _ (by decide)]
  rfl

/-- A request of bubbles or of a cap leaves the zones' registers. -/
theorem anyThrottle_setF (s : State) {x : Fld} (v : Nat) (h : zoneReg x.addr = false) : (s.setF x v).anyThrottle = s.anyThrottle :=
  anyThrottle_congr fun _ hz => reg_setF_ne s v (thmZ_ne hz h)

theorem stage2Start_eq {s : State} (h1 : s.f F.THM_STATUS_STAGE = 1) (ha : s.anyThrottle = true) :
    s.stage2Start = ((s.setF F.THM_STATUS_STAGE 2).raise 19).bubblesUp := by
  simp [stage2Start, h1, ha]

theorem stage2Start_idle {s : State} (h : s.f F.THM_STATUS_STAGE ≠ 1 ∨ s.anyThrottle = false) : s.stage2Start = s := by
  rcases h with h | h <;> simp [stage2Start, h]

theorem bubbleStep_up {s : State} (ha : s.anyThrottle = true) (h2 : s.f F.THM_STATUS_STAGE = 2) : s.bubbleStep = s.bubblesUp := by
  simp [bubbleStep, ha, h2]

theorem bubbleStep_down {s : State} (ha : s.anyThrottle = false) (h0 : s.f F.THM_STATUS_STAGE ≠ 0) (hc : s.f F.THM_SCAPREQ_REQ = 0) :
    s.bubbleStep = (s.setF F.FAB_THR_REQ (s.f F.FAB_THR_REQ - 4)).stageStep false := by
  simp [bubbleStep, ha, h0, hc]

/-- The next lower slot count, of those in use (R402). -/
theorem capSeries_below {k sact : Nat} (h : (k, sact) ∈ [(6, 8), (4, 6), (3, 4), (2, 3), (1, 2)]) :
    capSeries.find? (fun k => decide (k < sact)) = some k ∧ k < 16 := by
  simp only [List.mem_cons, Prod.mk.injEq, List.not_mem_nil, or_false] at h
  rcases h with ⟨rfl, rfl⟩ | ⟨rfl, rfl⟩ | ⟨rfl, rfl⟩ | ⟨rfl, rfl⟩ | ⟨rfl, rfl⟩ <;> decide

theorem slotCapStep_down {s : State} {k : Nat} (ha : s.anyThrottle = true) (h0 : s.f F.THM_STATUS_STAGE ≠ 0)
    (ht : s.on F.FAB_STATUS_THROTTLED = true) (hk : capSeries.find? (fun k => decide (k < s.f F.DSP_STATUS_SACT)) = some k) :
    s.slotCapStep = s.setF F.THM_SCAPREQ_REQ k := by
  simp [slotCapStep, ha, h0, ht, hk]

/-- The cap that a step of release asks for, 0 for none. -/
def capUp (slots req : Nat) : Nat :=
  let up := ((capSeries.filter fun k => decide (req < k)).getLast?).getD 0
  if up = 0 ∨ slots ≤ up then 0 else up

theorem slotCapStep_up {s : State} (ha : s.anyThrottle = false) (h0 : s.f F.THM_STATUS_STAGE ≠ 0) (hr : s.f F.FAB_THR_REQ ≠ 0)
    (hc : s.f F.THM_SCAPREQ_REQ ≠ 0) :
    s.slotCapStep = s.setF F.THM_SCAPREQ_REQ (capUp (s.f F.DSP_MODE_SLOTS) (s.f F.THM_SCAPREQ_REQ)) := by
  have hstep : s.slotCapStep = (s.setF F.THM_SCAPREQ_REQ (capUp (s.f F.DSP_MODE_SLOTS) (s.f F.THM_SCAPREQ_REQ))).stageStep false := by
    simp only [slotCapStep, h0, ha, hc, Bool.false_eq_true, if_false]
    rfl
  rw [hstep, stageStep_undoing _ ((anyThrottle_setF s _ rfl).trans ha) (by rwa [f_setF_ne _ _ (by decide)])]

/-! ### The slot cap (R403) -/

theorem write32_scap (s : State) (path : Path) (w : Word) : s.write32 path R.THM_SCAP w = s.scapWrite w := by
  have hrow : (regRow R.THM_SCAP).map (fun r => r.mask fun f => f.acc == .st) = some 0#32 := by decide +kernel
  obtain ⟨r, hr, hst⟩ := Option.map_eq_some_iff.1 hrow
  have hst' : ∀ u : Word, ¬ (u &&& r.mask fun f => f.acc == .st) ≠ 0 := fun u => by rw [hst, BitVec.and_zero]; exact fun h => h rfl
  rw [write32_active path w (by decide) rfl, liveWrite, hr]
  dsimp only
  rw [hiddenReg_below (by decide), if_neg Bool.false_ne_true, show s.ownWrite R.THM_SCAP w = some (s.scapWrite w) from rfl]
  exact if_neg (hst' _)

/-- What is written to THM_SCAP. -/
def scapEcho (s : State) (w : Word) : State := (s.setF F.THM_SCAP_CAP (F.THM_SCAP_CAP.get w)).setF F.THM_SCAP_FRAME (F.THM_SCAP_FRAME.get w)

theorem scapEcho_fields (s : State) (w : Word) : (s.scapEcho w).f F.THM_SCAP_CAP = F.THM_SCAP_CAP.get w ∧
    (s.scapEcho w).f F.THM_SCAP_FRAME = F.THM_SCAP_FRAME.get w := by
  constructor
  · rw [scapEcho, f_setF_disjoint _ _ (by decide) (.inr (by decide)), f_setF_self _ _ _ (by decide)]
    exact Nat.mod_eq_of_lt (Fld.get_lt F.THM_SCAP_CAP w)
  · rw [scapEcho, f_setF_self _ _ _ (by decide)]
    exact Nat.mod_eq_of_lt (Fld.get_lt F.THM_SCAP_FRAME w)

/-- A cap takes effect at its frame, or late at the first frame that can take it. -/
theorem scapWrite_timed {s : State} {w : Word} {n : Nat} {late : Bool} (hr : s.role ≠ 0) (ht : s.timed = true)
    (h : State.resolve s.frameNow (F.THM_SCAP_FRAME.get w) = some n ∧ s.frameNow + 2 ≤ n ∧ late = false ∨
      (State.resolve s.frameNow (F.THM_SCAP_FRAME.get w)).all (fun m => decide (m < s.frameNow + 2)) = true ∧ n = s.frameNow + 2 ∧
        late = true) : s.scapWrite w = (s.scapEcho w).setThm fun t => { t with scapN := some n, scapLate := late } := by
  unfold scapWrite
  dsimp only
  rw [if_neg hr, ht]
  rcases h with ⟨hn, hlo, rfl⟩ | ⟨hall, rfl, rfl⟩
  · rw [hn, Option.filter_some, decide_eq_true hlo]
    rfl
  · cases hres : State.resolve s.frameNow (F.THM_SCAP_FRAME.get w) with
    | none => rfl
    | some m =>
      rw [hres, Option.all_some, decide_eq_true_eq] at hall
      rw [Option.filter_some, decide_eq_false (by omega)]
      rfl

/-! ### The release from shutdown (R406) -/

theorem shutdownRelease_idle {s : State} (h : s.rps.latch = false ∨ s.rps.autoRel = false) : s.shutdownRelease = s := by
  rcases h with h | h <;> simp [shutdownRelease, h]

theorem shutdownRelease_eq {s : State} (hl : s.rps.latch = true) (ha : s.rps.autoRel = true)
    (hcool : ∀ z, z < 4 → s.zoneSubst z = [] ∧ (s.zoneShut z).any (fun p => decide (p.2 ≤ 16 * 103)) = true) :
    s.shutdownRelease = (s.setRps fun r => { r with latch := false, owed := r.owed ++ [27] }).releaseReset := by
  have hall : (List.range 4).all (fun z => (s.zoneSubst z).isEmpty && (s.zoneShut z).any fun x => decide (x.2 ≤ 16 * 103)) = true := by
    rw [List.all_eq_true]
    intro z hz
    obtain ⟨hsub, hshut⟩ := hcool z (List.mem_range.1 hz)
    rw [hsub, hshut]
    rfl
  simp only [shutdownRelease, hl, ha, hall, Bool.not_true, Bool.or_self, Bool.false_eq_true, if_false]

end State

/-- Settles O58: a sample is that of each zone and what follows from all (`State.sampled_zoneSample`); stages, bubbles and the cap step by
their own rules. -/
theorem zonesThrottlingAndSlotCap : Obligations.ZonesThrottlingAndSlotCap := by
  unfold Obligations.ZonesThrottlingAndSlotCap
  refine ⟨fun s ha => ?sample, fun s ha => ⟨fun h => ?idle, fun h1 hany => ?stage2, fun hany h2 => ?up,
    fun hany h0 hc => ⟨fun hr => ?down, fun hr hh => ?ends⟩, fun hany h0 ht k hk => ?capDown,
    fun hany h0 hr h4 => ⟨fun hc => ?capUp, fun hc => ?capGone⟩, fun h0 => ?capIdle⟩,
    fun path v s ha => ⟨fun hrole ht n late h => ?scap, fun h => ?noRelease, fun hl hauto hcool => ?release⟩⟩
  case sample =>
    obtain ⟨hzones, hstarts, hrepairs, hquiet, hothers⟩ := s.sampled_zoneSample
    refine completes_awake (g := fun s => s.zoneSample true) rfl ha ⟨fun z hz => ?_, fun z i v hz hval hno => ?_, hstarts, hrepairs, hquiet,
      hothers⟩
    · obtain ⟨hzone, hwarn, hthrot⟩ := hzones z hz
      exact ⟨hzone.valid, hwarn, hthrot⟩
    · obtain ⟨hzone, -, -⟩ := hzones z hz
      exact ⟨hzone.crosses i v hval hno, hzone.waits i v hval hno, hzone.below i v hval hno⟩
  case idle => exact exec_of_effect_self (g := State.stage2Start) rfl ha (State.stage2Start_idle h)
  case stage2 =>
    refine completes_awake (g := State.stage2Start) rfl ha ?_
    rw [State.stage2Start_eq h1 hany]
    generalize hu : (s.setF F.THM_STATUS_STAGE 2).raise 19 = u
    have hframe : Frame (fun a => a == R.THM_STATUS || a == R.FAB_THR) s u := hu ▸ (Frame.setF s _ rfl).trans (Frame.raise _ _ 19)
    have hreq : u.f F.FAB_THR_REQ = s.f F.FAB_THR_REQ := by
      rw [← hu, State.f_raise _ 19 rfl, State.f_setF_ne _ _ (by decide)]
    refine ⟨?_, ?_, ?_, (hframe.trans (Frame.setF u _ rfl)).sealed⟩
    · rw [State.sealed_f, State.bubblesUp, State.f_setF_ne _ _ (by decide), ← hu, State.f_raise _ 19 rfl,
        State.f_setF_self _ _ _ (by decide)]
      rfl
    · exact (Calm.setF (own := fun a => a == R.FAB_THR) u _ rfl (by decide)).events 19 (by decide) (hu ▸ State.evBit_raise_self (n := 19) rfl)
    · rw [State.sealed_f, State.bubblesUp_req, hreq]
  case up =>
    refine completes_awake (g := State.bubbleStep) rfl ha ?_
    rw [State.bubbleStep_up hany h2]
    exact ⟨s.bubblesUp_req, s.frame_bubblesUp.sealed⟩
  case down =>
    have hlt : s.f F.FAB_THR_REQ < 64 := Fld.get_lt F.FAB_THR_REQ _
    have hreq : (s.setF F.FAB_THR_REQ (s.f F.FAB_THR_REQ - 4)).f F.FAB_THR_REQ = s.f F.FAB_THR_REQ - 4 :=
      (State.f_setF_self s F.FAB_THR_REQ _ (by decide)).trans (Nat.mod_eq_of_lt (show s.f F.FAB_THR_REQ - 4 < 64 by omega))
    refine completes_awake (g := State.bubbleStep) rfl ha ?_
    rw [State.bubbleStep_down hany h0 hc, State.stageStep_undoing _ ((State.anyThrottle_setF s _ rfl).trans hany) (by rw [hreq]; omega)]
    exact ⟨hreq, (Frame.setF s _ rfl).sealed⟩
  case ends =>
    have hsub : s.f F.FAB_THR_REQ - 4 = 0 := by omega
    generalize hu : s.setF F.FAB_THR_REQ 0 = u
    have hreq : u.f F.FAB_THR_REQ = 0 := hu ▸ State.f_setF_self s F.FAB_THR_REQ 0 (by decide)
    have hframe : Frame (fun a => a == R.FAB_THR || a == R.THM_STATUS || a == R.FMC_STATUS) s u := hu ▸ Frame.setF s _ rfl
    have hcapu : u.f F.THM_SCAPREQ_REQ = 0 := by rw [← hu, State.f_setF_ne _ _ (by decide), hc]
    have hstageu : u.f F.THM_STATUS_STAGE ≠ 0 := by rwa [← hu, State.f_setF_ne _ _ (by decide)]
    have hanyu : u.anyThrottle = false := by rw [← hu, State.anyThrottle_setF s _ rfl, hany]
    refine completes_awake (g := State.bubbleStep) rfl ha ?_
    rw [State.bubbleStep_down hany h0 hc, hsub, hu, State.stageStep_ends (s := u) false (hu ▸ hh) hstageu hanyu hreq hcapu]
    refine ⟨?_, ?_, State.evBit_raise_self (n := 20) rfl, ((hframe.trans u.frame_stagesEnded).trans (Frame.raise _ _ 20)).sealed⟩
    · rw [State.sealed_f, State.f_raise _ 20 rfl, State.stagesEnded, State.noteScrub, State.f_setF_ne _ _ (by decide),
        State.f_setF_ne _ _ (by decide), hreq]
    · rw [State.sealed_f, State.f_raise _ 20 rfl, State.stagesEnded_stage]
  case capDown =>
    obtain ⟨hfind, hlt⟩ := State.capSeries_below hk
    refine completes_awake (g := State.slotCapStep) rfl ha ?_
    rw [State.slotCapStep_down hany h0 ht hfind]
    exact ⟨(State.f_setF_self s F.THM_SCAPREQ_REQ k (by decide)).trans (Nat.mod_eq_of_lt hlt), (Frame.setF s _ rfl).sealed⟩
  case capUp =>
    refine completes_awake (g := State.slotCapStep) rfl ha ?_
    rw [State.slotCapStep_up hany h0 hr (by omega), h4, hc]
    exact ⟨State.f_setF_self s F.THM_SCAPREQ_REQ _ (by decide), (Frame.setF s _ rfl).sealed⟩
  case capGone =>
    refine completes_awake (g := State.slotCapStep) rfl ha ?_
    rw [State.slotCapStep_up hany h0 hr (by omega), h4, hc]
    exact ⟨State.f_setF_self s F.THM_SCAPREQ_REQ _ (by decide), (Frame.setF s _ rfl).sealed⟩
  case capIdle => exact exec_of_effect_self (g := State.slotCapStep) rfl ha (by simp [State.slotCapStep, h0])
  case scap =>
    obtain ⟨hcap, hframe⟩ := s.scapEcho_fields v
    refine completes_awake (g := fun s => s.write32 path R.THM_SCAP v) rfl ha ?_
    rw [State.write32_scap, State.scapWrite_timed hrole ht h]
    exact ⟨hcap, hframe, rfl, (((Frame.setF s _ rfl).trans (Frame.setF _ _ rfl)).trans (Frame.setThm _ _ _)).sealed⟩
  case noRelease => exact exec_of_effect_self (g := State.shutdownRelease) rfl ha (State.shutdownRelease_idle h)
  case release =>
    refine completes_awake (g := State.shutdownRelease) rfl ha ?_
    rw [State.shutdownRelease_eq hl hauto hcool, State.releaseReset]
    generalize hu : (s.setRps fun r => { r with latch := false, owed := r.owed ++ [27] }).startBringup = u
    have hrps : u.rps = { s.rps with latch := false, owed := s.rps.owed ++ [27], held := false, released := s.clk.now } := by
      rw [← hu]
      rfl
    have hbring : u.f F.RPS_BOOT_STAGE = 1 := by
      rw [← hu]
      simp (disch := decide) only [State.startBringup, State.emit_f, State.f_setF_ne, State.f_setF_disjoint, State.f_setF_self]
      rfl
    have hon : .pwrEn true ∈ u.outs := by
      rw [← hu]
      exact List.mem_append_right _ (List.mem_singleton_self _)
    have hstage := u.staged_stageStep false
    refine ⟨?_, ?_, (hstage.calm.f_eq rfl rfl).trans hbring, ?_, hstage.outs _ hon⟩
    · rw [State.sealed_rps, hstage.rps, hrps]
    · rw [State.sealed_rps, hstage.rps, hrps]
    · rw [State.sealed_rps, hstage.rps, hrps]
      exact List.mem_append_right _ (List.mem_singleton_self _)

end Sys2Proof.Machine
end

section
/-! OBLIGATIONS. Mailbox messages and their answers (R355, R356). -/

namespace Sys2Proof.Machine

theorem Frame.setMgt (own : Nat → Bool) (s : State) (g : MgtSt → MgtSt) : Frame own s (s.setMgt g) :=
  ⟨fun _ _ _ => rfl, rfl, rfl, fun _ => rfl, fun _ => rfl, fun _ => rfl, fun _ => rfl⟩

namespace State

theorem f_bump_self (s : State) {x : Fld} (h : x.lo + x.width ≤ 32) : (s.bump x).f x = (s.f x + 1) % 2 ^ x.width :=
  f_setF_self s x _ h

/-- A field that a command's last write gives, as its step answers it. -/
theorem f_sealed_setF (s t : State) (x : Fld) {v w : Nat} (h : x.lo + x.width ≤ 32) (hv : v % 2 ^ x.width = w := by rfl) :
    (s.sealed (t.setF x v)).f x = w := by
  rw [sealed_f, f_setF_self _ _ _ h, hv]

/-! ### A message sent through a window -/

/-- The words of the message that a window holds. -/
def windowWords (s : State) (p : Nat) : List Word :=
  (List.range (Msg.lenOf (s.reg (R.MGT_MW_BUF p 0)).toNat)).map fun i => s.reg (R.MGT_MW_BUF p i)

theorem windowWords_header (s : State) (p : Nat) : (s.windowWords p)[0]? = some (s.reg (R.MGT_MW_BUF p 0)) := by
  rw [windowWords, List.getElem?_map, List.getElem?_range (by rw [Msg.lenOf]; omega)]
  rfl

/-- The message of a window as its core's queue holds it. -/
def windowMsg (s : State) (p : Nat) : Msg := { path := p, words := s.windowWords p, ref := p }

/-- The core that a message is for is noted. -/
def sendNoted (s : State) (p c : Nat) : State := s.setF (F.MGT_MW_SEND_CORE p) c

section mailboxSend

variable {s : State} {p c : Nat}

theorem sendNoted_f {x : Fld} (v : Nat) (h : x.addr ≠ R.MGT_MW_SEND p) : (s.sendNoted p v).f x = s.f x := f_setF_ne s v h

theorem mailboxSend_waits (h : s.f (F.MGT_MW_STAT_SST p) = 1 ∨ s.f (F.MGT_MW_STAT_SST p) = 2) : s.mailboxSend p c = s.sendNoted p c := by
  have hsst : (s.sendNoted p c).f (F.MGT_MW_STAT_SST p) = s.f (F.MGT_MW_STAT_SST p) :=
    sendNoted_f c (by simp only [R.MGT_MW_STAT, R.MGT_MW_SEND]; omega)
  rw [mailboxSend]
  dsimp only
  rw [show s.setF (F.MGT_MW_SEND_CORE p) c = s.sendNoted p c from rfl, hsst, if_pos h]

theorem mailboxSend_free (h : ¬ (s.f (F.MGT_MW_STAT_SST p) = 1 ∨ s.f (F.MGT_MW_STAT_SST p) = 2)) :
    s.mailboxSend p c = (((s.sendNoted p c).mailboxIn c ((s.sendNoted p c).windowMsg p)).2).setF (F.MGT_MW_STAT_SST p)
      (if ((s.sendNoted p c).mailboxIn c ((s.sendNoted p c).windowMsg p)).1 then 1 else 3) := by
  have hsst : (s.sendNoted p c).f (F.MGT_MW_STAT_SST p) = s.f (F.MGT_MW_STAT_SST p) :=
    sendNoted_f c (by simp only [R.MGT_MW_STAT, R.MGT_MW_SEND]; omega)
  rw [mailboxSend]
  dsimp only
  rw [show s.setF (F.MGT_MW_SEND_CORE p) c = s.sendNoted p c from rfl, hsst, if_neg h]
  rfl

end mailboxSend

theorem mailboxIn_room {s : State} {c : Nat} (m : Msg) (h : (s.mbox c).length < 8) :
    s.mailboxIn c m = (true, s.setMbox c (s.mbox c ++ [m])) := if_pos h

theorem mailboxIn_full {s : State} {c : Nat} (m : Msg) (h : 8 ≤ (s.mbox c).length) :
    s.mailboxIn c m = (false, (s.bump (F.MGT_MB_OVF_COUNT c)).raise 50) := if_neg (Nat.not_lt.2 h)

theorem mailboxSend_room {s : State} {p c : Nat} (h : ¬ (s.f (F.MGT_MW_STAT_SST p) = 1 ∨ s.f (F.MGT_MW_STAT_SST p) = 2))
    (hroom : (s.mbox c).length < 8) : s.mailboxSend p c =
      ((s.sendNoted p c).setMbox c (s.mbox c ++ [(s.sendNoted p c).windowMsg p])).setF (F.MGT_MW_STAT_SST p) 1 := by
  rw [mailboxSend_free h, mailboxIn_room (s := s.sendNoted p c) _ hroom]
  rfl

theorem mailboxSend_full {s : State} {p c : Nat} (h : ¬ (s.f (F.MGT_MW_STAT_SST p) = 1 ∨ s.f (F.MGT_MW_STAT_SST p) = 2))
    (hfull : 8 ≤ (s.mbox c).length) : s.mailboxSend p c =
      (((s.sendNoted p c).bump (F.MGT_MB_OVF_COUNT c)).raise 50).setF (F.MGT_MW_STAT_SST p) 3 := by
  rw [mailboxSend_free h, mailboxIn_full (s := s.sendNoted p c) _ hfull]
  rfl

theorem setMbox_mbox (s : State) {c : Nat} (q : List Msg) (h : c < 4) : (s.setMbox c q).mbox c = q :=
  tabAt_tabMod_self s.mgt.queues _ [] h

/-- The queues lie in the cores' own state. -/
theorem mbox_congr {s t : State} (h : t.mgt = s.mgt) (c : Nat) : t.mbox c = s.mbox c := congrArg (fun g : MgtSt => tabAt g.queues c []) h

theorem setMbox_level (s : State) {c : Nat} {q : List Msg} (h : q.length < 16) : (s.setMbox c q).f (F.MGT_MB_STAT_LEVEL c) = q.length := by
  rw [setMbox, f_setF_self _ _ _ (Nat.le_of_ble_eq_true rfl)]
  exact Nat.mod_eq_of_lt h

theorem frame_setMbox (own : Nat → Bool) (s : State) {c : Nat} (q : List Msg) (h : own (R.MGT_MB_STAT c) = true) :
    Frame own s (s.setMbox c q) := (Frame.setMgt own s _).trans (.setF _ _ h)

/-- The registers of the management block that lie below the events'. -/
theorem evReg_mgt {a : Nat} (h : a < 0x50000) : evReg a = false := by
  simp only [evReg, R.CMC_EVDROP, Bool.or_eq_false_iff, decide_eq_false_iff_not, beq_eq_false_iff_ne]
  omega

/-- A message that finds room in its core's queue. -/
theorem mailboxSend_queued {s : State} {p c : Nat} (hp : p < 2) (hc : c < 4)
    (h : ¬ (s.f (F.MGT_MW_STAT_SST p) = 1 ∨ s.f (F.MGT_MW_STAT_SST p) = 2)) (hroom : (s.mbox c).length < 8) :
    (s.mailboxSend p c).f (F.MGT_MW_STAT_SST p) = 1 ∧ (s.mailboxSend p c).f (F.MGT_MB_STAT_LEVEL c) = (s.mbox c).length + 1 ∧
      (s.mailboxSend p c).mbox c = s.mbox c ++ [(s.sendNoted p c).windowMsg p] ∧
      Frame (fun a => a == R.MGT_MW_SEND p || a == R.MGT_MW_STAT p || a == R.MGT_MB_STAT c) s (s.mailboxSend p c) := by
  rw [mailboxSend_room h hroom]
  generalize hu : (s.sendNoted p c).setMbox c (s.mbox c ++ [(s.sendNoted p c).windowMsg p]) = u
  have hlen : (s.mbox c ++ [(s.sendNoted p c).windowMsg p]).length = (s.mbox c).length + 1 := by
    rw [List.length_append, List.length_singleton]
  have hlevel : u.f (F.MGT_MB_STAT_LEVEL c) = (s.mbox c).length + 1 := by
    rw [← hu, setMbox_level _ (by omega), hlen]
  have hframe : Frame (fun a => a == R.MGT_MW_SEND p || a == R.MGT_MW_STAT p || a == R.MGT_MB_STAT c) s u :=
    hu ▸ (Frame.setF s _ (by simp)).trans (frame_setMbox _ _ _ (by simp))
  refine ⟨f_setF_self u _ _ (Nat.le_of_ble_eq_true rfl), ?_, ?_, hframe.trans (Frame.setF u _ (by simp))⟩
  · rw [f_setF_ne _ _ (by simp only [R.MGT_MB_STAT, R.MGT_MW_STAT]; omega), hlevel]
  · rw [mbox_congr (setF_mgt u _ _) c, ← hu, setMbox_mbox _ _ hc]

/-- A message that finds its core's queue full. -/
theorem mailboxSend_refused {s : State} {p c : Nat} (hp : p < 2) (hc : c < 4)
    (h : ¬ (s.f (F.MGT_MW_STAT_SST p) = 1 ∨ s.f (F.MGT_MW_STAT_SST p) = 2)) (hfull : 8 ≤ (s.mbox c).length) :
    (s.mailboxSend p c).f (F.MGT_MW_STAT_SST p) = 3 ∧
      (s.mailboxSend p c).f (F.MGT_MB_OVF_COUNT c) = (s.f (F.MGT_MB_OVF_COUNT c) + 1) % 2 ^ 32 ∧
      (s.mailboxSend p c).evBit 50 = true ∧ (s.mailboxSend p c).mgt = s.mgt ∧
      Frame (fun a => a == R.MGT_MW_SEND p || a == R.MGT_MW_STAT p || a == R.MGT_MB_OVF c) s (s.mailboxSend p c) := by
  have hovf : evReg (R.MGT_MB_OVF c) = false := evReg_mgt (by simp only [R.MGT_MB_OVF]; omega)
  rw [mailboxSend_full h hfull]
  generalize hu : (s.sendNoted p c).bump (F.MGT_MB_OVF_COUNT c) = u
  have hcount : u.f (F.MGT_MB_OVF_COUNT c) = (s.f (F.MGT_MB_OVF_COUNT c) + 1) % 2 ^ 32 := by
    rw [← hu, f_bump_self _ (Nat.le_of_ble_eq_true rfl), sendNoted_f _ (by simp only [R.MGT_MB_OVF, R.MGT_MW_SEND]; omega)]
  have hframe : Frame (fun a => a == R.MGT_MW_SEND p || a == R.MGT_MW_STAT p || a == R.MGT_MB_OVF c) s u :=
    hu ▸ (Frame.setF s _ (by simp)).trans (.setF _ _ (by simp))
  have hmgt : u.mgt = s.mgt := by
    rw [← hu]
    rfl
  have htold : (u.raise 50).evBit 50 = true := evBit_raise_self rfl
  refine ⟨f_setF_self _ _ _ (Nat.le_of_ble_eq_true rfl), ?_, ?_, (raise_mgt u 50).trans hmgt,
    (hframe.trans (.raise _ u 50)).trans (.setF _ _ (by simp))⟩
  · rw [f_setF_ne _ _ (by simp only [R.MGT_MB_OVF, R.MGT_MW_STAT]; omega), f_raise u 50 hovf, hcount]
  · rwa [evBit_setF_below _ _ _ (by simp only [R.MGT_MW_STAT, R.EVT_STAT]; omega)]

theorem sentWords_header (s : State) (p c : Nat) : ((s.sendNoted p c).windowWords p)[0]? = some (s.reg (R.MGT_MW_BUF p 0)) := by
  rw [windowWords_header, sendNoted, reg_setF_ne s _ (by simp only [R.MGT_MW_BUF, R.MGT_MW_SEND]; omega)]

/-! ### Answers -/

/-- The words of an answer in the response buffer of its window. -/
def answerWords (s : State) (p : Nat) (ws : List Word) : State :=
  (List.range ws.length).foldl (fun s i => s.setReg (R.MGT_MW_RBUF p i) (ws.getD i 0)) s

theorem respond_window {s : State} {m : Msg} (ws : List Word) (h : m.path < 2) (hr : m.ref = m.path) : s.respond m ws =
    ((s.answerWords m.path ws).setF (F.MGT_MW_STAT_RLENW m.path) (ws.length - 1)).setF (F.MGT_MW_STAT_SST m.path) 2 := by
  have hp : m.ref % 2 = m.path := by omega
  rw [respond]
  split
  · omega
  · omega
  · dsimp only
    rw [hp]
    rfl

theorem reg_answerWords_self (s : State) (p : Nat) (ws : List Word) {i : Nat} (h : i < ws.length) :
    (s.answerWords p ws).reg (R.MGT_MW_RBUF p i) = ws.getD i 0 := by
  refine foldl_reaches (x := i) (P := fun _ => True) (Q := fun u => u.reg (R.MGT_MW_RBUF p i) = ws.getD i 0)
    (List.mem_range.2 h) List.nodup_range (fun _ _ _ _ _ => trivial) (fun u _ => reg_setReg_self u _ _) (fun j _ hne u hu => ?_) trivial
  rw [reg_setReg_ne _ _ (by simp only [R.MGT_MW_RBUF]; omega)]
  exact hu

theorem answerWords_mgt (s : State) (p : Nat) (ws : List Word) : (s.answerWords p ws).mgt = s.mgt :=
  List.foldlRecOn _ _ (motive := fun u : State => u.mgt = s.mgt) rfl fun _ h _ _ => h

/-- An answer in a window has the words of Table 16.4. -/
theorem answered_respond {s u : State} {m : Msg} {core : Nat} {q : List Msg} (status : Nat) (extra : List Nat) (h : m.path < 2)
    (hr : m.ref = m.path) (hq : u.mbox core = q) (hlen : extra.length < 1023) :
    Answered core m q (status :: extra) (s.sealed (u.respond m (responseWords m status 0 extra))) := by
  have hws : (responseWords m status 0 extra).length = extra.length + 2 := by simp [responseWords]
  have hrbuf : ∀ i, ((u.respond m (responseWords m status 0 extra)).reg (R.MGT_MW_RBUF m.path i)) =
      (u.answerWords m.path (responseWords m status 0 extra)).reg (R.MGT_MW_RBUF m.path i) := fun i => by
    rw [respond_window _ h hr, reg_setF_ne _ _ (by simp only [R.MGT_MW_RBUF, R.MGT_MW_STAT]; omega),
      reg_setF_ne _ _ (by simp only [R.MGT_MW_RBUF, R.MGT_MW_STAT]; omega)]
  refine ⟨?_, ?_, ?_, ?_, fun i w hw => ?_⟩
  · rw [← hq, respond_window _ h hr]
    exact congrArg (fun g : MgtSt => tabAt g.queues core []) (answerWords_mgt u _ _)
  · rw [sealed_f, respond_window _ h hr, f_setF_self _ _ _ (Nat.le_of_ble_eq_true rfl)]
    rfl
  · rw [sealed_f, respond_window _ h hr,
      f_setF_disjoint (x := F.MGT_MW_STAT_SST m.path) (y := F.MGT_MW_STAT_RLENW m.path) _ _ (Nat.le_of_ble_eq_true rfl)
        (.inl (Nat.le_of_ble_eq_true rfl)), f_setF_self _ _ _ (Nat.le_of_ble_eq_true rfl), hws, List.length_cons]
    exact Nat.mod_eq_of_lt (show extra.length + 2 - 1 < 1024 by omega)
  · show (u.respond m (responseWords m status 0 extra)).reg _ = _
    rw [hrbuf, reg_answerWords_self _ _ _ (by omega), List.length_cons, Nat.add_comm extra.length 1]
    rfl
  · obtain ⟨hi, rfl⟩ := List.getElem?_eq_some_iff.1 hw
    rw [List.length_cons] at hi
    show (u.respond m (responseWords m status 0 extra)).reg _ = _
    rw [hrbuf, reg_answerWords_self _ _ _ (by omega), List.getD_eq_getElem?_getD]
    cases i with
    | zero => simp [responseWords]
    | succ i => simp [responseWords, List.getElem?_eq_getElem (show i < extra.length by omega)]

theorem takeMsg_none {s : State} {c : Nat} (h : s.mbox c = []) : s.takeMsg c = none := by rw [takeMsg, h]

theorem takeMsg_asks {c : Nat} {m : Msg} {q : List Msg} {s : State} (h : Asks c m q s) : s.takeMsg c = some (m, s.setMbox c q) := by
  rw [takeMsg, h.front]
  exact if_neg (by rw [h.free]; exact Bool.false_ne_true)

/-- A core answers the message it takes. -/
theorem answered_asks {c : Nat} {m : Msg} {q : List Msg} {s : State} (h : Asks c m q s) (hc : c < 4) (status : Nat) (extra : List Nat)
    (hlen : extra.length < 1023) : Answered c m q (status :: extra) (s.sealed ((s.setMbox c q).respond m (responseWords m status 0 extra))) :=
  answered_respond status extra h.window.1 h.window.2 (s.setMbox_mbox q hc) hlen

theorem infoPing_asks {c : Nat} {m : Msg} {q : List Msg} {s : State} (h : Asks c m q s) (hs : m.svc = 0) (hm : m.cmd = 1) :
    s.infoPing c = (s.setMbox c q).respond m (responseWords m 0 0 []) := by
  rw [infoPing, takeMsg_asks h]
  exact if_pos ⟨hs, hm⟩

theorem infoVersion_asks {c : Nat} {m : Msg} {q : List Msg} {s : State} (h : Asks c m q s) (hs : m.svc = 0) (hm : m.cmd = 2) :
    s.infoVersion c = (s.setMbox c q).respond m (responseWords m 0 0 ((List.range 4).map fun k => s.f (F.MGT_CORE_VER_VERSION k))) := by
  rw [infoVersion, takeMsg_asks h]
  exact if_pos ⟨hs, hm⟩

theorem unsupportedCommand_asks {c : Nat} {m : Msg} {q : List Msg} {s : State} (h : Asks c m q s) :
    s.unsupportedCommand c = if msgKnown c m then s else (s.setMbox c q).respond m (responseWords m 8 0 []) := by
  rw [unsupportedCommand, takeMsg_asks h]

end State

/-- Settles O53: a send is `State.mailboxIn` of the window's message, and an answer is `State.respond` of the message taken. -/
theorem mailboxes : Obligations.Mailboxes := by
  unfold Obligations.Mailboxes
  refine fun p c m q s ha => ⟨fun hsst => ?waits, fun hsst => ⟨fun hroom => ?room, fun hfull => ?full⟩, ?rack, fun hnone => ?none,
    fun hasks => ⟨fun hs hm => ?ping, fun hs hm => ?version, fun hknown => ?known, fun hknown => ?unknown⟩⟩
  case waits =>
    refine completes_awake (g := fun s => s.mailboxSend p c) rfl ha ?_
    rw [State.mailboxSend_waits hsst]
    exact ⟨rfl, (Frame.setF s _ (by simp)).sealed⟩
  case room =>
    refine completes_awake (g := fun s => s.mailboxSend p c) rfl ha ?_
    obtain ⟨hsst', hlevel, hqueue, hframe⟩ := State.mailboxSend_queued p.isLt c.isLt (by omega) hroom
    generalize s.mailboxSend p c = t at hsst' hlevel hqueue hframe
    exact ⟨hsst', hlevel, ⟨_, hqueue, s.sentWords_header p c⟩, hframe.sealed⟩
  case full =>
    refine completes_awake (g := fun s => s.mailboxSend p c) rfl ha ?_
    obtain ⟨hsst', hcount, htold, hmgt, hframe⟩ := State.mailboxSend_refused p.isLt c.isLt (by omega) hfull
    generalize s.mailboxSend p c = t at hsst' hcount htold hmgt hframe
    exact ⟨hsst', hcount, htold, hmgt, hframe.sealed⟩
  case rack =>
    exact completes_awake (g := fun s => (s.setF (F.MGT_MW_RACK_ACK p) 1).mailboxRack p) rfl ha
      ⟨State.f_sealed_setF _ _ _ (Nat.le_of_ble_eq_true rfl), ((Frame.setF s _ (by simp)).trans (Frame.setF _ _ (by simp))).sealed⟩
  case none =>
    have htake := State.takeMsg_none hnone
    exact ⟨exec_of_effect_self (g := fun s => s.infoPing c) rfl ha (by simp only [State.infoPing, htake]),
      exec_of_effect_self (g := fun s => s.infoVersion c) rfl ha (by simp only [State.infoVersion, htake]),
      exec_of_effect_self (g := fun s => s.unsupportedCommand c) rfl ha (by simp only [State.unsupportedCommand, htake])⟩
  case ping =>
    refine completes_awake (g := fun s => s.infoPing c) rfl ha ?_
    rw [State.infoPing_asks hasks hs hm]
    exact State.answered_asks hasks c.isLt 0 [] (by decide)
  case version =>
    refine completes_awake (g := fun s => s.infoVersion c) rfl ha ?_
    rw [State.infoVersion_asks hasks hs hm]
    exact State.answered_asks hasks c.isLt 0 _ (by simp)
  case known =>
    refine exec_of_effect_self (g := fun s => s.unsupportedCommand c) rfl ha ?_
    rw [State.unsupportedCommand_asks hasks, if_pos hknown]
  case unknown =>
    refine completes_awake (g := fun s => s.unsupportedCommand c) rfl ha ?_
    rw [State.unsupportedCommand_asks hasks, if_neg (by rw [hknown]; exact Bool.false_ne_true)]
    exact State.answered_asks hasks c.isLt 8 [] (by decide)

end Sys2Proof.Machine
end

section
/-! OBLIGATIONS. The Goose's verdict and the watchdogs (R337, R338, R354). -/

namespace Sys2Proof.Machine

namespace State

/-! ### What a core reset leaves of the events -/

/-- The registers that a reset of cores may change. -/
def coreReg (a : Nat) : Bool :=
  a == R.MGT_STATUS || a == R.MGT_SESS || a == R.MGT_SESS_BYTES || a == R.FAB_STATUS || a == R.THM_STATUS || a == R.RPS_CAUSE ||
    a == R.RPS_LAST

theorem calm_sessionGone (s : State) : Calm coreReg s s.sessionGone := by
  have hreg : ∀ (u : State) {a : Nat} (v : Word), coreReg a = true → a < 0x360010 → Calm coreReg u (u.setReg a v) := fun u a v ha hlt =>
    ⟨fun b hb _ => reg_setReg_ne u v (by rintro rfl; rw [ha] at hb; cases hb), fun k hk h => by
      rwa [evBit, reg_setReg_ne u v (by simp only [R.EVT_STAT]; omega)]⟩
  exact ((hreg s (a := R.MGT_SESS) 0 rfl (by decide)).trans (hreg _ (a := R.MGT_SESS_BYTES) 0 rfl (by decide))).trans (.of_regs rfl)

theorem calm_guardLost (s : State) : Calm coreReg s s.guardLost := by
  unfold guardLost
  extract_lets s2 s3
  have h2 : Calm coreReg s s2 := by
    refine .trans ?_ (calm_sessionGone _)
    split
    · exact .setF s _ rfl (by decide)
    · exact .refl _ s
  have h3 : Calm coreReg s2 s3 := by
    simp only [s3]
    split
    · exact .of_regs rfl
    · exact .refl _ s2
  have h4 : Calm coreReg s3 (s3.setMgt fun m => { m with act := none, total := 0 }) := .of_regs rfl
  exact ((h2.trans h3).trans h4).trans (.setF (x := F.THM_STATUS_MCOMP) _ _ rfl (by decide))

theorem calm_coreStopped (s : State) (c : Nat) : Calm coreReg s (s.coreStopped c) :=
  (Calm.setF (x := F.MGT_STATUS_RUNNING) s _ rfl (by decide)).trans (.of_regs rfl)

theorem calm_coreLost (s : State) (c : Nat) : Calm coreReg s (s.coreLost c) := by
  rw [coreLost_eq]
  split
  · exact .refl _ s
  split
  · exact calm_coreStopped s c
  · exact (calm_coreStopped s c).trans (calm_guardLost _)

theorem calm_coresLost (s : State) (cores : Nat) : Calm coreReg s (s.coresLost cores) := by
  have hheavy : Calm coreReg s s.loseHeavy := by
    unfold loseHeavy
    split
    · exact .of_regs rfl
    · exact .refl _ s
  refine hheavy.trans (List.foldlRecOn _ _ (motive := Calm coreReg s.loseHeavy) (.refl _ _) fun u hu c _ => hu.trans ?_)
  split
  · exact calm_coreLost u c
  · exact .refl _ u

theorem calm_resetNoted (s : State) (level source cores : Nat) (kept : Bool) (owed : List Nat → List Nat) :
    Calm coreReg s (s.resetNoted level source cores kept owed) := by
  refine ⟨fun a ha _ => reg_resetNoted _ _ _ _ _ _ ?_ ?_, fun k hk h => ?_⟩
  · rintro rfl
    cases ha
  · rintro rfl
    cases ha
  · rwa [evBit, reg_resetNoted _ _ _ _ _ _ (by simp only [R.EVT_STAT, R.RPS_CAUSE]; omega) (by simp only [R.EVT_STAT, R.RPS_LAST]; omega)]

theorem calm_takeReset_cores {s : State} {r : ResetReq} (h : s.steady = true) (hr : r.level = 1) : Calm coreReg s (s.takeReset r) := by
  rw [takeReset_cores h hr]
  exact ((calm_coresLost s _).trans (.of_regs (setRps_regs _ _))).trans (calm_resetNoted _ _ _ _ _ _)

/-! ### The checks of the Goose -/

/-- A check of the Goose is given its level. -/
def gooseLevel (s : State) (i v : Nat) (since : Option Nat) : State := s.setMgt fun m =>
  { m with levels := tabMod m.levels i fun _ => v, lower := tabMod m.lower i fun _ => since }

section gooseMove

variable {s : State} {i level : Nat}

theorem gooseMove_off (h : (s.f F.MGT_GSE_EN_EN).testBit i = false) : s.gooseMove i level = s.gooseLevel i 0 none := by
  simp only [gooseMove, h, Bool.not_false, if_true]
  rfl

variable (h : (s.f F.MGT_GSE_EN_EN).testBit i = true)
include h

theorem gooseMove_abdicates (hlow : tabAt s.mgt.levels i 0 < 2) : s.gooseMove i 2 = (s.gooseLevel i 2 none).raise 62 := by
  simp only [gooseMove, h, hlow, Bool.not_true, Bool.false_eq_true, if_false, if_true]
  rfl

theorem gooseMove_falls (hhigh : tabAt s.mgt.levels i 0 = 2) (hsince : tabAt s.mgt.lower i none = none) :
    s.gooseMove i 0 = s.gooseLevel i 2 (some s.clk.now) := by
  simp only [gooseMove, h, hhigh, hsince, Bool.not_true, Bool.false_eq_true, if_false, Nat.not_lt_zero, OfNat.zero_ne_ofNat]
  rfl

theorem gooseMove_lowers {x : Nat} (hhigh : tabAt s.mgt.levels i 0 = 2) (hsince : tabAt s.mgt.lower i none = some x)
    (hx : x + 10000000000 ≤ s.clk.now) : s.gooseMove i 0 = (s.gooseLevel i 1 (some s.clk.now)).raise 61 := by
  simp only [gooseMove, h, hhigh, hsince, hx, Bool.not_true, Bool.false_eq_true, if_false, Nat.not_lt_zero, OfNat.zero_ne_ofNat, if_true]
  rfl

theorem gooseMove_keeps {x : Nat} (hhigh : tabAt s.mgt.levels i 0 = 2) (hsince : tabAt s.mgt.lower i none = some x)
    (hx : ¬ x + 10000000000 ≤ s.clk.now) : s.gooseMove i 0 = s := by
  simp only [gooseMove, h, hhigh, hsince, hx, Bool.not_true, Bool.false_eq_true, if_false, Nat.not_lt_zero, OfNat.zero_ne_ofNat]

end gooseMove

/-- From `s` to `t` the checks of a list, none of them enabled, have moved. -/
structure ChecksOff (l : List Nat) (s t : State) : Prop where
  rest : t = { s with mgt := t.mgt }
  off : ∀ i ∈ l, i < 7 → tabAt t.mgt.levels i 0 = 0
  others : ∀ i, i ∉ l → tabAt t.mgt.levels i 0 = tabAt s.mgt.levels i 0 ∧ tabAt t.mgt.lower i none = tabAt s.mgt.lower i none

theorem checksOff_foldl (now : List Nat) (l : List Nat) (s : State) (h : ∀ i ∈ l, (s.f F.MGT_GSE_EN_EN).testBit i = false) :
    ChecksOff l s (l.foldl (fun s i => s.gooseMove i (now.getD i 0)) s) := by
  induction l generalizing s with
  | nil => exact ⟨rfl, fun _ h => by simp at h, fun _ _ => ⟨rfl, rfl⟩⟩
  | cons k l ih =>
    have hstep : s.gooseMove k (now.getD k 0) = s.gooseLevel k 0 none := gooseMove_off (h k List.mem_cons_self)
    obtain ⟨hrest, hoff, hothers⟩ := ih (s.gooseLevel k 0 none) fun i hi => h i (List.mem_cons_of_mem k hi)
    rw [List.foldl_cons, hstep]
    refine ⟨hrest, fun i hi hlt => ?_, fun i hi => ?_⟩
    · by_cases hmem : i ∈ l
      · exact hoff i hmem hlt
      · obtain rfl : i = k := (List.mem_cons.1 hi).resolve_right hmem
        exact (hothers i hmem).1.trans (tabAt_tabMod_self s.mgt.levels _ 0 hlt)
    · obtain ⟨hne, hmem⟩ := not_or.1 (fun h => hi (List.mem_cons.2 h))
      obtain ⟨hl, hw⟩ := hothers i hmem
      exact ⟨hl.trans (tabAt_tabMod_ne s.mgt.levels _ 0 hne), hw.trans (tabAt_tabMod_ne s.mgt.lower _ none hne)⟩

/-- The levels when no check but the thermal one stands above 0. -/
theorem levels_of_thermal {L : Vector Nat 7} {v : Nat} (h : ∀ i, i < 7 → i ≠ 5 → tabAt L i 0 = 0) (h5 : tabAt L 5 0 = v) :
    L.toList = [0, 0, 0, 0, 0, v, 0] := by
  refine List.ext_getElem (by simp) fun i h1 h2 => ?_
  have hi : i < 7 := by simpa using h1
  have hget : tabAt L i 0 = L.toList[i] := by rw [tabAt, List.getD_eq_getElem?_getD, List.getElem?_eq_getElem h1, Option.getD_some]
  rw [← hget]
  by_cases h5' : i = 5
  · subst h5'
    exact h5
  · rw [h i hi h5']
    rcases (by omega : i = 0 ∨ i = 1 ∨ i = 2 ∨ i = 3 ∨ i = 4 ∨ i = 6) with rfl | rfl | rfl | rfl | rfl | rfl <;> rfl

/-! ### The verdict -/

/-- The causes of the levels at or above `k`. -/
def causesOf (s : State) (k : Nat) : Nat :=
  sumOf (((List.range 7).filter fun i => decide (k ≤ tabAt s.mgt.levels i 0)).map fun i => 2 ^ i)

/-- The causes are shown, and a forced abdication ends. -/
def causesShown (s : State) : State :=
  ((s.setF F.MGT_GSE_STAT_DCAUSE (s.causesOf 1)).setF F.MGT_GSE_STAT_ACAUSE (s.causesOf 2)).setF F.MGT_GSE_STAT_WDFORCE 0

theorem causesOf_thermal {s : State} {v : Nat} (h : s.mgt.levels.toList = [0, 0, 0, 0, 0, v, 0]) (k : Nat) (hk : 0 < k) :
    s.causesOf k = if k ≤ v then 32 else 0 := by
  have htab : ∀ i, tabAt s.mgt.levels i 0 = [0, 0, 0, 0, 0, v, 0].getD i 0 := fun i => by rw [tabAt, h]
  have h0 : ¬ k ≤ 0 := by omega
  simp only [causesOf, htab, List.range, List.range.loop, List.filter, List.getD_cons_zero, List.getD_cons_succ, decide_eq_false h0]
  split <;> simp_all [sumOf]

/-- The Goose evaluates its checks with this much of the past. -/
def gooseSeen (s : State) : State :=
  s.setMgt fun m => { m with
    samples := (s.gooseSample :: m.samples).take 102
    lostAt := if s.f F.TIM_STATUS_TSTATE = 4 then some (s.mgt.lostAt.getD s.clk.now) else none }

/-- The checks move. -/
def checksMoved (s : State) (plls : Bool) : State :=
  (List.range 7).foldl (fun u i => u.gooseMove i ((s.gooseSeen.gooseNow plls).getD i 0)) s.gooseSeen

theorem gooseEval_idle {s : State} (plls : Bool) (h : s.coreUp 3 = false) : s.gooseEval plls = s := by
  simp [gooseEval, h]

theorem gooseEval_eq {s : State} (plls : Bool) (hup : s.coreUp 3 = true) (hheld : s.coreHeld 3 = false)
    (hrun : s.f F.RPS_PWR_STAT_STATE = 0) : s.gooseEval plls =
      (((s.checksMoved plls).causesShown).setVerdict ((s.checksMoved plls).mgt.levels.toList.foldl max 0)).verdictAct
        ((s.checksMoved plls).mgt.levels.toList.foldl max 0) := by
  have hgo : (!s.coreUp 3 || s.coreHeld 3 || s.f F.RPS_PWR_STAT_STATE != 0) = false := by rw [hup, hheld, hrun]; rfl
  rw [gooseEval, hgo]
  rfl

/-- The verdict with which the checks leave a device that is in no pair. -/
structure Judged (v : Nat) (s t : State) : Prop where
  verdict : t.f F.MGT_GSE_STAT_VERDICT = v
  dcause : t.f F.MGT_GSE_STAT_DCAUSE = if 1 ≤ v then 32 else 0
  acause : t.f F.MGT_GSE_STAT_ACAUSE = if 2 ≤ v then 32 else 0
  force : t.f F.MGT_GSE_STAT_WDFORCE = 0
  changed : s.f F.MGT_GSE_STAT_VERDICT ≠ v → t.evBit 60 = true ∧ t.f F.MGT_GSE_CHG_COUNT = (s.f F.MGT_GSE_CHG_COUNT + 1) % 2 ^ 32
  frame : Frame (fun a => a == R.MGT_GSE_STAT || a == R.MGT_GSE_CHG) s t
  events : ∀ k, k < 320 → s.evBit k = true → t.evBit k = true
  mgt : t.mgt = s.mgt

theorem verdictAct_single {s : State} (v : Nat) (h : s.present .PAR = false) : s.verdictAct v = s := by
  simp [verdictAct, h]

/-- From `s` to `t` the verdict has been set, and its other fields stay. -/
structure VerdictSet (v : Nat) (s t : State) : Prop where
  verdict : t.f F.MGT_GSE_STAT_VERDICT = v
  other : ∀ x : Fld, x.addr = R.MGT_GSE_STAT → 2 ≤ x.lo → t.f x = s.f x
  changed : s.f F.MGT_GSE_STAT_VERDICT ≠ v → t.evBit 60 = true ∧ t.f F.MGT_GSE_CHG_COUNT = (s.f F.MGT_GSE_CHG_COUNT + 1) % 2 ^ 32
  frame : Frame (fun a => a == R.MGT_GSE_STAT || a == R.MGT_GSE_CHG) s t
  calm : Calm (fun a => a == R.MGT_GSE_STAT || a == R.MGT_GSE_CHG) s t
  mgt : t.mgt = s.mgt
  rps : t.rps = s.rps
  cmt : t.cmt = s.cmt

theorem verdictSet_setVerdict (s : State) {v : Nat} (hv : v < 3) : VerdictSet v s (s.setVerdict v) := by
  unfold setVerdict
  split
  next h => exact ⟨h, fun _ _ _ => rfl, fun hne => absurd h hne, .refl _ s, .refl _ s, rfl, rfl, rfl⟩
  next h =>
    generalize hu : (s.setF F.MGT_GSE_STAT_VERDICT v).bump F.MGT_GSE_CHG_COUNT = u
    have hverdict : u.f F.MGT_GSE_STAT_VERDICT = v := by
      rw [← hu, bump, f_setF_ne _ _ (by decide), f_setF_self _ _ _ (by decide)]
      exact Nat.mod_eq_of_lt (show v < 4 by omega)
    have hother : ∀ x : Fld, x.addr = R.MGT_GSE_STAT → 2 ≤ x.lo → u.f x = s.f x := fun x hx hl => by
      rw [← hu, bump, f_setF_ne _ _ (by rw [hx]; decide), f_setF_disjoint (x := F.MGT_GSE_STAT_VERDICT) _ _ (by decide) (.inl hl)]
    have hcount : u.f F.MGT_GSE_CHG_COUNT = (s.f F.MGT_GSE_CHG_COUNT + 1) % 2 ^ 32 := by
      rw [← hu, f_bump_self _ (by decide), f_setF_ne _ _ (by decide)]
    have hframe : Frame (fun a => a == R.MGT_GSE_STAT || a == R.MGT_GSE_CHG) s u := hu ▸ (Frame.setF s _ rfl).trans (.setF _ _ rfl)
    have hcalm : Calm (fun a => a == R.MGT_GSE_STAT || a == R.MGT_GSE_CHG) s u :=
      hu ▸ (Calm.setF s _ rfl (by decide)).trans (.setF _ _ rfl (by decide))
    have hmgt : u.mgt = s.mgt := hu ▸ rfl
    have hrps : u.rps = s.rps := hu ▸ rfl
    have hcmt : u.cmt = s.cmt := hu ▸ rfl
    have hst : evReg R.MGT_GSE_STAT = false := rfl
    exact ⟨(f_raise u 60 rfl).trans hverdict, fun x hx hl => (f_raise u 60 (by rw [hx]; rfl)).trans (hother x hx hl),
      fun _ => ⟨evBit_raise_self rfl, (f_raise u 60 rfl).trans hcount⟩, hframe.trans (.raise _ u 60), hcalm.trans (.raise _ u 60),
      (raise_mgt u 60).trans hmgt, (raise_rps u 60).trans hrps, (raise_cmt u 60).trans hcmt⟩

theorem judged_gooseEval {u : State} {v : Nat} (hv : v < 3) (hp : u.present .PAR = false) (hl : u.mgt.levels.toList = [0, 0, 0, 0, 0, v, 0]) :
    Judged v u ((u.causesShown.setVerdict (u.mgt.levels.toList.foldl max 0)).verdictAct (u.mgt.levels.toList.foldl max 0)) := by
  have hmax : u.mgt.levels.toList.foldl max 0 = v := by
    rw [hl]
    simp
  have hframe : Frame (fun a => a == R.MGT_GSE_STAT || a == R.MGT_GSE_CHG) u u.causesShown :=
    ((Frame.setF u _ rfl).trans (.setF _ _ rfl)).trans (.setF _ _ rfl)
  have hcalm : Calm (fun a => a == R.MGT_GSE_STAT || a == R.MGT_GSE_CHG) u u.causesShown :=
    ((Calm.setF u _ rfl (by decide)).trans (.setF _ _ rfl (by decide))).trans (.setF _ _ rfl (by decide))
  have hset := verdictSet_setVerdict u.causesShown hv
  have hc1 := causesOf_thermal hl 1 (by decide)
  have hc2 := causesOf_thermal hl 2 (by decide)
  rw [hmax, verdictAct_single v ((hset.frame.present_par rfl rfl).trans ((hframe.present_par rfl rfl).trans hp))]
  have hold : u.causesShown.f F.MGT_GSE_STAT_VERDICT = u.f F.MGT_GSE_STAT_VERDICT := by
    simp (disch := decide) only [causesShown, f_setF_disjoint]
  refine ⟨hset.verdict, (hset.other _ rfl (by decide)).trans ?_, (hset.other _ rfl (by decide)).trans ?_,
    (hset.other _ rfl (by decide)).trans ?_, fun hne => ?_, hframe.trans hset.frame, (hcalm.trans hset.calm).events, hset.mgt⟩
  · simp (disch := decide) only [causesShown, f_setF_disjoint, f_setF_self]
    rw [hc1]
    split <;> rfl
  · simp (disch := decide) only [causesShown, f_setF_disjoint, f_setF_self]
    rw [hc2]
    split <;> rfl
  · simp (disch := decide) only [causesShown, f_setF_self]
    rfl
  · obtain ⟨htold, hcount⟩ := hset.changed (by rwa [hold])
    exact ⟨htold, hcount.trans (by rw [causesShown, f_setF_ne _ _ (by decide), f_setF_ne _ _ (by decide), f_setF_ne _ _ (by decide)])⟩

/-! ### The checks when at most the thermal one is enabled -/

theorem ChecksOff.frame {l : List Nat} {s t : State} (h : ChecksOff l s t) : Frame noReg s t := by
  rw [h.rest]
  exact ⟨fun _ _ _ => rfl, rfl, rfl, fun _ => rfl, fun _ => rfl, fun _ => rfl, fun _ => rfl⟩

theorem frame_gooseSeen (s : State) : Frame noReg s s.gooseSeen := Frame.setMgt _ s _

/-- With no check enabled all stand at 0. -/
theorem checksMoved_none {s : State} (plls : Bool) (h : s.f F.MGT_GSE_EN_EN = 0) :
    (s.checksMoved plls).mgt.levels.toList = [0, 0, 0, 0, 0, 0, 0] ∧ Frame noReg s (s.checksMoved plls) := by
  have hoff := checksOff_foldl (s.gooseSeen.gooseNow plls) (List.range 7) s.gooseSeen fun i _ => by
    rw [show s.gooseSeen.f F.MGT_GSE_EN_EN = 0 from h, Nat.zero_testBit]
  exact ⟨levels_of_thermal (fun i hi _ => hoff.off i (List.mem_range.2 hi) hi) (hoff.off 5 (by decide) (by decide)),
    s.frame_gooseSeen.trans hoff.frame⟩

/-- The thermal check has moved to level `v`, or stands there. -/
structure ThermalAt (v : Nat) (low : Option Nat) (s t : State) : Prop where
  frame : Frame noReg s t
  level : tabAt t.mgt.levels 5 0 = v
  lower : tabAt t.mgt.lower 5 none = low
  others : ∀ i, i ≠ 5 → tabAt t.mgt.levels i 0 = tabAt s.mgt.levels i 0

theorem thermalAt_gooseLevel (s : State) (v : Nat) (low : Option Nat) : ThermalAt v low s (s.gooseLevel 5 v low) :=
  ⟨Frame.setMgt _ s _, tabAt_tabMod_self s.mgt.levels _ 0 (by decide), tabAt_tabMod_self s.mgt.lower _ none (by decide),
    fun _ hi => tabAt_tabMod_ne s.mgt.levels _ 0 hi⟩

theorem ThermalAt.raise {v : Nat} {low : Option Nat} {s t : State} (h : ThermalAt v low s t) (n : Nat) : ThermalAt v low s (t.raise n) :=
  ⟨h.frame.trans (.raise _ t n), by rw [raise_mgt, h.level], by rw [raise_mgt, h.lower], fun i hi => by rw [raise_mgt, h.others i hi]⟩

/-- The checks below the thermal one move, then it, then the last. -/
theorem checksMoved_thermal {s : State} (plls : Bool) (hen : s.f F.MGT_GSE_EN_EN = 32) : ∃ a, ChecksOff [0, 1, 2, 3, 4] s.gooseSeen a ∧
    s.checksMoved plls = (a.gooseMove 5 ((s.gooseSeen.gooseNow plls).getD 5 0)).gooseMove 6 ((s.gooseSeen.gooseNow plls).getD 6 0) := by
  have hoff := checksOff_foldl (s.gooseSeen.gooseNow plls) [0, 1, 2, 3, 4] s.gooseSeen fun i hi => by
    rw [show s.gooseSeen.f F.MGT_GSE_EN_EN = 32 from hen]
    revert i
    decide
  exact ⟨_, hoff, rfl⟩

/-- What the checks' moves leave once the thermal one stands at `v`. -/
structure ThermalOnly (v : Nat) (low : Option Nat) (s t : State) : Prop where
  levels : t.mgt.levels.toList = [0, 0, 0, 0, 0, v, 0]
  lower : tabAt t.mgt.lower 5 none = low
  frame : Frame noReg s t

theorem thermalOnly_checksMoved {s a b : State} {plls : Bool} {v : Nat} {low : Option Nat} (hen : s.f F.MGT_GSE_EN_EN = 32)
    (ha : ChecksOff [0, 1, 2, 3, 4] s.gooseSeen a) (hb : ThermalAt v low a b)
    (hmoved : s.checksMoved plls = b.gooseMove 6 ((s.gooseSeen.gooseNow plls).getD 6 0)) :
    ThermalOnly v low s (s.checksMoved plls) ∧ ∀ k, b.evBit k = true → (s.checksMoved plls).evBit k = true := by
  have hframe : Frame noReg s b := (s.frame_gooseSeen.trans ha.frame).trans hb.frame
  have hoff : (b.f F.MGT_GSE_EN_EN).testBit 6 = false := by rw [hframe.f_eq rfl rfl, hen]; decide
  rw [hmoved, gooseMove_off hoff]
  refine ⟨⟨levels_of_thermal (fun i hi hne => ?_) ?_, ?_, hframe.trans (Frame.setMgt _ b _)⟩, fun k hk => hk⟩
  · by_cases h6 : i = 6
    · rw [h6]
      exact tabAt_tabMod_self b.mgt.levels _ 0 (by decide)
    · refine (tabAt_tabMod_ne b.mgt.levels _ 0 h6).trans ((hb.others i hne).trans (ha.off i ?_ hi))
      simp only [List.mem_cons, List.not_mem_nil, or_false]
      omega
  · exact (tabAt_tabMod_ne b.mgt.levels _ 0 (by decide)).trans hb.level
  · exact (tabAt_tabMod_ne b.mgt.lower _ none (by decide)).trans hb.lower

/-- The level of the thermal check's condition. -/
theorem gooseNow_thermal (s : State) (plls : Bool) : (s.gooseSeen.gooseNow plls).getD 5 0 =
    if s.f F.THM_STATUS_STAGE == 2 then 2 else if s.f F.THM_STATUS_WARN != 0 then 1 else 0 := rfl

section thermal

variable {s : State} (plls : Bool) (hen : s.f F.MGT_GSE_EN_EN = 32)
include hen

theorem thermalBit {a : State} (ha : ChecksOff [0, 1, 2, 3, 4] s.gooseSeen a) : (a.f F.MGT_GSE_EN_EN).testBit 5 = true := by
  rw [ha.frame.f_eq rfl rfl, show s.gooseSeen.f F.MGT_GSE_EN_EN = 32 from hen]
  decide

/-- At throttle stage 2 the thermal check goes up at once. -/
theorem checksMoved_up (hst : s.f F.THM_STATUS_STAGE = 2) (hlow : tabAt s.mgt.levels 5 0 < 2) :
    ThermalOnly 2 none s (s.checksMoved plls) ∧ (s.checksMoved plls).evBit 62 = true := by
  obtain ⟨a, ha, hmoved⟩ := checksMoved_thermal plls hen
  have hlevel : tabAt a.mgt.levels 5 0 < 2 := by
    rw [(ha.others 5 (by decide)).1]
    exact hlow
  have hcond : (s.gooseSeen.gooseNow plls).getD 5 0 = 2 := by
    rw [gooseNow_thermal, hst]
    rfl
  rw [hcond, gooseMove_abdicates (thermalBit hen ha) hlevel] at hmoved
  obtain ⟨honly, hevents⟩ := thermalOnly_checksMoved hen ha ((thermalAt_gooseLevel a 2 none).raise 62) hmoved
  exact ⟨honly, hevents 62 (evBit_raise_self rfl)⟩

/-- Below its condition the thermal check stays for 10 s and then falls by one. -/
theorem checksMoved_down (hst : s.f F.THM_STATUS_STAGE = 0) (hwarn : s.f F.THM_STATUS_WARN = 0) (hhigh : tabAt s.mgt.levels 5 0 = 2) :
    (tabAt s.mgt.lower 5 none = none → ThermalOnly 2 (some s.clk.now) s (s.checksMoved plls)) ∧
    (∀ x, tabAt s.mgt.lower 5 none = some x →
      ∃ low, ThermalOnly (if x + 10000000000 ≤ s.clk.now then 1 else 2) low s (s.checksMoved plls)) := by
  obtain ⟨a, ha, hmoved⟩ := checksMoved_thermal plls hen
  obtain ⟨hl, hw⟩ := ha.others 5 (by decide)
  have hlevel : tabAt a.mgt.levels 5 0 = 2 := hl.trans hhigh
  have hclk : a.clk = s.clk := by rw [ha.rest]; rfl
  have hcond : (s.gooseSeen.gooseNow plls).getD 5 0 = 0 := by
    rw [gooseNow_thermal, hst, hwarn]
    rfl
  rw [hcond] at hmoved
  refine ⟨fun hnone => ?_, fun x hx => ?_⟩
  · have hmove := gooseMove_falls (thermalBit hen ha) hlevel (hw.trans hnone)
    rw [hclk] at hmove
    exact (thermalOnly_checksMoved hen ha (thermalAt_gooseLevel a 2 (some s.clk.now)) (hmoved.trans (by rw [hmove]))).1
  · split
    next hlate =>
      have hmove := gooseMove_lowers (thermalBit hen ha) hlevel (hw.trans hx) (by rwa [hclk])
      exact ⟨_, (thermalOnly_checksMoved hen ha ((thermalAt_gooseLevel a 1 (some a.clk.now)).raise 61)
        (hmoved.trans (by rw [hmove]))).1⟩
    next hearly =>
      have hmove := gooseMove_keeps (thermalBit hen ha) hlevel (hw.trans hx) (by rwa [hclk])
      exact ⟨_, (thermalOnly_checksMoved hen ha (b := a) ⟨.refl _ a, hlevel, rfl, fun _ _ => rfl⟩
        (hmoved.trans (by rw [hmove]))).1⟩

end thermal

/-! ### Watchdogs (R354) -/

/-- What an expiry leaves before the reset that it asks for. -/
def watchdogNoted (s : State) (c : Nat) : State :=
  let s := (s.bump (F.MGT_WD_CNT_COUNT c)).raise 49
  let s := s.raiseIf ((s.f F.MGT_STATUS_UNCONF).testBit c) 52
  s.setMgt fun m => { m with
    cleanFrom := setAt m.cleanFrom c fun _ => s.clk.now
    expiries := (s.clk.now, c) :: m.expiries.filter fun e => decide (s.clk.now ≤ e.1 + 60000000000) }

/-- The Guard core's expiry forces an abdication (R338). -/
def abdicationForced (s : State) : State := (((s.setF F.MGT_GSE_STAT_WDFORCE 1).raise 63).setVerdict 2).verdictAct 2

theorem watchdogExpiry_eq {s : State} {c : Nat} (pulse : Bool) (hup : s.coreUp c = true) (hp : s.f (F.MGT_WD_CTL_PERIOD c) ≠ 0) :
    s.watchdogExpiry c pulse = (if c = 3 then (s.watchdogNoted c).abdicationForced else s.watchdogNoted c).requestReset
      { level := 1, source := 3, cores := 2 ^ c } pulse := by
  have hgo : (!s.coreUp c || s.f (F.MGT_WD_CTL_PERIOD c) == 0) = false := by rw [hup, beq_eq_false_iff_ne.2 hp]; rfl
  rw [watchdogExpiry, hgo, if_neg Bool.false_ne_true]
  rfl

theorem watchdogExpiry_off {s : State} {c : Nat} (pulse : Bool) (h : s.coreUp c = false ∨ s.f (F.MGT_WD_CTL_PERIOD c) = 0) :
    s.watchdogExpiry c pulse = s := by
  rcases h with h | h <;> simp [watchdogExpiry, h]

/-- What an expiry leaves, the reset apart. -/
structure Expired (c : Nat) (s t : State) : Prop where
  count : t.f (F.MGT_WD_CNT_COUNT c) = (s.f (F.MGT_WD_CNT_COUNT c) + 1) % 2 ^ 32
  told : t.evBit 49 = true
  unconf : (s.f F.MGT_STATUS_UNCONF).testBit c = true → t.evBit 52 = true
  calm : Calm (fun a => a == R.MGT_WD_CNT c || a == R.MGT_GSE_STAT || a == R.MGT_GSE_CHG) s t
  frame : Frame (fun a => a == R.MGT_WD_CNT c || a == R.RPS_DEFER || a == R.MGT_GSE_STAT || a == R.MGT_GSE_CHG) s t
  act : t.mgt.act = s.mgt.act
  rps : t.rps = s.rps
  cmt : t.cmt = s.cmt

theorem expired_watchdogNoted (s : State) {c : Nat} (hc : c < 4) : Expired c s (s.watchdogNoted c) := by
  have hcnt : evReg (R.MGT_WD_CNT c) = false := evReg_mgt (by simp only [R.MGT_WD_CNT]; omega)
  have hst : R.MGT_STATUS ≠ R.MGT_WD_CNT c := by simp only [R.MGT_STATUS, R.MGT_WD_CNT]; omega
  unfold watchdogNoted
  extract_lets u v
  have hunconf : u.f F.MGT_STATUS_UNCONF = s.f F.MGT_STATUS_UNCONF := (f_raise _ 49 rfl).trans (f_setF_ne s _ hst)
  have hcount : u.f (F.MGT_WD_CNT_COUNT c) = (s.f (F.MGT_WD_CNT_COUNT c) + 1) % 2 ^ 32 :=
    (f_raise _ 49 hcnt).trans (f_bump_self s (Nat.le_of_ble_eq_true rfl))
  have htold : u.evBit 49 = true := evBit_raise_self rfl
  have hcalm : Calm (fun a => a == R.MGT_WD_CNT c || a == R.MGT_GSE_STAT || a == R.MGT_GSE_CHG) s u :=
    (Calm.setF s _ (by simp) (by simp only [R.MGT_WD_CNT]; omega)).trans (.raise _ _ 49)
  have hframe : Frame (fun a => a == R.MGT_WD_CNT c || a == R.RPS_DEFER || a == R.MGT_GSE_STAT || a == R.MGT_GSE_CHG) s u :=
    (Frame.setF s _ (by simp)).trans (.raise _ _ 49)
  have hrest : u.mgt = s.mgt ∧ u.rps = s.rps ∧ u.cmt = s.cmt := ⟨raise_mgt _ 49, raise_rps _ 49, raise_cmt _ 49⟩
  have h52 : u.f F.MGT_STATUS_UNCONF |>.testBit c → v.evBit 52 = true := fun h => by
    simp only [v, h, raiseIf_true]
    exact evBit_raise_self rfl
  have hv : Calm (fun _ => false) u v := .raiseIf _ u _ 52
  have hvframe : Frame noReg u v := .raiseIf _ u _ 52
  have hvrest : v.mgt = u.mgt ∧ v.rps = u.rps ∧ v.cmt = u.cmt := ⟨raiseIf_mgt u _ 52, raiseIf_rps u _ 52, raiseIf_cmt u _ 52⟩
  clear_value u v
  obtain ⟨hmgt, hrps, hcmt⟩ := hrest
  obtain ⟨hmgt', hrps', hcmt'⟩ := hvrest
  refine ⟨(hv.f_eq rfl hcnt).trans hcount, hv.events 49 (by decide) htold, fun h => h52 (by rw [hunconf]; exact h),
    (hcalm.trans (hv.mono fun _ h => by cases h)).trans (.of_regs rfl), (hframe.trans (Frame.of_noReg hvframe)).trans (Frame.setMgt _ v _),
    (congrArg MgtSt.act (hmgt'.trans hmgt) :), hrps'.trans hrps, hcmt'.trans hcmt⟩

/-- The Guard core's expiry, in a device that is in no pair. -/
theorem expired_abdicationForced {s : State} {c : Nat} {t : State} (h : Expired c s t) (hc : c < 4) (hp : t.present .PAR = false) :
    Expired c s t.abdicationForced ∧ t.abdicationForced.f F.MGT_GSE_STAT_VERDICT = 2 ∧ t.abdicationForced.f F.MGT_GSE_STAT_WDFORCE = 1 ∧
      t.abdicationForced.evBit 63 = true := by
  have hcnt : evReg (R.MGT_WD_CNT c) = false := evReg_mgt (by simp only [R.MGT_WD_CNT]; omega)
  have hne : ((fun a => a == R.MGT_GSE_STAT || a == R.MGT_GSE_CHG) (R.MGT_WD_CNT c)) = false := by
    simp only [R.MGT_GSE_STAT, R.MGT_GSE_CHG, R.MGT_WD_CNT, Bool.or_eq_false_iff, beq_eq_false_iff_ne]
    omega
  generalize hu : (t.setF F.MGT_GSE_STAT_WDFORCE 1).raise 63 = u
  have hforce : u.f F.MGT_GSE_STAT_WDFORCE = 1 := by rw [← hu, f_raise _ 63 rfl, f_setF_self _ _ _ (by decide)]; rfl
  have htold : u.evBit 63 = true := hu ▸ evBit_raise_self rfl
  have hcalm : Calm (fun a => a == R.MGT_GSE_STAT || a == R.MGT_GSE_CHG) t u := hu ▸ (Calm.setF t _ rfl (by decide)).trans (.raise _ _ 63)
  have hframe : Frame (fun a => a == R.MGT_GSE_STAT || a == R.MGT_GSE_CHG) t u := hu ▸ (Frame.setF t _ rfl).trans (.raise _ _ 63)
  have hmgt : u.mgt = t.mgt := by rw [← hu, raise_mgt]; rfl
  have hrps : u.rps = t.rps := by rw [← hu, raise_rps]; rfl
  have hcmt : u.cmt = t.cmt := by rw [← hu, raise_cmt]; rfl
  have hset := verdictSet_setVerdict u (v := 2) (by decide)
  have hact : t.abdicationForced = u.setVerdict 2 := by
    rw [abdicationForced, hu, verdictAct_single 2 ((hset.frame.present_par rfl rfl).trans ((hframe.present_par rfl rfl).trans hp))]
  rw [hact]
  have hboth := hcalm.trans hset.calm
  refine ⟨⟨(hboth.f_eq hne hcnt).trans h.count, hboth.events 49 (by decide) h.told, fun hb => hboth.events 52 (by decide) (h.unconf hb),
    h.calm.trans (hboth.mono fun a ha => ?_), h.frame.trans ((hframe.trans hset.frame).mono fun a ha => ?_),
    (congrArg MgtSt.act (hset.mgt.trans hmgt)).trans h.act, (hset.rps.trans hrps).trans h.rps, (hset.cmt.trans hcmt).trans h.cmt⟩,
    hset.verdict, (hset.other _ rfl (by decide)).trans hforce, hset.calm.events 63 (by decide) htold⟩
  all_goals
    simp only [Bool.or_eq_true] at ha ⊢
    tauto

end State

namespace State

/-- A request that waits is noted in RPS_DEFER alone. -/
theorem noted_requestReset (s : State) (r : ResetReq) (hr : r.aon = false) : Calm (fun a => a == R.RPS_DEFER) s (s.requestReset r true) ∧
    Frame (fun a => a == R.RPS_DEFER) s (s.requestReset r true) := by
  have heq : s.requestReset r true = (s.bump F.RPS_DEFER_COUNT).setRps fun x => { x with deferred := x.deferred ++ [r] } := by
    simp [requestReset, hr]
  rw [heq]
  exact ⟨(Calm.setF (x := F.RPS_DEFER_COUNT) s _ rfl (by decide)).trans (.of_regs (setRps_regs _ _)),
    (Frame.setF (x := F.RPS_DEFER_COUNT) s _ rfl).trans (.setRps _ _ _)⟩

/-- An expiry in a device that is in no pair, before the reset. -/
theorem expired_before {s : State} {c : Nat} (hc : c < 4) (hp : s.present .PAR = false) : ∃ u, Expired c s u ∧
    (c = 3 → u.f F.MGT_GSE_STAT_VERDICT = 2 ∧ u.f F.MGT_GSE_STAT_WDFORCE = 1 ∧ u.evBit 63 = true) ∧
    ∀ pulse, s.coreUp c = true → s.f (F.MGT_WD_CTL_PERIOD c) ≠ 0 →
      s.watchdogExpiry c pulse = u.requestReset { level := 1, source := 3, cores := 2 ^ c } pulse := by
  have hnoted := s.expired_watchdogNoted hc
  by_cases h3 : c = 3
  · have hpar : (s.watchdogNoted c).present .PAR = false :=
      (hnoted.frame.present_par (by subst h3; rfl) (by subst h3; rfl)).trans hp
    obtain ⟨hexp, hforce⟩ := expired_abdicationForced hnoted hc hpar
    exact ⟨_, hexp, fun _ => hforce, fun pulse hup hper => by rw [watchdogExpiry_eq pulse hup hper, if_pos h3]⟩
  · exact ⟨_, hnoted, fun h => absurd h h3, fun pulse hup hper => by rw [watchdogExpiry_eq pulse hup hper, if_neg h3]⟩

/-- What an expiry leaves before the reset is a device as steady as it was. -/
theorem Expired.steady {s t : State} {c : Nat} (h : Expired c s t) (hc : c < 4) : t.steady = s.steady := by
  have hf : ∀ x : Fld, x.addr < 0x40000 → t.f x = s.f x := fun x hx => by
    refine h.calm.f_eq ?_ (evReg_mgt (by omega))
    simp only [R.MGT_WD_CNT, R.MGT_GSE_STAT, R.MGT_GSE_CHG, Bool.or_eq_false_iff, beq_eq_false_iff_ne]
    omega
  have ha : t.asleep = s.asleep := congrArg (· == 2) (hf F.RPS_PWR_STAT_STATE (by decide))
  have hst : t.stage' = s.stage' := hf F.RPS_BOOT_STAGE (by decide)
  rw [State.steady, State.steady, ha, hst, h.rps]

end State

/-- Settles O52: the Goose's levels decide the verdict, and an expiry is noted before the reset it asks for. -/
theorem gooseAndWatchdogs : Obligations.GooseAndWatchdogs := by
  unfold Obligations.GooseAndWatchdogs
  refine fun plls c s ha => ⟨fun hup => ?idle, fun hup hheld hrun hpar => ⟨fun hen => ?quiet, fun hen hst hlow => ?hot,
    fun hen hst hwarn hhigh since hsince => ?cooling⟩, fun hoff pulse => ?off, fun hup hper hpar => ⟨?waits, fun hsteady _ hact => ?resets⟩⟩
  case idle => exact exec_of_effect_self (g := fun s => s.gooseEval plls) rfl ha (State.gooseEval_idle plls hup)
  case quiet =>
    obtain ⟨hlevels, hframe⟩ := State.checksMoved_none plls hen
    obtain ⟨hverdict, hdcause, hacause, hforce, hchanged, hjudged, -, -⟩ := State.judged_gooseEval (v := 0) (by decide)
      ((hframe.present_par rfl rfl).trans hpar) hlevels
    refine completes_awake (g := fun s => s.gooseEval plls) rfl ha ?_
    rw [State.gooseEval_eq plls hup hheld hrun]
    rw [hframe.f_eq rfl rfl, hframe.f_eq rfl rfl] at hchanged
    exact ⟨hverdict, hdcause, hacause, hforce, hchanged, ((Frame.of_noReg hframe).trans hjudged).sealed⟩
  case hot =>
    obtain ⟨⟨hlevels, -, hframe⟩, htold⟩ := State.checksMoved_up plls hen hst hlow
    obtain ⟨hverdict, hdcause, hacause, -, hchanged, hjudged, hevents, -⟩ := State.judged_gooseEval (v := 2) (by decide)
      ((hframe.present_par rfl rfl).trans hpar) hlevels
    refine completes_awake (g := fun s => s.gooseEval plls) rfl ha ?_
    rw [State.gooseEval_eq plls hup hheld hrun]
    rw [hframe.f_eq rfl rfl, hframe.f_eq rfl rfl] at hchanged
    exact ⟨hverdict, hdcause, hacause, hevents 62 (by decide) htold, fun hne => (hchanged hne).1, ((Frame.of_noReg hframe).trans hjudged).sealed⟩
  case cooling =>
    obtain ⟨hstays, hfalls⟩ := State.checksMoved_down plls hen hst hwarn hhigh
    refine completes_awake (g := fun s => s.gooseEval plls) rfl ha ?_
    rw [State.gooseEval_eq plls hup hheld hrun]
    refine ⟨fun hnone => ?_, fun x hx => ?_⟩
    · obtain ⟨hlevels, hlower, hframe⟩ := hstays (hsince.trans hnone)
      have hj := State.judged_gooseEval (v := 2) (by decide) ((hframe.present_par rfl rfl).trans hpar) hlevels
      exact ⟨hj.verdict, by rw [State.sealed_mgt, hj.mgt, hlower]⟩
    · obtain ⟨low, hlevels, -, hframe⟩ := hfalls x (hsince.trans hx)
      exact (State.judged_gooseEval (by split <;> decide) ((hframe.present_par rfl rfl).trans hpar) hlevels).verdict
  case off => exact exec_of_effect_self (g := fun s => s.watchdogExpiry c pulse) rfl ha (State.watchdogExpiry_off pulse hoff)
  case waits =>
    obtain ⟨u, hexp, hforce, heq⟩ := State.expired_before c.isLt hpar
    have hdefer := State.deferred_requestReset u (r := { level := 1, source := 3, cores := 2 ^ c.val }) rfl
    obtain ⟨hcalm, hframe⟩ := State.noted_requestReset u { level := 1, source := 3, cores := 2 ^ c.val } rfl
    have hcnt : evReg (R.MGT_WD_CNT c) = false := State.evReg_mgt (by simp only [R.MGT_WD_CNT]; omega)
    refine completes_awake (g := fun s => s.watchdogExpiry c true) rfl ha ?_
    rw [heq true hup hper]
    generalize u.requestReset { level := 1, source := 3, cores := 2 ^ c.val } true = t at hdefer hcalm hframe
    have hkeeps : ∀ x : Fld, x.addr ≠ R.RPS_DEFER → evReg x.addr = false → t.f x = u.f x := fun x hx he =>
      hcalm.f_eq (beq_eq_false_iff_ne.2 hx) he
    have hdefer0 : u.f F.RPS_DEFER_COUNT = s.f F.RPS_DEFER_COUNT := by
      refine hexp.calm.f_eq ?_ rfl
      simp only [R.MGT_WD_CNT, R.MGT_GSE_STAT, R.MGT_GSE_CHG, R.RPS_DEFER, Bool.or_eq_false_iff, beq_eq_false_iff_ne]
      omega
    refine ⟨(hkeeps _ (by simp only [R.MGT_WD_CNT, R.RPS_DEFER]; omega) hcnt).trans hexp.count, hcalm.events 49 (by decide) hexp.told,
      hdefer.count.trans (by rw [hdefer0]), fun h3 => ?_, fun hb => hcalm.events 52 (by decide) (hexp.unconf hb),
      (hexp.frame.trans (hframe.mono fun a h => ?_)).sealed⟩
    · obtain ⟨hverdict, hwd, htold⟩ := hforce h3
      exact ⟨(hkeeps _ (by decide) rfl).trans hverdict, (hkeeps _ (by decide) rfl).trans hwd, hcalm.events 63 (by decide) htold⟩
    · simp only [Bool.or_eq_true]
      tauto
  case resets =>
    obtain ⟨u, hexp, -, heq⟩ := State.expired_before c.isLt hpar
    have hu : u.steady = true := (hexp.steady c.isLt).trans hsteady
    have hreset := State.coresReset_takeReset (r := { level := 1, source := 3, cores := 2 ^ c.val }) hu rfl
    have hcalm := State.calm_takeReset_cores (r := { level := 1, source := 3, cores := 2 ^ c.val }) hu rfl
    have hnone : u.mgt.act = none := hexp.act.trans hact
    refine completes_awake (g := fun s => s.watchdogExpiry c false) rfl ha ?_
    rw [heq false hup hper, State.requestReset_now]
    generalize u.takeReset { level := 1, source := 3, cores := 2 ^ c.val } = t at hreset hcalm
    obtain ⟨k, hcores, hk⟩ := hreset.cores
    refine ⟨?_, hreset.level, hreset.source, hreset.owed, ?_, hcalm.events 49 (by decide) hexp.told⟩
    · rw [State.sealed_rps, hcores, hk hnone, Nat.zero_or]
    · exact (hreset.running c c.isLt (Nat.testBit_two_pow_self)).resolve_right (by rw [hnone]; exact Bool.false_ne_true)

end Sys2Proof.Machine
end

section
/-! OBLIGATIONS. Requests for a commit (R270, R271). -/

namespace Sys2Proof.Machine

namespace State

/-- CMT_REQ is written only. -/
theorem write32_commitRequest {s : State} (path : Path) (v : Word) (h : s.isSender = true) :
    s.write32 path R.CMT_REQ v = (s.written R.CMT_REQ 0xFFFF000F v).commitRequest v := by
  have hrole : s.role = 1 := by simpa [isSender] using h
  have hreach : s.reaches R.CMT_REQ = true := by
    show (s.role != 0) = true
    rw [hrole]
    rfl
  exact write32_written path v (by decide) hreach (hiddenReg_below (by decide)) rfl rfl (by decide) (by decide +kernel)

/-! ### Reads of the frame memory that leave the populated space (R289) -/

/-- From `s` to `t` such reads have been noted. -/
structure ReadsNoted (s t : State) : Prop where
  calm : Calm (fun a => a == R.FMC_OOR_CNT || a == R.FMC_OOR_LO || a == R.FMC_OOR_HI) s t
  stage : t.stage = s.stage
  dram : t.dram = s.dram
  cmt : t.cmt = s.cmt

namespace ReadsNoted

variable {s t u : State}

theorem refl (s : State) : ReadsNoted s s := ⟨.refl _ s, rfl, rfl, rfl⟩

theorem trans (h : ReadsNoted s t) (k : ReadsNoted t u) : ReadsNoted s u :=
  ⟨h.calm.trans k.calm, k.stage.trans h.stage, k.dram.trans h.dram, k.cmt.trans h.cmt⟩

theorem setF (s : State) {x : Fld} (v : Nat) (h : (x.addr == R.FMC_OOR_CNT || x.addr == R.FMC_OOR_LO || x.addr == R.FMC_OOR_HI) = true)
    (hx : x.addr < 0x360010) : ReadsNoted s (s.setF x v) := ⟨.setF s v h hx, rfl, rfl, rfl⟩

theorem raise (s : State) (n : Nat) : ReadsNoted s (s.raise n) := ⟨.raise _ s n, raise_stage s n, raise_dram s n, raise_cmt s n⟩

theorem outOfRange (s : State) (a : Nat) (write : Bool) : ReadsNoted s (s.outOfRange a write) := by
  unfold State.outOfRange
  exact ((((ReadsNoted.setF (x := F.FMC_OOR_CNT_COUNT) s _ rfl (by decide)).trans
    (.setF (x := F.FMC_OOR_LO_ADDR) _ _ rfl (by decide))).trans (.setF (x := F.FMC_OOR_HI_ADDR) _ _ rfl (by decide))).trans
    (.setF (x := F.FMC_OOR_HI_WRITE) _ _ rfl (by decide))).trans (.raise _ 302)

theorem dramReadNote (s : State) (a n : Nat) : ReadsNoted s (s.dramReadNote a n) := by
  unfold State.dramReadNote
  split
  · exact .refl s
  · exact .outOfRange s _ _

theorem captureNote (s : State) (snap : RegFile) (c : PlcCache) : ReadsNoted s (s.captureNote snap c) := by
  unfold State.captureNote
  split
  · exact .refl s
  · exact (ReadsNoted.dramReadNote s _ _).trans
      (List.foldlRecOn _ _ (motive := ReadsNoted _) (.refl _) fun _ hu _ _ => hu.trans (.dramReadNote _ _ _))

theorem f (h : ReadsNoted s t) {x : Fld} (hx : x.addr < 0x80000) : t.f x = s.f x := by
  refine h.calm.f_eq ?_ ?_
  · simp only [R.FMC_OOR_CNT, R.FMC_OOR_LO, R.FMC_OOR_HI, Bool.or_eq_false_iff, beq_eq_false_iff_ne]
    omega
  · simp only [evReg, R.CMC_EVDROP, Bool.or_eq_false_iff, decide_eq_false_iff_not, beq_eq_false_iff_ne]
    omega

end ReadsNoted

/-! ### The parts of a request -/

/-- The request and its tag are noted. -/
def requestNoted (s : State) (w : Word) : State := (s.setReg R.CMT_REQ w).setF F.CMT_STATUS_LASTTAG (F.CMT_REQ_REQTAG.get w)

section requestNoted

variable (s : State) (w : Word)

theorem requestNoted_tag : (s.requestNoted w).f F.CMT_STATUS_LASTTAG = F.CMT_REQ_REQTAG.get w := by
  rw [requestNoted, f_setF_self _ _ _ (by decide)]
  exact Nat.mod_eq_of_lt (Fld.get_lt F.CMT_REQ_REQTAG w)

theorem requestNoted_f {x : Fld} (h : x.addr ≠ R.CMT_REQ) (hs : x.addr ≠ R.CMT_STATUS) : (s.requestNoted w).f x = s.f x := by
  rw [requestNoted, f_setF_ne _ _ hs, f_setReg_ne _ _ h]

theorem frame_requestNoted : Frame (fun a => a == R.CMT_REQ || a == R.CMT_STATUS || a == R.CMT_REFUSED) s (s.requestNoted w) :=
  (Frame.setReg s w rfl).trans (.setF _ _ rfl)

end requestNoted

/-- What a refused request leaves. -/
structure RequestRefused (result : Nat) (s t : State) : Prop where
  result : t.f F.CMT_STATUS_RESULT = result
  tag : t.f F.CMT_STATUS_LASTTAG = s.f F.CMT_STATUS_LASTTAG
  count : t.f F.CMT_REFUSED_COUNT = (s.f F.CMT_REFUSED_COUNT + 1) % 2 ^ 32
  check : t.f F.CMT_CHECK_CODE = s.f F.CMT_CHECK_CODE
  told : t.evBit 66 = true
  cmt : t.cmt = s.cmt
  frame : Frame (fun a => a == R.CMT_REQ || a == R.CMT_STATUS || a == R.CMT_REFUSED) s t

theorem requestRefused_requestRefuse {s : State} {result : Nat} (h : result < 8) (hp : s.present .CMT = true) :
    RequestRefused result s (s.requestRefuse result) := by
  unfold requestRefuse
  generalize hu : (s.setF F.CMT_STATUS_RESULT result).bump F.CMT_REFUSED_COUNT = u
  have hframe : Frame (fun a => a == R.CMT_REQ || a == R.CMT_STATUS || a == R.CMT_REFUSED) s u :=
    hu ▸ (Frame.setF s _ rfl).trans (.setF _ _ rfl)
  have hlive : u.evLive 66 = true := evLive_of_owner (b := .CMT) rfl ((congrArg (· != 0) (hframe.f_eq (x := F.SYS_ROLE_ROLE) rfl rfl)).trans hp)
  have hresult : u.f F.CMT_STATUS_RESULT = result := by
    rw [← hu, bump, f_setF_ne _ _ (by decide), f_setF_self _ _ _ (by decide)]
    exact Nat.mod_eq_of_lt h
  have htag : u.f F.CMT_STATUS_LASTTAG = s.f F.CMT_STATUS_LASTTAG := by
    rw [← hu, bump, f_setF_ne _ _ (by decide), f_setF_disjoint _ _ (by decide) (.inl (by decide))]
  have hcount : u.f F.CMT_REFUSED_COUNT = (s.f F.CMT_REFUSED_COUNT + 1) % 2 ^ 32 := by
    rw [← hu, f_bump_self _ (by decide), f_setF_ne _ _ (by decide)]
  have hcmt : u.cmt = s.cmt := hu ▸ rfl
  exact ⟨(f_raise u 66 rfl).trans hresult, (f_raise u 66 rfl).trans htag, (f_raise u 66 rfl).trans hcount,
    (f_raise u 66 rfl).trans (hframe.f_eq rfl rfl), evBit_raise_self hlive, (raise_cmt u 66).trans hcmt, hframe.trans (.raise _ u 66)⟩

/-- The commit that a request without a time asks for. -/
def requestCommit (s : State) (w : Word) (d : Nat × Nat) : Commit :=
  { gen := 0, n := d.1, slot := F.CMT_REQ_SLOT.get w, due := d.2, tag := F.CMT_REQ_REQTAG.get w
    heavy := (s.setReg R.CMT_REQ w).heavyChange (s.setReg R.CMT_REQ w).viewLast s.stage, sent := false, catchup := false, late := false
    snap := s.stage, cache := (s.requestNoted w).capture s.stage }

/-- A commit goes under check. -/
def underCheck (s : State) (x : Commit) : State :=
  ((s.captureNote x.snap x.cache).setF F.SND_STATUS_CAPTURE ((s.captureNote x.snap x.cache).present .SND).toNat).setF F.CMT_STATUS_RESULT 1
    |>.setCmt fun c => { c with checking := [x] }

/-- Is a request refused for want of a place (R270, R271)? -/
def requestBusy (s : State) : Bool :=
  !s.isSender || s.isSecondary || !s.framed || !s.cmt.checking.isEmpty || 4 ≤ s.cmt.pend.length || !s.coreUp 0

/-- What decides whether a request is taken is not what its own note changes. -/
theorem requestBusy_congr {s t : State} (h : Frame (fun a => a == R.CMT_REQ || a == R.CMT_STATUS || a == R.CMT_REFUSED) s t)
    (hc : t.cmt = s.cmt) : t.requestBusy = s.requestBusy := by
  have hsender : t.isSender = s.isSender := congrArg (· == 1) (h.f_eq (x := F.SYS_ROLE_ROLE) rfl rfl)
  have hsecond : t.isSecondary = s.isSecondary := by
    have hpair : t.pairState = s.pairState := h.f_eq (x := F.PAR_STATUS_PSTATE) rfl rfl
    rw [isSecondary, isSecondary, h.present_par rfl rfl, hpair]
  have hframed : t.framed = s.framed := by
    simp only [framed, timed, h.f_eq (x := F.TIM_STATUS_TSTATE) rfl rfl, h.f_eq (x := F.DSP_NUM_NUM) rfl rfl,
      h.f_eq (x := F.DSP_DEN_DEN) rfl rfl, h.f_eq (x := F.DSP_STATUS_SACT) rfl rfl]
  have hup : t.coreUp 0 = s.coreUp 0 := by simp only [coreUp, h.f_eq (x := F.MGT_STATUS_RUNNING) rfl rfl]
  rw [requestBusy, requestBusy, hsender, hsecond, hframed, hup, hc]

section commitRequest

variable {s : State} {w : Word} (hp : s.present .CMT = true)
include hp

theorem commitRequest_badTime (h : 999999999 < s.f F.CMT_TGT_NS_NS) : s.commitRequest w =
    ((s.requestNoted w).ruleReport 5 0 0 (F.CMT_REQ_REQTAG.get w)).requestRefuse 4 := by
  have hns : (s.requestNoted w).f F.CMT_TGT_NS_NS = s.f F.CMT_TGT_NS_NS := s.requestNoted_f w (by decide) (by decide)
  rw [commitRequest, hp, Bool.not_true, if_neg Bool.false_ne_true]
  exact if_pos (show 999999999 < (s.requestNoted w).f F.CMT_TGT_NS_NS by rwa [hns])

theorem commitRequest_busy (hns : s.f F.CMT_TGT_NS_NS ≤ 999999999) (h : (s.requestNoted w).requestBusy = true) :
    s.commitRequest w = (s.requestNoted w).requestRefuse 6 := by
  have hns' : (s.requestNoted w).f F.CMT_TGT_NS_NS = s.f F.CMT_TGT_NS_NS := s.requestNoted_f w (by decide) (by decide)
  rw [commitRequest, hp, Bool.not_true, if_neg Bool.false_ne_true]
  refine (if_neg (show ¬ 999999999 < (s.requestNoted w).f F.CMT_TGT_NS_NS by omega)).trans (if_pos h)

theorem commitRequest_taken (hns : s.f F.CMT_TGT_NS_NS ≤ 999999999) (h : (s.requestNoted w).requestBusy = false) (hw : w.getLsbD 0 = false)
    (hpend : s.cmt.pend = []) : ∃ d, s.commitRequest w = (s.requestNoted w).underCheck (s.requestCommit w d) := by
  have hns' : (s.requestNoted w).f F.CMT_TGT_NS_NS = s.f F.CMT_TGT_NS_NS := s.requestNoted_f w (by decide) (by decide)
  have hpoint : ∀ heavy, ∃ d : Nat × Nat, (s.requestNoted w).requestPoint heavy false (F.CMT_REQ_SLOT.get w) = some (d.1, d.2, false) := fun heavy =>
    ⟨_, by rw [requestPoint]; exact if_neg (by rw [Bool.false_eq_true]; tauto)⟩
  obtain ⟨d, hd⟩ := hpoint ((s.setReg R.CMT_REQ w).heavyChange (s.setReg R.CMT_REQ w).viewLast s.stage)
  refine ⟨d, ?_⟩
  rw [commitRequest, hp, Bool.not_true, if_neg Bool.false_ne_true, hw]
  refine (if_neg (show ¬ 999999999 < (s.requestNoted w).f F.CMT_TGT_NS_NS by omega)).trans ((if_neg fun hb => Bool.false_ne_true (h.symm.trans hb)).trans ?_)
  rw [show ((s.setReg R.CMT_REQ w).setF F.CMT_STATUS_LASTTAG (F.CMT_REQ_REQTAG.get w)) = s.requestNoted w from rfl]
  rw [show (s.setReg R.CMT_REQ w).stage = s.stage from rfl, hd]
  exact (if_neg (by rw [show (s.requestNoted w).cmt.pend = [] from hpend]; exact Bool.false_ne_true)).trans rfl

end commitRequest

/-- What a request under check leaves. -/
structure UnderCheck (x : Commit) (s t : State) : Prop where
  result : t.f F.CMT_STATUS_RESULT = 1
  tag : t.f F.CMT_STATUS_LASTTAG = s.f F.CMT_STATUS_LASTTAG
  capture : t.f F.SND_STATUS_CAPTURE = (s.present .SND).toNat
  checking : t.cmt.checking = [x]
  stage : t.stage = s.stage
  dram : t.dram = s.dram

theorem underCheck_underCheck (s : State) (x : Commit) : UnderCheck x s (s.underCheck x) := by
  have hnoted := ReadsNoted.captureNote s x.snap x.cache
  unfold underCheck
  generalize s.captureNote x.snap x.cache = u at hnoted
  have hsnd : u.present .SND = s.present .SND := congrArg (· == 1) (hnoted.f (x := F.SYS_ROLE_ROLE) (by decide))
  refine ⟨?_, ?_, ?_, rfl, hnoted.stage, hnoted.dram⟩
  · rw [setCmt_f, f_setF_self _ _ _ (by decide)]
    rfl
  · rw [setCmt_f, f_setF_disjoint _ _ (by decide) (.inl (by decide)), f_setF_ne _ _ (by decide), hnoted.f (by decide)]
  · rw [setCmt_f, f_setF_ne _ _ (by decide), f_setF_self _ _ _ (by decide), hsnd]
    exact Nat.mod_eq_of_lt (Bool.toNat_lt _)

end State

/-- A write to CMT_REQ, down to what it changes before the request is judged. -/
theorem completes_commitRequest {s : State} {v : Word} {P : State → Prop} (path : Path) (ha : s.asleep = false) (hs : s.isSender = true)
    (h : ∀ u, Frame (fun a => a == R.CMT_REQ) s u → u.cmt = s.cmt → u.stage = s.stage → u.dram = s.dram → u.present .CMT = true →
      u.present .SND = true → (u.requestNoted v).requestBusy = s.requestBusy → P (s.sealed (u.commitRequest v))) :
    Completes (.commitRequest path v) s P := by
  refine completes_awake (g := fun s => s.write32 path R.CMT_REQ v) rfl ha ?_
  rw [State.write32_commitRequest path v hs]
  have hframe : Frame (fun a => a == R.CMT_REQ) s (s.written R.CMT_REQ 0xFFFF000F v) := Frame.setReg s _ rfl
  have hrole : (s.written R.CMT_REQ 0xFFFF000F v).role = s.role := hframe.f_eq (x := F.SYS_ROLE_ROLE) rfl rfl
  have hone : s.role = 1 := by simpa [State.isSender] using hs
  refine h _ hframe rfl rfl rfl ?_ ?_ (State.requestBusy_congr ((hframe.mono fun a h => ?_).trans (State.frame_requestNoted _ v)) rfl)
  · show (State.role _ != 0) = true
    rw [hrole, hone]
    rfl
  · show (State.role _ == 1) = true
    rw [hrole, hone]
    rfl
  · rw [h]
    rfl

/-- Settles O39: a write to CMT_REQ is refused for its time or for a commit under check, or puts the stage view under check. -/
theorem commitRequests : Obligations.CommitRequests := by
  unfold Obligations.CommitRequests
  refine fun path v s ha hs hpar => ⟨fun hns => ?badTime, fun hns hf hup hbusy => ?busy, fun hns hf hup hfree hpend hv => ?taken⟩
  case badTime =>
    refine completes_commitRequest path ha hs fun u hframe hcmt _ _ hp _ _ => ?_
    rw [State.commitRequest_badTime hp (by rwa [hframe.f_eq rfl rfl])]
    generalize hr : (u.requestNoted v).ruleReport 5 0 0 (F.CMT_REQ_REQTAG.get v) = r
    have htag : r.f F.CMT_STATUS_LASTTAG = F.CMT_REQ_REQTAG.get v := by
      rw [← hr, ← u.requestNoted_tag v, State.ruleReport]
      simp (disch := decide) only [State.f_setF_ne]
    have hcode : r.f F.CMT_CHECK_CODE = 5 := by
      rw [← hr, State.ruleReport]
      simp (disch := decide) only [State.f_setF_ne, State.f_setF_disjoint, State.f_setF_self]
      rfl
    have hpr : r.present .CMT = true := by
      rw [← hp, ← hr, State.ruleReport]
      show (State.f _ F.SYS_ROLE_ROLE != 0) = (State.f _ F.SYS_ROLE_ROLE != 0)
      simp (disch := decide) only [State.f_setF_ne]
      rw [State.requestNoted_f u v (by decide) (by decide)]
    have hrcmt : r.cmt = s.cmt := by rw [← hcmt, ← hr]; rfl
    have href := State.requestRefused_requestRefuse (result := 4) (by decide) hpr
    exact ⟨href.result, href.tag.trans htag, href.check.trans hcode, href.told, href.cmt.trans hrcmt⟩
  case busy =>
    have hyes : s.requestBusy = true := by
      have hne : s.cmt.checking.isEmpty = false := by simpa using hbusy
      simp [State.requestBusy, hne]
    refine completes_commitRequest path ha hs fun u hframe hcmt _ _ hp _ hsame => ?_
    rw [State.commitRequest_busy hp (by rwa [hframe.f_eq rfl rfl]) (hsame.trans hyes)]
    have hpu : (u.requestNoted v).present .CMT = true := by
      rw [← hp]
      exact congrArg (· != 0) (State.requestNoted_f u v (x := F.SYS_ROLE_ROLE) (by decide) (by decide))
    have href := State.requestRefused_requestRefuse (result := 6) (by decide) hpu
    refine ⟨href.result, href.tag.trans (u.requestNoted_tag v), ?_, href.told, href.cmt.trans hcmt, ?_⟩
    · rw [State.sealed_f, href.count, u.requestNoted_f v (by decide) (by decide), hframe.f_eq rfl rfl]
    · exact (((hframe.mono fun a h => by rw [h]; rfl).trans (u.frame_requestNoted v)).trans href.frame).sealed
  case taken =>
    have hno : s.requestBusy = false := by
      simp [State.requestBusy, State.isSecondary, hs, hpar, hf, hup, hfree, hpend]
    refine completes_commitRequest path ha hs fun u hframe hcmt hstage hdram hp hsnd hsame => ?_
    obtain ⟨d, hd⟩ := State.commitRequest_taken hp (by rwa [hframe.f_eq rfl rfl]) (hsame.trans hno) hv (hcmt ▸ hpend)
    rw [hd]
    have hpu : (u.requestNoted v).present .SND = true := by
      rw [← hsnd]
      exact congrArg (· == 1) (State.requestNoted_f u v (x := F.SYS_ROLE_ROLE) (by decide) (by decide))
    have hcheck := State.underCheck_underCheck (u.requestNoted v) (u.requestCommit v d)
    refine ⟨hcheck.result, hcheck.tag.trans (u.requestNoted_tag v), ?_, ⟨_, hcheck.checking, hstage, rfl, rfl⟩, hcheck.stage.trans hstage,
      hcheck.dram.trans hdram⟩
    rw [State.sealed_f, hcheck.capture, hpu]
    rfl

end Sys2Proof.Machine
end

section
/-! OBLIGATIONS. Peeks and dumps (R282 to R285). -/

namespace Sys2Proof.Machine

namespace State

/-- The block of commits is there in a device that has a role. -/
theorem present_cmt {s : State} (h : s.role ≠ 0) : s.present .CMT = true := bne_iff_ne.2 h

theorem reaches_cmt {s : State} (h : s.role ≠ 0) {a : Nat} (ha : blkOf a = some .CMT) : s.reaches a = true := by
  rw [reaches, ha]
  exact present_cmt h

/-! ### Peeks -/

/-- CMT_PEEK_ADDR is written in its address bits. -/
theorem write32_peek {s : State} (path : Path) (v : Word) (h : s.role ≠ 0) :
    s.write32 path R.CMT_PEEK_ADDR v = (s.written R.CMT_PEEK_ADDR 0xFFFFFF v).peekStart (F.CMT_PEEK_ADDR_ADDR.get v) :=
  write32_written path v (by decide) (reaches_cmt h rfl) (hiddenReg_below (by decide)) rfl rfl (by decide) (by decide +kernel)

theorem peekStart_eq {s : State} (a : Nat) (h : s.present .CMT = true) :
    s.peekStart a = (s.setF F.CMT_PEEK_ADDR_ADDR a).setF F.CMT_PEEK_ADDR_BUSY 1 := if_pos h

section peekDone

variable {s : State} (hr : s.role ≠ 0) (hb : s.on F.CMT_PEEK_ADDR_BUSY = true)
include hr hb

theorem peekDone_reads (h4 : s.f F.CMT_PEEK_ADDR_ADDR % 4 = 0) (hreach : s.reaches (view (s.f F.CMT_PEEK_ADDR_ADDR)).2 = true) :
    s.peekDone = (s.setF F.CMT_PEEK_ADDR_BUSY 0).setReg R.CMT_PEEK_DATA (s.peekAt (s.f F.CMT_PEEK_ADDR_ADDR)) := by
  simp [peekDone, present_cmt hr, hb, h4, hreach]

theorem peekDone_misaligned (h4 : s.f F.CMT_PEEK_ADDR_ADDR % 4 ≠ 0) :
    s.peekDone = ((s.setF F.CMT_PEEK_ADDR_BUSY 0).setReg R.CMT_PEEK_DATA 0).raise 3 := by
  simp [peekDone, present_cmt hr, hb, h4]

end peekDone

/-! ### Dumps -/

theorem dumpStart_begins {s : State} (hr : s.role ≠ 0) (h : s.f F.CMT_DUMP_STAT_STATE ≠ 1) : s.dumpStart =
    ((s.setF F.CMT_DUMP_GO_START 1).setReg R.CMT_DUMP_STAT 1).setCmt fun c => { c with
      dumpGen := (s.setF F.CMT_DUMP_GO_START 1).reg R.CMT_GEN, dumpAt := s.clk.wall, dumpTorn := 0, dumpAbort := false
      dumpSusp := (s.setF F.CMT_DUMP_GO_START 1).on F.THM_STATUS_STAGE } := by
  have hst : (s.setF F.CMT_DUMP_GO_START 1).f F.CMT_DUMP_STAT_STATE ≠ 1 := by rwa [f_setF_ne _ _ (by decide)]
  rw [dumpStart, present_cmt hr, Bool.not_true, if_neg Bool.false_ne_true]
  exact if_neg hst

theorem dumpStart_again {s : State} (hr : s.role ≠ 0) (h : s.f F.CMT_DUMP_STAT_STATE = 1) : s.dumpStart = s.setF F.CMT_DUMP_GO_START 1 := by
  have hst : (s.setF F.CMT_DUMP_GO_START 1).f F.CMT_DUMP_STAT_STATE = 1 := by rwa [f_setF_ne _ _ (by decide)]
  rw [dumpStart, present_cmt hr, Bool.not_true, if_neg Bool.false_ne_true]
  exact if_pos hst

theorem dumpAbort_running {s : State} (hr : s.role ≠ 0) (h : s.f F.CMT_DUMP_STAT_STATE = 1) :
    s.dumpAbort = (s.setF F.CMT_DUMP_GO_ABORT 1).setCmt fun c => { c with dumpAbort := true } := by
  have hst : (s.setF F.CMT_DUMP_GO_ABORT 1).f F.CMT_DUMP_STAT_STATE = 1 := by rwa [f_setF_ne _ _ (by decide)]
  rw [State.dumpAbort, present_cmt hr, Bool.not_true, if_neg Bool.false_ne_true]
  exact if_pos hst

/-- Is the dump stopped after `done` sections? -/
def dumpStops (s : State) (done : Nat) : Bool := s.cmt.dumpAbort && decide (done < s.dumpSections.length)

/-- The bytes of the sections dumped, before the limit cuts them. -/
def dumpLength (s : State) (done : Nat) : Nat :=
  64 + (dumpBody (if s.dumpStops done then s.dumpSections.take done else s.dumpSections)).1.length

/-- How a dump ends, in CMT_DUMP_STAT. -/
def dumpNoted (s : State) (stopped torn trunc bad : Bool) : State :=
  (((s.setF F.CMT_DUMP_STAT_STATE (if stopped then 3 else 2)).setF F.CMT_DUMP_STAT_TORN torn.toNat).setF
    F.CMT_DUMP_STAT_TRUNC trunc.toNat).setF F.CMT_DUMP_STAT_ERR bad.toNat

/-- The end of a dump of these bytes, once they are where they go. -/
def dumpEnded (s : State) (stopped torn trunc bad : Bool) (len : Nat) (bytes : List Byte) : State :=
  (((s.dumpNoted stopped torn trunc bad).setF F.CMT_DUMP_BYTES_BYTES len).setCmt fun c => { c with dump := bytes }).raise
    (if stopped || torn then 75 else 74)

/-- The bytes that a dump of these sections puts out: its header and its body, cut at the limit. -/
def dumpBytes (s : State) (torn : Bool) (body : List Byte) (offs : List Nat) : List Byte :=
  let lim := s.f F.CMT_DUMP_LEN_LEN
  let len := min lim (64 + (body.take (lim - 64)).length)
  let n := (offs.filter fun o => decide (64 + o < lim)).length
  let flags := torn.toNat + 2 * (decide (lim < 64 + body.length)).toNat + 4 * s.cmt.dumpSusp.toNat
  (s.dumpHeader n len flags (crc32 ((s.dumpHeader n len flags 0 ++ body.take (lim - 64)).take lim)) ++ body.take (lim - 64)).take lim

/-- The end of a dump whose bytes are known: they are put out, and the rest is noted. -/
def dumpFinish (s : State) (stop torn trunc err : Bool) (len : Nat) (bytes : List Byte) : State :=
  let (bad, t) := s.dumpPut bytes
  t.dumpEnded (stop || trunc || (bad || err)) torn trunc (bad || err) len bytes

/-- The end of a dump of these sections. -/
def dumpCut (s : State) (stop torn err : Bool) (body : List Byte) (offs : List Nat) : State :=
  s.dumpFinish stop torn (decide (s.f F.CMT_DUMP_LEN_LEN < 64 + body.length)) err
    (min (s.f F.CMT_DUMP_LEN_LEN) (64 + (body.take (s.f F.CMT_DUMP_LEN_LEN - 64)).length)) (s.dumpBytes torn body offs)

/-- Do two shutter points tear the register sections of the dump? -/
def dumpTears (s : State) : Bool := decide (s.f F.CMT_DUMP_CTL_SEL % 4 ≠ 0 ∧ 2 ≤ s.cmt.dumpTorn)

theorem dumpComplete_running {s : State} (done : Nat) (err : Bool) (hr : s.role ≠ 0) (hst : s.f F.CMT_DUMP_STAT_STATE = 1)
    (hstage : s.on F.THM_STATUS_STAGE = false) : s.dumpComplete done err =
      let p := dumpBody (if s.dumpStops done then s.dumpSections.take done else s.dumpSections)
      s.dumpCut (s.dumpStops done) s.dumpTears err p.1 p.2 := by
  have hgo : (!s.present .CMT || s.f F.CMT_DUMP_STAT_STATE ≠ 1 || (s.on F.THM_STATUS_STAGE && !s.cmt.dumpAbort)) = false := by
    simp [present_cmt hr, hst, hstage]
  exact if_neg fun h => Bool.false_ne_true (hgo.symm.trans h)

/-! ### Where the bytes of a dump go -/

/-- The registers that a write past the populated frame memory notes itself in (R289). -/
def outOfRangeReg (a : Nat) : Bool := a == R.FMC_OOR_CNT || a == R.FMC_OOR_LO || a == R.FMC_OOR_HI

theorem calm_outOfRange (s : State) (a : Nat) (write : Bool) : Calm outOfRangeReg s (s.outOfRange a write) :=
  (ReadsNoted.outOfRange s a write).calm

theorem regs_withDram (s : State) (d : List Host.Cell) : ({ s with dram := d } : State).regs = s.regs := rfl

theorem calm_dramPut (own : Nat → Bool) (s : State) (a : Nat) (bs : List Byte) : Calm own s (s.dramPut a bs) :=
  .of_regs (regs_withDram s _)

theorem calm_dramWr (s : State) (a : Nat) (bs : List Byte) : Calm outOfRangeReg s (s.dramWr a bs) := by
  unfold dramWr
  split
  · exact calm_dramPut _ s a bs
  · exact (calm_dramPut _ s a bs).trans (calm_outOfRange _ _ _)

theorem calm_dumpPut (s : State) (bytes : List Byte) : Calm outOfRangeReg s (s.dumpPut bytes).2 := by
  unfold dumpPut
  dsimp only
  split
  · split
    · exact .of_regs rfl
    · exact .refl _ s
  · exact calm_dramWr s _ _

/-- A dump to local DRAM meets no write error. -/
theorem dumpPut_local {s : State} (bytes : List Byte) (h : s.on F.CMT_DUMP_CTL_TARGET = false) : (s.dumpPut bytes).1 = false := by
  simp [dumpPut, h]

/-! ### How a dump ends -/

/-- How the end of a dump shows in the registers and the events. -/
structure DumpEnds (stopped torn trunc bad : Bool) (len : Nat) (t : State) : Prop where
  state : t.f F.CMT_DUMP_STAT_STATE = if stopped then 3 else 2
  torn_eq : t.f F.CMT_DUMP_STAT_TORN = torn.toNat
  trunc_eq : t.f F.CMT_DUMP_STAT_TRUNC = trunc.toNat
  err : t.f F.CMT_DUMP_STAT_ERR = bad.toNat
  bytes : t.f F.CMT_DUMP_BYTES_BYTES = len % 2 ^ 32
  told : t.evBit (if stopped || torn then 75 else 74) = true

theorem dumpEnds_dumpEnded {s : State} (stopped torn trunc bad : Bool) (len : Nat) (bytes : List Byte) (hr : s.role ≠ 0) :
    DumpEnds stopped torn trunc bad len (s.dumpEnded stopped torn trunc bad len bytes) := by
  have hlive : ∀ n, evOwner n = some .CMT →
      (((s.dumpNoted stopped torn trunc bad).setF F.CMT_DUMP_BYTES_BYTES len).setCmt fun c => { c with dump := bytes }).evLive n = true :=
    fun n hn => evLive_of_owner hn <| present_cmt fun h => hr <| by
      rw [← h, dumpNoted]
      simp (disch := decide) only [role, setCmt_f, f_setF_ne]
  refine ⟨?state, ?tornEq, ?truncEq, ?err, ?bytes, evBit_raise_self (hlive _ (by split <;> rfl))⟩
  all_goals
    rw [dumpEnded, f_raise _ _ rfl, setCmt_f, dumpNoted]
    simp (disch := decide) only [f_setF_ne, f_setF_disjoint, f_setF_self]
  case state => split <;> rfl
  all_goals exact Nat.mod_eq_of_lt (Bool.toNat_lt _)

theorem dumpEnds_dumpFinish {s : State} (stop torn trunc err : Bool) (len : Nat) (bytes : List Byte) (hr : s.role ≠ 0) :
    DumpEnds (stop || trunc || ((s.dumpPut bytes).1 || err)) torn trunc ((s.dumpPut bytes).1 || err) len
      (s.dumpFinish stop torn trunc err len bytes) := by
  have hrole : (s.dumpPut bytes).2.role = s.role := (calm_dumpPut s bytes).f_eq (x := F.SYS_ROLE_ROLE) rfl rfl
  unfold dumpFinish
  generalize s.dumpPut bytes = q at hrole
  exact dumpEnds_dumpEnded _ _ _ _ _ _ (hrole ▸ hr)

/-- Once its bytes are where they go, a dump ends as its parts say. -/
theorem dumpEnds_dumpComplete {s : State} (done : Nat) (err : Bool) (hr : s.role ≠ 0) (hst : s.f F.CMT_DUMP_STAT_STATE = 1)
    (hstage : s.on F.THM_STATUS_STAGE = false) : ∃ torn len bytes, len ≤ s.f F.CMT_DUMP_LEN_LEN ∧
      (s.dumpLength done ≤ s.f F.CMT_DUMP_LEN_LEN → len = s.dumpLength done) ∧
      DumpEnds (s.dumpStops done || decide (s.f F.CMT_DUMP_LEN_LEN < s.dumpLength done) || ((s.dumpPut bytes).1 || err)) torn
        (decide (s.f F.CMT_DUMP_LEN_LEN < s.dumpLength done)) ((s.dumpPut bytes).1 || err) len (s.dumpComplete done err) := by
  rw [dumpComplete_running done err hr hst hstage]
  refine ⟨_, _, _, Nat.min_le_left _ _, fun h => ?_, dumpEnds_dumpFinish _ _ _ _ _ _ hr⟩
  rw [dumpLength] at h ⊢
  rw [List.length_take]
  omega

theorem regRow_dport : regRow R.CMT_DPORT_DATA = some ⟨"CMT_DPORT_DATA", 0x164, [], 0, [⟨0, 32, .ro, 0, 0⟩]⟩ := by decide +kernel

/-- A read of CMT_DPORT_DATA moves the offset on by a word (R285). -/
theorem readEffect_dport (s : State) : s.readEffect R.CMT_DPORT_DATA = s.setReg R.CMT_DPORT_ADDR (s.reg R.CMT_DPORT_ADDR + 4) := by
  have hh : s.hiddenReg R.CMT_DPORT_DATA = false := hiddenReg_below (by decide)
  rw [readEffect, regRow_dport]
  exact (if_neg (by rw [hh]; decide)).trans rfl

theorem frame_setCmt (own : Nat → Bool) (s : State) (g : CmtSt → CmtSt) : Frame own s (s.setCmt g) :=
  ⟨fun _ _ _ => rfl, rfl, rfl, fun _ => rfl, fun _ => rfl, fun _ => rfl, fun _ => rfl⟩

end State

/-- A command that only a device with the block of commits takes. -/
theorem completes_atCmt {c : Instr} {s : State} {g : State → State} {P : State → Prop}
    (hc : exec c s = s.finish (s.awake fun s => s.atBlk .CMT g)) (ha : s.asleep = false) (hr : s.role ≠ 0) (hp : P (s.sealed (g s))) :
    Completes c s P := by
  refine completes_awake hc ha ?_
  rwa [State.atBlk, if_pos (State.present_cmt hr)]

/-- Settles O41: a peek answers the word of its address or event 3, and a dump's end shows what it came to. -/
theorem peeksAndDumps : Obligations.PeeksAndDumps := by
  unfold Obligations.PeeksAndDumps
  refine ⟨fun path v s ha hr => ⟨?peek, fun hb h4 hreach => ?reads, fun hb h4 => ?misaligned⟩,
    fun path done err s ha hr => ⟨fun hst => ?begins, fun hst => ⟨?again, ?abort, fun hstage => ?ends, fun hstage hab htgt hfit => ?fits⟩, ?dport⟩⟩
  case peek =>
    refine completes_awake (g := fun s => s.write32 path R.CMT_PEEK_ADDR v) rfl ha ?_
    rw [State.write32_peek path v hr]
    have hframe : Frame (fun a => a == R.CMT_PEEK_ADDR) s (s.written R.CMT_PEEK_ADDR 0xFFFFFF v) := Frame.setReg s _ rfl
    generalize s.written R.CMT_PEEK_ADDR 0xFFFFFF v = u at hframe
    rw [State.peekStart_eq _ (State.present_cmt (by rwa [State.role, hframe.f_eq (x := F.SYS_ROLE_ROLE) rfl rfl]))]
    refine ⟨?_, ?_, ((hframe.trans (.setF u _ rfl)).trans (.setF _ _ rfl)).sealed⟩
    · rw [State.sealed_f, State.f_setF_self _ _ _ (by decide)]
      rfl
    · rw [State.sealed_f, State.f_setF_disjoint _ _ (by decide) (.inr (by decide)), State.f_setF_self _ _ _ (by decide)]
      exact Nat.mod_eq_of_lt (Fld.get_lt F.CMT_PEEK_ADDR_ADDR v)
  case reads =>
    refine completes_awake (g := State.peekDone) rfl ha ?_
    rw [State.peekDone_reads hr hb h4 hreach]
    refine ⟨State.reg_setReg_self _ _ _, ?_, rfl, ((Frame.setF s _ rfl).trans (.setReg _ _ rfl)).sealed⟩
    rw [State.sealed_f, State.f_setReg_ne _ _ (by decide), State.f_setF_self _ _ _ (by decide)]
    rfl
  case misaligned =>
    refine completes_awake (g := State.peekDone) rfl ha ?_
    rw [State.peekDone_misaligned hr hb h4]
    generalize hu : (s.setF F.CMT_PEEK_ADDR_BUSY 0).setReg R.CMT_PEEK_DATA 0 = u
    have hframe : Frame (fun a => a == R.CMT_PEEK_ADDR || a == R.CMT_PEEK_DATA) s u := hu ▸ (Frame.setF s _ rfl).trans (.setReg _ _ rfl)
    refine ⟨?_, ?_, State.evBit_raise_self (State.evLive_of_owner (b := .RPS) rfl rfl), (hframe.trans (.raise _ u 3)).sealed⟩
    · rw [State.sealed_reg, State.reg_raise u 3 rfl, ← hu]
      exact State.reg_setReg_self _ _ _
    · rw [State.sealed_f, State.f_raise u 3 rfl, ← hu, State.f_setReg_ne _ _ (by decide), State.f_setF_self _ _ _ (by decide)]
      rfl
  case begins =>
    refine completes_atCmt (g := State.dumpStart) rfl ha hr ?_
    rw [State.dumpStart_begins hr hst]
    refine ⟨?_, ?_, ?_, rfl, rfl, ?_⟩
    · rw [State.sealed_reg, State.setCmt_reg, State.reg_setReg_self]
    · rw [State.sealed_f, State.setCmt_f, State.f_setReg_ne _ _ (by decide), State.f_setF_self _ _ _ (by decide)]
      rfl
    · exact State.reg_setF_ne s _ (by decide)
    · exact (((Frame.setF (x := F.CMT_DUMP_GO_START) s _ rfl).trans (.setReg _ _ rfl)).trans (State.frame_setCmt _ _ _)).sealed
  case again =>
    refine completes_atCmt (g := State.dumpStart) rfl ha hr ?_
    rw [State.dumpStart_again hr hst]
    exact ⟨rfl, (Frame.setF s _ rfl).sealed⟩
  case abort =>
    refine completes_atCmt (g := State.dumpAbort) rfl ha hr ?_
    rw [State.dumpAbort_running hr hst]
    refine ⟨rfl, ?_, ((Frame.setF s _ rfl).trans (State.frame_setCmt _ _ _)).sealed⟩
    rw [State.sealed_f, State.setCmt_f, State.f_setF_self _ _ _ (by decide)]
    rfl
  case ends =>
    refine completes_awake (g := fun s => s.dumpComplete done err) rfl ha ?_
    obtain ⟨torn, len, bytes, hle, -, hends⟩ := State.dumpEnds_dumpComplete done err hr hst hstage
    simp only [State.sealed_f, hends.state, hends.torn_eq, hends.err, hends.bytes]
    have htold := hends.told
    refine ⟨?_, ?_, ?_, ?_, (Nat.mod_le _ _).trans hle⟩
    · split <;> simp
    · rintro rfl
      simp
    · intro h
      have hbad : ((s.dumpPut bytes).1 || err) = true := by simpa using h
      simp [hbad]
    · revert htold
      generalize (s.dumpStops done || decide (s.f F.CMT_DUMP_LEN_LEN < s.dumpLength done) || ((s.dumpPut bytes).1 || err)) = stopped
      cases stopped <;> cases torn <;> exact id
  case fits =>
    refine completes_awake (g := fun s => s.dumpComplete done false) rfl ha ?_
    obtain ⟨torn, len, bytes, -, hlen, hends⟩ := State.dumpEnds_dumpComplete done false hr hst hstage
    have hstops : s.dumpStops done = false := by simp [State.dumpStops, hab]
    have hwhole : s.dumpLength done = 64 + (State.dumpBody s.dumpSections).1.length := by simp [State.dumpLength, hstops]
    have hlim : ¬ s.f F.CMT_DUMP_LEN_LEN < s.dumpLength done := by omega
    rw [hstops, decide_eq_false hlim, State.dumpPut_local bytes htgt, hlen (by omega), hwhole] at hends
    refine ⟨hends.state, hends.err, hends.trunc_eq, hends.bytes, fun htorn => ?_⟩
    have hnot : torn = false := by simpa using hends.torn_eq.symm.trans htorn
    have htold := hends.told
    rwa [hnot] at htold
  case dport =>
    refine completes_awake (g := fun s => s.busAccess path R.CMT_DPORT_DATA false none) rfl ha ?_
    rw [State.busAccess_read path (by decide), State.read32_active (by decide) (State.reaches_cmt hr rfl),
      State.readWord_value State.regRow_dport (by decide), State.readEffect_dport]
    exact ⟨rfl, State.reg_setReg_self _ _ _, ((Frame.setReg s _ rfl).trans (.emit _ _ _)).sealed⟩

end Sys2Proof.Machine
end

section
/-! OBLIGATIONS. Refresh, open rows and scrubbing (R292, R294, R295, R301). -/

namespace Sys2Proof.Machine

namespace State

theorem present_fmc {s : State} (h : s.role ≠ 0) : s.present .FMC = true := bne_iff_ne.2 h

theorem bankIdx_lt (c : Fin 4) (r : Fin 2) (b : Fin 16) : bankIdx c r b < 128 := by
  rw [bankIdx]
  omega

/-! ### One bank changed -/

section setBank

variable (s : State) (i : Nat) (g : BankSt → BankSt)

theorem bank_setBank_self {i : Nat} (h : i < 128) : (s.setBank i g).bank i = g (s.bank i) := tabAt_tabMod_self _ g _ h

theorem setBank_f (x : Fld) : (s.setBank i g).f x = s.f x := rfl

theorem setBank_dram : (s.setBank i g).dram = s.dram := rfl

theorem frame_setBank (own : Nat → Bool) : Frame own s (s.setBank i g) := .setFmc own s _

end setBank

theorem bank_raise (s : State) (n i : Nat) : (s.raise n).bank i = s.bank i := by rw [bank, raise_fmc, bank]

/-! ### The refresh of a bank -/

/-- The refreshes that reached the bank close its row. -/
def refreshPaid (s : State) (c i b n : Nat) : State :=
  if 0 < n then (s.setBank i fun x => { x with isOpen := false, byPred := false }).emit (.dram c 0 b 0) else s

/-- A refresh of the bank is forced: its debt is 8 again. -/
def refreshForced (s : State) (c i b : Nat) : State :=
  (((s.setBank i fun x => { x with isOpen := false, byPred := false, debt := 8 }).emit (.dram c 0 b 0)).bump (F.FMC_CH_FORCED_COUNT c)).raise 300

/-- A refresh interval: what was paid, then the debt, and past 8 a forced refresh. -/
theorem refreshInterval_eq {s : State} {c : Nat} (r b paid : Nat) (hr : s.role ≠ 0) (hst : s.f (F.FMC_CH_STAT_STATE c) = 2) :
    ∃ p, (∀ own, Frame own s p) ∧ (∀ x, p.f x = s.f x) ∧ s.refreshInterval c r b paid =
      let u := p.setDebt c (bankIdx c r b) ((s.bank (bankIdx c r b)).debt - paid + 1)
      if (s.bank (bankIdx c r b)).debt - paid + 1 < 9 then u else u.refreshForced c (bankIdx c r b) (r * 16 + b) := by
  refine ⟨s.refreshPaid c (bankIdx c r b) (r * 16 + b) (min paid (s.bank (bankIdx c r b)).debt), fun own => ?_, fun x => ?_, ?_⟩
  · unfold refreshPaid
    split
    · exact (frame_setBank s _ _ own).trans (.emit _ _ _)
    · exact .refl _ s
  · unfold refreshPaid
    split <;> rfl
  · rw [refreshInterval, present_fmc hr, hst]
    exact if_neg (by decide)

section setDebt

variable (s : State) (c i d : Nat)

theorem frame_setDebt : Frame (fun a => a == R.FMC_CH_STAT c) s (s.setDebt c i d) := (frame_setBank s i _ _).trans (.setF _ _ (by simp))

theorem setDebt_bank {i : Nat} (hi : i < 128) : ((s.setDebt c i d).bank i).debt = d :=
  congrArg BankSt.debt (s.bank_setBank_self (fun b => { b with debt := d }) hi)

/-- DEBTMAX keeps the highest debt that it can hold. -/
theorem setDebt_most {d : Nat} (hd : d < 256) :
    (s.setDebt c i d).f (F.FMC_CH_STAT_DEBTMAX c) = max (s.f (F.FMC_CH_STAT_DEBTMAX c)) d := by
  rw [setDebt, f_setF_self _ _ _ (by simp), setBank_f]
  exact Nat.mod_eq_of_lt (Nat.max_lt.2 ⟨Fld.get_lt (F.FMC_CH_STAT_DEBTMAX c) _, hd⟩)

end setDebt

/-- A refresh was forced. -/
structure Forced (c i : Nat) (s t : State) : Prop where
  debt : (t.bank i).debt = 8
  closed : (t.bank i).isOpen = false
  count : t.f (F.FMC_CH_FORCED_COUNT c) = (s.f (F.FMC_CH_FORCED_COUNT c) + 1) % 2 ^ 32
  told : t.evBit 300 = true
  frame : Frame (fun a => a == R.FMC_CH_FORCED c) s t

theorem forced_refreshForced (s : State) {c i : Nat} (b : Nat) (hr : s.role ≠ 0) (hc : c < 4) (hi : i < 128) :
    Forced c i s (s.refreshForced c i b) := by
  unfold refreshForced
  generalize hu : ((s.setBank i fun x => { x with isOpen := false, byPred := false, debt := 8 }).emit (.dram c 0 b 0)) = u
  have hbank : u.bank i = { s.bank i with isOpen := false, byPred := false, debt := 8 } := hu ▸ bank_setBank_self s _ hi
  have hframe : Frame (fun a => a == R.FMC_CH_FORCED c) s u := hu ▸ (frame_setBank s i _ _).trans (.emit _ _ _)
  have hf : ∀ x, u.f x = s.f x := fun x => hu ▸ rfl
  have hev : evReg (R.FMC_CH_FORCED c) = false := by simp [evReg, R.FMC_CH_FORCED, R.CMC_EVDROP]; omega
  have hlive : (u.bump (F.FMC_CH_FORCED_COUNT c)).evLive 300 = true := by
    refine evLive_of_owner (b := .FMC) rfl (present_fmc ?_)
    rwa [role, bump, f_setF_ne _ _ (by simp [R.SYS_ROLE, R.FMC_CH_FORCED]; omega), hf]
  have hbank' : ((u.bump (F.FMC_CH_FORCED_COUNT c)).raise 300).bank i = u.bank i := bank_raise _ _ _
  refine ⟨?_, ?_, ?_, evBit_raise_self hlive, (hframe.trans (.setF u _ (by simp))).trans (.raise _ _ 300)⟩
  · rw [hbank', hbank]
  · rw [hbank', hbank]
  · rw [f_raise _ _ hev, f_bump_self _ (by simp), hf]

/-! ### What the scrubber's read changes -/

/-- The registers that a read of the frame memory notes itself in. -/
def readReg (a : Nat) : Bool :=
  a == R.FMC_STATUS || a == R.FMC_LAST_UE_LO || a == R.FMC_LAST_UE_HI || decide (0x2C0100 ≤ a ∧ a < 0x2C0200)

/-- From `s` to `t` reads of the frame memory have been noted. -/
structure ReadNoted (s t : State) : Prop where
  calm : Calm readReg s t
  dram : t.dram = s.dram

namespace ReadNoted

variable {s t u : State}

theorem refl (s : State) : ReadNoted s s := ⟨.refl _ s, rfl⟩

theorem trans (h : ReadNoted s t) (k : ReadNoted t u) : ReadNoted s u := ⟨h.calm.trans k.calm, k.dram.trans h.dram⟩

theorem setF (s : State) {x : Fld} (v : Nat) (h : readReg x.addr = true) (hx : x.addr < 0x360010) : ReadNoted s (s.setF x v) :=
  ⟨.setF s v h hx, rfl⟩

theorem raise (s : State) (n : Nat) : ReadNoted s (s.raise n) := ⟨.raise _ s n, raise_dram s n⟩

theorem setBank (s : State) (i : Nat) (g : BankSt → BankSt) : ReadNoted s (s.setBank i g) := ⟨.of_regs rfl, rfl⟩

/-- A count of a channel. -/
theorem bump_channel (s : State) {x : Fld} (h : 0x2C0100 ≤ x.addr ∧ x.addr < 0x2C0200) : ReadNoted s (s.bump x) := by
  refine setF s _ ?_ (by omega)
  simp [readReg, h]

theorem setReg (s : State) {a : Nat} (v : Word) (h : readReg a = true) (ha : a < 0x360010) : ReadNoted s (s.setReg a v) := by
  refine ⟨⟨fun b hb _ => reg_setReg_ne s v (by rintro rfl; simp [h] at hb), fun k _ hk => ?_⟩, rfl⟩
  rw [evBit, reg_setReg_ne s v (by simp only [R.EVT_STAT]; omega)]
  exact hk

theorem bumpWide (s : State) {lo hi : Nat} (k : Nat) (hlo : 0x2C0100 ≤ lo ∧ lo < 0x2C0200) (hhi : 0x2C0100 ≤ hi ∧ hi < 0x2C0200) :
    ReadNoted s (s.bumpWide lo hi k) :=
  (setReg s _ (by simp [readReg, hlo]) (by omega)).trans (setReg _ _ (by simp [readReg, hhi]) (by omega))

theorem noteScrub (s : State) : ReadNoted s s.noteScrub := setF (x := F.FMC_STATUS_SCRUB) s _ rfl (by decide)

theorem headReached (s : State) (p : Place) : ReadNoted s (s.headReached p) := by
  unfold State.headReached
  dsimp only
  split
  · exact refl s
  · exact setBank s _ _

theorem serveRow (s : State) {p : Place} (last : Bool) (h : p.ch < 4) : ReadNoted s (s.serveRow p last) := by
  unfold State.serveRow
  extract_lets b pred hit close s1 s2
  have h1 : ReadNoted s s1 := by
    simp only [s1]
    split
    · exact bump_channel s (by simp only [R.FMC_CH_HIT]; omega)
    · exact bump_channel s (by simp only [R.FMC_CH_ACT]; omega)
  have h2 : ReadNoted s1 s2 := by
    simp only [s2]
    split
    · exact bump_channel s1 (by simp only [R.FMC_CH_CONF]; omega)
    · exact refl s1
  exact (h1.trans h2).trans (setBank _ _ _)

theorem eccNote (s : State) {c : Nat} (a : Nat) (e : Ecc) (scrub : Bool) (h : c < 4) : ReadNoted s (s.eccNote c a e scrub) := by
  have hue : ∀ src, ReadNoted s (((((s.bump (F.FMC_CH_UE_COUNT c)).setF F.FMC_LAST_UE_LO_ADDR a).setF F.FMC_LAST_UE_HI_ADDR (a / 2 ^ 32)).setF
      F.FMC_LAST_UE_HI_SRC src).setF F.FMC_LAST_UE_HI_SCRUB scrub.toNat |>.raise 299) := fun src =>
    (((((bump_channel (x := F.FMC_CH_UE_COUNT c) s (by simp only [R.FMC_CH_UE]; omega)).trans (setF (x := F.FMC_LAST_UE_LO_ADDR) _ _ rfl (by decide))).trans
      (setF (x := F.FMC_LAST_UE_HI_ADDR) _ _ rfl (by decide))).trans (setF (x := F.FMC_LAST_UE_HI_SRC) _ _ rfl (by decide))).trans
      (setF (x := F.FMC_LAST_UE_HI_SCRUB) _ _ rfl (by decide))).trans (raise _ 299)
  cases e with
  | ok => exact refl s
  | corrected => exact (bump_channel s (by simp only [R.FMC_CH_CE]; omega)).trans (raise _ 298)
  | link => exact hue 0
  | die => exact hue 1
  | both => exact hue 2

end ReadNoted

theorem placeOf_ch_lt (s : State) (a : Nat) : (s.placeOf a).ch < 4 := by
  have hon : ∀ c ∈ s.chansOn, c < 4 := fun c hc => List.mem_range.1 (List.mem_of_mem_filter hc)
  have hget : ∀ i, s.chansOn.getD i 0 < 4 := fun i => by
    rw [List.getD_eq_getElem?_getD]
    cases h : s.chansOn[i]? with
    | none => decide
    | some c => exact hon c (List.mem_of_getElem? h)
  exact hget _

theorem scrubRuns_noteScrub (s : State) : s.noteScrub.scrubRuns = s.scrubRuns := by
  have hstat : ∀ c, s.noteScrub.f (F.FMC_CH_STAT_STATE c) = s.f (F.FMC_CH_STAT_STATE c) := fun c =>
    f_setF_ne s _ (by simp only [R.FMC_CH_STAT, R.FMC_STATUS]; omega)
  have hf : ∀ x : Fld, x.addr ≠ R.FMC_STATUS → s.noteScrub.f x = s.f x := fun x hx => f_setF_ne s _ hx
  simp only [scrubRuns, on, chansOn, hstat, hf F.FMC_CTL_SCRUB_EN (by decide), hf F.FMC_CFG_MASK (by decide), hf F.THM_STATUS_STAGE (by decide)]

theorem scrubRead_idle {s : State} (e : Ecc) (w : Bool) (h : s.scrubRuns = false) : s.scrubRead e w = (s.noteScrub, []) := by
  rw [scrubRead, scrubRuns_noteScrub, h]
  exact if_pos (by simp)

/-- A read of the scrubber where it stands: what it notes, and where it goes on. -/
theorem scrubRead_runs {s : State} (e : Ecc) (w : Bool) (hr : s.role ≠ 0) (h : s.scrubRuns = true) (hsize : 0 < s.dramSize) :
    ∃ u bad, ReadNoted s u ∧ (e = .ok ∨ e = .corrected → bad = []) ∧ s.scrubRead e w =
      if s.dramSize / 64 ≤ s.f F.FMC_SCRUB_POS_POS + 1 then (((u.setF F.FMC_SCRUB_POS_POS 0).bump F.FMC_SCRUB_PASS_COUNT).raise 308, bad)
      else (u.setF F.FMC_SCRUB_POS_POS (s.f F.FMC_SCRUB_POS_POS + 1), bad) := by
  have hnote := ReadNoted.noteScrub s
  have hruns := scrubRuns_noteScrub s
  unfold scrubRead
  generalize s.noteScrub = v at hnote hruns
  have hpos : v.f F.FMC_SCRUB_POS_POS = s.f F.FMC_SCRUB_POS_POS := hnote.calm.f_eq rfl rfl
  have hdram : v.dramSize = s.dramSize := congrArg (· * 2 ^ 20) (hnote.calm.f_eq (x := F.FMC_SIZE_MB) rfl rfl)
  have hpres : v.present .FMC = true := present_fmc (by rwa [role, hnote.calm.f_eq (x := F.SYS_ROLE_ROLE) rfl rfl])
  have hgo : (!v.present .FMC || !v.scrubRuns || v.dramSize = 0 : Bool) = false := by
    simp [hpres, hruns, h, hdram]
    omega
  extract_lets v0 g a p asked v1 v2 v3 bad
  have hch : p.ch < 4 := placeOf_ch_lt v a
  have h1 : ReadNoted v v1 := ((ReadNoted.headReached v p).trans (.serveRow _ _ hch)).trans
    (.bumpWide _ 1 (by simp only [R.FMC_CH_RD]; omega) (by simp only [R.FMC_CH_RD_H]; omega))
  have h2 : ReadNoted v1 v2 := .eccNote v1 a e true hch
  have h3 : ReadNoted v2 v3 := by
    simp only [v3]
    split
    · exact .bumpWide _ 1 (by simp only [R.FMC_CH_WR]; omega) (by simp only [R.FMC_CH_WR_H]; omega)
    · exact .refl v2
  have h123 := (h1.trans h2).trans h3
  have hsize' : v3.dramSize = s.dramSize := (congrArg (· * 2 ^ 20) (h123.calm.f_eq (x := F.FMC_SIZE_MB) rfl rfl)).trans hdram
  refine ⟨v3, bad, hnote.trans h123, fun he => if_pos he, ?_⟩
  rw [if_neg (fun hc => Bool.false_ne_true (hgo.symm.trans hc)), hsize']
  simp only [g, v0, hpos]

theorem calm_corEcc (s : State) (a : Nat) : Calm readReg s (s.corEcc a) := by
  unfold corEcc
  split
  · exact .refl _ s
  · extract_lets dB cB dose cpl s1 s2
    have hfold : ∀ (l : List Nat) (u : State) (f : Nat → Nat) (bs : State → Nat → List Byte), Calm readReg u
        (l.foldl (fun t k => if t.lamps ≤ k then t else t.dramPut (f k) (bs t k)) u) := fun l u f bs =>
      List.foldlRecOn l _ (motive := Calm readReg u) (.refl _ u) fun t ht k _ => by
        split
        · exact ht
        · exact ht.trans (calm_dramPut _ t _ _)
    have h1 : Calm readReg s s1 := by
      simp only [s1]
      split
      · exact hfold _ s (fun l => dB + 8 * l) fun t l => leBytes 8 (t.ckptDose l)
      · exact .refl _ s
    have h2 : Calm readReg s1 s2 := by
      simp only [s2]
      split
      · exact hfold _ s1 (fun l => cB + 2 * l) fun _ _ => leBytes 2 16384
      · exact .refl _ s1
    exact (h1.trans h2).trans (.raiseIf _ s2 _ 157)

/-- The reaction to granules that could not be corrected leaves the scrubber's registers, and does nothing where there is none. -/
theorem calm_reactEcc (s : State) (bad : List Nat) : Calm readReg s (reactEcc (s, bad)) :=
  List.foldlRecOn bad _ (motive := Calm readReg s) (.refl _ s) fun t ht a _ => ht.trans (calm_corEcc t a)

/-- A real-time client of this role that starved. -/
theorem rtStarve_eq {s : State} {k : Nat} (hr : s.role ≠ 0) (hk : (if k = 0 then s.isSender else s.isTile) = true) :
    s.rtStarve k = (s.bump (F.FMC_RT_STARVE_COUNT k)).raise 301 := by
  rw [rtStarve, present_fmc hr]
  refine if_neg ?_
  split at hk <;> simp [*]

theorem refreshRatePoll_eq {s : State} {c : Nat} (code : Nat) (hr : s.role ≠ 0) (hst : s.f (F.FMC_CH_STAT_STATE c) = 2) :
    s.refreshRatePoll c code = ((s.emit (.dram c 1 4 0)).setF (rrField c) code).raiseIf (s.f (rrField c) != code) 307 := by
  rw [refreshRatePoll, present_fmc hr, hst]
  exact if_neg (by decide)

theorem rowIdleClose_eq {s : State} {c r b : Nat} (hr : s.role ≠ 0) (hidle : s.f F.FMC_SCHED_IDLE ≠ 0) (hq : (s.sched c).queue = [])
    (hopen : (s.bank (bankIdx c r b)).isOpen = true) : s.rowIdleClose c r b =
      (s.setBank (bankIdx c r b) fun x => { x with isOpen := false, byPred := false }).emit (.dram c 2 (r * 16 + b) (s.bank (bankIdx c r b)).row) := by
  rw [rowIdleClose, hq, present_fmc hr, hopen]
  exact if_neg (by simp [hidle])

end State

/-- Settles O42: the refresh debt, the refresh rate, rows, starved clients and the scrubber's position. -/
theorem refreshRowsAndScrubbing : Obligations.RefreshRowsAndScrubbing := by
  unfold Obligations.RefreshRowsAndScrubbing
  refine ⟨fun c r b paid code k s ha hr => ⟨fun hst => ⟨fun hd => ?paid, fun hd => ?forced, ?rate⟩, fun hidle hq hopen => ?row, fun hk => ?starve⟩,
    fun e w s ha hr => ⟨fun hruns hlast hsize => ?last, fun hruns hnext => ?next, fun hruns => ?idle⟩⟩
  case paid =>
    refine completes_awake (g := fun s => s.refreshInterval c r b paid) rfl ha ?_
    obtain ⟨p, hframe, hf, heq⟩ := State.refreshInterval_eq r b paid hr hst
    rw [heq, if_pos (by omega)]
    refine ⟨p.setDebt_bank c _ (State.bankIdx_lt c r b), ?_, ((hframe _).trans (p.frame_setDebt c _ _)).sealed⟩
    rw [State.sealed_f, p.setDebt_most _ _ (by omega), hf]
  case forced =>
    refine completes_awake (g := fun s => s.refreshInterval c r b paid) rfl ha ?_
    obtain ⟨p, hpaid, hf, heq⟩ := State.refreshInterval_eq r b paid hr hst
    rw [heq, if_neg (by omega)]
    have hframe := (hpaid (fun a => a == R.FMC_CH_STAT c || a == R.FMC_CH_FORCED c)).trans
      ((p.frame_setDebt c (State.bankIdx c r b) ((s.bank (State.bankIdx c r b)).debt - paid + 1)).mono (by simp))
    have hcount : (p.setDebt c (State.bankIdx c r b) ((s.bank (State.bankIdx c r b)).debt - paid + 1)).f (F.FMC_CH_FORCED_COUNT c) =
        s.f (F.FMC_CH_FORCED_COUNT c) := by
      rw [State.setDebt, State.f_setF_ne _ _ (by simp [R.FMC_CH_STAT, R.FMC_CH_FORCED]), State.setBank_f, hf]
    generalize p.setDebt c _ _ = u at hframe hcount
    have hrole : u.role ≠ 0 := by rwa [State.role, hframe.f_eq (by simp [R.SYS_ROLE, R.FMC_CH_STAT, R.FMC_CH_FORCED]; omega) rfl]
    have hforced := State.forced_refreshForced u (r * 16 + b) hrole c.isLt (State.bankIdx_lt c r b)
    refine ⟨hforced.debt, hforced.closed, ?_, hforced.told, (hframe.trans (hforced.frame.mono (by simp +contextual))).sealed⟩
    rw [State.sealed_f, hforced.count, hcount]
  case rate =>
    refine completes_awake (g := fun s => s.refreshRatePoll c code) rfl ha ?_
    rw [State.refreshRatePoll_eq code hr hst]
    have hlive : ((s.emit (.dram c 1 4 0)).setF (State.rrField c) code).evLive 307 = true := by
      refine State.evLive_of_owner (b := .FMC) rfl (State.present_fmc ?_)
      rwa [State.role, State.f_setF_ne _ _ (by simp [State.rrField])]
    refine ⟨?_, fun hne => ?_, (((Frame.emit _ s _).trans (.setF _ _ (by simp [State.rrField]))).trans (.raiseIf _ _ _ 307)).sealed⟩
    · rw [State.sealed_f, State.f_raiseIf _ _ _ (by rfl), State.f_setF_self _ _ _ (by simp [State.rrField]; omega)]
      exact Nat.mod_eq_of_lt code.isLt
    · rw [bne_iff_ne.2 hne, State.raiseIf_true]
      exact State.evBit_raise_self hlive
  case row =>
    refine completes_awake (g := fun s => s.rowIdleClose c r b) rfl ha ?_
    rw [State.rowIdleClose_eq hr hidle hq hopen]
    have hbank := s.bank_setBank_self (fun x => { x with isOpen := false, byPred := false }) (State.bankIdx_lt c r b)
    exact ⟨congrArg BankSt.isOpen hbank, (congrArg BankSt.row hbank :), ((State.frame_setBank s _ _ _).trans (.emit _ _ _)).sealed⟩
  case starve =>
    refine completes_awake (g := fun s => s.rtStarve k) rfl ha ?_
    rw [State.rtStarve_eq hr hk]
    have hev : evReg (R.FMC_RT_STARVE k) = false := by simp [evReg, R.FMC_RT_STARVE, R.CMC_EVDROP]; omega
    have hlive : (s.bump (F.FMC_RT_STARVE_COUNT k)).evLive 301 = true := by
      refine State.evLive_of_owner (b := .FMC) rfl (State.present_fmc ?_)
      rwa [State.role, State.bump, State.f_setF_ne _ _ (by simp [R.SYS_ROLE, R.FMC_RT_STARVE]; omega)]
    refine ⟨?_, State.evBit_raise_self hlive, ((Frame.setF s _ (by simp)).trans (.raise _ _ 301)).sealed⟩
    rw [State.sealed_f, State.f_raise _ _ hev, State.f_bump_self _ (by simp)]
  case last =>
    refine completes_awake (g := fun s => State.reactEcc (s.scrubRead e w)) rfl ha ?_
    obtain ⟨u, bad, hu, hbad, heq⟩ := State.scrubRead_runs e w hr hruns hsize
    rw [heq, if_pos hlast]
    generalize hv : ((u.setF F.FMC_SCRUB_POS_POS 0).bump F.FMC_SCRUB_PASS_COUNT).raise 308 = v
    have hreact := State.calm_reactEcc v bad
    have hlive : ((u.setF F.FMC_SCRUB_POS_POS 0).bump F.FMC_SCRUB_PASS_COUNT).evLive 308 = true := by
      refine State.evLive_of_owner (b := .FMC) rfl (State.present_fmc ?_)
      rwa [State.role, State.bump, State.f_setF_ne _ _ (by decide), State.f_setF_ne _ _ (by decide), hu.calm.f_eq rfl rfl]
    have htold : v.evBit 308 = true := hv ▸ State.evBit_raise_self hlive
    refine ⟨?_, ?_, hreact.events 308 (by decide) htold, fun he => ?_⟩
    · rw [State.sealed_f, hreact.f_eq rfl rfl, ← hv, State.f_raise _ _ rfl, State.bump, State.f_setF_ne _ _ (by decide),
        State.f_setF_self _ _ _ (by decide)]
      rfl
    · rw [State.sealed_f, hreact.f_eq rfl rfl, ← hv, State.f_raise _ _ rfl, State.f_bump_self _ (by decide), State.f_setF_ne _ _ (by decide),
        hu.calm.f_eq rfl rfl]
    · rw [hbad he]
      exact (congrArg State.dram hv.symm).trans ((State.raise_dram _ _).trans hu.dram)
  case next =>
    refine completes_awake (g := fun s => State.reactEcc (s.scrubRead e w)) rfl ha ?_
    obtain ⟨u, bad, hu, hbad, heq⟩ := State.scrubRead_runs e w hr hruns (by omega)
    rw [heq, if_neg (by omega)]
    have hreact := State.calm_reactEcc (u.setF F.FMC_SCRUB_POS_POS (s.f F.FMC_SCRUB_POS_POS + 1)) bad
    refine ⟨?_, fun he => ?_⟩
    · rw [State.sealed_f, hreact.f_eq rfl rfl, State.f_setF_self _ _ _ (by decide)]
    · rw [hbad he]
      exact hu.dram
  case idle =>
    refine completes_awake (g := fun s => State.reactEcc (s.scrubRead e w)) rfl ha ?_
    rw [State.scrubRead_idle e w hruns]
    refine ⟨?_, rfl, rfl, (Frame.setF s _ rfl).sealed⟩
    exact (State.f_setF_self s _ _ (by decide)).trans (by rw [hruns]; rfl)

end Sys2Proof.Machine
end

section
/-! OBLIGATIONS. Rings start, stop and take descriptors (R311, R312). -/

namespace Sys2Proof.Machine

/-- To put back what a field holds changes nothing. -/
theorem Fld.put_get (x : Fld) (w : Word) (h : x.lo + x.width ≤ 32) : x.put w (x.get w) = w := by
  refine BitVec.eq_of_getLsbD_eq fun i hi => ?_
  rw [Fld.getLsbD_put x w _ _ h]
  split
  · rw [Fld.testBit_get, decide_eq_true (by omega), Bool.true_and]
    congr 1
    omega
  · rfl

theorem padTo_self {n : Nat} {bs : List Byte} (h : bs.length = n) : padTo n bs = bs := by
  subst h
  simp [padTo]

namespace State

theorem frame_setF_same {s : State} {x : Fld} {v : Nat} (own : Nat → Bool) (hx : x.lo + x.width ≤ 32) (h : s.f x = v) : Frame own s (s.setF x v) := by
  refine .of_regs fun a _ => ?_
  show (s.setF x v).reg a = s.reg a
  rw [reg_setF]
  split
  · next ha => rw [ha, ← h]; exact Fld.put_get x _ hx
  · rfl

/-! ### The fields of a ring -/

section fields

variable {n : Nat} (hn : n < 9)

theorem ringState_fits (n : Nat) : (ringState n).lo + (ringState n).width ≤ 32 := by
  unfold ringState
  split <;> simp

theorem ringRunF_fits (n : Nat) : (ringRunF n).lo + (ringRunF n).width ≤ 32 := by
  unfold ringRunF
  split <;> simp

theorem ringRunF_below_state (n : Nat) : (ringRunF n).lo + (ringRunF n).width ≤ (ringState n).lo ∨ (ringState n).addr ≠ (ringRunF n).addr := by
  unfold ringRunF ringState
  split
  · exact .inr (by simp [R.HST_SRC_STAT, R.HST_SRC_CTL])
  · exact .inl (by simp)

theorem ringState_width (n : Nat) : (ringState n).width = 2 := by
  unfold ringState
  split <;> rfl

theorem ringRunF_width (n : Nat) : (ringRunF n).width = 1 := by
  unfold ringRunF
  split <;> rfl

include hn

theorem ringState_range : 0x300100 ≤ (ringState n).addr ∧ (ringState n).addr < 0x300400 := by
  unfold ringState
  split
  · simp only [R.HST_SRC_STAT]; omega
  · decide

theorem ringRunF_range : 0x300100 ≤ (ringRunF n).addr ∧ (ringRunF n).addr < 0x300400 := by
  unfold ringRunF
  split
  · simp only [R.HST_SRC_CTL]; omega
  · decide

end fields

theorem f_setState_run (s : State) (n v : Nat) : (s.setF (ringState n) v).f (ringRunF n) = s.f (ringRunF n) := by
  rcases ringRunF_below_state n with h | h
  · exact f_setF_disjoint s v (ringState_fits n) (.inr h)
  · exact f_setF_ne s v h.symm

theorem f_setRun_state (s : State) (n v : Nat) : (s.setF (ringRunF n) v).f (ringState n) = s.f (ringState n) := by
  rcases ringRunF_below_state n with h | h
  · exact f_setF_disjoint s v (ringRunF_fits n) (.inl h)
  · exact f_setF_ne s v h

theorem f_setState_self (s : State) (n v : Nat) : (s.setF (ringState n) v).f (ringState n) = v % 4 := by
  rw [f_setF_self _ _ _ (ringState_fits n), ringState_width]
  rfl

theorem f_setRun_self (s : State) (n : Nat) (b : Bool) : (s.setF (ringRunF n) b.toNat).on (ringRunF n) = b := by
  rw [on, f_setF_self _ _ _ (ringRunF_fits n), ringRunF_width]
  cases b <;> rfl

/-! ### The rings themselves -/

section setRing

variable (s : State) (n : Nat) (g : RingSt → RingSt)

theorem ring_setRing_self {n : Nat} (h : n < 9) : (s.setRing n g).ring n = g (s.ring n) := tabAt_tabMod_self _ g _ h

theorem setRing_f (x : Fld) : (s.setRing n g).f x = s.f x := rfl

theorem frame_setRing (own : Nat → Bool) : Frame own s (s.setRing n g) := .setHst own s _

end setRing

theorem ring_raise (s : State) (k n : Nat) : (s.raise k).ring n = s.ring n := by rw [ring, raise_rings, ring]

/-! ### RUN -/

theorem ringWrite_start {s : State} {n : Nat} (hp : s.present .HST = true) (hrun : s.on (ringRunF n) = false) (hst : s.f (ringState n) ≠ 3) :
    s.ringWrite n true = ((s.setF (ringRunF n) 1).setRing n fun _ => {}).setF (ringState n) 1 := by
  have h3 : (s.setF (ringRunF n) 1).f (ringState n) ≠ 3 := by rwa [f_setRun_state]
  rw [ringWrite, hp, hrun]
  exact if_neg h3

theorem ringWrite_again {s : State} {n : Nat} (hp : s.present .HST = true) (hrun : s.on (ringRunF n) = true) :
    s.ringWrite n true = s.setF (ringRunF n) 1 := by
  rw [ringWrite, hp, hrun]
  rfl

theorem ringWrite_stop {s : State} {n : Nat} (hp : s.present .HST = true) (hrun : s.on (ringRunF n) = true) (hst : s.f (ringState n) = 1) :
    s.ringWrite n false = if (s.ring n).busy then ((s.setF (ringRunF n) 0).setRing n fun r => { r with stopping := true }).setF (ringState n) 3
      else (s.setF (ringRunF n) 0).setF (ringState n) 0 := by
  have h1 : (s.setF (ringRunF n) 0).f (ringState n) = 1 := by rwa [f_setRun_state]
  rw [ringWrite, hp, hrun]
  exact if_pos h1

/-- After a write of RUN: whether the ring runs, its state, and that only its RUN and its state are written. -/
structure RunSet (n : Nat) (run : Bool) (st : Nat) (s t : State) : Prop where
  run_eq : t.on (ringRunF n) = run
  state : t.f (ringState n) = st
  frame : Frame (fun a => a == (ringRunF n).addr || a == (ringState n).addr) s t

theorem runSet_setRing (s : State) (n : Nat) (run : Bool) {st : Nat} (g : RingSt → RingSt) (h : st < 4) :
    RunSet n run st s (((s.setF (ringRunF n) run.toNat).setRing n g).setF (ringState n) st) := by
  refine ⟨?_, ?_, ((Frame.setF s _ (by simp)).trans (frame_setRing _ n _ _)).trans (.setF _ _ (by simp))⟩
  · rw [on, f_setState_run, setRing_f]
    exact s.f_setRun_self n run
  · rw [f_setState_self, Nat.mod_eq_of_lt h]

theorem runSet_idle (s : State) (n : Nat) (run : Bool) {st : Nat} (h : st < 4) :
    RunSet n run st s ((s.setF (ringRunF n) run.toNat).setF (ringState n) st) := by
  refine ⟨?_, ?_, (Frame.setF s _ (by simp)).trans (.setF _ _ (by simp))⟩
  · rw [on, f_setState_run]
    exact s.f_setRun_self n run
  · rw [f_setState_self, Nat.mod_eq_of_lt h]

theorem ring_setRing_setF (s : State) {n : Nat} (g : RingSt → RingSt) (x y : Fld) (v w : Nat) (h : n < 9) :
    (((s.setF x v).setRing n g).setF y w).ring n = g (s.ring n) := (s.setF x v).ring_setRing_self g h

/-! ### Descriptors -/

theorem descriptorFetch_source {s : State} {n : Nat} {bytes : List Byte} (hn : n < 8) (hl : bytes.length = 32) (hr : s.ringReady n = true)
    (hok : srcDescOk bytes = true) : s.descriptorFetch n bytes =
      ((s.emit (.hostRead (s.descAddr n) 32 false false)).setRing n fun r =>
        { r with busy := true, desc := bytes, buf := s.f (F.HST_SRC_STAT_NEXT n) }).emit
          (.hostRead (numAt bytes 0 8) (s.srcBytes n) ((numAt bytes 12 1).testBit 1) ((numAt bytes 12 1).testBit 2)) := by
  rw [descriptorFetch, hr, padTo_self hl]
  dsimp only
  rw [hok]
  exact (if_neg (by decide)).trans ((if_pos hn).trans (if_neg (by decide)))

theorem descriptorFetch_map {s : State} {bytes : List Byte} (hl : bytes.length = 32) (hr : s.ringReady 8 = true)
    (hok : pageDescOk bytes = true) (hk : numAt bytes 0 1 = 2) : s.descriptorFetch 8 bytes =
      (s.emit (.hostRead (s.descAddr 8) 32 false false)).setRing 8 fun r => { r with busy := true, desc := bytes } := by
  have h1 : numAt bytes 0 1 ≠ 1 := by omega
  rw [descriptorFetch, hr, padTo_self hl]
  dsimp only
  rw [hok]
  exact (if_neg (by decide)).trans ((if_neg (by decide)).trans ((if_neg (by decide)).trans ((if_neg fun h => h1 h.1).trans (if_neg h1))))

theorem descriptorFetch_bad {s : State} {n : Nat} {bytes : List Byte} (hl : bytes.length = 32) (hr : s.ringReady n = true)
    (hbad : (if n < 8 then srcDescOk bytes else pageDescOk bytes) = false) :
    s.descriptorFetch n bytes = (s.emit (.hostRead (s.descAddr n) 32 false false)).haltRing n 4 true := by
  rw [descriptorFetch, hr, padTo_self hl]
  dsimp only
  refine (if_neg (by decide)).trans ?_
  by_cases hn : n < 8
  · rw [if_pos hn] at hbad
    rw [if_pos hn, hbad]
    rfl
  · rw [if_neg hn] at hbad
    rw [if_neg hn, hbad]
    rfl

theorem ringHalt_ready {s : State} {n : Nat} (code : Nat) (h : s.ringReady n = true) : s.ringHalt n code true = s.haltRing n code false := if_pos h

/-! ### A ring halts -/

/-- The ring has halted with this code. -/
structure Halted (n code : Nat) (s t : State) : Prop where
  state : t.f (ringState n) = 2
  code_eq : t.f F.HST_ERR_CODE = code
  ring_eq : t.f F.HST_ERR_RING = n
  count : t.f F.HST_ERRCNT_COUNT = (s.f F.HST_ERRCNT_COUNT + 1) % 2 ^ 32
  told : t.evBit 133 = true
  idle : (t.ring n).busy = false
  frame : Frame (fun a => a == (ringState n).addr || a == R.HST_ERR || a == R.HST_ERRCNT) s t

theorem halted_haltRing {s : State} {n code : Nat} (wb : Bool) (hp : s.present .HST = true) (hn : n < 9) (hc : code < 16) :
    Halted n code s (s.haltRing n code wb) := by
  unfold haltRing
  have hwb : ∀ o, ∃ u, (if wb then s.emit o else s) = u ∧ Frame (fun a => a == (ringState n).addr || a == R.HST_ERR || a == R.HST_ERRCNT) s u ∧
      u.fuses = s.fuses ∧ ∀ x, u.f x = s.f x := fun o => by
    cases wb
    · exact ⟨s, rfl, .refl _ s, rfl, fun _ => rfl⟩
    · exact ⟨_, rfl, .emit _ s o, rfl, fun _ => rfl⟩
  obtain ⟨u, hu, hframe, hfuses, hf⟩ := hwb (.hostWrite (s.descAddr n + if n < 8 then 24 else 2) [2])
  dsimp only
  rw [hu, hstErr]
  have hst := ringState_range hn
  have hne : ∀ a, a < 0x300100 → (ringState n).addr ≠ a := by omega
  generalize hv : (((((u.setRing n fun _ => {}).setF (ringState n) 2).setF F.HST_ERR_CODE code).setF F.HST_ERR_RING n).bump F.HST_ERRCNT_COUNT) = v
  have hframe' : Frame (fun a => a == (ringState n).addr || a == R.HST_ERR || a == R.HST_ERRCNT) s v :=
    hv ▸ ((((hframe.trans (frame_setRing u n _ _)).trans (.setF (x := ringState n) _ _ (by simp))).trans
      (.setF (x := F.HST_ERR_CODE) _ _ (by simp))).trans (.setF (x := F.HST_ERR_RING) _ _ (by simp))).trans (.setF (x := F.HST_ERRCNT_COUNT) _ _ (by simp))
  have hlive : v.evLive 133 = true := by
    refine evLive_of_owner (b := .HST) rfl ((present_hst_of (s := s) (hv ▸ hfuses) (hframe'.regs _ ?_ rfl)).trans hp)
    simp [R.SYS_ROLE, R.HST_ERR, R.HST_ERRCNT]
    omega
  have hev : evReg (ringState n).addr = false := by simp [evReg, R.CMC_EVDROP]; omega
  refine ⟨?state, ?codeEq, ?ringEq, ?count, evBit_raise_self hlive, ?idle, hframe'.trans (.raise _ v 133)⟩
  case state =>
    rw [f_raise _ _ hev, ← hv, bump, f_setF_ne _ _ (hne _ (by decide)), f_setF_ne _ _ (hne _ (by decide)), f_setF_ne _ _ (hne _ (by decide)),
      f_setState_self]
  case codeEq =>
    rw [f_raise _ _ rfl, ← hv, bump, f_setF_ne _ _ (by decide), f_setF_disjoint _ _ (by decide) (.inr (by decide)), f_setF_self _ _ _ (by decide)]
    exact Nat.mod_eq_of_lt hc
  case ringEq =>
    rw [f_raise _ _ rfl, ← hv, bump, f_setF_ne _ _ (by decide), f_setF_self _ _ _ (by decide)]
    exact Nat.mod_eq_of_lt (by simp; omega)
  case count =>
    rw [f_raise _ _ rfl, ← hv, f_bump_self _ (by decide), f_setF_ne _ _ (by decide), f_setF_ne _ _ (by decide), f_setF_ne _ _ (hne _ (by decide)).symm,
      setRing_f, hf]
  case idle =>
    rw [ring_raise, ← hv]
    exact congrArg RingSt.busy (ring_setRing_self u _ hn)

end State

/-- A command that only a device with the host port takes. -/
theorem completes_atHst {c : Instr} {s : State} {g : State → State} {P : State → Prop}
    (hc : exec c s = s.finish (s.awake fun s => s.atBlk .HST g)) (ha : s.asleep = false) (hp : s.present .HST = true) (h : P (s.sealed (g s))) :
    Completes c s P := by
  refine completes_awake hc ha ?_
  rwa [State.atBlk, if_pos hp]

/-- A command whose effect is none leaves the state as it is. -/
theorem exec_unchanged {c : Instr} {s : State} {g : State → State} (hc : exec c s = s.finish (s.awake g)) (ha : s.asleep = false) (h : g s = s) :
    exec c s = .next s := by
  rw [hc, State.awake, ha]
  exact congrArg (fun t => Host.Outcome.next (s.sealed t)) h

/-- Settles O46: RUN starts and stops a ring, and a running ring takes its descriptor or halts. -/
theorem ringsAndDescriptors : Obligations.RingsAndDescriptors := by
  unfold Obligations.RingsAndDescriptors
  refine ⟨fun n s ha hp => ⟨fun hrun hst => ?start, fun hrun => ?again, fun hrun hst => ?stop⟩,
    fun n bytes code s ha hl => ⟨fun hr => ?idle, fun hr hn hok => ?source, fun hr hn hok hk => ?paging, fun c k hr hc => ?halt⟩⟩
  case start =>
    refine completes_atHst (g := fun s => s.ringWrite n true) rfl ha hp ?_
    rw [State.ringWrite_start hp hrun hst]
    have hset := s.runSet_setRing n true (st := 1) (fun _ => {}) (by decide)
    have hring := s.ring_setRing_setF (fun _ => {}) (State.ringRunF n) (State.ringState n) 1 1 n.isLt
    exact ⟨hset.state, hset.run_eq, congrArg RingSt.busy hring, hset.frame.sealed⟩
  case again =>
    refine completes_atHst (g := fun s => s.ringWrite n true) rfl ha hp ?_
    rw [State.ringWrite_again hp hrun]
    have hone : s.f (State.ringRunF n) = 1 := by
      have hlt := Fld.get_lt (State.ringRunF n) (s.reg (State.ringRunF n).addr)
      rw [State.ringRunF_width] at hlt
      have hne : s.f (State.ringRunF n) ≠ 0 := by simpa [State.on] using hrun
      have hlt : s.f (State.ringRunF n) < 2 := hlt
      omega
    exact ⟨(State.frame_setF_same _ (State.ringRunF_fits n) hone).sealed, rfl⟩
  case stop =>
    refine completes_atHst (g := fun s => s.ringWrite n false) rfl ha hp ?_
    rw [State.ringWrite_stop hp hrun hst]
    split
    · next hb =>
      have hset := s.runSet_setRing n false (st := 3) (fun r => { r with stopping := true }) (by decide)
      have hring := s.ring_setRing_setF (fun r => { r with stopping := true }) (State.ringRunF n) (State.ringState n) 0 3 n.isLt
      exact ⟨hset.run_eq, hset.state, (congrArg RingSt.busy hring :), fun _ => congrArg RingSt.stopping hring, hset.frame.sealed⟩
    · next hb =>
      have hset := s.runSet_idle n false (st := 0) (by decide)
      exact ⟨hset.run_eq, hset.state, rfl, fun h => absurd h hb, hset.frame.sealed⟩
  case idle =>
    have hfetch : s.descriptorFetch n bytes = s := by
      rw [State.descriptorFetch, hr]
      rfl
    have hhalt : s.ringHalt n code true = s := by
      rw [State.ringHalt, hr]
      rfl
    exact ⟨exec_unchanged (g := fun s => s.descriptorFetch n bytes) rfl ha hfetch,
      exec_unchanged (g := fun s => s.ringHalt n code true) rfl ha hhalt⟩
  case source =>
    refine completes_awake (g := fun s => s.descriptorFetch n bytes) rfl ha ?_
    rw [State.descriptorFetch_source hn hl hr hok]
    have hring := (s.emit (.hostRead (s.descAddr n) 32 false false)).ring_setRing_self
      (fun r => { r with busy := true, desc := bytes, buf := s.f (F.HST_SRC_STAT_NEXT n) }) n.isLt
    exact ⟨congrArg RingSt.busy hring, congrArg RingSt.desc hring, congrArg RingSt.buf hring,
      (((Frame.emit _ s _).trans (State.frame_setRing _ n _ _)).trans (.emit _ _ _)).sealed, List.append_assoc _ [_] [_]⟩
  case paging =>
    refine completes_awake (g := fun s => s.descriptorFetch n bytes) rfl ha ?_
    rw [hn, State.descriptorFetch_map hl (hn ▸ hr) hok hk]
    have hring := (s.emit (.hostRead (s.descAddr 8) 32 false false)).ring_setRing_self
      (fun r => { r with busy := true, desc := bytes }) (n := 8) (by decide)
    exact ⟨congrArg RingSt.busy hring, congrArg RingSt.desc hring, ((Frame.emit _ s _).trans (State.frame_setRing _ 8 _ _)).sealed, rfl⟩
  case halt =>
    have hp : s.present .HST = true := by
      simp only [State.ringReady, Bool.and_eq_true] at hr
      exact hr.1.1.1.1.1.1
    rcases hc with ⟨rfl, rfl, hbad⟩ | ⟨rfl, rfl⟩
    · refine completes_awake (g := fun s => s.descriptorFetch n bytes) rfl ha ?_
      have hhalt := State.halted_haltRing (s := s.emit (.hostRead (s.descAddr n) 32 false false)) true hp n.isLt (show 4 < 16 by decide)
      rw [State.descriptorFetch_bad hl hr hbad]
      exact ⟨hhalt.state, hhalt.code_eq, hhalt.ring_eq, hhalt.count, hhalt.told, hhalt.idle, ((Frame.emit _ s _).trans hhalt.frame).sealed⟩
    · refine completes_awake (g := fun s => s.ringHalt n code true) rfl ha ?_
      have hhalt := State.halted_haltRing (s := s) false hp n.isLt (show code.val < 16 by omega)
      rw [State.ringHalt_ready _ hr]
      exact ⟨hhalt.state, hhalt.code_eq, hhalt.ring_eq, hhalt.count, hhalt.told, hhalt.idle, hhalt.frame.sealed⟩

end Sys2Proof.Machine
end

section
/-! OBLIGATIONS. Statements that leave a case out: of reel commands (R319), of the takeover by a Secondary (R341) and of the check of a commit
at a tile (R277). -/

namespace Sys2Proof.Machine

/-! ### Reel commands (R319)

An action that comes late raises event 81, and on an SLX-7440 the message of that event changes the MSI-X state of the host port too. -/

/-- A Sender with a reel player Playing, 10 ns before an action's time, which lies past the action point of its boundary; event 81 is
delivered. -/
def lateReel : State :=
  { inUse 1 [(F.SYS_UNITEN_OPT, 1), (F.TIM_STATUS_TSTATE, 1), (F.DSP_NUM_NUM, 60), (F.DSP_DEN_DEN, 1), (F.DSP_STATUS_SACT, 2),
      (F.REL_P_STAT_STATE 0, 1), (F.REL_ACT_NS_NS, 999999990), (⟨R.EVT_MASK 2, 0, 32⟩, 0)] with
    clk := { State.reset.clk with wall := State.countOf 0 999999980 } }

/-- Refutes O48: the play command leaves a pending vector, so more of the host port has changed than the list of actions. -/
theorem not_reels : ¬ Obligations.Reels := by
  unfold Obligations.Reels
  rintro ⟨h, -⟩
  obtain ⟨-, htaken⟩ := h 0 1 (.reelPlay 0) lateReel (by decide +kernel) (by decide +kernel) (by decide +kernel) (.head _)
  obtain ⟨t, hnext, -, ⟨a, hhst, -⟩, -⟩ := htaken (by decide +kernel) (by decide +kernel) (by decide +kernel) (by decide +kernel) (by decide)
  have hpba : t.hst.pcie.pba = lateReel.hst.pcie.pba := by rw [hhst]
  exact absurd (seenAfter_next (g := fun t => t.hst.pcie.pba) hnext hpba) (by decide +kernel)

/-! ### Takeover (R341)

A Secondary in sync does not take over while a frame with MST = 1 from its partner's end has come within LOSSTMO, and the statement
leaves that condition out. -/

/-- A Secondary with AUTOPROMOTE that has just heard of the Primary on the chain, 1 ms before LOSSTMO ends. -/
def toldSecondary : State :=
  { inUse 1 [(F.SYS_UNITEN_OPT, 2), (F.PAR_STATUS_PSTATE, 3), (F.PAR_CFG_AUTOPROMOTE, 1), (F.PAR_TMO_LOSSTMO, 1)] with
    cmc := { State.reset.cmc with mstAt := [some 0] } }

/-- Refutes O49: the Secondary that knows its Primary on the chain stays in sync. -/
theorem not_heartbeatsAndPartnerLoss : ¬ Obligations.HeartbeatsAndPartnerLoss := by
  unfold Obligations.HeartbeatsAndPartnerLoss
  rintro ⟨-, h⟩
  obtain ⟨-, -, htakes, -⟩ := h toldSecondary (by decide +kernel)
  obtain ⟨t, hnext, hstate, -⟩ := (htakes (by decide +kernel) (by decide +kernel) (by decide +kernel)).1 (by decide +kernel)
  exact absurd (seenAfter_next (g := fun t => t.pairState) hnext hstate) (by decide +kernel)

/-! ### The check of a commit at a tile (R277)

Where a pending commit changes the mode before a commit is due, the frame that must lie before its time is one of that mode, and not of the
mode in effect, which the statement takes. -/

/-- An image of a tile with a COR descriptor. -/
def tileImage : List Byte :=
  padTo 8 [] ++ leBytes 4 112 ++ padTo 12 [] ++ leBytes 2 1 ++ padTo 38 [] ++ leBytes 2 5 ++ leBytes 2 0 ++ leBytes 4 80 ++ leBytes 4 32 ++
    leBytes 4 0 ++ leBytes 2 24 ++ leBytes 2 0 ++ leBytes 4 32 ++ leBytes 2 8 ++ leBytes 2 8 ++ [4] ++ padTo 19 []

/-- A tile of 240 frames a second that runs that image, with one sensor of its board enabled. -/
def fastTile : State :=
  { inUse 2 [(F.TIM_STATUS_TSTATE, 3), (F.DSP_NUM_NUM, 240), (F.DSP_DEN_DEN, 1), (F.DSP_STATUS_SACT, 4), (F.DSP_MODE_SLOTS, 4),
      (F.SYS_UNITEN_CHAIN, 3), (F.CMC_ADDR_ADDR, 4), (F.COR_STATUS_TABLES_OK, 1), (F.DRV_SCAN_TDIV, 1), (F.DRV_SCAN_NM1, 15), (F.DRV_SCAN_PM1, 3),
      (F.TIM_SRC_SRC, 3), (F.FAB_STAGE_CODE 0, 0x1111), (F.THM_B_CFG_EN 0, 1), (F.THM_B_CFG_ZONE 0, 4)] with
    mram := Mem.write [] 0x100000 tileImage }

/-- A commit of the values of that tile: the mode of its registers has 24000 frames in 1001 seconds. -/
def sameValues (n due : Nat) : Commit :=
  { gen := 1, n := n, slot := 0, due := due, tag := 0, cache := {}, heavy := false, catchup := false, sent := false, snap := fastTile.regs }

/-- A commit due in 10 ms, more than a frame in the mode in effect and less than one in the mode that a pending commit brings. -/
def soonDue : Commit := sameValues 2 (10000000 * 2 ^ 31)

/-- The tile with a pending commit due at once and the other under check. -/
def checkingTile : State := { fastTile with cmt := { pend := [sameValues 1 1], checking := [soonDue] } }

/-- Refutes O40: the tile drops the commit as too late. -/
theorem not_commitChecks : ¬ Obligations.CommitChecks := by
  unfold Obligations.CommitChecks
  rintro ⟨-, h⟩
  obtain ⟨t, hnext, -, -, htaken⟩ := h soonDue [] checkingTile _ (by decide +kernel) (by decide +kernel) rfl rfl
  obtain ⟨-, hpend, -⟩ := htaken (by decide +kernel) (by decide +kernel) (by decide +kernel) (by decide +kernel)
  exact absurd (seenAfter_next (g := fun t => t.cmt.pend.length) hnext hpend) (by decide +kernel)

end Sys2Proof.Machine
end

section
/-! SUPPORT. What bring-up leaves of MGT_STATUS, RPS_BOOT and NVS_STATUS: the steps of R36 and R386 do not write them. -/

namespace Sys2Proof.Machine

/-- The status words of the cores, of bring-up and of the record. -/
def bootWord (a : Nat) : Bool := a == R.MGT_STATUS || a == R.RPS_BOOT || a == R.NVS_STATUS

theorem bootWord_false {a : Nat} (h : a ≠ 0x40004 ∧ a ≠ 0x10014 ∧ a ≠ 0x30004) : bootWord a = false := by
  simpa [bootWord, and_assoc] using h

namespace State

/-- The three status words. -/
def bootWords (s : State) : Word × Word × Word := (s.reg R.MGT_STATUS, s.reg R.RPS_BOOT, s.reg R.NVS_STATUS)

theorem bootWords_congr {s t : State} (h : ∀ a, bootWord a = true → t.reg a = s.reg a) : t.bootWords = s.bootWords := by
  rw [bootWords, bootWords, h _ rfl, h _ rfl, h _ rfl]

theorem bootWords_regs {s t : State} (h : t.regs = s.regs) : t.bootWords = s.bootWords := bootWords_congr fun a _ => reg_of_regs h a

theorem bootWords_setReg (s : State) {a : Nat} (v : Word) (h : bootWord a = false) : (s.setReg a v).bootWords = s.bootWords :=
  bootWords_congr fun b hb => reg_setReg_ne s v (by rintro rfl; rw [h] at hb; cases hb)

theorem bootWords_setF (s : State) {x : Fld} (v : Nat) (h : bootWord x.addr = false) : (s.setF x v).bootWords = s.bootWords :=
  bootWords_congr fun b hb => reg_setF_ne s v (by rintro rfl; rw [h] at hb; cases hb)

theorem bootWords_setBoth (s : State) {x : Fld} (v : Nat) (h : bootWord x.addr = false) : (s.setBoth x v).bootWords = s.bootWords :=
  bootWords_setF s v h

theorem bootWords_bump (s : State) {x : Fld} (h : bootWord x.addr = false) : (s.bump x).bootWords = s.bootWords := bootWords_setF s _ h

theorem bootWords_raise (s : State) (n : Nat) : (s.raise n).bootWords = s.bootWords := by
  refine bootWords_congr fun a ha => reg_raise s n ?_
  simp only [bootWord, Bool.or_eq_true, beq_iff_eq] at ha
  rcases ha with (rfl | rfl) | rfl <;> rfl

theorem bootWords_raiseIf (s : State) (c : Bool) (n : Nat) : (s.raiseIf c n).bootWords = s.bootWords := by
  cases c
  · rfl
  · exact bootWords_raise s n

theorem bootWords_foldl {α : Type} {g : State → α → State} {l : List α} (s : State)
    (h : ∀ x ∈ l, ∀ u, (g u x).bootWords = u.bootWords) : (l.foldl g s).bootWords = s.bootWords :=
  List.foldlRecOn l g (motive := fun u => u.bootWords = s.bootWords) rfl fun u hu x hx => (h x hx u).trans hu

/-! ### Functions that write no register -/

section noReg

variable (s : State)

theorem bootWords_emit (o : Out) : (s.emit o).bootWords = s.bootWords := rfl
theorem bootWords_setRps (g : RpsSt → RpsSt) : (s.setRps g).bootWords = s.bootWords := rfl
theorem bootWords_setThm (g : ThmSt → ThmSt) : (s.setThm g).bootWords = s.bootWords := rfl
theorem bootWords_setMgt (g : MgtSt → MgtSt) : (s.setMgt g).bootWords = s.bootWords := rfl
theorem bootWords_setFab (g : FabSt → FabSt) : (s.setFab g).bootWords = s.bootWords := rfl
theorem bootWords_setHst (g : HstSt → HstSt) : (s.setHst g).bootWords = s.bootWords := rfl
theorem bootWords_setCor (g : CorSt → CorSt) : (s.setCor g).bootWords = s.bootWords := rfl
theorem bootWords_setDrv (g : DrvSt → DrvSt) : (s.setDrv g).bootWords = s.bootWords := rfl
theorem bootWords_setLux (g : LuxSt → LuxSt) : (s.setLux g).bootWords = s.bootWords := rfl
theorem bootWords_setPar (g : ParSt → ParSt) : (s.setPar g).bootWords = s.bootWords := rfl
theorem bootWords_lanP (p : Nat) (g : LanPort → LanPort) : (s.lanP p g).bootWords = s.bootWords := rfl
theorem bootWords_calNote (p : Nat) (g : LanCal → LanCal) : (s.calNote p g).bootWords = s.bootWords := rfl
theorem bootWords_hostInService (image : Bool) : (s.hostInService image).bootWords = s.bootWords := rfl
theorem bootWords_fabClear : s.fabClear.bootWords = s.bootWords := rfl
theorem bootWords_setLoad (l : Option TabLoad) : (s.setLoad l).bootWords = s.bootWords := rfl
theorem bootWords_railRead : s.railRead.bootWords = s.bootWords := rfl
theorem bootWords_takeFree (w : Nat) : (s.takeFree w).2.bootWords = s.bootWords := rfl

theorem bootWords_lineWr (use o : Nat) (bs : List Byte) : (s.lineWr use o bs).bootWords = s.bootWords := by
  unfold lineWr lineWrIn
  split <;> rfl

theorem bootWords_dramWr (a : Nat) (bs : List Byte) : (s.dramWr a bs).bootWords = s.bootWords := by
  have hput : (s.dramPut a bs).bootWords = s.bootWords := bootWords_regs (regs_withDram s _)
  unfold dramWr
  split
  · exact hput
  · rw [outOfRange, bootWords_raise]
    simp (disch := decide) only [bootWords_setF, bootWords_bump]
    exact hput

end noReg

/-! ### The fields of the image (R36) -/

section image

variable (s : State)

theorem bootWords_imgHeader (b : List Byte) (slot : Nat) (fallback : Bool) : (s.imgHeader b slot fallback).bootWords = s.bootWords := by
  simp (disch := decide) only [imgHeader, bootWords_setBoth]
  refine (bootWords_foldl _ fun i hi u => bootWords_setBoth u _ (bootWord_false ?_)).trans ?_
  · have := List.mem_range.1 hi
    simp only [R.SYS_IMG_HASH]
    omega
  · simp (disch := decide) only [bootWords_setBoth]

theorem bootWords_imgFabric (b : List Byte) : (s.imgFabric b).bootWords = s.bootWords := by
  unfold imgFabric
  refine (bootWords_foldl _ fun p _ u => bootWords_setBoth u _ (bootWord_false ?_)).trans
    ((bootWords_foldl _ fun i _ u => bootWords_setBoth u _ (bootWord_false ?_)).trans (bootWords_setBoth s _ (by decide)))
  · simp only [R.SND_OFIFO_SIZE]
    omega
  · simp only [R.FAB_STAGE]
    omega

theorem bootWords_imgMode (b : List Byte) : (s.imgMode b).bootWords = s.bootWords := by
  unfold imgMode
  dsimp only
  split <;> simp (disch := decide) only [bootWords_setBoth]

theorem bootWords_imgLayout (b : List Byte) : (s.imgLayout b).bootWords = s.bootWords := by
  unfold imgLayout
  split
  · rfl
  · dsimp only
    rw [bootWords_lineWr]
    refine (bootWords_foldl _ fun i _ u => bootWords_setBoth u _ (bootWord_false ?_)).trans ?_
    · simp only [R.DRV_BUS_STAT]
      omega
    · simp (disch := decide) only [bootWords_setBoth]

theorem bootWords_rtSizes : s.rtSizes.bootWords = s.bootWords := by simp (disch := decide) only [rtSizes, bootWords_setF]

theorem bootWords_reginitSet (e : Nat × Word) : (s.reginitSet e).bootWords = s.bootWords := by
  have hfixed : ∀ a, bootWord a = true → accMask a (fun f => f.img == 1) = 0 := fun a ha => by
    simp only [bootWord, Bool.or_eq_true, beq_iff_eq] at ha
    rcases ha with (rfl | rfl) | rfl <;> decide +kernel
  unfold reginitSet
  dsimp only
  split
  · rfl
  · next hm => exact bootWords_congr fun a ha => RegFile.get_set_ne _ _ fun he => hm (he ▸ hfixed a ha)

theorem bootWords_imgFields (slot : Nat) (fallback : Bool) : (s.imgFields slot fallback).bootWords = s.bootWords := by
  refine (bootWords_foldl _ fun e _ u => bootWords_reginitSet u e).trans ?_
  rw [bootWords_rtSizes, bootWords_imgLayout, bootWords_imgMode, bootWords_imgFabric, bootWords_imgHeader]

end image

/-! ### The memory and the slots -/

section slots

variable (s : State)

theorem bootWords_validateSlot {k : Nat} (hk : k < 2) : (s.validateSlot k).bootWords = s.bootWords := by
  have hstat : bootWord (R.SYS_IMG_STAT k) = false := bootWord_false (by simp only [R.SYS_IMG_STAT]; omega)
  rcases hv : Img.validate (s.slotBytes k) s.part7440 with ⟨fail, sect⟩
  rw [validateSlot_eq hv, slotReported, slotNoted]
  rw [bootWords_raiseIf, bootWords_setF _ _ hstat, bootWords_setF _ _ hstat, bootWords_setF _ _ hstat, bootWords_setF _ _ hstat]

theorem bootWords_noteScrub : s.noteScrub.bootWords = s.bootWords := bootWords_setF s _ (by decide)

theorem bootWords_setChan (c st : Nat) : (s.setChan c st).bootWords = s.bootWords := by
  simp (disch := decide) only [setChan, bootWords_setF]
  exact bootWords_setF s st (bootWord_false (by simp only [R.FMC_CH_STAT]; omega))

theorem bootWords_startTraining : s.startTraining.bootWords = s.bootWords :=
  bootWords_foldl s fun c _ u => bootWords_setChan u c 1

theorem bootWords_leaveSelfRefresh : s.leaveSelfRefresh.bootWords = s.bootWords := by
  unfold leaveSelfRefresh
  dsimp only
  refine (bootWords_noteScrub _).trans (bootWords_foldl s fun c _ u => ?_)
  split
  · rfl
  split
  · rw [bootWords_raise, bootWords_setChan]
  · exact bootWords_setChan u c 1

/-- The words of the frame memory that its reset clears. -/
def fmcCleared (a : Nat) : Bool :=
  decide (Blk.FMC.base ≤ a ∧ a < Blk.FMC.base + Blk.FMC.extent) && !([R.FMC_CTL, R.FMC_SCHED, R.FMC_SCRUB].contains a)

theorem regs_fmcReset : s.fmcReset.regs = RegFile.clear s.regs fmcCleared := rfl

theorem bootWords_fmcReset : s.fmcReset.bootWords = s.bootWords := by
  refine bootWords_congr fun a ha => ?_
  have hkept : fmcCleared a = false := by
    simp only [bootWord, Bool.or_eq_true, beq_iff_eq] at ha
    rcases ha with (rfl | rfl) | rfl <;> decide
  rw [State.reg, State.reg, regs_fmcReset, RegFile.get_clear, hkept]
  exact if_neg Bool.false_ne_true

theorem bootWords_bringupMemory : s.bringupMemory.bootWords = s.bootWords := by
  unfold bringupMemory
  dsimp only
  split
  · split
    · exact bootWords_leaveSelfRefresh s
    · rfl
  · refine (bootWords_startTraining _).trans ?_
    split
    · rw [bootWords_setRps, bootWords_rtSizes, bootWords_setReg _ _ (by decide), bootWords_fmcReset]
    · rfl

end slots

/-! ### The values that blocks derive -/

section derive

variable (s : State)

theorem bootWords_timingConstants : s.timingConstants.bootWords = s.bootWords := by
  unfold timingConstants
  split
  · rfl
  · simp (disch := decide) only [bootWords_setF]

theorem bootWords_driveConstants (w : Nat) : (s.driveConstants w).bootWords = s.bootWords := by
  unfold driveConstants
  split
  · rfl
  dsimp only
  split
  · simp (disch := decide) only [bootWords_setF]
  · rw [bootWords_setDrv]
    simp (disch := decide) only [bootWords_setF]

theorem bootWords_luxConstants : s.luxConstants.bootWords = s.bootWords := by
  unfold luxConstants
  split
  · exact bootWords_setF s _ (by decide)
  · rfl

theorem bootWords_loadFigures : s.loadFigures.bootWords = s.bootWords := by
  unfold loadFigures
  split
  · rfl
  dsimp only
  refine (bootWords_foldl _ fun x _ u => ?_).trans ((bootWords_foldl _ fun i _ u => ?_).trans ?_)
  · split
    · rfl
    · exact (bootWords_setF _ _ (bootWord_false (by simp only [R.SND_LYR_KY]; omega))).trans
        (bootWords_setF u _ (bootWord_false (by simp only [R.SND_LYR_KX]; omega)))
  · exact (bootWords_setF _ _ (bootWord_false (by simp only [R.SND_CHLOAD]; omega))).trans
      (bootWords_setF u _ (bootWord_false (by simp only [R.SND_CHLOAD]; omega)))
  · simp (disch := decide) only [bootWords_setF]

theorem bootWords_hostLoad : s.hostLoad.bootWords = s.bootWords := by
  unfold hostLoad
  split
  · rfl
  · exact bootWords_setF s _ (by decide)

theorem bootWords_railWrite : s.railWrite.bootWords = s.bootWords := by
  rw [railWrite, bootWords_emit, bootWords_setF _ _ (by decide), bootWords_setFab]

theorem bootWords_railLimits : s.railLimits.bootWords = s.bootWords := by
  unfold railLimits railStep
  split
  · rfl
  dsimp only
  split
  · rfl
  split
  · rfl
  · rw [bootWords_railWrite, bootWords_setFab]

theorem bootWords_setReady (p : Nat) (l : List (Nat × Nat)) : (s.setReady p l).bootWords = s.bootWords :=
  bootWords_setF _ _ (bootWord_false (by simp only [R.REL_P_STAT]; omega))

theorem bootWords_reelEnable : s.reelEnable.bootWords = s.bootWords := by
  refine bootWords_foldl s fun p _ u => ?_
  have hstat : bootWord (R.REL_P_STAT p) = false := bootWord_false (by simp only [R.REL_P_STAT]; omega)
  have hacc : bootWord (R.REL_P_ACC p) = false := bootWord_false (by simp only [R.REL_P_ACC]; omega)
  dsimp only
  split
  · rw [bootWords_setReady, bootWords_setF _ _ hstat, bootWords_setF _ _ hacc]
    rfl
  split
  · rw [bootWords_setReady, bootWords_setF _ _ hstat]
    rfl
  · rfl

theorem bootWords_boardsNote : s.boardsNote.bootWords = s.bootWords := by
  refine bootWords_foldl s fun b hb u => ?_
  have hlt := List.mem_range.1 hb
  have hboard : ∀ u : State, (u.setReg (R.THM_B b) 0).bootWords = u.bootWords := fun u =>
    bootWords_setReg u 0 (bootWord_false (by simp only [R.THM_B]; omega))
  split
  · rfl
  dsimp only
  rw [bootWords_setThm]
  split
  · exact (bootWords_setF _ _ (by decide)).trans (hboard u)
  · exact hboard u

theorem bootWords_bringupDerive : s.bringupDerive.bootWords = s.bootWords := by
  rw [bringupDerive, bootWords_boardsNote, bootWords_reelEnable, bootWords_railLimits, bootWords_hostLoad, bootWords_loadFigures,
    bootWords_luxConstants, bootWords_driveConstants, bootWords_timingConstants]

end derive

/-! ### Outputs, the pair and the lanes -/

section outputs

variable (s : State)

theorem bootWords_outProgram (t : Nat) : (s.outProgram t).bootWords = s.bootWords := by
  have hdrive : ∀ (u : State) (b : Bool), (u.drive t b).bootWords = u.bootWords := fun u b =>
    bootWords_setF u _ (bootWord_false (by simp only [R.TIM_OUT_STAT]; omega))
  unfold outProgram
  extract_lets pol t1 s1 s2
  have h1 : s1.bootWords = s.bootWords := rfl
  have h2 : s2.bootWords = s1.bootWords := by
    simp only [s2]
    split
    · exact hdrive s1 _
    · exact hdrive s1 _
  split
  · rw [bootWords_raise]
    exact (bootWords_setF s2 1 (bootWord_false (by simp only [R.TIM_OUT_STAT]; omega))).trans (h2.trans h1)
  · exact h2.trans h1

theorem bootWords_senderRef : s.senderRef.bootWords = s.bootWords := by
  unfold senderRef
  extract_lets sec src
  split
  · rfl
  split
  · rfl
  · rw [bootWords_raise]
    exact bootWords_setF _ _ (by decide)

theorem bootWords_resyncStart : s.resyncStart.bootWords = s.bootWords := by
  rw [resyncStart, bootWords_setPar]
  simp (disch := decide) only [bootWords_setF]

theorem bootWords_pairTo (st cause : Nat) : (s.pairTo st cause).bootWords = s.bootWords := by
  unfold pairTo
  extract_lets old prim s1 s2 s3 s4 s5
  have h1 : s1.bootWords = s.bootWords := by
    simp only [s1]
    split
    · rfl
    · rw [bootWords_raise, bootWords_senderRef, bootWords_setF _ _ (by decide)]
  have h2 : s2.bootWords = s1.bootWords := by
    simp only [s2]
    split
    · rfl
    · simp (disch := decide) only [bootWords_setF]
  have h3 : s3.bootWords = s.bootWords := (bootWords_setF _ _ (by decide)).trans (h2.trans h1)
  split
  · exact (bootWords_resyncStart s3).trans h3
  · refine Eq.trans ?_ h3
    rw [bootWords_setF _ _ (by decide)]
    simp (disch := decide) only [s5, s4, bootWords_setPar, bootWords_setF]

theorem bootWords_pairStart : s.pairStart.bootWords = s.bootWords := by
  rw [pairStart, bootWords_setReg _ _ (by decide), bootWords_setF _ _ (by decide), bootWords_pairTo, bootWords_setF _ _ (by decide)]

theorem bootWords_rxTo (p st : Nat) : (s.rxTo p st).bootWords = s.bootWords := by
  unfold rxTo
  dsimp only
  rw [bootWords_senderRef, bootWords_setF _ _ (bootWord_false (by simp only [R.LAN_P_STAT]; omega)), bootWords_lanP]
  split
  · rw [bootWords_calNote, bootWords_bump _ (bootWord_false (by simp only [R.LAN_P_LOCKLOSS]; omega))]
  · rfl

theorem bootWords_toIdle (p : Nat) : (s.toIdle p).bootWords = s.bootWords := by
  rw [toIdle, bootWords_raiseIf, bootWords_rxTo]

theorem bootWords_singleEdge (p : Nat) : (s.singleEdge p).bootWords = s.bootWords := by
  unfold singleEdge
  split
  · rfl
  · rw [bootWords_toIdle, bootWords_lanP]

theorem bootWords_loopEdge (p : Nat) : (s.loopEdge p).bootWords = s.bootWords := by
  have hstat : bootWord (R.LAN_P_STAT p) = false := bootWord_false (by simp only [R.LAN_P_STAT]; omega)
  unfold loopEdge
  dsimp only
  split
  · rfl
  split
  · rw [bootWords_raise, bootWords_lanP, bootWords_rxTo]
    split
    · rw [bootWords_setF _ _ hstat, bootWords_calNote]
    · rfl
  · rw [bootWords_raise]
    split
    · rw [bootWords_rxTo, bootWords_lanP, bootWords_setF _ _ hstat]
    · rw [bootWords_toIdle, bootWords_lanP, bootWords_setF _ _ hstat]

theorem bootWords_txEdge (p : Nat) : (s.txEdge p).bootWords = s.bootWords := by
  unfold txEdge
  extract_lets idle t
  split
  · rfl
  split
  · rfl
  · exact bootWords_rxTo t p _

theorem bootWords_noteTx (p : Nat) : (s.noteTx p).bootWords = s.bootWords := by
  unfold noteTx
  split
  · rfl
  · rw [bootWords_txEdge, bootWords_loopEdge, bootWords_singleEdge]

end outputs

/-! ### The image is run (R36) -/

section runImage

variable (s : State)

theorem bootWords_runImage {slot : Nat} (hk : slot < 2) (fallback : Bool) : (s.runImage slot fallback).bootWords = s.bootWords := by
  have hstat : bootWord (R.SYS_IMG_STAT slot) = false := bootWord_false (by simp only [R.SYS_IMG_STAT]; omega)
  unfold runImage
  extract_lets s1 s2 s3 s4
  have h1 : s1.bootWords = s.bootWords := by
    rw [bootWords_fabClear, bootWords_setF _ _ hstat, bootWords_imgFields]
  have h2 : s2.bootWords = s1.bootWords := by
    rw [bootWords_hostInService, bootWords_bringupDerive, bootWords_bringupMemory]
  have h3 : s3.bootWords = s2.bootWords := bootWords_foldl s2 fun t _ u => by
    split
    · exact bootWords_outProgram u t
    · rfl
  have h4 : s4.bootWords = s3.bootWords := by
    simp only [s4]
    split
    · rfl
    split
    · exact bootWords_pairStart s3
    · simp (disch := decide) only [bootWords_setF]
  exact (bootWords_foldl s4 fun p _ u => bootWords_noteTx u p).trans (h4.trans (h3.trans (h2.trans h1)))

theorem bootWords_tableStart (set : Nat) (commit : Option Nat) (only0 : Bool) : (s.tableStart set commit only0).bootWords = s.bootWords := by
  unfold tableStart tableBegin
  split
  · rfl
  · dsimp only
    rw [bootWords_emit, bootWords_setF _ _ (by decide), bootWords_setF _ _ (by decide), bootWords_setLoad, bootWords_setF _ _ (by decide)]

theorem bootWords_doseRestore (warm : Bool) : (s.doseRestore warm).bootWords = s.bootWords := by
  have hlux : ∀ (u : State) (x : LuxSt), { u with lux := x }.bootWords = u.bootWords := fun _ _ => rfl
  unfold doseRestore
  split
  · rfl
  extract_lets +onlyGivenNames valid s1 last s2
  have h2 : s2.bootWords = s.bootWords := by
    rcases hlast : last with _ | ⟨j, q⟩
    · simp only [s2, hlast]
      exact bootWords_setCor s _
    · simp (disch := decide) only [s2, hlast, bootWords_setF]
      exact bootWords_setCor s _
  clear_value s2
  extract_lets +onlyGivenNames _src s3
  have h3 : s3.bootWords = s.bootWords := by
    refine Eq.trans ?_ h2
    simp only [s3]
    split
    · refine (bootWords_foldl _ fun c _ u => bootWords_setF u _ (bootWord_false ?_)).trans (hlux s2 _)
      simp only [R.COR_SCALE]
      omega
    · rfl
  clear_value s3
  split
  · exact (bootWords_setF s3 1 (by decide)).trans h3
  extract_lets n got all mean lost s4 s5
  have h5 : s5.bootWords = s.bootWords :=
    (bootWords_dramWr s4 _ _).trans ((bootWords_foldl s3 fun x _ u => bootWords_dramWr u _ _).trans h3)
  split
  · exact h5
  · rw [bootWords_raiseIf]
    simp (disch := decide) only [bootWords_setF]
    exact h5

end runImage

end State

end Sys2Proof.Machine
end

section
/-! OBLIGATIONS. Core reset and bring-up (R353, R375, R383, R386, R414). -/

namespace Sys2Proof.Machine

namespace State

/-! ### What a reset of cores spares -/

/-- The registers that a reset of cores other than the Goose may write. -/
def coreResetReg (a : Nat) : Bool := inBlk .RPS a || a == R.MGT_STATUS

theorem frame_coresLost {s : State} {cores : Nat} (hheavy : s.cmt.pend.any (·.heavy) = false) (h3 : cores.testBit 3 = false) :
    Frame coreResetReg s (s.coresLost cores) := by
  have hlose : s.loseHeavy = s := if_neg (by rw [hheavy]; decide)
  rw [coresLost, hlose]
  refine Frame.foldl (fun c _ u => ?_) s
  split
  next hbit =>
    have hc : c ≠ 3 := by
      rintro rfl
      simp [h3] at hbit
    rw [coreLost_eq, if_pos hc]
    split
    · exact .refl _ u
    · exact (Frame.setF u _ rfl).trans (.setMgt _ _ _)
  · exact .refl _ u

theorem frame_noteReset (s : State) (level source cores : Nat) (kept merged : Bool) :
    Frame coreResetReg s (s.noteReset level source cores kept merged) := by
  unfold noteReset
  extract_lets t
  have hcause : Frame coreResetReg s t := by
    simp only [t]
    split
    · exact .setF s _ rfl
    · exact .refl _ s
  exact ((((hcause.trans (.setF _ _ rfl)).trans (.setF _ _ rfl)).trans (.setF _ _ rfl)).trans (.setF _ _ rfl)).trans (.setF _ _ rfl)

theorem frame_resetNoted (s : State) (level source cores : Nat) (kept : Bool) (owed : List Nat → List Nat) :
    Frame coreResetReg s (s.resetNoted level source cores kept owed) := by
  rw [resetNoted]
  exact (frame_noteReset ..).trans (.setRps _ _ _)

/-- A core reset that spares the Goose spares every register but those of RPS and MGT_STATUS. -/
theorem frame_rstWrite {s : State} {w : Word} (h : s.steady = true) (hkey : F.RPS_RST_KEY.get w = 0xA5C3)
    (hl : F.RPS_RST_LEVEL.get w = 1) (hheavy : s.cmt.pend.any (·.heavy) = false) (h3 : (F.RPS_RST_CORES.get w).testBit 3 = false) :
    Frame coreResetReg s (s.rstWrite w false) := by
  rw [rstWrite_core false hkey hl, requestReset_now, takeReset_cores (steady_rstEcho w h) rfl]
  exact (((Frame.setReg s _ rfl).trans (frame_coresLost (s := s.rstEcho w) hheavy h3)).trans (.setRps _ _ _)).trans (frame_resetNoted ..)

/-! ### The power-on hold and the release of a reset -/

theorem startBringup_stage (s : State) : s.startBringup.f F.RPS_BOOT_STAGE = 1 := by
  rw [startBringup, emit_f, f_setF_ne _ _ (by decide), f_setF_disjoint _ _ (by decide) (by decide), f_setF_self _ _ _ (by decide)]
  rfl

theorem startBringup_pgcore (s : State) : s.startBringup.f F.RPS_AON_PGCORE = 1 := by
  rw [startBringup, emit_f, f_setF_self _ _ _ (by decide)]
  rfl

/-- The step of the throttle stage that follows leaves bring-up begun. -/
theorem releaseReset_begins (s : State) : s.releaseReset.rps.held = false ∧ s.releaseReset.f F.RPS_BOOT_STAGE = 1 ∧
    s.releaseReset.f F.RPS_AON_PGCORE = 1 := by
  obtain ⟨hcalm, -, -, -, -, hrps, -⟩ := staged_stageStep s.startBringup false
  rw [releaseReset, hcalm.f_eq rfl rfl, hcalm.f_eq rfl rfl, hrps]
  exact ⟨rfl, s.startBringup_stage, s.startBringup_pgcore⟩

theorem powerOn_eq {s : State} (hh : s.rps.held = true) (hl : s.rps.level = 3) (hn : s.rps.latch = false) :
    s.powerOn = (s.setF F.RPS_AON_VIN_OK 1).releaseReset := by
  rw [powerOn, hh, hl, hn]
  rfl

theorem resetRelease_eq {s : State} (ha : s.asleep = false) (hh : s.rps.held = true) (hn : s.rps.latch = false) :
    s.resetRelease = (s.setF F.RPS_AON_VIN_OK 1).releaseReset := by
  have hst : s.f F.RPS_PWR_STAT_STATE ≠ 2 := by simpa [asleep] using ha
  rw [resetRelease, if_neg fun h => hst h.1, hn, if_neg Bool.false_ne_true, if_pos hh]

end State

end Sys2Proof.Machine
end

section
/-! OBLIGATIONS. The record load of bring-up (R414, R416). -/

namespace Sys2Proof.Machine

namespace State

variable (s : State)

theorem f_of_bootWords {s t : State} (h : t.bootWords = s.bootWords) {x : Fld} (hx : bootWord x.addr = true) : t.f x = s.f x := by
  simp only [bootWords, Prod.mk.injEq] at h
  obtain ⟨hm, hb, hn⟩ := h
  refine congrArg x.get ?_
  simp only [bootWord, Bool.or_eq_true, beq_iff_eq] at hx
  rcases hx with (ha | ha) | ha <;> rw [ha] <;> assumption

/-! ### The record's words go to their blocks -/

theorem bootWords_recApplyOptions : s.recApplyOptions.bootWords = s.bootWords := by
  rw [recApplyOptions, bootWords_setF _ _ (by decide), bootWords_setF _ _ (by decide)]
  refine bootWords_foldl s fun n hn u => bootWords_setF u _ (bootWord_false ?_)
  have := List.mem_range.1 hn
  simp only [R.NVS_OPT]
  omega

theorem bootWords_recApplyLane : s.recApplyLane.bootWords = s.bootWords :=
  bootWords_foldl s fun p _ u => bootWords_foldl u fun l _ v => bootWords_setF v _ (bootWord_false (by simp only [R.LAN_P_L]; omega))

theorem bootWords_recApplyCal {k : Nat} (hk : k < 4) : (s.recApplyCal k).bootWords = s.bootWords := by
  have hcnt : bootWord (R.NVS_CALREC_CNT k) = false := bootWord_false (by simp only [R.NVS_CALREC_CNT]; omega)
  have hsl : bootWord (R.NVS_CALREC_SL k) = false := bootWord_false (by simp only [R.NVS_CALREC_SL]; omega)
  have hsh : bootWord (R.NVS_CALREC_SH k) = false := bootWord_false (by simp only [R.NVS_CALREC_SH]; omega)
  have hns : bootWord (R.NVS_CALREC_NS k) = false := bootWord_false (by simp only [R.NVS_CALREC_NS]; omega)
  unfold recApplyCal
  extract_lets e
  rw [bootWords_setF _ _ hsh, bootWords_setF _ _ hns, bootWords_setF _ _ hsh, bootWords_setF _ _ hsl, bootWords_setF _ _ hcnt]

theorem bootWords_recApplyLux : s.recApplyLux.bootWords = s.bootWords := by
  refine bootWords_foldl s fun g _ u => ?_
  have hreft : bootWord (R.LUX_G_REFT g) = false := bootWord_false (by simp only [R.LUX_G_REFT]; omega)
  extract_lets e v
  refine (bootWords_setF v _ hreft).trans (bootWords_foldl u fun c _ x => ?_)
  rw [bootWords_setF _ _ (bootWord_false (by simp only [R.LUX_G_DREF]; omega)),
    bootWords_setF _ _ (bootWord_false (by simp only [R.LUX_G_SREF]; omega)),
    bootWords_setF _ _ (bootWord_false (by simp only [R.LUX_G_DARK]; omega))]

theorem bootWords_recApply : s.recApply.bootWords = s.bootWords := by
  refine (bootWords_foldl _ fun k hk u => bootWords_recApplyCal u (List.mem_range.1 hk)).trans ?_
  rw [bootWords_recApplyLux, bootWords_recApplyLane, bootWords_recApplyOptions]

/-! ### LOADED -/

theorem loaded_setF {x : Fld} (v : Nat) (hw : x.lo + x.width ≤ 32)
    (h : x.lo + x.width ≤ F.NVS_STATUS_LOADED.lo ∨ F.NVS_STATUS_LOADED.lo + F.NVS_STATUS_LOADED.width ≤ x.lo) :
    (s.setF x v).f F.NVS_STATUS_LOADED = s.f F.NVS_STATUS_LOADED := f_setF_disjoint s v hw h

theorem loaded_bootWords {s t : State} (h : t.bootWords = s.bootWords) : t.f F.NVS_STATUS_LOADED = s.f F.NVS_STATUS_LOADED :=
  f_of_bootWords h rfl

theorem f_mramWr (a : Nat) (bs : List Byte) (x : Fld) : (s.mramWr a bs).f x = s.f x := rfl

theorem loaded_recLoad : s.recLoad.f F.NVS_STATUS_LOADED = 1 := by
  unfold recLoad
  extract_lets a b first code fail seq s1 s2 o s3
  have hnvs : ∀ (u : State) (n : NvsSt), ({ u with nvs := n } : State).f F.NVS_STATUS_LOADED = u.f F.NVS_STATUS_LOADED := fun _ _ => rfl
  have h1 : s1.f F.NVS_STATUS_LOADED = 1 := f_setF_self _ _ _ (by decide)
  have h2 : s2.f F.NVS_STATUS_LOADED = 1 := (hnvs s1 _).trans h1
  clear_value s2
  have hfail : ∀ (u : State) (k v : Nat), (u.setF (fail k) v).f F.NVS_STATUS_LOADED = u.f F.NVS_STATUS_LOADED := fun u k v => by
    simp only [fail]
    split <;> exact f_setF_disjoint u v (by decide) (by decide)
  split
  · rw [loaded_bootWords (bootWords_recApply _), f_setF_ne _ _ (by decide), f_setF_disjoint _ _ (by decide) (by decide), h2]
  split
  · rw [loaded_bootWords (bootWords_raise _ 32), loaded_bootWords (bootWords_recApply _)]
    rw [f_setF_disjoint _ _ (by decide) (by decide), f_setF_disjoint _ _ (by decide) (by decide), f_setF_ne _ _ (by decide),
      f_setF_disjoint _ _ (by decide) (by decide), hfail, h2]
  · rw [loaded_bootWords (bootWords_raise _ 33), loaded_bootWords (bootWords_recApply _), hnvs,
      f_setF_disjoint _ _ (by decide) (by decide), hfail, hfail, h2]

theorem loaded_recStart : s.recStart.f F.NVS_STATUS_LOADED = s.f F.NVS_STATUS_LOADED := by
  unfold recStart
  extract_lets t
  have ht : t.f F.NVS_STATUS_LOADED = s.f F.NVS_STATUS_LOADED :=
    (f_setF_disjoint _ _ (by decide) (by decide)).trans (f_mramWr s _ _ _)
  clear_value t
  split
  · split
    · rw [f_setF_ne _ _ (by decide), f_setF_ne _ _ (by decide), ht]
    · exact ht
  · exact ht

theorem loaded_recRequest (j : RecJob) : (s.recRequest j).2.f F.NVS_STATUS_LOADED = s.f F.NVS_STATUS_LOADED := by
  unfold recRequest
  split
  · rfl
  split
  · exact loaded_recStart _
  · exact loaded_bootWords ((bootWords_raise _ 35).trans ((bootWords_raise _ 28).trans (bootWords_bump s (by decide))))

theorem loaded_recRepair : s.recRepair.f F.NVS_STATUS_LOADED = s.f F.NVS_STATUS_LOADED := by
  unfold recRepair
  split
  · exact s.loaded_recRequest _
  · rfl

/-- The record is loaded, and bring-up goes on to the cores. -/
theorem recordLoadDone_loads {s : State} (h1 : s.stage' = 1) (hh : s.rps.held = false) :
    s.recordLoadDone.f F.RPS_BOOT_STAGE = 2 ∧ s.recordLoadDone.f F.NVS_STATUS_LOADED = 1 := by
  rw [recordLoadDone, if_pos ⟨h1, by rw [hh]; rfl⟩]
  refine ⟨f_setF_self _ _ _ (by decide), ?_⟩
  rw [f_setF_ne _ _ (by decide), loaded_recRepair, noteMcomp, f_setF_ne _ _ (by decide), loaded_recLoad]

theorem recordLoadDone_idle {s : State} (h : s.stage' ≠ 1) : s.recordLoadDone = s := if_neg fun k => h k.1

end State

end Sys2Proof.Machine
end

section
/-! OBLIGATIONS. The cores start, and the image they run (R353, R386). -/

namespace Sys2Proof.Machine

namespace State

/-! ### A core's bit -/

theorem testBit_coreBit (s : State) {x : Fld} {c k : Nat} (v : Bool) (hx : x.lo + x.width ≤ 32) (hw : x.width = 4) (hc : c < 4) (hk : k < 4) :
    ((s.coreBit x c v).f x).testBit k = if k = c then v else (s.f x).testBit k := by
  have hlt : s.f x < 16 := by
    have := Fld.get_lt x (s.reg x.addr)
    rwa [hw] at this
  have hbits : ∀ n : Fin 16, ∀ c k : Fin 4, ∀ v : Bool, (((n.val &&& (15 - 2 ^ c.val)) + (if v then 2 ^ c.val else 0)) % 16).testBit k.val =
      if k.val = c.val then v else n.val.testBit k.val := by decide +kernel
  rw [coreBit, f_setF_self s x _ hx, hw]
  exact hbits ⟨_, hlt⟩ ⟨c, hc⟩ ⟨k, hk⟩ v

/-- From `s` to `t` the same cores run and need an image, and the same MRAM and fuses say which may. -/
structure SameCores (s t : State) : Prop where
  running : t.f F.MGT_STATUS_RUNNING = s.f F.MGT_STATUS_RUNNING
  needimg : t.f F.MGT_STATUS_NEEDIMG = s.f F.MGT_STATUS_NEEDIMG
  mram : t.mram = s.mram
  fuses : t.fuses = s.fuses

namespace SameCores

variable {s t u : State}

theorem refl (s : State) : SameCores s s := ⟨rfl, rfl, rfl, rfl⟩

theorem trans (h : SameCores s t) (k : SameCores t u) : SameCores s u :=
  ⟨k.running.trans h.running, k.needimg.trans h.needimg, k.mram.trans h.mram, k.fuses.trans h.fuses⟩

theorem setF (s : State) {x : Fld} (v : Nat) (h : R.MGT_STATUS ≠ x.addr) : SameCores s (s.setF x v) :=
  ⟨f_setF_ne s v h, f_setF_ne s v h, rfl, rfl⟩

theorem setReg (s : State) {a : Nat} (v : Word) (h : R.MGT_STATUS ≠ a) : SameCores s (s.setReg a v) :=
  ⟨f_setReg_ne s v h, f_setReg_ne s v h, rfl, rfl⟩

theorem setMgt (s : State) (g : MgtSt → MgtSt) : SameCores s (s.setMgt g) := ⟨rfl, rfl, rfl, rfl⟩

theorem raise (s : State) (n : Nat) : SameCores s (s.raise n) :=
  ⟨f_raise s n rfl, f_raise s n rfl, raise_mram s n, raise_fuses s n⟩

theorem unconf (s : State) (c : Nat) (v : Bool) : SameCores s (s.coreBit F.MGT_STATUS_UNCONF c v) :=
  ⟨f_setF_disjoint s _ (by decide) (by decide), f_setF_disjoint s _ (by decide) (by decide), rfl, rfl⟩

theorem noteMcomp (s : State) : SameCores s s.noteMcomp := setF s (x := F.THM_STATUS_MCOMP) _ (by decide)

theorem setFab (s : State) (g : FabSt → FabSt) : SameCores s (s.setFab g) := ⟨rfl, rfl, rfl, rfl⟩

theorem withTim (s : State) (x : TimSt) : SameCores s { s with tim := x } := ⟨rfl, rfl, rfl, rfl⟩

theorem railRead (s : State) : SameCores s s.railRead := ⟨rfl, rfl, rfl, rfl⟩

theorem takeFree (s : State) (w : Nat) : SameCores s (s.takeFree w).2 := ⟨rfl, rfl, rfl, rfl⟩

theorem settle (s : State) : SameCores s s.settle :=
  ((setF s (x := F.FAB_STATUS_PSTATE) _ (by decide)).trans (setFab _ _)).trans (railRead _)

theorem enterHoldover (s : State) : SameCores s s.enterHoldover := by
  unfold State.enterHoldover
  extract_lets _src _u t
  have ht : SameCores s t :=
    ((setF s (x := F.TIM_STATUS_TSTATE) 4 (by decide)).trans (withTim _ _)).trans (SameCores.raise _ 277)
  split
  · exact ht.trans (setF t (x := F.TIM_RATE_RATE) _ (by decide))
  · exact (ht.trans (takeFree t 32)).trans (setF _ (x := F.TIM_RATE_RATE) _ (by decide))

end SameCores

/-! ### The cores boot -/

/-- The two bits that the check of its image gives a core. -/
def coreMarked (s : State) (c : Nat) (ok : Bool) : State := (s.coreBit F.MGT_STATUS_RUNNING c ok).coreBit F.MGT_STATUS_NEEDIMG c (!ok)

theorem coreMarked_mram (s : State) (c : Nat) (ok : Bool) : (s.coreMarked c ok).mram = s.mram := rfl

theorem coreMarked_fuses (s : State) (c : Nat) (ok : Bool) : (s.coreMarked c ok).fuses = s.fuses := rfl

theorem running_coreMarked (s : State) {c k : Nat} (ok : Bool) (hc : c < 4) (hk : k < 4) :
    ((s.coreMarked c ok).f F.MGT_STATUS_RUNNING).testBit k = if k = c then ok else (s.f F.MGT_STATUS_RUNNING).testBit k := by
  rw [coreMarked, show ∀ u : State, (u.coreBit F.MGT_STATUS_NEEDIMG c !ok).f F.MGT_STATUS_RUNNING = u.f F.MGT_STATUS_RUNNING from
    fun u => f_setF_disjoint u _ (by decide) (by decide)]
  exact testBit_coreBit s ok (by decide) rfl hc hk

theorem needimg_coreMarked (s : State) {c k : Nat} (ok : Bool) (hc : c < 4) (hk : k < 4) :
    ((s.coreMarked c ok).f F.MGT_STATUS_NEEDIMG).testBit k = if k = c then !ok else (s.f F.MGT_STATUS_NEEDIMG).testBit k := by
  rw [coreMarked, testBit_coreBit _ _ (by decide) rfl hc hk]
  refine congrArg (fun n : Nat => if k = c then !ok else n.testBit k) ?_
  exact f_setF_disjoint s _ (by decide) (by decide)

/-- The marks rest on the registers alone. -/
theorem sameCores_coreMarked {s t : State} (hr : t.regs = s.regs) (hm : t.mram = s.mram) (hf : t.fuses = s.fuses) (c : Nat) (ok : Bool) :
    SameCores (s.coreMarked c ok) (t.coreMarked c ok) := by
  have hbit : ∀ {s t : State} (x : Fld) (v : Bool), t.regs = s.regs → (t.coreBit x c v).regs = (s.coreBit x c v).regs := fun x v h => by
    simp only [coreBit, State.setF, State.f, h]
  have hregs : (t.coreMarked c ok).regs = (s.coreMarked c ok).regs := hbit _ _ (hbit _ _ hr)
  exact ⟨congrArg (RegFile.fld · _) hregs, congrArg (RegFile.fld · _) hregs, hm, hf⟩

theorem fwBootOk_congr {s t : State} (hm : t.mram = s.mram) (hf : t.fuses = s.fuses) (c : Nat) : t.fwBootOk c = s.fwBootOk c := by
  simp only [fwBootOk, fwImage, mramRd, hm, hf]

theorem sameCores_bootCore (s : State) {c : Nat} (hc : c < 4) : SameCores (s.coreMarked c (s.fwBootOk c)) (s.bootCore c) := by
  have hver : R.MGT_STATUS ≠ R.MGT_CORE_VER c := by simp only [R.MGT_STATUS, R.MGT_CORE_VER]; omega
  have hsvn : R.MGT_STATUS ≠ R.MGT_CORE_SVN c := by simp only [R.MGT_STATUS, R.MGT_CORE_SVN]; omega
  have hiface : R.MGT_STATUS ≠ R.MGT_CORE_IFACE c := by simp only [R.MGT_STATUS, R.MGT_CORE_IFACE]; omega
  unfold bootCore
  extract_lets s1 b s2 s3 s4 s5 s6 f3 f4 f5 f6
  have hok : s1.fwBootOk c = s.fwBootOk c := rfl
  rw [hok]
  split
  next h =>
    rw [h]
    have h3 : SameCores (s.coreMarked c true) s3 := sameCores_coreMarked (s := s) (t := s2) rfl rfl rfl c true
    have h4 : SameCores s3 s4 :=
      (((SameCores.setF s3 _ hver).trans (.setF _ _ hsvn)).trans (.setF _ _ hiface)).trans (.setF _ _ hiface)
    have h5 : SameCores s4 s5 := by
      simp only [s5]
      split
      · exact .unconf s4 c true
      · exact .refl s4
    have h5' := (h3.trans h4).trans h5
    split
    · split
      · exact (h5'.trans (.noteMcomp _)).trans (.settle _)
      · exact h5'.trans (.noteMcomp _)
    · exact h5'
  next h =>
    rw [Bool.of_not_eq_true h]
    have h3 : SameCores (s.coreMarked c false) f3 := sameCores_coreMarked (s := s) (t := s1) rfl rfl rfl c false
    have h4 : SameCores f3 f4 := ((SameCores.setF f3 _ hver).trans (.setF _ _ hsvn)).trans (.setReg _ _ hiface)
    have h5 : SameCores f4 f5 := by
      simp only [f5]
      split
      · have hplan : SameCores f4 (if f4.present .FAB then f4.setF F.FAB_STATUS_PSTATE 0 else f4) := by
          split
          · exact .setF f4 _ (by decide)
          · exact .refl f4
        exact hplan.trans (.noteMcomp _)
      · exact .refl f4
    have h6 : SameCores f5 f6 := by
      simp only [f6]
      split
      · exact .enterHoldover f5
      · exact .refl f5
    exact (((h3.trans h4).trans h5).trans h6).trans (.raise _ 46)

/-- The cores below `n` have booted: each runs where its image passes, and needs one where it does not. -/
structure Booted (n : Nat) (s t : State) : Prop where
  running : ∀ c, c < n → (t.f F.MGT_STATUS_RUNNING).testBit c = s.fwBootOk c
  needimg : ∀ c, c < n → (t.f F.MGT_STATUS_NEEDIMG).testBit c = !s.fwBootOk c
  mram : t.mram = s.mram
  fuses : t.fuses = s.fuses

theorem Booted.next {n : Nat} {s t : State} (h : Booted n s t) (hn : n < 4) : Booted (n + 1) s (t.bootCore n) := by
  obtain ⟨hrunning, hneedimg, hmram, hfuses⟩ := h
  obtain ⟨krunning, kneedimg, kmram, kfuses⟩ := sameCores_bootCore t hn
  have hok : t.fwBootOk n = s.fwBootOk n := fwBootOk_congr hmram hfuses n
  refine ⟨fun c hc => ?_, fun c hc => ?_, kmram.trans ((coreMarked_mram ..).trans hmram), kfuses.trans ((coreMarked_fuses ..).trans hfuses)⟩
  · rw [krunning, running_coreMarked t _ hn (by omega), hok]
    split
    next he => rw [he]
    next he => exact hrunning c (by omega)
  · rw [kneedimg, needimg_coreMarked t _ hn (by omega), hok]
    split
    next he => rw [he]
    next he => exact hneedimg c (by omega)

theorem booted_foldl (s : State) {n : Nat} (hn : n ≤ 4) : Booted n s ((List.range n).foldl bootCore s) := by
  induction n with
  | zero => exact ⟨fun _ h => absurd h (Nat.not_lt_zero _), fun _ h => absurd h (Nat.not_lt_zero _), rfl, rfl⟩
  | succ n ih =>
    rw [List.range_succ, List.foldl_append, List.foldl_cons, List.foldl_nil]
    exact (ih (by omega)).next (by omega)

/-! ### The image of the structure is run, and bring-up goes on -/

/-- Bring-up has gone on past the start of the cores, and left their status as it was. -/
structure BroughtOn (s t : State) : Prop where
  cores : t.reg R.MGT_STATUS = s.reg R.MGT_STATUS
  stage : 3 ≤ t.stage'

theorem reg_of_bootWords {s t : State} (h : t.bootWords = s.bootWords) : t.reg R.MGT_STATUS = s.reg R.MGT_STATUS := congrArg Prod.fst h

theorem BroughtOn.f_cores {s t : State} (h : BroughtOn s t) {x : Fld} (hx : x.addr = R.MGT_STATUS) : t.f x = s.f x := by
  refine congrArg x.get ?_
  rw [hx]
  exact h.cores

theorem BroughtOn.of_bootWords {s t u : State} (h : BroughtOn s t) (hu : u.bootWords = t.bootWords) : BroughtOn s u :=
  ⟨(reg_of_bootWords hu).trans h.cores, h.stage.trans_eq (f_of_bootWords (x := F.RPS_BOOT_STAGE) hu rfl).symm⟩

theorem BroughtOn.setStage {s t : State} (h : BroughtOn s t) {v : Nat} (h3 : 3 ≤ v) (h8 : v < 8) : BroughtOn s (t.setF F.RPS_BOOT_STAGE v) := by
  refine ⟨(reg_setF_ne t v (by decide)).trans h.cores, ?_⟩
  rw [stage', f_setF_self _ _ _ (by decide)]
  exact h3.trans_eq (Nat.mod_eq_of_lt h8).symm

/-- The events that waited for the end of bring-up. -/
theorem bringupEnd_fields (s : State) : s.bringupEnd.reg R.MGT_STATUS = s.reg R.MGT_STATUS ∧ s.bringupEnd.f F.RPS_BOOT_STAGE = 5 ∧
    s.bringupEnd.rps.owed = [] := by
  unfold bringupEnd
  extract_lets t owed
  have hwords : (owed.foldl State.raise (t.setRps fun r => { r with owed := [], waking := false })).bootWords = t.bootWords :=
    (bootWords_foldl _ fun n _ u => bootWords_raise u n).trans (bootWords_setRps t _)
  refine ⟨(reg_of_bootWords hwords).trans ?_, (f_of_bootWords hwords rfl).trans ?_, ?_⟩
  · exact (reg_setF_ne _ _ (by decide)).trans (reg_setF_ne _ _ (by decide))
  · exact (f_setF_disjoint _ _ (by decide) (by decide)).trans (f_setF_self _ _ _ (by decide))
  · have hempty : (t.setRps fun r => { r with owed := [], waking := false }).rps.owed = [] := rfl
    exact List.foldlRecOn owed State.raise (motive := fun u => u.rps.owed = []) hempty fun u hu n _ => by rw [raise_rps, hu]

theorem BroughtOn.bringupEnd {s t : State} (h : BroughtOn s t) : BroughtOn s t.bringupEnd := by
  obtain ⟨hcores, hstage, -⟩ := bringupEnd_fields t
  exact ⟨hcores.trans h.cores, (show 3 ≤ 5 by decide).trans_eq hstage.symm⟩

theorem BroughtOn.bringupGo {s t : State} (h : BroughtOn s t) : BroughtOn s t.bringupGo := by
  unfold State.bringupGo
  extract_lets _t1 t2
  have h2 : BroughtOn s t2 := by
    simp only [t2]
    split
    · refine (h.setStage (v := 4) (by decide) (by decide)).of_bootWords ?_
      rw [bootWords_tableStart, bootWords_doseRestore]
    · exact h
  split
  · exact h2.bringupEnd
  · exact h2

/-- What a device that runs no image does with its lanes and its host port. -/
theorem bootWords_noteAll (s : State) : ((List.range 9).foldl noteTx (s.hostInService false)).bootWords = s.bootWords :=
  (bootWords_foldl _ fun p _ u => bootWords_noteTx u p).trans (bootWords_hostInService s false)

theorem broughtOn_imageLoad (s : State) : BroughtOn s s.imageLoad := by
  unfold imageLoad
  extract_lets boot t
  have ht : BroughtOn s t := ⟨reg_setF_ne s 3 (by decide), (f_setF_self s F.RPS_BOOT_STAGE 3 (by decide)).ge⟩
  have hboot : boot < 2 := Nat.mod_lt _ (by decide)
  clear_value t boot
  have hcheck : ∀ u : State, BroughtOn s u → ∀ k, k < 2 → BroughtOn s (u.validateSlot k) := fun u hu k hk =>
    hu.of_bootWords (bootWords_validateSlot u hk)
  have hfirst : BroughtOn s (t.validateSlot boot) := hcheck t ht boot hboot
  have hboth : BroughtOn s ((t.validateSlot boot).validateSlot (1 - boot)) := hcheck _ hfirst _ (by omega)
  split
  · exact (ht.of_bootWords (bootWords_noteAll t)).bringupEnd
  split
  · exact (hboth.of_bootWords (bootWords_runImage _ hboot false)).bringupGo
  split
  · exact (hboth.of_bootWords ((bootWords_runImage _ (by omega) true).trans (bootWords_raise _ 57))).bringupGo
  · exact (hboth.of_bootWords ((bootWords_noteAll _).trans (bootWords_raise _ 58))).bringupEnd

/-- With no Link core the load is not tried, and bring-up ends. -/
theorem imageLoad_ends {s : State} (h : s.coreUp 0 = false) : s.imageLoad.f F.RPS_BOOT_STAGE = 5 ∧ s.imageLoad.rps.owed = [] := by
  unfold imageLoad
  extract_lets boot t
  have hup : t.coreUp 0 = false := (congrArg (Nat.testBit · 0) (f_setF_ne s (y := F.MGT_STATUS_RUNNING) 3 (by decide))).trans h
  clear_value boot t
  rw [if_pos (by rw [hup]; rfl)]
  obtain ⟨-, hstage, howed⟩ := bringupEnd_fields ((List.range 9).foldl noteTx (t.hostInService false))
  exact ⟨hstage, howed⟩

theorem coreBootDone_eq {s : State} (h2 : s.stage' = 2) (hh : s.rps.held = false) :
    s.coreBootDone = ((List.range 4).foldl bootCore s).imageLoad := if_pos ⟨h2, by rw [hh]; rfl⟩

theorem coreBootDone_idle {s : State} (h : s.stage' ≠ 2) : s.coreBootDone = s := if_neg fun k => h k.1

end State

/-! ### The obligation -/

/-- Settles O16: a core reset is the write of RPS_RST on a steady device; bring-up goes on by `releaseReset`, `recLoad` and `bootCore`, and
the image that is then run writes neither the cores' status nor an earlier BOOT_STAGE. -/
theorem coreResetAndBringUp : Obligations.CoreResetAndBringUp := by
  unfold Obligations.CoreResetAndBringUp
  refine ⟨fun cores s hs hheavy hact => ?reset, fun s => ⟨fun hh hn => ⟨fun hl => ?powerOn, fun ha => ?release⟩,
    fun ha hh => ⟨fun h1 => ?record, fun h2 => ?boot, fun h2 h0 => ?noLink, fun h1 => ?noRecord, fun h2 => ?noBoot⟩⟩⟩
  case reset =>
    have hmask : F.RPS_RST_CORES.get (rstWord 1 cores.toNat false) = cores.toNat :=
      (State.rstWord_cores ..).trans (Nat.mod_eq_of_lt cores.isLt)
    have hkey := State.rstWord_key 1 cores.toNat false
    have hlevel := State.rstWord_level 1 cores.toNat false
    obtain ⟨hheld, ⟨k, hcores, hk⟩, howed, hlast, hsource, hnamed, hrunning, hdram, hmram, hline⟩ :=
      State.coresReset_rstWrite hs hkey hlevel
    rw [hmask] at hcores hnamed hrunning
    refine completes_awake (g := fun s => s.rstWrite (rstWord 1 cores.toNat false) false) rfl (State.steady_parts hs).1
      ⟨hheld, ?_, hlast, hsource, hnamed.trans (Nat.mod_eq_of_lt cores.isLt), howed, hdram, hline, hmram, fun c hc => ?_, fun h3 => ?_⟩
    · exact hcores.trans (by rw [hk hact, Nat.zero_or])
    · exact (hrunning c c.isLt hc).resolve_right (by simp [hact])
    · exact (State.frame_rstWrite hs hkey hlevel hheavy (by rw [hmask]; exact h3)).sealed
  case powerOn =>
    refine completes_always rfl ?_
    rw [State.powerOn_eq hh hl hn]
    exact State.releaseReset_begins _
  case release =>
    obtain ⟨hheld, hstage, -⟩ := State.releaseReset_begins (s.setF F.RPS_AON_VIN_OK 1)
    refine completes_always rfl ?_
    rw [State.resetRelease_eq ha hh hn]
    exact ⟨hheld, hstage⟩
  case record => exact completes_awake (g := State.recordLoadDone) rfl ha (State.recordLoadDone_loads h1 hh)
  case boot =>
    obtain ⟨hrunning, hneedimg, -, -⟩ := State.booted_foldl s (le_refl 4)
    have hload := State.broughtOn_imageLoad ((List.range 4).foldl State.bootCore s)
    refine completes_awake (g := State.coreBootDone) rfl ha ?_
    rw [State.coreBootDone_eq h2 hh]
    refine ⟨hload.stage, fun c => ⟨?_, ?_⟩⟩
    · rw [State.sealed_f, hload.f_cores rfl]
      exact hrunning c c.isLt
    · rw [State.sealed_f, hload.f_cores rfl]
      exact hneedimg c c.isLt
  case noLink =>
    refine completes_awake (g := State.coreBootDone) rfl ha ?_
    rw [State.coreBootDone_eq h2 hh]
    exact State.imageLoad_ends (((State.booted_foldl s (le_refl 4)).running 0 (by decide)).trans h0)
  case noRecord => exact exec_unchanged (g := State.recordLoadDone) rfl ha (State.recordLoadDone_idle h1)
  case noBoot => exact exec_unchanged (g := State.coreBootDone) rfl ha (State.coreBootDone_idle h2)

end Sys2Proof.Machine
end
